-- ==== Sys2Proof/Word.lean ====
section
/-! DEFINITION. Words of the PLV-4860 model: byte and word names, saturating and rounding arithmetic (00_scope.md R8), and the sparse maps that hold registers and memories. -/

namespace Sys2Proof

/-- One byte. -/
abbrev Byte := BitVec 8
/-- A 16-bit field. -/
abbrev W16 := BitVec 16
/-- A 32-bit field, also an angle in counts (00_scope.md R9). -/
abbrev W32 := BitVec 32
/-- A 64-bit field, such as a count of the time base. -/
abbrev W64 := BitVec 64

/-- A sparse map: pairs of a key and a value, keys strictly rising, none equal to the default. -/
abbrev SMap (α : Type) := List (Nat × α)

/-- The value at a key; an unlisted key has the default `d`. -/
def SMap.get {α : Type} (d : α) : SMap α → Nat → α
  | [], _ => d
  | (k', v) :: m, k => if k' = k then v else SMap.get d m k

/-- Drop every entry of a key. -/
def SMap.del {α : Type} : SMap α → Nat → SMap α
  | [], _ => []
  | (k', v) :: m, k => if k' = k then SMap.del m k else (k', v) :: SMap.del m k

/-- Place an entry in key order, replacing the entry of that key. -/
def SMap.ins {α : Type} : SMap α → Nat → α → SMap α
  | [], k, v => [(k, v)]
  | (k', v') :: m, k, v =>
    if k < k' then (k, v) :: (k', v') :: m
    else if k' = k then (k, v) :: m
    else (k', v') :: SMap.ins m k v

/-- Write one key. Writing the default removes the entry, so equal contents are equal data. -/
def SMap.set {α : Type} [DecidableEq α] (d : α) (m : SMap α) (k : Nat) (v : α) : SMap α :=
  if v = d then SMap.del m k else SMap.ins m k v

/-- Keys strictly rising above `lo`, no entry equal to the default. -/
def SMap.wfFrom {α : Type} [DecidableEq α] (d : α) : Nat → SMap α → Bool
  | _, [] => true
  | lo, (k, v) :: m => decide (lo ≤ k) && decide (v ≠ d) && SMap.wfFrom d (k + 1) m

/-- The canonical form of a sparse map. -/
def SMap.wf {α : Type} [DecidableEq α] (d : α) (m : SMap α) : Bool := SMap.wfFrom d 0 m

/-- Write a run of consecutive keys. -/
def SMap.setRun {α : Type} [DecidableEq α] (d : α) : SMap α → Nat → List α → SMap α
  | m, _, [] => m
  | m, k, v :: vs => SMap.setRun d (SMap.set d m k v) (k + 1) vs

/-- Read a run of consecutive keys. -/
def SMap.getRun {α : Type} (d : α) (m : SMap α) (k n : Nat) : List α :=
  (List.range n).map fun i => SMap.get d m (k + i)

/-- Walk `n` consecutive keys from `k` in a map that lists nothing below `k`. -/
def SMap.scanFrom {α : Type} (d : α) : Nat → Nat → SMap α → List α
  | 0, _, _ => []
  | n + 1, k, [] => d :: SMap.scanFrom d n (k + 1) []
  | n + 1, k, (k', v) :: m => if k' = k then v :: SMap.scanFrom d n (k + 1) m else d :: SMap.scanFrom d n (k + 1) ((k', v) :: m)

/-- The values at `n` consecutive keys from `k`, in one walk. -/
def SMap.scan {α : Type} (d : α) (m : SMap α) (k n : Nat) : List α :=
  SMap.scanFrom d n k (m.dropWhile fun e => decide (e.1 < k))

/-- The part of a map from `lo`, `len` keys long, moved to start at 0. -/
def SMap.cut {α : Type} (m : SMap α) (lo len : Nat) : SMap α :=
  (m.filter fun e => decide (lo ≤ e.1) && decide (e.1 < lo + len)).map fun e => (e.1 - lo, e.2)

/-- Keep the keys below `lo` or at `hi` and above. -/
def SMap.clearRange {α : Type} (m : SMap α) (lo hi : Nat) : SMap α :=
  m.filter fun e => decide (e.1 < lo) || decide (hi ≤ e.1)

/-- Signed value of the low `w` bits of `x`. -/
def sgn (w x : Nat) : Int :=
  if (x % 2 ^ w) < 2 ^ (w - 1) then (x % 2 ^ w : Nat) else ((x % 2 ^ w : Nat) : Int) - (2 ^ w : Nat)

/-- Two's complement of width `w`. -/
def enc (w : Nat) (x : Int) : Nat := (x % ((2 ^ w : Nat) : Int)).toNat

/-- Hold a value between two bounds, lower clamp first (06_control_engine.md R121). -/
def clampI (lo hi x : Int) : Int := min (max x lo) hi

/-- Saturate to the range of a signed `w`-bit word (R116). -/
def satS (w : Nat) (x : Int) : Int :=
  clampI (-((2 ^ (w - 1) : Nat) : Int)) (((2 ^ (w - 1) : Nat) : Int) - 1) x

/-- Saturate to 32 bits (R116). -/
def sat32 (x : Int) : Int := satS 32 x

/-- Saturate to 64 bits: the intermediate of the GRID PLL (R49, R50). -/
def sat64 (x : Int) : Int := satS 64 x

/-- The fraction `a / b` rounded half up (R8); `b` is positive. -/
def rhu (a : Int) (b : Nat) : Int := Int.fdiv (2 * a + b) (2 * b)

/-- The value `x / 2^s` rounded half up (R8). -/
def shru (x : Int) (s : Nat) : Int := rhu x (2 ^ s)

/-- Add one, saturating at the largest value of width `w`. -/
def satInc (w x : Nat) : Nat := if x + 1 < 2 ^ w then x + 1 else 2 ^ w - 1

/-- Bit `i` of a mask. -/
def bit (m i : Nat) : Bool := Nat.testBit m i

/-- Set bit `i` of a mask to `b`. -/
def setBit (m i : Nat) (b : Bool) : Nat :=
  if b then m ||| 2 ^ i else if Nat.testBit m i then m ^^^ 2 ^ i else m

/-- Difference of two angles as a signed 32-bit count (R9). -/
def angDiff (a b : Nat) : Int := sgn 32 (a + (2 ^ 32 - b % 2 ^ 32))

/-- Little-endian value of a byte list (R4). -/
def leVal : List Byte → Nat
  | [] => 0
  | b :: bs => b.toNat + 256 * leVal bs

/-- `n` little-endian bytes of a value (R4). -/
def leBytes : Nat → Nat → List Byte
  | 0, _ => []
  | n + 1, v => BitVec.ofNat 8 v :: leBytes n (v / 256)

/-- `n` bytes of a value, most significant byte first. -/
def beBytes (n v : Nat) : List Byte := (leBytes n v).reverse

/-- Value of a byte list, most significant byte first. -/
def beVal (bs : List Byte) : Nat := leVal bs.reverse

/-- Bytes `off … off + n − 1`; bytes beyond the end read 0. -/
def slice (bs : List Byte) (off n : Nat) : List Byte :=
  (List.range n).map fun i => bs.getD (off + i) 0

/-- The little-endian field of `n` bytes at `off`. -/
def leAt (bs : List Byte) (off n : Nat) : Nat := leVal (slice bs off n)

/-- Replace position `i` of a list. -/
def listSet {α : Type} (l : List α) (i : Nat) (v : α) : List α := l.set i v

/-- Smallest value of a list, or the given one. -/
def minL (d : Nat) (l : List Nat) : Nat := l.foldl Nat.min d

/-- Largest value of a list, or the given one. -/
def maxL (d : Nat) (l : List Nat) : Nat := l.foldl Nat.max d

end Sys2Proof
end

