-- ==== Sys2Proof/Syntax.lean ====
section
/-! DEFINITION. The commands of the block: one constructor per row of spec/opcode_table.json, with the operand types they carry. -/

namespace Sys2Proof

/-- A power channel CH0-CH7. -/
abbrev Ch := Fin 8
/-- A mailbox (12_crown_mailboxes.md R269). -/
abbrev Mbx := Fin 16

/-- Where a mailbox or a safe frame travels: the host port, a CAN controller or a Hatband peer (R269, R252). -/
inductive Transport where
  | host
  | can (c : Fin 4)
  | hb (p : Fin 2)
deriving DecidableEq, Repr

/-- A host frame (Table 12.2). `crc` is `none` when the frame ended before its CRC; `op` is the OP byte where it is not the one that the row stands for; `cut` is a
frame that ended inside its header, so that the device cannot read it (R267). -/
structure HostFrame where
  mbx : Byte
  seq : W32
  len : W16
  code : W16
  flags : Byte
  credits : Byte
  payload : List Byte
  crc : Option W32
  op : Option Byte
  cut : Bool
deriving DecidableEq, Repr

/-- Level of a safety input: low, high, or inside the hysteresis band (R242). -/
inductive SinLevel where
  | low | high | band
deriving DecidableEq, Repr

/-- A CAN frame as received (R316), with the count of its start of frame (R315). -/
structure CanFrame where
  ident : BitVec 29
  ide : Bool
  fdf : Bool
  brs : Bool
  esi : Bool
  rtr : Bool
  dlc : BitVec 4
  data : List Byte
  sof : W64
deriving DecidableEq, Repr

/-- Why a transmission attempt ended without success (R312, R313, R317). -/
inductive TxFail where
  | arbitrationLost
  | error
  | collision
  | ackMissing
  | arbitrationStuff
deriving DecidableEq, Repr

/-- A Hatband frame as received (Table 14.5). -/
structure HbFrame where
  fseq : Byte
  b1 : Byte
  msg : W16
  part : W16
  b6 : Byte
  nbytes : Byte
  payload : List Byte
  crc : W32
deriving DecidableEq, Repr

/-- The peer's LINK_INFO (R331) with what SYNC compares (Table 15.5): same firmware release and layouts, and its MBX_SCOPE, ROLE. -/
structure LinkInfo where
  hwType : W16
  role : BitVec 2
  pairId : Bool
  unitId : W64
  deskewed : Bool
  peerRole : BitVec 3
  sameRelease : Bool
  scope : W32
deriving DecidableEq, Repr

/-- One alignment item of Table 15.4 as the standby receives it. -/
inductive AlignItem where
  | order (ch : Ch) (start : Bool)
  | accumulator (ch : Ch) (acc : BitVec 48) (ownerTime : W64)
  | ceState (ch : Ch) (states : List (Nat × Int)) (w : List W32)
  | grid (ch : Ch) (state trip : Nat) (timers : List Nat) (idCmd iqCmd : W32)
  | mppt (ch : Ch) (state : Nat) (vref : W32)
  | hash (ch : Ch) (wrapNo : W32) (h : W32)
  | handoverAt (t : W64)
deriving DecidableEq, Repr

/-- What a JOURNAL message carries (R337, R339): a record of 64 bytes, or a delivery mark. -/
inductive JMsg where
  | record (bytes : List Byte)
  | mark (m : Mbx) (seq : W32)
deriving DecidableEq, Repr

/-- The descriptor of an IMAGE message (Table 18.9). -/
structure ImgDesc where
  kind : Byte
  slot : Byte
  hops : Byte
  xferId : W32
  blockNo : W16
  nBlocks : W16
  blockCrc : W32
  unitId : W64
  version : W32
deriving DecidableEq, Repr

/-- A wake source of Lull (R379). -/
inductive WakeSrc where
  | wake (k : Fin 4)
  | can
  | rtc
  | supply
deriving DecidableEq, Repr

/-- Who a debug halt stops (R159): one channel or the Crown. -/
inductive HaltTarget where
  | channel (ch : Ch)
  | crown
deriving DecidableEq, Repr

/-- A trip or islanding element (Table 9.8, TRIP_CAUSE 1-11). -/
inductive Elem where
  | ov2 | ov1 | uv1 | uv2 | of2 | of1 | uf1 | uf2 | rocof | vshift | active
deriving DecidableEq, Repr

/-- The commands: one constructor per row of spec/opcode_table.json. A command that reaches the device through a mailbox carries it first; `p` is its request payload (Table 13.3). -/
inductive Instr where
  | objectRead (m : Mbx) (oid : W16)
  | objectWrite (m : Mbx) (oid : W16) (image : List Byte)
  | objWritePart (m : Mbx) (p : List Byte)
  | lock (m : Mbx) (p : List Byte)
  | unlock (m : Mbx) (p : List Byte)
  | chStart (m : Mbx) (p : List Byte)
  | chStop (m : Mbx) (p : List Byte)
  | chIdleEnter (m : Mbx) (p : List Byte)
  | chIdleLeave (m : Mbx) (p : List Byte)
  | storeWrite (m : Mbx) (p : List Byte)
  | storeRead (m : Mbx) (p : List Byte)
  | bankLoad (m : Mbx) (p : List Byte)
  | bankSwap (m : Mbx) (p : List Byte)
  | swapCancel (m : Mbx) (p : List Byte)
  | bankErase (m : Mbx) (p : List Byte)
  | sessionStart (m : Mbx) (p : List Byte)
  | sessionStop (m : Mbx) (p : List Byte)
  | billRead (m : Mbx) (p : List Byte)
  | billAck (m : Mbx) (p : List Byte)
  | meterClear (m : Mbx) (p : List Byte)
  | safetyAck (m : Mbx) (p : List Byte)
  | feide (m : Mbx) (p : List Byte)
  | journalRead (m : Mbx) (p : List Byte)
  | changeRead (m : Mbx) (p : List Byte)
  | fwWrite (m : Mbx) (p : List Byte)
  | fwVerify (m : Mbx) (p : List Byte)
  | activate (m : Mbx) (p : List Byte)
  | lcRequest (m : Mbx) (p : List Byte)
  /-- `bad1`, `bad2`: a bit fails to read back after the first and after the second burn (R392). -/
  | fuseProgram (m : Mbx) (p : List Byte) (bad1 bad2 : Bool)
  | lullEnter (m : Mbx) (p : List Byte)
  | submit (t : Transport) (f : HostFrame)
  | poll (t : Transport) (f : HostFrame)
  | abort (t : Transport) (f : HostFrame)
  | hello (t : Transport) (f : HostFrame)
  | credit (t : Transport) (f : HostFrame)
  | directRead (addr : Byte)
  | forceSingle (addr : Byte) (data : W32) (crc : W32)
  | commandExecStart (m : Mbx)
  | leaseExpire (m : Mbx)
  | relock (m : Mbx)
  | referenceChange (m : Mbx) (sel : Bool) (freq : BitVec 2)
  | referenceLoss
  | referencePresent
  | pllAcquisitionTimeout
  | pllLock
  | pllSettled
  | lockLoss
  | clockMonitorTrip (ch : Ch)
  | clkoutCommit (m : Mbx) (k : Fin 2)
  | clkoutSetApply (k : Fin 2)
  | clkoutUnmute (k : Fin 2)
  | fwCommit (m : Mbx) (ch : Ch)
  | fwTimeReached (ch : Ch)
  | channelStart (ch : Ch)
  | angleWrap (ch : Ch)
  | esFire (ch : Ch) (entry : Fin 136) (occ : Byte)
  | esDirectCommit (m : Mbx) (ch : Ch)
  | encEdge (ch : Ch) (a b : Bool)
  | encIndex (ch : Ch)
  | coastEnd (ch : Ch)
  | bankLoadDone (ch : Ch)
  | bankSwapPoint (ch : Ch)
  | bankSramUncorrectable (ch : Ch)
  | sarConversionEnd (ch : Ch) (sb : Bool) (uv : Nat)
  | commitReg (m : Mbx) (ch : Ch) (sb : Bool)
  | commitInj (m : Mbx) (ch : Ch) (sb : Bool)
  | converterStop (m : Mbx) (ch : Ch) (sb : Bool)
  | cmpRawChange (ch : Ch) (j : Fin 16) (uv : Nat)
  | cmpSample (ch : Ch) (j : Fin 16) (uv : Nat)
  | cmpFilterChange (ch : Ch) (j : Fin 16)
  | thresholdCommit (m : Mbx) (ch : Ch)
  | ceEvalStart (ch : Ch)
  | ceEvalEnd (ch : Ch) (corr : Byte)
  | ceSramUncorrectable (ch : Ch)
  | commitCoef (m : Mbx) (ch : Ch) (slot : Fin 4)
  | commitProg (m : Mbx) (ch : Ch) (slot : Fin 4)
  | commitHost (m : Mbx) (ch : Ch)
  | clearState (m : Mbx) (ch : Ch) (slot : Fin 4)
  | slotDisable (m : Mbx) (ch : Ch) (slot : Fin 4)
  | pgCommit (m : Mbx) (ch : Ch)
  | periodStart (ch : Ch)
  | pgReload (ch : Ch)
  | pgEdge (ch : Ch) (k : Fin 6) (second : Bool)
  | patternEdgeFire (ch : Ch) (k : Fin 6)
  | interlockRelease (ch : Ch) (o : Fin 12)
  | fltAssert (ch : Ch) (f : Fin 4) (asserted : Bool)
  | debugHalt (t : HaltTarget)
  | haltRelease (t : HaltTarget)
  | dfbAssert (ch : Ch) (k : Fin 6) (asserted : Bool)
  | blankingEnd (ch : Ch) (o : Fin 12)
  | enableSettleEnd (ch : Ch)
  | service (m : Mbx) (ch : Ch) (on : Bool)
  | recoveryExpire (ch : Ch)
  | squallDone (ch : Ch)
  | hbRefresh (ch : Ch)
  | hbootUv (ch : Ch) (low : Bool)
  | vdrvUv
  | gridEnable (m : Mbx) (ch : Ch)
  | gridDisable (m : Mbx) (ch : Ch)
  | gridEvaluation
  | gridTrip (ch : Ch) (e : Elem)
  | gridReconnect (ch : Ch)
  | reconnect (m : Mbx) (ch : Ch)
  | mpptEnable (m : Mbx) (ch : Ch)
  | mpptStep (ch : Ch)
  | mpptSweep (ch : Ch)
  | meterSample (raw : List (List (BitVec 24)))
  | noZc (ch : Ch)
  | meterTimerMark (ch : Ch)
  | meterCommit (ch : Ch)
  | aggregate10min
  | frequency10s
  | meterEnable (m : Mbx) (ch : Ch)
  | meterDisable (m : Mbx) (ch : Ch)
  | billingRecordStored (ch : Ch)
  | sinChange (i : Fin 16) (lvl : SinLevel)
  | sinDemandRecognised (i : Fin 16)
  | sinDemandEnd (i : Fin 16)
  | tpPulseStart (k : Fin 8)
  | tpPulseEnd (k : Fin 8)
  | testWindowClose (k : Fin 8)
  | tpPulseCheck (i : Fin 16)
  | tpLineFault (k : Fin 8)
  | discrepancyExpire (p : Fin 8)
  | spHeartbeat
  | guardHeartbeatLoss (ch : Ch)
  | enableReadbackFault (ch : Ch) (genB : Bool)
  | configCrcCheck
  | pathDisagree (ch : Ch) (i : Fin 16)
  | safetySelfTestFail (test : Byte)
  | sackRelease (heldUs lowUs : Nat)
  | ackStuck
  | checkComplete (ch : Ch) (startTest : Option Bool)
  | periodicStartTest (ch : Ch) (startTest : Option Bool)
  | safetyStopOrder (ch : Ch)
  | safetyConfigWrite (m : Mbx) (feide : Bool) (image : List Byte)
  | feideFrameReceive (t : Transport) (ident : BitVec 29) (ide : Bool) (bytes : List Byte)
  | feideWatchdogExpire (c : Fin 16)
  | feideProduce (c : Fin 16)
  | keepAlive
  | crownLossHoldStart (ch : Ch)
  | crownLossHoldExpire (ch : Ch)
  | crownLockstepMismatch
  | crownWatchdogExpire
  | crownSramUncorrectable
  | crownRestartDone
  | canFrameReceive (c : Fin 4) (f : CanFrame)
  | segmentTimeout (c : Fin 4)
  | canTxDone (c : Fin 4) (sof : W64)
  | canTxFail (c : Fin 4) (why : TxFail)
  | busOffRecoveryDone (c : Fin 4)
  | recover (m : Mbx) (c : Fin 4)
  | holdRelease (m : Mbx) (c : Fin 4) (b : Fin 32)
  | canModeChange (m : Mbx) (c : Fin 4) (mode : BitVec 2)
  | statusFramePeriod
  | resetHeldFrame
  | hbFrameReceive (p : Fin 2) (f : HbFrame)
  | hbCreditReturn (p : Fin 2) (fseq code check : Byte)
  | crTimeout (p : Fin 2)
  | hbHeartbeatSend (p : Fin 2)
  | hbMiss (p : Fin 2)
  | linkTrainingDone (p : Fin 2) (info : LinkInfo)
  | laneLockLoss (p : Fin 2)
  | hatbandRoleWrite (m : Mbx) (roleA roleB : BitVec 2) (txInv rxInv : BitVec 4)
  | pairAliveLost
  | takeover
  | waitingAloneTimeout
  | pairEnable (m : Mbx) (en : Bool)
  | handover (m : Mbx)
  | handoverInstant
  | alignSend
  | alignReceive (item : AlignItem)
  | journalMessageReceive (msg : JMsg)
  | resyncDone
  | mramReadComplete (blk : BitVec 19) (bad1 bad2 : Bool) (reqs wd : BitVec 15)
  | mramWriteComplete (blk : BitVec 19) (bad1 bad2 : Bool) (reqs wd : BitVec 15)
  | mramScrub (bad1 bad2 : Bool)
  | sramScrub (corrected uncorrectable : Bool) (bank : Fin 4) (reqs wd : BitVec 15)
  | fabricClassWrite (m : Mbx) (r : Fin 15) (cls : BitVec 2)
  | brownout
  | brownoutEnd
  | lullSourceLost
  | thaw (testmode : BitVec 3) (nid : BitVec 4) (pairId : Bool)
  | runOkRise
  | wakeEvent (src : WakeSrc)
  | lullMeasurement
  | lullBurst
  | storeMeasure (mv : W16)
  | batLowCheck (mv : W16)
  | vbatLoss
  | nrstLow
  | nrstHigh
  | resetHeld (seconds : W32)
  | tamper
  | tamperAck (m : Mbx) (v : W16)
  | rtcSet (m : Mbx) (v : W64)
  | thermalTrip
  | thermalRecovery
  | temperatureRead (ctrl bcd : W16)
  | runHour
  | transferStart (m : Mbx) (kind : Bool) (slot : Byte)
  | imageBlockReceive (p : Fin 2) (d : ImgDesc) (data : List Byte)
  | activationConfirm
  | activationConfirmTimeout
  | debugAuth (pub sig : List Byte)
  | clockBranchRunsAgain (ch : Ch)
  | canBusIntegration (c : Fin 4)
  | canReceiveError (c : Fin 4) (weight : BitVec 4)
  | heartbeatReceive (p : Fin 2) (count : Byte)
  | pairAliveReturn
  | testAgeIncrement (ch : Ch)
  | vdrvReturn
  | sweepDwellEnd (ch : Ch)
  | encEdgeTimeout (ch : Ch)
  | esHystDistance (ch : Ch) (entry : Fin 136) (occ : Byte)
  | imageResend (p : Fin 2) (d : ImgDesc)
  | imageAbandon (p : Fin 2) (d : ImgDesc)
  | hpNcsRise (clocked : Bool)
deriving DecidableEq, Repr

end Sys2Proof
end

