-- ==== Sys2Proof/Config.lean ====
section
/-! DEFINITION. What an implementation fixes and the spec leaves open: free values, constants without a body that nothing can evaluate. -/

namespace Sys2Proof

/-- The free value drawn at a count of the model's counter (log entry 3). -/
opaque Config.freeValue : Nat → Nat

/-- Deviation of a comparator's hysteresis from its nominal value, before it is held to ±25 % (R103): channel, comparator, HYST, in µV. -/
opaque Config.hystDeviation : Nat → Nat → Nat → Int

/-- Layout version that a firmware uses for an object, by IMAGE_VERSION and object id: the spec gives those of the running release alone (R407, log entry 123). -/
opaque Config.fwLayout : Nat → Nat → Nat

/-- ECDSA P-384 verification: public key, signature, hash (18_lifecycle_and_update.md R394, R390, R393). Which signatures are valid is left free (log entry 41). -/
opaque Config.ecdsaP384 : List Byte → List Byte → List Byte → Bool

end Sys2Proof
end

