-- ==== Sys2Proof/Machine/Field.lean ====
section
/-! DEFINITION. What a field of an object is: where its bits stand, its access code and its reset value (00_scope.md R4-R7). -/

namespace Sys2Proof.Machine

/-- Access codes of Table 0.3. -/
inductive Acc where
  | ro | rw | wo | w1c | rc | rws
deriving DecidableEq, Repr

/-- A field of a field map. `base` is the object id of instance 0; index `i` stands at byte `off + stride * i`, bits `lo` up.
`rsts` holds reset values by index where they differ, `rstInst` is added per instance (Table 14.2), `mram` marks an MRAM setting. -/
structure Fld where
  base : Nat
  off : Nat
  stride : Nat
  cnt : Nat
  lo : Nat
  w : Nat
  acc : Acc
  rst : Nat
  rsts : List Nat
  rstInst : Nat
  mram : Bool
deriving DecidableEq, Repr

/-- Bit position of index `i` in the object. -/
def Fld.pos (f : Fld) (i : Nat) : Nat := (f.off + f.stride * i) * 8 + f.lo

/-- Reset value of index `i` in instance `n`. -/
def Fld.reset (f : Fld) (n i : Nat) : Nat := f.rsts.getD i f.rst + f.rstInst * n

/-- Key of a field value in the register map: plane (0 the object, 1 the set in force), object id, bit position. -/
def Fld.key (f : Fld) (plane n i : Nat) : Nat := (plane * 65536 + (f.base + n)) * 65536 + f.pos i

/-- An object: id of instance 0, whether every channel has one, how many consecutive ids it takes, length in bytes, fields. -/
structure Obj where
  base : Nat
  perCh : Bool
  subs : Nat
  len : Nat
  flds : List Fld
deriving DecidableEq, Repr

/-- Instance offset of an id within this object, if the id names it (Table 0.4). -/
def Obj.instOf (o : Obj) (oid : Nat) : Option Nat :=
  if oid < o.base then none
  else if o.perCh then
    if (oid - o.base) % 256 < o.subs ∧ (oid - o.base) / 256 < 8 then some (oid - o.base) else none
  else if oid - o.base < o.subs then some (oid - o.base) else none

/-- Offset of the objects of channel `ch` from those of CH0. -/
def cI (ch : Fin 8) : Nat := 256 * ch.val

end Sys2Proof.Machine
end

