-- ==== Sys2Proof/Machine/RegsA.lean ====
section
/-! DEFINITION. Field maps of the objects, part 1: one descriptor per field of the spec's object tables (offset, bits, access, reset value), and the object's list of fields. -/

namespace Sys2Proof.Machine.Reg

/-! Table 1.4, object 0x0F20 (01_device_architecture.md). -/
def CrownSup.LAYOUT : Fld := ⟨0x0F20, 0, 0, 1, 0, 8, .ro, 1, [], 0, false⟩
def CrownSup.HOLD_MS : Fld := ⟨0x0F20, 2, 0, 1, 0, 16, .rw, 0x1f4, [], 0, true⟩
def CrownSup.LOCKSTEP_SEEN : Fld := ⟨0x0F20, 4, 0, 1, 0, 1, .w1c, 0, [], 0, true⟩
/-- The fields of Table 1.4. -/
def CrownSup.fields : List Fld :=
  [CrownSup.LAYOUT, CrownSup.HOLD_MS, CrownSup.LOCKSTEP_SEEN]

/-! Table 1.9, object 0x10E0 (01_device_architecture.md). -/
def Route.LAYOUT : Fld := ⟨0x10E0, 0, 0, 1, 0, 8, .ro, 1, [], 0, false⟩
def Route.TO_CROWN : Fld := ⟨0x10E0, 2, 2, 56, 15, 1, .rw, 0, [], 0, true⟩
def Route.CE_SLOT : Fld := ⟨0x10E0, 2, 2, 56, 6, 4, .rw, 0, [], 0, true⟩
def Route.CAP : Fld := ⟨0x10E0, 2, 2, 56, 2, 4, .rw, 0, [], 0, true⟩
def Route.SB_INJ : Fld := ⟨0x10E0, 2, 2, 56, 1, 1, .rw, 0, [], 0, true⟩
def Route.SA_INJ : Fld := ⟨0x10E0, 2, 2, 56, 0, 1, .rw, 0, [], 0, true⟩
/-- The fields of Table 1.9. -/
def Route.fields : List Fld :=
  [Route.LAYOUT, Route.TO_CROWN, Route.CE_SLOT, Route.CAP, Route.SB_INJ, Route.SA_INJ]

/-! Table 2.3, object 0x0F30 (02_clock_synthesis.md). -/
def ClkRef.LAYOUT : Fld := ⟨0x0F30, 0, 0, 1, 0, 8, .ro, 1, [], 0, false⟩
def ClkRef.REF_FREQ : Fld := ⟨0x0F30, 1, 0, 1, 0, 2, .rw, 0, [], 0, true⟩
def ClkRef.REF_SEL : Fld := ⟨0x0F30, 2, 0, 1, 0, 1, .rw, 0, [], 0, true⟩
def ClkRef.RELOCK : Fld := ⟨0x0F30, 3, 0, 1, 0, 1, .wo, 0, [], 0, false⟩
/-- The fields of Table 2.3. -/
def ClkRef.fields : List Fld :=
  [ClkRef.LAYOUT, ClkRef.REF_FREQ, ClkRef.REF_SEL, ClkRef.RELOCK]

/-! Table 2.4, object 0x0F31 (02_clock_synthesis.md). -/
def ClkStat.LAYOUT : Fld := ⟨0x0F31, 0, 0, 1, 0, 8, .ro, 1, [], 0, false⟩
def ClkStat.STATE : Fld := ⟨0x0F31, 1, 0, 1, 0, 3, .ro, 1, [], 0, false⟩
def ClkStat.CH_TRIP : Fld := ⟨0x0F31, 2, 0, 1, 0, 8, .w1c, 0, [], 0, false⟩
def ClkStat.TIME_COARSE : Fld := ⟨0x0F31, 3, 0, 1, 1, 1, .ro, 0, [], 0, false⟩
def ClkStat.REF_OK : Fld := ⟨0x0F31, 3, 0, 1, 0, 1, .ro, 1, [], 0, false⟩
def ClkStat.LOCK_LOSS_CNT : Fld := ⟨0x0F31, 4, 0, 1, 0, 16, .ro, 0, [], 0, true⟩
def ClkStat.REF_LOSS_CNT : Fld := ⟨0x0F31, 6, 0, 1, 0, 16, .ro, 0, [], 0, true⟩
def ClkStat.LOCK_TRANSIENT_CNT : Fld := ⟨0x0F31, 8, 0, 1, 0, 16, .ro, 0, [], 0, true⟩
/-- The fields of Table 2.4. -/
def ClkStat.fields : List Fld :=
  [ClkStat.LAYOUT, ClkStat.STATE, ClkStat.CH_TRIP, ClkStat.TIME_COARSE, ClkStat.REF_OK, ClkStat.LOCK_LOSS_CNT, ClkStat.REF_LOSS_CNT, ClkStat.LOCK_TRANSIENT_CNT]

/-! Table 2.5, object 0x0F32 (02_clock_synthesis.md). -/
def ClkOut.LAYOUT : Fld := ⟨0x0F32, 0, 0, 1, 0, 8, .ro, 1, [], 0, false⟩
def ClkOut.PEND : Fld := ⟨0x0F32, 1, 0, 1, 3, 1, .ro, 0, [], 0, false⟩
def ClkOut.SRC : Fld := ⟨0x0F32, 1, 0, 1, 2, 1, .rw, 0, [], 0, true⟩
def ClkOut.MODE : Fld := ⟨0x0F32, 1, 0, 1, 1, 1, .rw, 0, [], 0, true⟩
def ClkOut.EN : Fld := ⟨0x0F32, 1, 0, 1, 0, 1, .rw, 0, [], 0, true⟩
def ClkOut.DIV : Fld := ⟨0x0F32, 2, 0, 1, 0, 16, .rws, 0x78, [], 0, true⟩
def ClkOut.FMAX_DIV : Fld := ⟨0x0F32, 4, 0, 1, 0, 16, .rw, 0x1e, [], 0, true⟩
def ClkOut.PHASE_STEP : Fld := ⟨0x0F32, 6, 0, 1, 0, 16, .rws, 0, [], 0, false⟩
def ClkOut.COMMIT : Fld := ⟨0x0F32, 8, 0, 1, 0, 1, .wo, 0, [], 0, false⟩
/-- The fields of Table 2.5. -/
def ClkOut.fields : List Fld :=
  [ClkOut.LAYOUT, ClkOut.PEND, ClkOut.SRC, ClkOut.MODE, ClkOut.EN, ClkOut.DIV, ClkOut.FMAX_DIV, ClkOut.PHASE_STEP, ClkOut.COMMIT]

/-! Table 3.3, object 0x1030 (03_angle_timebase.md). -/
def AtCtl.LAYOUT : Fld := ⟨0x1030, 0, 0, 1, 0, 8, .ro, 1, [], 0, false⟩
def AtCtl.SRC : Fld := ⟨0x1030, 1, 0, 1, 0, 2, .rw, 0, [], 0, true⟩
def AtCtl.FW_AT : Fld := ⟨0x1030, 2, 0, 1, 1, 1, .rw, 0, [], 0, true⟩
def AtCtl.ON_EXPIRE : Fld := ⟨0x1030, 2, 0, 1, 0, 1, .rw, 0, [], 0, true⟩
def AtCtl.COAST_MS : Fld := ⟨0x1030, 4, 0, 1, 0, 16, .rw, 0x64, [], 0, true⟩
def AtCtl.ES_HYST : Fld := ⟨0x1030, 8, 0, 1, 0, 32, .rw, 0x100000, [], 0, true⟩
def AtCtl.START_ANGLE : Fld := ⟨0x1030, 12, 0, 1, 0, 32, .rw, 0, [], 0, true⟩
def AtCtl.START_TIME : Fld := ⟨0x1030, 16, 0, 1, 0, 64, .rw, 0, [], 0, false⟩
def AtCtl.FW : Fld := ⟨0x1030, 24, 0, 1, 0, 48, .rws, 0, [], 0, true⟩
def AtCtl.FW_TIME : Fld := ⟨0x1030, 32, 0, 1, 0, 64, .rws, 0, [], 0, false⟩
def AtCtl.COMMIT : Fld := ⟨0x1030, 40, 0, 1, 0, 1, .wo, 0, [], 0, false⟩
def AtCtl.FW_SX : Fld := ⟨0x1030, 24, 0, 1, 48, 16, .ro, 0, [], 0, false⟩
/-- The fields of Table 3.3. -/
def AtCtl.fields : List Fld :=
  [AtCtl.LAYOUT, AtCtl.SRC, AtCtl.FW_AT, AtCtl.ON_EXPIRE, AtCtl.COAST_MS, AtCtl.ES_HYST, AtCtl.START_ANGLE, AtCtl.START_TIME, AtCtl.FW, AtCtl.FW_TIME, AtCtl.COMMIT, AtCtl.FW_SX]

/-! Table 3.4, object 0x1031 (03_angle_timebase.md). -/
def Pll.LAYOUT : Fld := ⟨0x1031, 0, 0, 1, 0, 8, .ro, 1, [], 0, false⟩
def Pll.INPUT : Fld := ⟨0x1031, 1, 0, 1, 0, 1, .rw, 0, [], 0, true⟩
def Pll.VA_SEL : Fld := ⟨0x1031, 2, 0, 1, 0, 8, .rw, 0, [], 0, true⟩
def Pll.VB_SEL : Fld := ⟨0x1031, 3, 0, 1, 0, 8, .rw, 0, [], 0, true⟩
def Pll.VC_SEL : Fld := ⟨0x1031, 4, 0, 1, 0, 8, .rw, 0, [], 0, true⟩
def Pll.LOCK_N : Fld := ⟨0x1031, 6, 0, 1, 0, 16, .rw, 0x190, [], 0, true⟩
def Pll.KP : Fld := ⟨0x1031, 8, 0, 1, 0, 32, .rw, 0, [], 0, true⟩
def Pll.KP_SH : Fld := ⟨0x1031, 12, 0, 1, 0, 5, .rw, 0, [], 0, true⟩
def Pll.KI_SH : Fld := ⟨0x1031, 13, 0, 1, 0, 5, .rw, 0, [], 0, true⟩
def Pll.KI : Fld := ⟨0x1031, 16, 0, 1, 0, 32, .rw, 0, [], 0, true⟩
def Pll.LOCK_E : Fld := ⟨0x1031, 20, 0, 1, 0, 32, .rw, 0x28f5c29, [], 0, true⟩
def Pll.UNLOCK_E : Fld := ⟨0x1031, 24, 0, 1, 0, 32, .rw, 0xccccccd, [], 0, true⟩
def Pll.LOSS_V : Fld := ⟨0x1031, 28, 0, 1, 0, 16, .rw, 0xccd, [], 0, true⟩
def Pll.LOSS_N : Fld := ⟨0x1031, 30, 0, 1, 0, 16, .rw, 8, [], 0, true⟩
/-- The fields of Table 3.4. -/
def Pll.fields : List Fld :=
  [Pll.LAYOUT, Pll.INPUT, Pll.VA_SEL, Pll.VB_SEL, Pll.VC_SEL, Pll.LOCK_N, Pll.KP, Pll.KP_SH, Pll.KI_SH, Pll.KI, Pll.LOCK_E, Pll.UNLOCK_E, Pll.LOSS_V, Pll.LOSS_N]

/-! Table 3.5, object 0x1032 (03_angle_timebase.md). -/
def Enc.LAYOUT : Fld := ⟨0x1032, 0, 0, 1, 0, 8, .ro, 1, [], 0, false⟩
def Enc.INVERT : Fld := ⟨0x1032, 1, 0, 1, 3, 1, .rw, 0, [], 0, true⟩
def Enc.Z_USE : Fld := ⟨0x1032, 1, 0, 1, 2, 1, .rw, 0, [], 0, true⟩
def Enc.MODE : Fld := ⟨0x1032, 1, 0, 1, 0, 2, .rw, 0, [], 0, true⟩
def Enc.LINES : Fld := ⟨0x1032, 2, 0, 1, 0, 16, .rw, 0x400, [], 0, true⟩
def Enc.POLE_PAIRS : Fld := ⟨0x1032, 4, 0, 1, 0, 8, .rw, 1, [], 0, true⟩
def Enc.FILT : Fld := ⟨0x1032, 5, 0, 1, 0, 8, .rw, 4, [], 0, true⟩
def Enc.Z_OFFSET : Fld := ⟨0x1032, 6, 0, 1, 0, 16, .rw, 0, [], 0, true⟩
def Enc.OFFSET : Fld := ⟨0x1032, 8, 0, 1, 0, 32, .rw, 0, [], 0, true⟩
def Enc.SIN_SEL : Fld := ⟨0x1032, 12, 0, 1, 0, 8, .rw, 0, [], 0, true⟩
def Enc.COS_SEL : Fld := ⟨0x1032, 13, 0, 1, 0, 8, .rw, 0, [], 0, true⟩
def Enc.AMIN : Fld := ⟨0x1032, 14, 0, 1, 0, 16, .rw, 0x4000, [], 0, true⟩
def Enc.AMAX : Fld := ⟨0x1032, 16, 0, 1, 0, 16, .rw, 0xf000, [], 0, true⟩
/-- The fields of Table 3.5. -/
def Enc.fields : List Fld :=
  [Enc.LAYOUT, Enc.INVERT, Enc.Z_USE, Enc.MODE, Enc.LINES, Enc.POLE_PAIRS, Enc.FILT, Enc.Z_OFFSET, Enc.OFFSET, Enc.SIN_SEL, Enc.COS_SEL, Enc.AMIN, Enc.AMAX]

/-! Table 3.6, object 0x1033 (03_angle_timebase.md). -/
def AtStat.LAYOUT : Fld := ⟨0x1033, 0, 0, 1, 0, 8, .ro, 1, [], 0, false⟩
def AtStat.STATE : Fld := ⟨0x1033, 1, 0, 1, 0, 3, .ro, 0, [], 0, false⟩
def AtStat.START_LATE : Fld := ⟨0x1033, 2, 0, 1, 2, 1, .w1c, 0, [], 0, false⟩
def AtStat.AT_CLAMP : Fld := ⟨0x1033, 2, 0, 1, 1, 1, .ro, 0, [], 0, false⟩
def AtStat.COAST : Fld := ⟨0x1033, 2, 0, 1, 0, 1, .ro, 0, [], 0, false⟩
def AtStat.ANGLE : Fld := ⟨0x1033, 4, 0, 1, 0, 32, .ro, 0, [], 0, false⟩
def AtStat.FW_NOW : Fld := ⟨0x1033, 8, 0, 1, 0, 64, .ro, 0, [], 0, false⟩
def AtStat.E_NOW : Fld := ⟨0x1033, 16, 0, 1, 0, 32, .ro, 0, [], 0, false⟩
def AtStat.UNLOCK_CNT : Fld := ⟨0x1033, 20, 0, 1, 0, 16, .ro, 0, [], 0, false⟩
def AtStat.COAST_CNT : Fld := ⟨0x1033, 22, 0, 1, 0, 16, .ro, 0, [], 0, false⟩
def AtStat.QUAD_ERR_CNT : Fld := ⟨0x1033, 24, 0, 1, 0, 16, .ro, 0, [], 0, false⟩
def AtStat.Z_ERR_CNT : Fld := ⟨0x1033, 26, 0, 1, 0, 16, .ro, 0, [], 0, false⟩
/-- The fields of Table 3.6. -/
def AtStat.fields : List Fld :=
  [AtStat.LAYOUT, AtStat.STATE, AtStat.START_LATE, AtStat.AT_CLAMP, AtStat.COAST, AtStat.ANGLE, AtStat.FW_NOW, AtStat.E_NOW, AtStat.UNLOCK_CNT, AtStat.COAST_CNT, AtStat.QUAD_ERR_CNT, AtStat.Z_ERR_CNT]

/-! Table 3.9, object 0x1034 (03_angle_timebase.md). -/
def Es.LAYOUT : Fld := ⟨0x1034, 0, 0, 1, 0, 8, .ro, 1, [], 0, false⟩
def Es.PEND : Fld := ⟨0x1034, 1, 0, 1, 0, 1, .ro, 0, [], 0, false⟩
def Es.COMMIT : Fld := ⟨0x1034, 2, 0, 1, 0, 1, .wo, 0, [], 0, false⟩
def Es.ENTRY_ANGLE : Fld := ⟨0x1034, 4, 16, 8, 0, 32, .rws, 0, [], 0, true⟩
def Es.ENTRY_STEP : Fld := ⟨0x1034, 8, 16, 8, 0, 32, .rws, 0, [], 0, true⟩
def Es.ENTRY_MASK : Fld := ⟨0x1034, 12, 16, 8, 0, 16, .rws, 0, [], 0, true⟩
def Es.ENTRY_REGION_MASK : Fld := ⟨0x1034, 14, 16, 8, 0, 16, .rws, 0, [], 0, true⟩
def Es.ENTRY_DIR : Fld := ⟨0x1034, 16, 16, 8, 4, 2, .rws, 0, [], 0, true⟩
def Es.ENTRY_ACTION : Fld := ⟨0x1034, 16, 16, 8, 0, 4, .rws, 0, [], 0, true⟩
def Es.ENTRY_PARAM : Fld := ⟨0x1034, 17, 16, 8, 0, 8, .rws, 0, [], 0, true⟩
def Es.ENTRY_EV_EN : Fld := ⟨0x1034, 18, 16, 8, 3, 1, .rws, 0, [], 0, true⟩
def Es.ENTRY_EV : Fld := ⟨0x1034, 18, 16, 8, 0, 3, .rws, 0, [], 0, true⟩
def Es.ENTRY_REPEAT : Fld := ⟨0x1034, 19, 16, 8, 0, 8, .rws, 0, [], 0, true⟩
/-- The fields of Table 3.9. -/
def Es.fields : List Fld :=
  [Es.LAYOUT, Es.PEND, Es.COMMIT, Es.ENTRY_ANGLE, Es.ENTRY_STEP, Es.ENTRY_MASK, Es.ENTRY_REGION_MASK, Es.ENTRY_DIR, Es.ENTRY_ACTION, Es.ENTRY_PARAM, Es.ENTRY_EV_EN, Es.ENTRY_EV, Es.ENTRY_REPEAT]

/-! Table 3.10, object 0x1035 (03_angle_timebase.md). -/
def Cap.LAYOUT : Fld := ⟨0x1035, 0, 0, 1, 0, 8, .ro, 1, [], 0, false⟩
def Cap.ANGLE : Fld := ⟨0x1035, 4, 16, 4, 0, 32, .ro, 0, [], 0, false⟩
def Cap.LAG : Fld := ⟨0x1035, 8, 16, 4, 3, 5, .ro, 0, [], 0, false⟩
def Cap.OVR : Fld := ⟨0x1035, 8, 16, 4, 1, 1, .rc, 0, [], 0, false⟩
def Cap.TICK_ODD : Fld := ⟨0x1035, 8, 16, 4, 0, 1, .ro, 0, [], 0, false⟩
def Cap.TIME : Fld := ⟨0x1035, 12, 16, 4, 0, 64, .ro, 0, [], 0, false⟩
/-- The fields of Table 3.10. -/
def Cap.fields : List Fld :=
  [Cap.LAYOUT, Cap.ANGLE, Cap.LAG, Cap.OVR, Cap.TICK_ODD, Cap.TIME]

/-! Table 4.10, object 0x1040 (04_batt_tables.md). -/
def BattCtl.LAYOUT : Fld := ⟨0x1040, 0, 0, 1, 0, 8, .ro, 1, [], 0, false⟩
def BattCtl.SWAP_AT : Fld := ⟨0x1040, 1, 0, 1, 0, 1, .rw, 0, [], 0, true⟩
def BattCtl.REGION_FORCE : Fld := ⟨0x1040, 2, 0, 1, 0, 8, .rw, 0xff, [], 0, false⟩
/-- The fields of Table 4.10. -/
def BattCtl.fields : List Fld :=
  [BattCtl.LAYOUT, BattCtl.SWAP_AT, BattCtl.REGION_FORCE]

/-! Table 4.11, object 0x1041 (04_batt_tables.md). -/
def Batt.LAYOUT : Fld := ⟨0x1041, 0, 0, 1, 0, 8, .ro, 1, [], 0, false⟩
def Batt.STATE_B : Fld := ⟨0x1041, 1, 0, 1, 4, 3, .ro, 0, [], 0, false⟩
def Batt.STATE_A : Fld := ⟨0x1041, 1, 0, 1, 0, 3, .ro, 0, [], 0, false⟩
def Batt.REGION : Fld := ⟨0x1041, 2, 0, 1, 0, 4, .ro, 0, [], 0, false⟩
def Batt.IY : Fld := ⟨0x1041, 3, 0, 1, 4, 2, .ro, 0, [], 0, false⟩
def Batt.IX : Fld := ⟨0x1041, 3, 0, 1, 0, 2, .ro, 0, [], 0, false⟩
def Batt.ACTIVE_SLOT : Fld := ⟨0x1041, 4, 0, 1, 0, 8, .ro, 0xff, [], 0, true⟩
def Batt.LAST_FAIL : Fld := ⟨0x1041, 5, 0, 1, 0, 8, .ro, 0, [], 0, false⟩
def Batt.ACTIVE_ID : Fld := ⟨0x1041, 8, 0, 1, 0, 32, .ro, 0, [], 0, true⟩
def Batt.IMAGE_ID_A : Fld := ⟨0x1041, 12, 0, 1, 0, 32, .ro, 0, [], 0, false⟩
def Batt.IMAGE_ID_B : Fld := ⟨0x1041, 16, 0, 1, 0, 32, .ro, 0, [], 0, false⟩
def Batt.X_LAST : Fld := ⟨0x1041, 20, 0, 1, 0, 32, .ro, 0, [], 0, false⟩
def Batt.Y_LAST : Fld := ⟨0x1041, 24, 0, 1, 0, 32, .ro, 0, [], 0, false⟩
def Batt.SWAP_CNT : Fld := ⟨0x1041, 28, 0, 1, 0, 16, .ro, 0, [], 0, false⟩
def Batt.REGION_CNT : Fld := ⟨0x1041, 30, 0, 1, 0, 16, .ro, 0, [], 0, false⟩
def Batt.BLK_TRANSIENT_CNT : Fld := ⟨0x1041, 32, 0, 1, 0, 16, .ro, 0, [], 0, false⟩
def Batt.CHECK_FAIL_CNT : Fld := ⟨0x1041, 34, 0, 1, 0, 16, .ro, 0, [], 0, false⟩
def Batt.EDGE_LATE_CNT : Fld := ⟨0x1041, 36, 0, 1, 0, 16, .ro, 0, [], 0, false⟩
def Batt.REALIGN_CNT : Fld := ⟨0x1041, 38, 0, 1, 0, 16, .ro, 0, [], 0, false⟩
/-- The fields of Table 4.11. -/
def Batt.fields : List Fld :=
  [Batt.LAYOUT, Batt.STATE_B, Batt.STATE_A, Batt.REGION, Batt.IY, Batt.IX, Batt.ACTIVE_SLOT, Batt.LAST_FAIL, Batt.ACTIVE_ID, Batt.IMAGE_ID_A, Batt.IMAGE_ID_B, Batt.X_LAST, Batt.Y_LAST, Batt.SWAP_CNT, Batt.REGION_CNT, Batt.BLK_TRANSIENT_CNT, Batt.CHECK_FAIL_CNT, Batt.EDGE_LATE_CNT, Batt.REALIGN_CNT]

/-! Table 5.1, object 0x1050 (05_sensing.md). -/
def Seq.LAYOUT : Fld := ⟨0x1050, 0, 0, 1, 0, 8, .ro, 1, [], 0, false⟩
def Seq.REG_LEN : Fld := ⟨0x1050, 1, 0, 1, 0, 5, .rws, 0, [], 0, true⟩
def Seq.INJ_LEN : Fld := ⟨0x1050, 2, 0, 1, 0, 3, .rws, 0, [], 0, true⟩
def Seq.RUN : Fld := ⟨0x1050, 3, 0, 1, 4, 1, .rw, 0, [], 0, true⟩
def Seq.PEND_INJ : Fld := ⟨0x1050, 3, 0, 1, 3, 1, .ro, 0, [], 0, false⟩
def Seq.PEND_REG : Fld := ⟨0x1050, 3, 0, 1, 2, 1, .ro, 0, [], 0, false⟩
def Seq.COMMIT_INJ : Fld := ⟨0x1050, 3, 0, 1, 1, 1, .wo, 0, [], 0, false⟩
def Seq.COMMIT_REG : Fld := ⟨0x1050, 3, 0, 1, 0, 1, .wo, 0, [], 0, false⟩
def Seq.REG_POL : Fld := ⟨0x1050, 4, 4, 16, 4, 1, .rws, 0, [], 0, true⟩
def Seq.REG_INPUT : Fld := ⟨0x1050, 4, 4, 16, 0, 4, .rws, 0, [], 0, true⟩
def Seq.REG_SHIFT : Fld := ⟨0x1050, 5, 4, 16, 4, 4, .rws, 0, [], 0, true⟩
def Seq.REG_AVG : Fld := ⟨0x1050, 5, 4, 16, 0, 4, .rws, 0, [], 0, true⟩
def Seq.REG_OFFSET : Fld := ⟨0x1050, 6, 4, 16, 0, 16, .rws, 0, [], 0, true⟩
def Seq.INJ_POL : Fld := ⟨0x1050, 68, 4, 4, 4, 1, .rws, 0, [], 0, true⟩
def Seq.INJ_INPUT : Fld := ⟨0x1050, 68, 4, 4, 0, 4, .rws, 0, [], 0, true⟩
def Seq.INJ_SHIFT : Fld := ⟨0x1050, 69, 4, 4, 4, 4, .rws, 0, [], 0, true⟩
def Seq.INJ_AVG : Fld := ⟨0x1050, 69, 4, 4, 0, 4, .rws, 0, [], 0, true⟩
def Seq.INJ_OFFSET : Fld := ⟨0x1050, 70, 4, 4, 0, 16, .rws, 0, [], 0, true⟩
/-- The fields of Table 5.1. -/
def Seq.fields : List Fld :=
  [Seq.LAYOUT, Seq.REG_LEN, Seq.INJ_LEN, Seq.RUN, Seq.PEND_INJ, Seq.PEND_REG, Seq.COMMIT_INJ, Seq.COMMIT_REG, Seq.REG_POL, Seq.REG_INPUT, Seq.REG_SHIFT, Seq.REG_AVG, Seq.REG_OFFSET, Seq.INJ_POL, Seq.INJ_INPUT, Seq.INJ_SHIFT, Seq.INJ_AVG, Seq.INJ_OFFSET]

/-! Table 5.3, object 0x1052 (05_sensing.md). -/
def Res.LAYOUT : Fld := ⟨0x1052, 0, 0, 1, 0, 8, .ro, 1, [], 0, false⟩
def Res.RAW : Fld := ⟨0x1052, 4, 8, 20, 0, 32, .ro, 0, [], 0, false⟩
def Res.COUNT : Fld := ⟨0x1052, 8, 8, 20, 0, 16, .ro, 0, [], 0, false⟩
def Res.CLIP : Fld := ⟨0x1052, 10, 8, 20, 2, 1, .ro, 0, [], 0, false⟩
def Res.SPLIT : Fld := ⟨0x1052, 10, 8, 20, 1, 1, .ro, 0, [], 0, false⟩
def Res.NEW : Fld := ⟨0x1052, 10, 8, 20, 0, 1, .rc, 0, [], 0, false⟩
/-- The fields of Table 5.3. -/
def Res.fields : List Fld :=
  [Res.LAYOUT, Res.RAW, Res.COUNT, Res.CLIP, Res.SPLIT, Res.NEW]

/-! Table 5.4, object 0x1054 (05_sensing.md). -/
def Conv.LAYOUT : Fld := ⟨0x1054, 0, 0, 1, 0, 8, .ro, 1, [], 0, false⟩
def Conv.SB_STATE : Fld := ⟨0x1054, 1, 0, 1, 3, 3, .ro, 0, [], 0, false⟩
def Conv.SA_STATE : Fld := ⟨0x1054, 1, 0, 1, 0, 3, .ro, 0, [], 0, false⟩
def Conv.SA_OVR_CNT : Fld := ⟨0x1054, 2, 0, 1, 0, 16, .ro, 0, [], 0, false⟩
def Conv.SB_OVR_CNT : Fld := ⟨0x1054, 4, 0, 1, 0, 16, .ro, 0, [], 0, false⟩
def Conv.SA_SPLIT_CNT : Fld := ⟨0x1054, 6, 0, 1, 0, 16, .ro, 0, [], 0, false⟩
def Conv.SB_SPLIT_CNT : Fld := ⟨0x1054, 8, 0, 1, 0, 16, .ro, 0, [], 0, false⟩
/-- The fields of Table 5.4. -/
def Conv.fields : List Fld :=
  [Conv.LAYOUT, Conv.SB_STATE, Conv.SA_STATE, Conv.SA_OVR_CNT, Conv.SB_OVR_CNT, Conv.SA_SPLIT_CNT, Conv.SB_SPLIT_CNT]

/-! Table 5.8, object 0x1060 (05_sensing.md). -/
def CmpCfg.LAYOUT : Fld := ⟨0x1060, 0, 0, 1, 0, 8, .ro, 1, [], 0, false⟩
def CmpCfg.EN : Fld := ⟨0x1060, 4, 8, 16, 7, 1, .rw, 0, [], 0, true⟩
def CmpCfg.SAMPLED : Fld := ⟨0x1060, 4, 8, 16, 6, 1, .rw, 0, [], 0, true⟩
def CmpCfg.MODE : Fld := ⟨0x1060, 4, 8, 16, 4, 2, .rw, 0, [], 0, true⟩
def CmpCfg.INPUT : Fld := ⟨0x1060, 4, 8, 16, 0, 4, .rw, 0, [], 0, true⟩
def CmpCfg.M : Fld := ⟨0x1060, 5, 8, 16, 4, 4, .rw, 1, [], 0, true⟩
def CmpCfg.N : Fld := ⟨0x1060, 5, 8, 16, 0, 4, .rw, 1, [], 0, true⟩
def CmpCfg.HYST : Fld := ⟨0x1060, 6, 8, 16, 6, 2, .rw, 0, [], 0, true⟩
def CmpCfg.WIN_GATE : Fld := ⟨0x1060, 6, 8, 16, 5, 1, .rw, 0, [], 0, true⟩
def CmpCfg.WAKE_EN : Fld := ⟨0x1060, 6, 8, 16, 4, 1, .rw, 0, [], 0, true⟩
def CmpCfg.CUT_RAW : Fld := ⟨0x1060, 6, 8, 16, 3, 1, .rw, 0, [], 0, true⟩
def CmpCfg.GDI_OC : Fld := ⟨0x1060, 6, 8, 16, 2, 1, .rw, 0, [], 0, true⟩
def CmpCfg.PG_CUT : Fld := ⟨0x1060, 6, 8, 16, 1, 1, .rw, 0, [], 0, true⟩
def CmpCfg.SPER : Fld := ⟨0x1060, 8, 8, 16, 0, 32, .rw, 0x30d40, [], 0, true⟩
/-- The fields of Table 5.8. -/
def CmpCfg.fields : List Fld :=
  [CmpCfg.LAYOUT, CmpCfg.EN, CmpCfg.SAMPLED, CmpCfg.MODE, CmpCfg.INPUT, CmpCfg.M, CmpCfg.N, CmpCfg.HYST, CmpCfg.WIN_GATE, CmpCfg.WAKE_EN, CmpCfg.CUT_RAW, CmpCfg.GDI_OC, CmpCfg.PG_CUT, CmpCfg.SPER]

/-! Table 5.9, object 0x1061 (05_sensing.md). -/
def CmpTh.LAYOUT : Fld := ⟨0x1061, 0, 0, 1, 0, 8, .ro, 1, [], 0, false⟩
def CmpTh.COMMIT : Fld := ⟨0x1061, 1, 0, 1, 0, 1, .wo, 0, [], 0, false⟩
def CmpTh.TH_A : Fld := ⟨0x1061, 4, 8, 16, 0, 12, .rws, 0xfff, [], 0, true⟩
def CmpTh.TH_B : Fld := ⟨0x1061, 6, 8, 16, 0, 12, .rws, 0, [], 0, true⟩
def CmpTh.RAMP_SLOPE : Fld := ⟨0x1061, 8, 8, 16, 0, 16, .rws, 0, [], 0, true⟩
/-- The fields of Table 5.9. -/
def CmpTh.fields : List Fld :=
  [CmpTh.LAYOUT, CmpTh.COMMIT, CmpTh.TH_A, CmpTh.TH_B, CmpTh.RAMP_SLOPE]

/-! Table 5.10, object 0x1062 (05_sensing.md). -/
def CmpStat.LAYOUT : Fld := ⟨0x1062, 0, 0, 1, 0, 8, .ro, 1, [], 0, false⟩
def CmpStat.OUT : Fld := ⟨0x1062, 2, 0, 1, 0, 16, .ro, 0, [], 0, false⟩
def CmpStat.UNRES : Fld := ⟨0x1062, 4, 0, 1, 0, 16, .ro, 0, [], 0, false⟩
def CmpStat.WIN_OPEN : Fld := ⟨0x1062, 6, 0, 1, 0, 16, .ro, 0xffff, [], 0, false⟩
def CmpStat.RAW_OUT : Fld := ⟨0x1062, 8, 0, 1, 0, 16, .ro, 0, [], 0, false⟩
def CmpStat.ASSERT_CNT : Fld := ⟨0x1062, 12, 2, 16, 0, 16, .ro, 0, [], 0, false⟩
/-- The fields of Table 5.10. -/
def CmpStat.fields : List Fld :=
  [CmpStat.LAYOUT, CmpStat.OUT, CmpStat.UNRES, CmpStat.WIN_OPEN, CmpStat.RAW_OUT, CmpStat.ASSERT_CNT]

/-! Table 6.4, object 0x1070 (06_control_engine.md). -/
def Prog.LAYOUT : Fld := ⟨0x1070, 0, 0, 1, 0, 8, .ro, 1, [], 0, false⟩
def Prog.PROG_LEN : Fld := ⟨0x1070, 1, 0, 1, 0, 8, .rws, 0, [], 0, true⟩
def Prog.PG_COMMIT : Fld := ⟨0x1070, 2, 0, 1, 0, 1, .rws, 0, [], 0, true⟩
def Prog.OP_OP : Fld := ⟨0x1070, 8, 8, 64, 0, 6, .rws, 0, [], 0, true⟩
def Prog.OP_DST : Fld := ⟨0x1070, 9, 8, 64, 0, 8, .rws, 0, [], 0, true⟩
def Prog.OP_SRC_A : Fld := ⟨0x1070, 10, 8, 64, 0, 8, .rws, 0, [], 0, true⟩
def Prog.OP_SRC_B : Fld := ⟨0x1070, 11, 8, 64, 0, 8, .rws, 0, [], 0, true⟩
def Prog.OP_COEF : Fld := ⟨0x1070, 12, 8, 64, 0, 5, .rws, 0, [], 0, true⟩
def Prog.OP_AUX : Fld := ⟨0x1070, 13, 8, 64, 0, 1, .rws, 0, [], 0, true⟩
/-- The fields of Table 6.4. -/
def Prog.fields : List Fld :=
  [Prog.LAYOUT, Prog.PROG_LEN, Prog.PG_COMMIT, Prog.OP_OP, Prog.OP_DST, Prog.OP_SRC_A, Prog.OP_SRC_B, Prog.OP_COEF, Prog.OP_AUX]

/-! Table 6.5, object 0x1074 (06_control_engine.md). -/
def CeCtl.LAYOUT : Fld := ⟨0x1074, 0, 0, 1, 0, 8, .ro, 1, [], 0, false⟩
def CeCtl.SLOT_EN : Fld := ⟨0x1074, 1, 0, 1, 0, 4, .rw, 0, [], 0, true⟩
def CeCtl.COMMIT_COEF : Fld := ⟨0x1074, 2, 0, 1, 4, 4, .wo, 0, [], 0, false⟩
def CeCtl.COMMIT_PROG : Fld := ⟨0x1074, 2, 0, 1, 0, 4, .wo, 0, [], 0, false⟩
def CeCtl.COMMIT_HOST : Fld := ⟨0x1074, 3, 0, 1, 4, 1, .wo, 0, [], 0, false⟩
def CeCtl.CLEAR_STATE : Fld := ⟨0x1074, 3, 0, 1, 0, 4, .wo, 0, [], 0, false⟩
def CeCtl.DUTY_MODE : Fld := ⟨0x1074, 4, 0, 1, 0, 12, .rw, 0, [], 0, true⟩
def CeCtl.H : Fld := ⟨0x1074, 8, 4, 16, 0, 32, .rws, 0, [], 0, false⟩
/-- The fields of Table 6.5. -/
def CeCtl.fields : List Fld :=
  [CeCtl.LAYOUT, CeCtl.SLOT_EN, CeCtl.COMMIT_COEF, CeCtl.COMMIT_PROG, CeCtl.COMMIT_HOST, CeCtl.CLEAR_STATE, CeCtl.DUTY_MODE, CeCtl.H]

/-! Table 6.6, object 0x1075 (06_control_engine.md). -/
def CeStat.LAYOUT : Fld := ⟨0x1075, 0, 0, 1, 0, 8, .ro, 1, [], 0, false⟩
def CeStat.PENDING : Fld := ⟨0x1075, 1, 0, 1, 4, 4, .ro, 0, [], 0, false⟩
def CeStat.RUNNING : Fld := ⟨0x1075, 1, 0, 1, 0, 4, .ro, 0, [], 0, false⟩
def CeStat.PEND_COEF : Fld := ⟨0x1075, 2, 0, 1, 4, 4, .ro, 0, [], 0, false⟩
def CeStat.PEND_PROG : Fld := ⟨0x1075, 2, 0, 1, 0, 4, .ro, 0, [], 0, false⟩
def CeStat.PEND_HOST : Fld := ⟨0x1075, 3, 0, 1, 4, 1, .ro, 0, [], 0, false⟩
def CeStat.SAT : Fld := ⟨0x1075, 3, 0, 1, 0, 4, .w1c, 0, [], 0, false⟩
def CeStat.DIV0 : Fld := ⟨0x1075, 4, 0, 1, 4, 4, .w1c, 0, [], 0, false⟩
def CeStat.LIM : Fld := ⟨0x1075, 4, 0, 1, 0, 4, .w1c, 0, [], 0, false⟩
def CeStat.EVAL_CNT : Fld := ⟨0x1075, 8, 8, 4, 0, 16, .ro, 0, [], 0, false⟩
def CeStat.OVR_CNT : Fld := ⟨0x1075, 10, 8, 4, 0, 16, .ro, 0, [], 0, false⟩
def CeStat.LAST_WAIT : Fld := ⟨0x1075, 12, 8, 4, 0, 16, .ro, 0, [], 0, false⟩
def CeStat.MAX_WAIT : Fld := ⟨0x1075, 14, 8, 4, 0, 16, .rc, 0, [], 0, false⟩
/-- The fields of Table 6.6. -/
def CeStat.fields : List Fld :=
  [CeStat.LAYOUT, CeStat.PENDING, CeStat.RUNNING, CeStat.PEND_COEF, CeStat.PEND_PROG, CeStat.PEND_HOST, CeStat.SAT, CeStat.DIV0, CeStat.LIM, CeStat.EVAL_CNT, CeStat.OVR_CNT, CeStat.LAST_WAIT, CeStat.MAX_WAIT]

/-! Table 6.7, object 0x1076 (06_control_engine.md). -/
def CeVar.LAYOUT : Fld := ⟨0x1076, 0, 0, 1, 0, 8, .ro, 1, [], 0, false⟩
def CeVar.W : Fld := ⟨0x1076, 4, 4, 64, 0, 32, .ro, 0, [], 0, false⟩
def CeVar.DUTY : Fld := ⟨0x1076, 260, 4, 6, 0, 32, .ro, 0, [], 0, false⟩
def CeVar.M : Fld := ⟨0x1076, 284, 0, 1, 0, 32, .ro, 0, [], 0, false⟩
def CeVar.X : Fld := ⟨0x1076, 288, 0, 1, 0, 32, .ro, 0, [], 0, false⟩
def CeVar.Y : Fld := ⟨0x1076, 292, 0, 1, 0, 32, .ro, 0, [], 0, false⟩
/-- The fields of Table 6.7. -/
def CeVar.fields : List Fld :=
  [CeVar.LAYOUT, CeVar.W, CeVar.DUTY, CeVar.M, CeVar.X, CeVar.Y]

/-! Table 6.8, object 0x1080 (06_control_engine.md). -/
def Coef.LAYOUT : Fld := ⟨0x1080, 0, 0, 1, 0, 8, .ro, 1, [], 0, false⟩
def Coef.COEF_VALUE : Fld := ⟨0x1080, 8, 8, 64, 0, 32, .rws, 0, [], 0, true⟩
def Coef.COEF_SHIFT : Fld := ⟨0x1080, 12, 8, 64, 0, 5, .rws, 0, [], 0, true⟩
/-- The fields of Table 6.8. -/
def Coef.fields : List Fld :=
  [Coef.LAYOUT, Coef.COEF_VALUE, Coef.COEF_SHIFT]

/-! Table 7.9, object 0x10A0 (07_pulse_generation.md). -/
def PgCfg.LAYOUT : Fld := ⟨0x10A0, 0, 0, 1, 0, 8, .ro, 1, [], 0, false⟩
def PgCfg.RELOAD_SRC : Fld := ⟨0x10A0, 1, 0, 1, 4, 2, .rw, 0, [], 0, true⟩
def PgCfg.SHAPE : Fld := ⟨0x10A0, 1, 0, 1, 3, 1, .rw, 0, [], 0, true⟩
def PgCfg.CARRIER_SRC : Fld := ⟨0x10A0, 1, 0, 1, 0, 1, .rw, 0, [], 0, true⟩
def PgCfg.PAT_DECL : Fld := ⟨0x10A0, 2, 0, 1, 0, 6, .rw, 0, [], 0, true⟩
def PgCfg.CMODE : Fld := ⟨0x10A0, 4, 0, 1, 0, 12, .rw, 0xfff, [], 0, true⟩
/-- The fields of Table 7.9. -/
def PgCfg.fields : List Fld :=
  [PgCfg.LAYOUT, PgCfg.RELOAD_SRC, PgCfg.SHAPE, PgCfg.CARRIER_SRC, PgCfg.PAT_DECL, PgCfg.CMODE]

/-! Table 7.10, object 0x10A1 (07_pulse_generation.md). -/
def PgSet.LAYOUT : Fld := ⟨0x10A1, 0, 0, 1, 0, 8, .ro, 1, [], 0, false⟩
def PgSet.PEND : Fld := ⟨0x10A1, 1, 0, 1, 1, 1, .ro, 0, [], 0, false⟩
def PgSet.COMMIT : Fld := ⟨0x10A1, 1, 0, 1, 0, 1, .wo, 0, [], 0, false⟩
def PgSet.PERIOD : Fld := ⟨0x10A1, 4, 0, 1, 0, 32, .rws, 0x138800, [], 0, true⟩
def PgSet.DUTY : Fld := ⟨0x10A1, 8, 4, 6, 0, 32, .rws, 0, [], 0, false⟩
def PgSet.M : Fld := ⟨0x10A1, 32, 0, 1, 0, 32, .rws, 0, [], 0, false⟩
/-- The fields of Table 7.10. -/
def PgSet.fields : List Fld :=
  [PgSet.LAYOUT, PgSet.PEND, PgSet.COMMIT, PgSet.PERIOD, PgSet.DUTY, PgSet.M]

/-! Table 7.11, object 0x10A2 (07_pulse_generation.md). -/
def PgOut.LAYOUT : Fld := ⟨0x10A2, 0, 0, 1, 0, 8, .ro, 1, [], 0, false⟩
def PgOut.MP_MODE : Fld := ⟨0x10A2, 4, 16, 12, 2, 1, .rw, 0, [], 0, true⟩
def PgOut.SAFE_LVL : Fld := ⟨0x10A2, 4, 16, 12, 1, 1, .rw, 0, [], 0, true⟩
def PgOut.POL : Fld := ⟨0x10A2, 4, 16, 12, 0, 1, .rw, 0, [], 0, true⟩
def PgOut.RISE_DLY : Fld := ⟨0x10A2, 8, 16, 12, 0, 32, .rw, 0x1900, [], 0, true⟩
def PgOut.FALL_DLY : Fld := ⟨0x10A2, 12, 16, 12, 0, 32, .rw, 0, [], 0, true⟩
def PgOut.MINPULSE : Fld := ⟨0x10A2, 16, 16, 12, 0, 32, .rw, 0xc80, [], 0, true⟩
def PgOut.ILK_GAP : Fld := ⟨0x10A2, 196, 4, 6, 0, 32, .rw, 0xc80, [], 0, true⟩
/-- The fields of Table 7.11. -/
def PgOut.fields : List Fld :=
  [PgOut.LAYOUT, PgOut.MP_MODE, PgOut.SAFE_LVL, PgOut.POL, PgOut.RISE_DLY, PgOut.FALL_DLY, PgOut.MINPULSE, PgOut.ILK_GAP]

/-! Table 7.12, object 0x10A3 (07_pulse_generation.md). -/
def PgCut.LAYOUT : Fld := ⟨0x10A3, 0, 0, 1, 0, 8, .ro, 1, [], 0, false⟩
def PgCut.EN : Fld := ⟨0x10A3, 4, 4, 4, 31, 1, .rw, 0, [], 0, true⟩
def PgCut.POL : Fld := ⟨0x10A3, 4, 4, 4, 30, 1, .rw, 0, [], 0, true⟩
def PgCut.FILT : Fld := ⟨0x10A3, 4, 4, 4, 24, 4, .rw, 0, [], 0, true⟩
def PgCut.MASK : Fld := ⟨0x10A3, 4, 4, 4, 0, 12, .rw, 0, [], 0, true⟩
def PgCut.CUT_MASK : Fld := ⟨0x10A3, 20, 2, 16, 0, 12, .rw, 0, [], 0, true⟩
/-- The fields of Table 7.12. -/
def PgCut.fields : List Fld :=
  [PgCut.LAYOUT, PgCut.EN, PgCut.POL, PgCut.FILT, PgCut.MASK, PgCut.CUT_MASK]

/-! Table 7.13, object 0x10A4 (07_pulse_generation.md). -/
def PgStat.LAYOUT : Fld := ⟨0x10A4, 0, 0, 1, 0, 8, .ro, 1, [], 0, false⟩
def PgStat.STATE : Fld := ⟨0x10A4, 1, 0, 1, 0, 2, .ro, 0, [], 0, false⟩
def PgStat.HIZ : Fld := ⟨0x10A4, 2, 0, 1, 2, 1, .ro, 0, [], 0, false⟩
def PgStat.LATE_COMMIT : Fld := ⟨0x10A4, 2, 0, 1, 1, 1, .w1c, 0, [], 0, false⟩
def PgStat.INTERLOCK_SEEN : Fld := ⟨0x10A4, 2, 0, 1, 0, 1, .w1c, 0, [], 0, false⟩
def PgStat.CUT_NOW : Fld := ⟨0x10A4, 4, 0, 1, 0, 12, .ro, 0, [], 0, false⟩
def PgStat.PAT_NOW : Fld := ⟨0x10A4, 6, 0, 1, 0, 6, .ro, 0, [], 0, false⟩
def PgStat.RELOAD_CNT : Fld := ⟨0x10A4, 8, 0, 1, 0, 32, .ro, 0, [], 0, false⟩
def PgStat.LATE_CNT : Fld := ⟨0x10A4, 12, 0, 1, 0, 16, .ro, 0, [], 0, false⟩
def PgStat.MP_CNT : Fld := ⟨0x10A4, 14, 0, 1, 0, 16, .ro, 0, [], 0, false⟩
def PgStat.ILK_CNT : Fld := ⟨0x10A4, 16, 0, 1, 0, 16, .ro, 0, [], 0, false⟩
def PgStat.SWALLOW_CNT : Fld := ⟨0x10A4, 18, 0, 1, 0, 16, .ro, 0, [], 0, false⟩
def PgStat.FLT_CUT_CNT : Fld := ⟨0x10A4, 20, 2, 4, 0, 16, .ro, 0, [], 0, false⟩
def PgStat.CMP_CUT_CNT : Fld := ⟨0x10A4, 28, 0, 1, 0, 16, .ro, 0, [], 0, false⟩
def PgStat.PERIOD_NOW : Fld := ⟨0x10A4, 32, 0, 1, 0, 32, .ro, 0, [], 0, false⟩
def PgStat.DUTY_NOW : Fld := ⟨0x10A4, 36, 4, 6, 0, 32, .ro, 0, [], 0, false⟩
def PgStat.M_NOW : Fld := ⟨0x10A4, 60, 0, 1, 0, 32, .ro, 0, [], 0, false⟩
def PgStat.POS : Fld := ⟨0x10A4, 64, 0, 1, 0, 32, .ro, 0, [], 0, false⟩
/-- The fields of Table 7.13. -/
def PgStat.fields : List Fld :=
  [PgStat.LAYOUT, PgStat.STATE, PgStat.HIZ, PgStat.LATE_COMMIT, PgStat.INTERLOCK_SEEN, PgStat.CUT_NOW, PgStat.PAT_NOW, PgStat.RELOAD_CNT, PgStat.LATE_CNT, PgStat.MP_CNT, PgStat.ILK_CNT, PgStat.SWALLOW_CNT, PgStat.FLT_CUT_CNT, PgStat.CMP_CUT_CNT, PgStat.PERIOD_NOW, PgStat.DUTY_NOW, PgStat.M_NOW, PgStat.POS]

/-! Table 8.2, object 0x10B0 (08_gate_drive.md). -/
def GdiCfg.LAYOUT : Fld := ⟨0x10B0, 0, 0, 1, 0, 8, .ro, 1, [], 0, false⟩
def GdiCfg.SERVICE : Fld := ⟨0x10B0, 1, 0, 1, 0, 1, .rw, 0, [], 0, false⟩
def GdiCfg.MODE : Fld := ⟨0x10B0, 4, 2, 6, 5, 2, .rw, 0, [], 0, true⟩
def GdiCfg.POL : Fld := ⟨0x10B0, 4, 2, 6, 4, 1, .rw, 0, [], 0, true⟩
def GdiCfg.FILT : Fld := ⟨0x10B0, 4, 2, 6, 0, 4, .rw, 0, [], 0, true⟩
def GdiCfg.DESAT_BLANK : Fld := ⟨0x10B0, 16, 0, 1, 0, 16, .rw, 0x258, [], 0, true⟩
def GdiCfg.SQ_DELAY : Fld := ⟨0x10B0, 18, 0, 1, 0, 16, .rw, 0x7d0, [], 0, true⟩
def GdiCfg.OUTER_MASK : Fld := ⟨0x10B0, 20, 0, 1, 0, 12, .rw, 0, [], 0, true⟩
def GdiCfg.RECOV_MS : Fld := ⟨0x10B0, 22, 0, 1, 0, 16, .rw, 0x64, [], 0, true⟩
def GdiCfg.OC_MASK : Fld := ⟨0x10B0, 24, 2, 16, 0, 12, .rw, 0, [], 0, true⟩
/-- The fields of Table 8.2. -/
def GdiCfg.fields : List Fld :=
  [GdiCfg.LAYOUT, GdiCfg.SERVICE, GdiCfg.MODE, GdiCfg.POL, GdiCfg.FILT, GdiCfg.DESAT_BLANK, GdiCfg.SQ_DELAY, GdiCfg.OUTER_MASK, GdiCfg.RECOV_MS, GdiCfg.OC_MASK]

/-! Table 8.3, object 0x10B1 (08_gate_drive.md). -/
def GdiStat.LAYOUT : Fld := ⟨0x10B1, 0, 0, 1, 0, 8, .ro, 1, [], 0, false⟩
def GdiStat.STATE : Fld := ⟨0x10B1, 1, 0, 1, 0, 3, .ro, 0, [], 0, false⟩
def GdiStat.OFF_LATCH : Fld := ⟨0x10B1, 2, 0, 1, 0, 12, .ro, 0, [], 0, false⟩
def GdiStat.DFB_NOW : Fld := ⟨0x10B1, 4, 0, 1, 0, 6, .ro, 0, [], 0, false⟩
def GdiStat.GEN_B_RB : Fld := ⟨0x10B1, 5, 0, 1, 1, 1, .ro, 0, [], 0, false⟩
def GdiStat.GEN_A_RB : Fld := ⟨0x10B1, 5, 0, 1, 0, 1, .ro, 0, [], 0, false⟩
def GdiStat.SQ_CAUSE : Fld := ⟨0x10B1, 6, 0, 1, 0, 8, .ro, 0, [], 0, false⟩
def GdiStat.DESAT_CNT : Fld := ⟨0x10B1, 8, 2, 6, 0, 16, .ro, 0, [], 0, false⟩
def GdiStat.MASKED_CNT : Fld := ⟨0x10B1, 20, 2, 6, 0, 16, .ro, 0, [], 0, false⟩
def GdiStat.OC_CNT : Fld := ⟨0x10B1, 32, 0, 1, 0, 16, .ro, 0, [], 0, false⟩
def GdiStat.SQUALL_CNT : Fld := ⟨0x10B1, 34, 0, 1, 0, 16, .ro, 0, [], 0, false⟩
def GdiStat.ESC_CNT : Fld := ⟨0x10B1, 36, 0, 1, 0, 16, .ro, 0, [], 0, false⟩
def GdiStat.FAULT_TIME : Fld := ⟨0x10B1, 40, 0, 1, 0, 64, .ro, 0, [], 0, false⟩
/-- The fields of Table 8.3. -/
def GdiStat.fields : List Fld :=
  [GdiStat.LAYOUT, GdiStat.STATE, GdiStat.OFF_LATCH, GdiStat.DFB_NOW, GdiStat.GEN_B_RB, GdiStat.GEN_A_RB, GdiStat.SQ_CAUSE, GdiStat.DESAT_CNT, GdiStat.MASKED_CNT, GdiStat.OC_CNT, GdiStat.SQUALL_CNT, GdiStat.ESC_CNT, GdiStat.FAULT_TIME]

/-! Table 8.5, object 0x10B2 (08_gate_drive.md). -/
def Hb.LAYOUT : Fld := ⟨0x10B2, 0, 0, 1, 0, 8, .ro, 1, [], 0, false⟩
def Hb.PAIR : Fld := ⟨0x10B2, 1, 0, 1, 1, 3, .rw, 0, [], 0, true⟩
def Hb.EN : Fld := ⟨0x10B2, 1, 0, 1, 0, 1, .rw, 0, [], 0, true⟩
def Hb.REFRESH_MAX : Fld := ⟨0x10B2, 2, 0, 1, 0, 16, .rw, 0x3e8, [], 0, true⟩
def Hb.HB_DT : Fld := ⟨0x10B2, 4, 0, 1, 0, 32, .rw, 0xc80, [], 0, true⟩
def Hb.HBOOT_UV_SEEN : Fld := ⟨0x10B2, 8, 0, 1, 2, 1, .w1c, 0, [], 0, false⟩
def Hb.VDRV_UV : Fld := ⟨0x10B2, 8, 0, 1, 1, 1, .ro, 0, [], 0, false⟩
def Hb.HBOOT_UV : Fld := ⟨0x10B2, 8, 0, 1, 0, 1, .ro, 0, [], 0, false⟩
def Hb.REFRESH_CNT : Fld := ⟨0x10B2, 10, 0, 1, 0, 16, .ro, 0, [], 0, false⟩
def Hb.UV_CNT : Fld := ⟨0x10B2, 12, 0, 1, 0, 16, .ro, 0, [], 0, false⟩
/-- The fields of Table 8.5. -/
def Hb.fields : List Fld :=
  [Hb.LAYOUT, Hb.PAIR, Hb.EN, Hb.REFRESH_MAX, Hb.HB_DT, Hb.HBOOT_UV_SEEN, Hb.VDRV_UV, Hb.HBOOT_UV, Hb.REFRESH_CNT, Hb.UV_CNT]

/-! Table 9.4, object 0x10C0 (09_grid_functions.md). -/
def GridCfg.LAYOUT : Fld := ⟨0x10C0, 0, 0, 1, 0, 8, .ro, 1, [], 0, false⟩
def GridCfg.ID_SIGN : Fld := ⟨0x10C0, 1, 0, 1, 4, 1, .rw, 0, [], 0, true⟩
def GridCfg.IQ_SIGN : Fld := ⟨0x10C0, 1, 0, 1, 3, 1, .rw, 0, [], 0, true⟩
def GridCfg.F_NOM : Fld := ⟨0x10C0, 1, 0, 1, 2, 1, .rw, 0, [], 0, true⟩
def GridCfg.AUTO_RECON : Fld := ⟨0x10C0, 1, 0, 1, 1, 1, .rw, 0, [], 0, true⟩
def GridCfg.EN : Fld := ⟨0x10C0, 1, 0, 1, 0, 1, .rw, 0, [], 0, true⟩
def GridCfg.GROUP : Fld := ⟨0x10C0, 2, 0, 1, 0, 8, .rw, 0, [], 0, true⟩
def GridCfg.H_IQ : Fld := ⟨0x10C0, 3, 0, 1, 4, 4, .rw, 1, [], 0, true⟩
def GridCfg.H_ID : Fld := ⟨0x10C0, 3, 0, 1, 0, 4, .rw, 0, [], 0, true⟩
def GridCfg.I_RATED : Fld := ⟨0x10C0, 4, 0, 1, 0, 16, .rw, 0x8000, [], 0, true⟩
def GridCfg.I_MAX : Fld := ⟨0x10C0, 6, 0, 1, 0, 16, .rw, 0x8000, [], 0, true⟩
def GridCfg.AMP_1PU : Fld := ⟨0x10C0, 8, 0, 1, 0, 16, .rw, 0x8000, [], 0, true⟩
def GridCfg.VNOM_MV : Fld := ⟨0x10C0, 12, 0, 1, 0, 32, .rw, 0xa8750, [], 0, true⟩
/-- The fields of Table 9.4. -/
def GridCfg.fields : List Fld :=
  [GridCfg.LAYOUT, GridCfg.ID_SIGN, GridCfg.IQ_SIGN, GridCfg.F_NOM, GridCfg.AUTO_RECON, GridCfg.EN, GridCfg.GROUP, GridCfg.H_IQ, GridCfg.H_ID, GridCfg.I_RATED, GridCfg.I_MAX, GridCfg.AMP_1PU, GridCfg.VNOM_MV]

/-! Table 9.5, object 0x10C1 (09_grid_functions.md). -/
def GridReq.LAYOUT : Fld := ⟨0x10C1, 0, 0, 1, 0, 8, .ro, 1, [], 0, false⟩
def GridReq.RECONNECT : Fld := ⟨0x10C1, 1, 0, 1, 0, 1, .wo, 0, [], 0, false⟩
def GridReq.ID_REQ : Fld := ⟨0x10C1, 4, 0, 1, 0, 32, .rw, 0, [], 0, false⟩
def GridReq.IQ_REQ : Fld := ⟨0x10C1, 8, 0, 1, 0, 32, .rw, 0, [], 0, false⟩
/-- The fields of Table 9.5. -/
def GridReq.fields : List Fld :=
  [GridReq.LAYOUT, GridReq.RECONNECT, GridReq.ID_REQ, GridReq.IQ_REQ]

end Sys2Proof.Machine.Reg
end

