-- ==== Sys2Proof/Machine/RegsB.lean ====
section
/-! DEFINITION. Field maps of the objects, part 2: one descriptor per field of the spec's object tables (offset, bits, access, reset value), and the object's list of fields. -/

namespace Sys2Proof.Machine.Reg

/-! Table 9.6, object 0x10C2 (09_grid_functions.md). -/
def GridVf.LAYOUT : Fld := ⟨0x10C2, 0, 0, 1, 0, 8, .ro, 1, [], 0, false⟩
def GridVf.CEASE_LOW : Fld := ⟨0x10C2, 4, 0, 1, 0, 16, .rw, 0x2000, [], 0, true⟩
def GridVf.SUP_LOW : Fld := ⟨0x10C2, 6, 0, 1, 0, 16, .rw, 0x3852, [], 0, true⟩
def GridVf.SUP_HIGH : Fld := ⟨0x10C2, 8, 0, 1, 0, 16, .rw, 0x4666, [], 0, true⟩
def GridVf.CEASE_HIGH : Fld := ⟨0x10C2, 10, 0, 1, 0, 16, .rw, 0x4666, [], 0, true⟩
def GridVf.V_LEVEL : Fld := ⟨0x10C2, 12, 8, 4, 0, 16, .rw, 0, [19661, 18022, 14418, 8192], 0, true⟩
def GridVf.V_TIME_MS : Fld := ⟨0x10C2, 16, 8, 4, 0, 32, .rw, 0, [160, 13000, 21000, 2000], 0, true⟩
def GridVf.F_LEVEL : Fld := ⟨0x10C2, 44, 8, 4, 0, 32, .rw, 0, [52000, 51500, 48500, 47000], 0, true⟩
def GridVf.F_TIME_MS : Fld := ⟨0x10C2, 48, 8, 4, 0, 32, .rw, 0, [160, 300000, 300000, 160], 0, true⟩
def GridVf.K_RCI : Fld := ⟨0x10C2, 76, 0, 1, 0, 16, .rw, 0x2000, [], 0, true⟩
def GridVf.RECOV_RATE : Fld := ⟨0x10C2, 78, 0, 1, 0, 16, .rw, 0x200, [], 0, true⟩
def GridVf.FD_F1 : Fld := ⟨0x10C2, 80, 0, 1, 0, 32, .rw, 0xc418, [], 0, true⟩
def GridVf.FD_S : Fld := ⟨0x10C2, 84, 0, 1, 0, 16, .rw, 0x32, [], 0, true⟩
/-- The fields of Table 9.6. -/
def GridVf.fields : List Fld :=
  [GridVf.LAYOUT, GridVf.CEASE_LOW, GridVf.SUP_LOW, GridVf.SUP_HIGH, GridVf.CEASE_HIGH, GridVf.V_LEVEL, GridVf.V_TIME_MS, GridVf.F_LEVEL, GridVf.F_TIME_MS, GridVf.K_RCI, GridVf.RECOV_RATE, GridVf.FD_F1, GridVf.FD_S]

/-! Table 9.7, object 0x10C3 (09_grid_functions.md). -/
def GridIsl.LAYOUT : Fld := ⟨0x10C3, 0, 0, 1, 0, 8, .ro, 1, [], 0, false⟩
def GridIsl.AFD_EN : Fld := ⟨0x10C3, 1, 0, 1, 0, 1, .rw, 0, [], 0, true⟩
def GridIsl.ROCOF_WIN : Fld := ⟨0x10C3, 2, 0, 1, 0, 8, .rw, 5, [], 0, true⟩
def GridIsl.ROCOF_N : Fld := ⟨0x10C3, 3, 0, 1, 0, 8, .rw, 3, [], 0, true⟩
def GridIsl.ROCOF_LIM : Fld := ⟨0x10C3, 4, 0, 1, 0, 16, .rw, 0x7d0, [], 0, true⟩
def GridIsl.VS_LIM : Fld := ⟨0x10C3, 6, 0, 1, 0, 16, .rw, 0, [], 0, true⟩
def GridIsl.AFD_K : Fld := ⟨0x10C3, 8, 0, 1, 0, 16, .rw, 0x400, [], 0, true⟩
def GridIsl.AFD_MAX : Fld := ⟨0x10C3, 10, 0, 1, 0, 16, .rw, 0xccd, [], 0, true⟩
def GridIsl.ISL_DF : Fld := ⟨0x10C3, 12, 0, 1, 0, 32, .rw, 0x3e8, [], 0, true⟩
def GridIsl.ISL_T : Fld := ⟨0x10C3, 16, 0, 1, 0, 32, .rw, 0xc8, [], 0, true⟩
def GridIsl.RECON_VMIN : Fld := ⟨0x10C3, 20, 0, 1, 0, 16, .rw, 0x3ab0, [], 0, true⟩
def GridIsl.RECON_VMAX : Fld := ⟨0x10C3, 22, 0, 1, 0, 16, .rw, 0x4333, [], 0, true⟩
def GridIsl.RECON_FMIN : Fld := ⟨0x10C3, 24, 0, 1, 0, 32, .rw, 0xc15c, [], 0, true⟩
def GridIsl.RECON_FMAX : Fld := ⟨0x10C3, 28, 0, 1, 0, 32, .rw, 0xc3b4, [], 0, true⟩
def GridIsl.RECON_S : Fld := ⟨0x10C3, 32, 0, 1, 0, 16, .rw, 0x12c, [], 0, true⟩
def GridIsl.RAMP_S : Fld := ⟨0x10C3, 34, 0, 1, 0, 16, .rw, 0x12c, [], 0, true⟩
/-- The fields of Table 9.7. -/
def GridIsl.fields : List Fld :=
  [GridIsl.LAYOUT, GridIsl.AFD_EN, GridIsl.ROCOF_WIN, GridIsl.ROCOF_N, GridIsl.ROCOF_LIM, GridIsl.VS_LIM, GridIsl.AFD_K, GridIsl.AFD_MAX, GridIsl.ISL_DF, GridIsl.ISL_T, GridIsl.RECON_VMIN, GridIsl.RECON_VMAX, GridIsl.RECON_FMIN, GridIsl.RECON_FMAX, GridIsl.RECON_S, GridIsl.RAMP_S]

/-! Table 9.8, object 0x10C4 (09_grid_functions.md). -/
def GridStat.LAYOUT : Fld := ⟨0x10C4, 0, 0, 1, 0, 8, .ro, 1, [], 0, false⟩
def GridStat.READY : Fld := ⟨0x10C4, 1, 0, 1, 3, 1, .ro, 0, [], 0, false⟩
def GridStat.STATE : Fld := ⟨0x10C4, 1, 0, 1, 0, 3, .ro, 0, [], 0, false⟩
def GridStat.TRIP_CAUSE : Fld := ⟨0x10C4, 2, 0, 1, 0, 8, .ro, 0, [], 0, false⟩
def GridStat.U_LOW : Fld := ⟨0x10C4, 4, 0, 1, 0, 16, .ro, 0, [], 0, false⟩
def GridStat.U_HIGH : Fld := ⟨0x10C4, 6, 0, 1, 0, 16, .ro, 0, [], 0, false⟩
def GridStat.F_MEAS : Fld := ⟨0x10C4, 8, 0, 1, 0, 32, .ro, 0, [], 0, false⟩
def GridStat.ROCOF : Fld := ⟨0x10C4, 12, 0, 1, 0, 32, .ro, 0, [], 0, false⟩
def GridStat.ID_CMD : Fld := ⟨0x10C4, 16, 0, 1, 0, 32, .ro, 0, [], 0, false⟩
def GridStat.IQ_CMD : Fld := ⟨0x10C4, 20, 0, 1, 0, 32, .ro, 0, [], 0, false⟩
def GridStat.RECON_LEFT_S : Fld := ⟨0x10C4, 24, 0, 1, 0, 16, .ro, 0, [], 0, false⟩
def GridStat.TRIP_CNT : Fld := ⟨0x10C4, 26, 0, 1, 0, 16, .ro, 0, [], 0, true⟩
def GridStat.RECON_FAIL_CNT : Fld := ⟨0x10C4, 28, 0, 1, 0, 16, .ro, 0, [], 0, false⟩
def GridStat.TRIP_TIME : Fld := ⟨0x10C4, 32, 0, 1, 0, 64, .ro, 0, [], 0, true⟩
/-- The fields of Table 9.8. -/
def GridStat.fields : List Fld :=
  [GridStat.LAYOUT, GridStat.READY, GridStat.STATE, GridStat.TRIP_CAUSE, GridStat.U_LOW, GridStat.U_HIGH, GridStat.F_MEAS, GridStat.ROCOF, GridStat.ID_CMD, GridStat.IQ_CMD, GridStat.RECON_LEFT_S, GridStat.TRIP_CNT, GridStat.RECON_FAIL_CNT, GridStat.TRIP_TIME]

/-! Table 9.9, object 0x10C8 (09_grid_functions.md). -/
def MpptCfg.LAYOUT : Fld := ⟨0x10C8, 0, 0, 1, 0, 8, .ro, 1, [], 0, false⟩
def MpptCfg.H_VREF : Fld := ⟨0x10C8, 1, 0, 1, 1, 4, .rw, 0, [], 0, true⟩
def MpptCfg.EN : Fld := ⟨0x10C8, 1, 0, 1, 0, 1, .rw, 0, [], 0, true⟩
def MpptCfg.FREEZE_MASK : Fld := ⟨0x10C8, 2, 0, 1, 0, 8, .rw, 0, [], 0, true⟩
def MpptCfg.SWEEP_N : Fld := ⟨0x10C8, 3, 0, 1, 0, 8, .rw, 0x20, [], 0, true⟩
def MpptCfg.VMIN : Fld := ⟨0x10C8, 4, 0, 1, 0, 32, .rw, 0, [], 0, true⟩
def MpptCfg.VMAX : Fld := ⟨0x10C8, 8, 0, 1, 0, 32, .rw, 0, [], 0, true⟩
def MpptCfg.DV : Fld := ⟨0x10C8, 12, 0, 1, 0, 32, .rw, 0, [], 0, true⟩
def MpptCfg.STEP_MS : Fld := ⟨0x10C8, 16, 0, 1, 0, 16, .rw, 0x64, [], 0, true⟩
def MpptCfg.SWEEP_MS : Fld := ⟨0x10C8, 18, 0, 1, 0, 16, .rw, 0xc8, [], 0, true⟩
def MpptCfg.SWEEP_MIN : Fld := ⟨0x10C8, 20, 0, 1, 0, 16, .rw, 0xf, [], 0, true⟩
def MpptCfg.DP_DEAD : Fld := ⟨0x10C8, 22, 0, 1, 0, 16, .rw, 0x148, [], 0, true⟩
def MpptCfg.P_LIMIT : Fld := ⟨0x10C8, 24, 0, 1, 0, 32, .rw, 0xffffffff, [], 0, false⟩
/-- The fields of Table 9.9. -/
def MpptCfg.fields : List Fld :=
  [MpptCfg.LAYOUT, MpptCfg.H_VREF, MpptCfg.EN, MpptCfg.FREEZE_MASK, MpptCfg.SWEEP_N, MpptCfg.VMIN, MpptCfg.VMAX, MpptCfg.DV, MpptCfg.STEP_MS, MpptCfg.SWEEP_MS, MpptCfg.SWEEP_MIN, MpptCfg.DP_DEAD, MpptCfg.P_LIMIT]

/-! Table 9.10, object 0x10C9 (09_grid_functions.md). -/
def MpptStat.LAYOUT : Fld := ⟨0x10C9, 0, 0, 1, 0, 8, .ro, 1, [], 0, false⟩
def MpptStat.STATE : Fld := ⟨0x10C9, 1, 0, 1, 0, 3, .ro, 0, [], 0, false⟩
def MpptStat.SWEEP_CNT : Fld := ⟨0x10C9, 2, 0, 1, 0, 16, .ro, 0, [], 0, false⟩
def MpptStat.VREF : Fld := ⟨0x10C9, 4, 0, 1, 0, 32, .ro, 0, [], 0, false⟩
def MpptStat.P_LAST : Fld := ⟨0x10C9, 8, 0, 1, 0, 32, .ro, 0, [], 0, false⟩
def MpptStat.V_BEST : Fld := ⟨0x10C9, 12, 0, 1, 0, 32, .ro, 0, [], 0, false⟩
/-- The fields of Table 9.10. -/
def MpptStat.fields : List Fld :=
  [MpptStat.LAYOUT, MpptStat.STATE, MpptStat.SWEEP_CNT, MpptStat.VREF, MpptStat.P_LAST, MpptStat.V_BEST]

/-! Table 10.6, object 0x2000 (10_metering.md). -/
def MeterCfg.LAYOUT : Fld := ⟨0x2000, 0, 0, 1, 0, 8, .ro, 1, [], 0, false⟩
def MeterCfg.COMMIT_EV : Fld := ⟨0x2000, 1, 0, 1, 5, 1, .rw, 0, [], 0, true⟩
def MeterCfg.DIR_INV : Fld := ⟨0x2000, 1, 0, 1, 4, 1, .rw, 0, [], 0, true⟩
def MeterCfg.BILL : Fld := ⟨0x2000, 1, 0, 1, 3, 1, .rw, 0, [], 0, true⟩
def MeterCfg.F_NOM : Fld := ⟨0x2000, 1, 0, 1, 2, 1, .rw, 0, [], 0, true⟩
def MeterCfg.KIND : Fld := ⟨0x2000, 1, 0, 1, 1, 1, .rw, 0, [], 0, true⟩
def MeterCfg.EN : Fld := ⟨0x2000, 1, 0, 1, 0, 1, .rw, 0, [], 0, true⟩
def MeterCfg.ZC_ARM : Fld := ⟨0x2000, 2, 0, 1, 0, 16, .rw, 0xccd, [], 0, true⟩
def MeterCfg.V_FS_MV : Fld := ⟨0x2000, 4, 0, 1, 0, 32, .rw, 0xf4240, [], 0, true⟩
def MeterCfg.I_FS_MA : Fld := ⟨0x2000, 8, 0, 1, 0, 32, .rw, 0xf4240, [], 0, true⟩
def MeterCfg.UDIN_MV : Fld := ⟨0x2000, 12, 0, 1, 0, 32, .rw, 0x38270, [], 0, true⟩
/-- The fields of Table 10.6. -/
def MeterCfg.fields : List Fld :=
  [MeterCfg.LAYOUT, MeterCfg.COMMIT_EV, MeterCfg.DIR_INV, MeterCfg.BILL, MeterCfg.F_NOM, MeterCfg.KIND, MeterCfg.EN, MeterCfg.ZC_ARM, MeterCfg.V_FS_MV, MeterCfg.I_FS_MA, MeterCfg.UDIN_MV]

/-! Table 10.7, object 0x2001 (10_metering.md). -/
def MeterCal.LAYOUT : Fld := ⟨0x2001, 0, 0, 1, 0, 8, .ro, 1, [], 0, false⟩
def MeterCal.GAIN : Fld := ⟨0x2001, 4, 12, 6, 0, 32, .rw, 0x40000000, [], 0, true⟩
def MeterCal.OFFSET : Fld := ⟨0x2001, 8, 12, 6, 0, 32, .rw, 0, [], 0, true⟩
def MeterCal.PHASE : Fld := ⟨0x2001, 12, 12, 6, 0, 16, .rw, 0, [], 0, true⟩
def MeterCal.MODE : Fld := ⟨0x2001, 14, 12, 6, 0, 1, .rw, 0, [], 0, true⟩
/-- The fields of Table 10.7. -/
def MeterCal.fields : List Fld :=
  [MeterCal.LAYOUT, MeterCal.GAIN, MeterCal.OFFSET, MeterCal.PHASE, MeterCal.MODE]

/-! Table 10.8, object 0x2002 (10_metering.md). -/
def Cycle.LAYOUT : Fld := ⟨0x2002, 0, 0, 1, 0, 8, .ro, 1, [], 0, false⟩
def Cycle.FLAGGED : Fld := ⟨0x2002, 1, 0, 1, 1, 1, .ro, 0, [], 0, false⟩
def Cycle.NO_ZC : Fld := ⟨0x2002, 1, 0, 1, 0, 1, .ro, 0, [], 0, false⟩
def Cycle.CYCLE_CNT : Fld := ⟨0x2002, 2, 0, 1, 0, 16, .ro, 0, [], 0, false⟩
def Cycle.U_RMS_MV : Fld := ⟨0x2002, 4, 4, 3, 0, 32, .ro, 0, [], 0, false⟩
def Cycle.U_PP_MV : Fld := ⟨0x2002, 16, 4, 3, 0, 32, .ro, 0, [], 0, false⟩
def Cycle.I_RMS_MA : Fld := ⟨0x2002, 28, 4, 3, 0, 32, .ro, 0, [], 0, false⟩
def Cycle.F_MHZ : Fld := ⟨0x2002, 40, 0, 1, 0, 32, .ro, 0, [], 0, false⟩
def Cycle.P_W : Fld := ⟨0x2002, 44, 4, 4, 0, 32, .ro, 0, [], 0, false⟩
def Cycle.Q_VAR : Fld := ⟨0x2002, 60, 4, 4, 0, 32, .ro, 0, [], 0, false⟩
def Cycle.S_VA : Fld := ⟨0x2002, 76, 4, 4, 0, 32, .ro, 0, [], 0, false⟩
def Cycle.PF : Fld := ⟨0x2002, 92, 2, 4, 0, 16, .ro, 0, [], 0, false⟩
def Cycle.ANG_VI : Fld := ⟨0x2002, 100, 4, 3, 0, 32, .ro, 0, [], 0, false⟩
def Cycle.ANG_B : Fld := ⟨0x2002, 112, 0, 1, 0, 32, .ro, 0, [], 0, false⟩
def Cycle.ANG_C : Fld := ⟨0x2002, 116, 0, 1, 0, 32, .ro, 0, [], 0, false⟩
def Cycle.END_TIME : Fld := ⟨0x2002, 120, 0, 1, 0, 64, .ro, 0, [], 0, false⟩
/-- The fields of Table 10.8. -/
def Cycle.fields : List Fld :=
  [Cycle.LAYOUT, Cycle.FLAGGED, Cycle.NO_ZC, Cycle.CYCLE_CNT, Cycle.U_RMS_MV, Cycle.U_PP_MV, Cycle.I_RMS_MA, Cycle.F_MHZ, Cycle.P_W, Cycle.Q_VAR, Cycle.S_VA, Cycle.PF, Cycle.ANG_VI, Cycle.ANG_B, Cycle.ANG_C, Cycle.END_TIME]

/-! Table 10.9, object 0x2003 (10_metering.md). -/
def Energy.LAYOUT : Fld := ⟨0x2003, 0, 0, 1, 0, 8, .ro, 1, [], 0, false⟩
def Energy.REG : Fld := ⟨0x2003, 8, 8, 28, 0, 64, .ro, 0, [], 0, true⟩
/-- The fields of Table 10.9. -/
def Energy.fields : List Fld :=
  [Energy.LAYOUT, Energy.REG]

/-! Table 10.10, object 0x2004 (10_metering.md). -/
def MeterStat.LAYOUT : Fld := ⟨0x2004, 0, 0, 1, 0, 8, .ro, 1, [], 0, false⟩
def MeterStat.STATE : Fld := ⟨0x2004, 1, 0, 1, 0, 3, .ro, 0, [], 0, false⟩
def MeterStat.LOST : Fld := ⟨0x2004, 2, 0, 1, 3, 1, .ro, 0, [], 0, true⟩
def MeterStat.CLIP_SEEN : Fld := ⟨0x2004, 2, 0, 1, 2, 1, .w1c, 0, [], 0, false⟩
def MeterStat.GAP_SEEN : Fld := ⟨0x2004, 2, 0, 1, 1, 1, .w1c, 0, [], 0, false⟩
def MeterStat.SESSION_OPEN : Fld := ⟨0x2004, 2, 0, 1, 0, 1, .ro, 0, [], 0, true⟩
def MeterStat.SEQ : Fld := ⟨0x2004, 4, 0, 1, 0, 32, .ro, 0, [], 0, true⟩
def MeterStat.GAP_CNT : Fld := ⟨0x2004, 8, 0, 1, 0, 16, .ro, 0, [], 0, true⟩
def MeterStat.COMMIT_LATE_CNT : Fld := ⟨0x2004, 10, 0, 1, 0, 16, .ro, 0, [], 0, false⟩
def MeterStat.FIFO_DROP_CNT : Fld := ⟨0x2004, 12, 0, 1, 0, 16, .ro, 0, [], 0, false⟩
def MeterStat.LAST_MARK_TIME : Fld := ⟨0x2004, 16, 0, 1, 0, 64, .ro, 0, [], 0, false⟩
def MeterStat.LAST_MARK_RTC : Fld := ⟨0x2004, 24, 0, 1, 0, 64, .ro, 0, [], 0, true⟩
/-- The fields of Table 10.10. -/
def MeterStat.fields : List Fld :=
  [MeterStat.LAYOUT, MeterStat.STATE, MeterStat.LOST, MeterStat.CLIP_SEEN, MeterStat.GAP_SEEN, MeterStat.SESSION_OPEN, MeterStat.SEQ, MeterStat.GAP_CNT, MeterStat.COMMIT_LATE_CNT, MeterStat.FIFO_DROP_CNT, MeterStat.LAST_MARK_TIME, MeterStat.LAST_MARK_RTC]

/-! Table 10.11, object 0x2005 (10_metering.md). -/
def Aggr.LAYOUT : Fld := ⟨0x2005, 0, 0, 1, 0, 8, .ro, 1, [], 0, false⟩
def Aggr.FLAG : Fld := ⟨0x2005, 1, 0, 1, 0, 3, .ro, 0, [], 0, false⟩
def Aggr.U_W_MV : Fld := ⟨0x2005, 4, 4, 3, 0, 32, .ro, 0, [], 0, false⟩
def Aggr.U_150_MV : Fld := ⟨0x2005, 16, 4, 3, 0, 32, .ro, 0, [], 0, false⟩
def Aggr.U_10M_MV : Fld := ⟨0x2005, 28, 4, 3, 0, 32, .ro, 0, [], 0, false⟩
def Aggr.F_10S_MHZ : Fld := ⟨0x2005, 40, 0, 1, 0, 32, .ro, 0, [], 0, false⟩
def Aggr.PF_W : Fld := ⟨0x2005, 44, 2, 4, 0, 16, .ro, 0, [], 0, false⟩
def Aggr.W_END_TIME : Fld := ⟨0x2005, 56, 0, 1, 0, 64, .ro, 0, [], 0, false⟩
/-- The fields of Table 10.11. -/
def Aggr.fields : List Fld :=
  [Aggr.LAYOUT, Aggr.FLAG, Aggr.U_W_MV, Aggr.U_150_MV, Aggr.U_10M_MV, Aggr.F_10S_MHZ, Aggr.PF_W, Aggr.W_END_TIME]

/-! Table 10.9, object 0x2006 (10_metering.md). -/
def Snap.LAYOUT : Fld := ⟨0x2006, 0, 0, 1, 0, 8, .ro, 1, [], 0, false⟩
def Snap.LAG : Fld := ⟨0x2006, 1, 0, 1, 3, 5, .ro, 0, [], 0, false⟩
def Snap.NEW : Fld := ⟨0x2006, 1, 0, 1, 1, 1, .rc, 0, [], 0, false⟩
def Snap.TICK_ODD : Fld := ⟨0x2006, 1, 0, 1, 0, 1, .ro, 0, [], 0, false⟩
def Snap.REG : Fld := ⟨0x2006, 8, 8, 28, 0, 64, .ro, 0, [], 0, true⟩
def Snap.TIME : Fld := ⟨0x2006, 232, 0, 1, 0, 64, .ro, 0, [], 0, false⟩
/-- The fields of Table 10.9. -/
def Snap.fields : List Fld :=
  [Snap.LAYOUT, Snap.LAG, Snap.NEW, Snap.TICK_ODD, Snap.REG, Snap.TIME]

/-! Table 10.12, object 0x2F00 (10_metering.md). -/
def Bill.LAYOUT : Fld := ⟨0x2F00, 0, 0, 1, 0, 8, .ro, 1, [], 0, false⟩
def Bill.NEXT_RECORD : Fld := ⟨0x2F00, 4, 0, 1, 0, 32, .ro, 0, [], 0, true⟩
def Bill.OLDEST_UNACK : Fld := ⟨0x2F00, 8, 0, 1, 0, 32, .ro, 0, [], 0, true⟩
def Bill.UNIT_ID : Fld := ⟨0x2F00, 12, 0, 1, 0, 64, .ro, 0, [], 0, false⟩
def Bill.PUBKEY : Fld := ⟨0x2F00, 20, 0, 1, 0, 512, .ro, 0, [], 0, false⟩
/-- The fields of Table 10.12. -/
def Bill.fields : List Fld :=
  [Bill.LAYOUT, Bill.NEXT_RECORD, Bill.OLDEST_UNACK, Bill.UNIT_ID, Bill.PUBKEY]

/-! Table 11.8, object 0x3F00 (11_safety.md). -/
def SafeIn.LAYOUT : Fld := ⟨0x3F00, 0, 0, 1, 0, 8, .ro, 1, [], 0, false⟩
def SafeIn.EXPECT_CRC : Fld := ⟨0x3F00, 4, 0, 1, 0, 32, .rw, 0, [], 0, true⟩
def SafeIn.TYPE : Fld := ⟨0x3F00, 8, 8, 16, 4, 2, .rw, 0, [], 0, true⟩
def SafeIn.TP_SRC : Fld := ⟨0x3F00, 8, 8, 16, 0, 4, .rw, 0xf, [], 0, true⟩
def SafeIn.CH_MASK : Fld := ⟨0x3F00, 9, 8, 16, 0, 8, .rw, 0, [], 0, true⟩
def SafeIn.DEBOUNCE_US : Fld := ⟨0x3F00, 10, 8, 16, 0, 16, .rw, 0, [], 0, true⟩
def SafeIn.DISC_MS : Fld := ⟨0x3F00, 12, 8, 16, 0, 16, .rw, 0, [], 0, true⟩
/-- The fields of Table 11.8. -/
def SafeIn.fields : List Fld :=
  [SafeIn.LAYOUT, SafeIn.EXPECT_CRC, SafeIn.TYPE, SafeIn.TP_SRC, SafeIn.CH_MASK, SafeIn.DEBOUNCE_US, SafeIn.DISC_MS]

/-! Table 11.9, object 0x3F01 (11_safety.md). -/
def Feide.LAYOUT : Fld := ⟨0x3F01, 0, 0, 1, 0, 8, .ro, 1, [], 0, false⟩
def Feide.DIR : Fld := ⟨0x3F01, 4, 16, 16, 6, 2, .rw, 0, [], 0, true⟩
def Feide.TRANSPORT : Fld := ⟨0x3F01, 4, 16, 16, 3, 3, .rw, 0, [], 0, true⟩
def Feide.CH_MASK : Fld := ⟨0x3F01, 5, 16, 16, 0, 8, .rw, 0, [], 0, true⟩
def Feide.WD_MS : Fld := ⟨0x3F01, 6, 16, 16, 0, 16, .rw, 0x14, [], 0, true⟩
def Feide.CONN_ID : Fld := ⟨0x3F01, 8, 16, 16, 0, 32, .rw, 0, [], 0, true⟩
def Feide.IDE : Fld := ⟨0x3F01, 12, 16, 16, 31, 1, .rw, 0, [], 0, true⟩
def Feide.CAN_ID : Fld := ⟨0x3F01, 12, 16, 16, 0, 29, .rw, 0, [], 0, true⟩
def Feide.PERIOD_MS : Fld := ⟨0x3F01, 16, 16, 16, 0, 16, .rw, 0xa, [], 0, true⟩
/-- The fields of Table 11.9. -/
def Feide.fields : List Fld :=
  [Feide.LAYOUT, Feide.DIR, Feide.TRANSPORT, Feide.CH_MASK, Feide.WD_MS, Feide.CONN_ID, Feide.IDE, Feide.CAN_ID, Feide.PERIOD_MS]

/-! Table 11.10, object 0x3F02 (11_safety.md). -/
def Safe.LAYOUT : Fld := ⟨0x3F02, 0, 0, 1, 0, 8, .ro, 1, [], 0, false⟩
def Safe.ACK_STUCK : Fld := ⟨0x3F02, 1, 0, 1, 2, 1, .ro, 0, [], 0, false⟩
def Safe.SSTAT : Fld := ⟨0x3F02, 1, 0, 1, 1, 1, .ro, 0, [], 0, false⟩
def Safe.SACK : Fld := ⟨0x3F02, 1, 0, 1, 0, 1, .ro, 0, [], 0, false⟩
def Safe.SIN_STATE : Fld := ⟨0x3F02, 2, 0, 1, 0, 16, .ro, 0, [], 0, false⟩
def Safe.SIN_UNRES : Fld := ⟨0x3F02, 4, 0, 1, 0, 16, .ro, 0xffff, [], 0, false⟩
def Safe.CFG_CRC : Fld := ⟨0x3F02, 8, 0, 1, 0, 32, .ro, 0, [], 0, true⟩
def Safe.LOCK_SERIAL : Fld := ⟨0x3F02, 12, 0, 1, 0, 32, .ro, 0, [], 0, true⟩
def Safe.STATE : Fld := ⟨0x3F02, 16, 16, 8, 0, 3, .ro, 0, [], 0, false⟩
def Safe.TEST_DUE : Fld := ⟨0x3F02, 17, 16, 8, 1, 1, .ro, 0, [], 0, false⟩
def Safe.E_PEND : Fld := ⟨0x3F02, 17, 16, 8, 0, 1, .ro, 1, [], 0, false⟩
def Safe.L_CAUSE : Fld := ⟨0x3F02, 18, 16, 8, 0, 8, .ro, 0, [], 0, true⟩
def Safe.L_DETAIL : Fld := ⟨0x3F02, 19, 16, 8, 0, 8, .ro, 0, [], 0, true⟩
def Safe.TOKEN : Fld := ⟨0x3F02, 20, 16, 8, 0, 32, .ro, 0, [], 0, true⟩
def Safe.TEST_AGE_H : Fld := ⟨0x3F02, 24, 16, 8, 0, 16, .ro, 0, [], 0, true⟩
def Safe.DEMAND_CNT : Fld := ⟨0x3F02, 26, 16, 8, 0, 16, .ro, 0, [], 0, true⟩
def Safe.LOCK_CNT : Fld := ⟨0x3F02, 28, 16, 8, 0, 16, .ro, 0, [], 0, true⟩
def Safe.TP_TRANSIENT_CNT : Fld := ⟨0x3F02, 144, 0, 1, 0, 16, .ro, 0, [], 0, false⟩
def Safe.FEIDE_TRANSIENT_CNT : Fld := ⟨0x3F02, 146, 0, 1, 0, 16, .ro, 0, [], 0, false⟩
def Safe.SACK_SHORT_CNT : Fld := ⟨0x3F02, 148, 0, 1, 0, 16, .ro, 0, [], 0, false⟩
def Safe.FEIDE_DUP_CNT : Fld := ⟨0x3F02, 150, 0, 1, 0, 16, .ro, 0, [], 0, false⟩
def Safe.CONN_STATE : Fld := ⟨0x3F02, 152, 1, 16, 0, 2, .ro, 0, [], 0, false⟩
/-- The fields of Table 11.10. -/
def Safe.fields : List Fld :=
  [Safe.LAYOUT, Safe.ACK_STUCK, Safe.SSTAT, Safe.SACK, Safe.SIN_STATE, Safe.SIN_UNRES, Safe.CFG_CRC, Safe.LOCK_SERIAL, Safe.STATE, Safe.TEST_DUE, Safe.E_PEND, Safe.L_CAUSE, Safe.L_DETAIL, Safe.TOKEN, Safe.TEST_AGE_H, Safe.DEMAND_CNT, Safe.LOCK_CNT, Safe.TP_TRANSIENT_CNT, Safe.FEIDE_TRANSIENT_CNT, Safe.SACK_SHORT_CNT, Safe.FEIDE_DUP_CNT, Safe.CONN_STATE]

/-! Table 12.11, object 0x4F10 (12_crown_mailboxes.md). -/
def MbxCfg.LAYOUT : Fld := ⟨0x4F10, 0, 0, 1, 0, 8, .ro, 1, [], 0, false⟩
def MbxCfg.TRANSPORT : Fld := ⟨0x4F10, 4, 1, 16, 0, 3, .rw, 0, [], 0, true⟩
/-- The fields of Table 12.11. -/
def MbxCfg.fields : List Fld :=
  [MbxCfg.LAYOUT, MbxCfg.TRANSPORT]

/-! Table 12.12, object 0x4F11 (12_crown_mailboxes.md). -/
def HostStat.LAYOUT : Fld := ⟨0x4F11, 0, 0, 1, 0, 8, .ro, 1, [], 0, false⟩
def HostStat.LANES : Fld := ⟨0x4F11, 1, 0, 1, 0, 1, .ro, 0, [], 0, false⟩
def HostStat.FRAME_ERR_CNT : Fld := ⟨0x4F11, 2, 0, 1, 0, 16, .ro, 0, [], 0, false⟩
def HostStat.EPOCH : Fld := ⟨0x4F11, 4, 0, 1, 0, 32, .ro, 0, [], 0, true⟩
def HostStat.JSEQ_NEXT : Fld := ⟨0x4F11, 8, 0, 1, 0, 32, .ro, 0, [], 0, true⟩
def HostStat.OLDEST_JSEQ : Fld := ⟨0x4F11, 12, 0, 1, 0, 32, .ro, 0, [], 0, true⟩
def HostStat.CSEQ_NEXT : Fld := ⟨0x4F11, 16, 0, 1, 0, 32, .ro, 0, [], 0, true⟩
def HostStat.OLDEST_CSEQ : Fld := ⟨0x4F11, 20, 0, 1, 0, 32, .ro, 0, [], 0, true⟩
def HostStat.NEXT : Fld := ⟨0x4F11, 24, 8, 16, 0, 32, .ro, 0, [], 0, true⟩
def HostStat.QUEUED : Fld := ⟨0x4F11, 28, 8, 16, 0, 8, .ro, 0, [], 0, false⟩
def HostStat.PENDING : Fld := ⟨0x4F11, 29, 8, 16, 0, 8, .ro, 0, [], 0, false⟩
def HostStat.LOCKED : Fld := ⟨0x4F11, 30, 8, 16, 0, 1, .ro, 0, [], 0, false⟩
def HostStat.NGROUPS : Fld := ⟨0x4F11, 31, 8, 16, 0, 8, .ro, 0, [], 0, false⟩
/-- The fields of Table 12.12. -/
def HostStat.fields : List Fld :=
  [HostStat.LAYOUT, HostStat.LANES, HostStat.FRAME_ERR_CNT, HostStat.EPOCH, HostStat.JSEQ_NEXT, HostStat.OLDEST_JSEQ, HostStat.CSEQ_NEXT, HostStat.OLDEST_CSEQ, HostStat.NEXT, HostStat.QUEUED, HostStat.PENDING, HostStat.LOCKED, HostStat.NGROUPS]

/-! Table 14.2, object 0x4F20 (14_can_and_hatband.md). -/
def CanCfg.LAYOUT : Fld := ⟨0x4F20, 0, 0, 1, 0, 8, .ro, 1, [], 0, false⟩
def CanCfg.MBX_IDE : Fld := ⟨0x4F20, 1, 0, 1, 4, 1, .rw, 0, [], 0, true⟩
def CanCfg.MBX_BRS : Fld := ⟨0x4F20, 1, 0, 1, 3, 1, .rw, 1, [], 0, true⟩
def CanCfg.AUTO_REC : Fld := ⟨0x4F20, 1, 0, 1, 2, 1, .rw, 1, [], 0, true⟩
def CanCfg.MODE : Fld := ⟨0x4F20, 1, 0, 1, 0, 2, .rw, 0, [], 0, true⟩
def CanCfg.STATUS_MS : Fld := ⟨0x4F20, 2, 0, 1, 0, 16, .rw, 0, [], 0, true⟩
def CanCfg.NBRP : Fld := ⟨0x4F20, 4, 0, 1, 0, 8, .rw, 2, [], 0, true⟩
def CanCfg.NSJW : Fld := ⟨0x4F20, 5, 0, 1, 0, 8, .rw, 0x18, [], 0, true⟩
def CanCfg.NTSEG1 : Fld := ⟨0x4F20, 6, 0, 1, 0, 16, .rw, 0x5f, [], 0, true⟩
def CanCfg.NTSEG2 : Fld := ⟨0x4F20, 8, 0, 1, 0, 8, .rw, 0x18, [], 0, true⟩
def CanCfg.DBRP : Fld := ⟨0x4F20, 9, 0, 1, 0, 8, .rw, 1, [], 0, true⟩
def CanCfg.DTSEG1 : Fld := ⟨0x4F20, 10, 0, 1, 0, 8, .rw, 0x17, [], 0, true⟩
def CanCfg.DTSEG2 : Fld := ⟨0x4F20, 11, 0, 1, 0, 8, .rw, 6, [], 0, true⟩
def CanCfg.DSJW : Fld := ⟨0x4F20, 12, 0, 1, 0, 8, .rw, 6, [], 0, true⟩
def CanCfg.TDCO : Fld := ⟨0x4F20, 13, 0, 1, 0, 8, .rw, 0x18, [], 0, true⟩
def CanCfg.MBX_REQ_ID : Fld := ⟨0x4F20, 16, 0, 1, 0, 32, .rw, 0x600, [], 1, true⟩
def CanCfg.MBX_RESP_ID : Fld := ⟨0x4F20, 20, 0, 1, 0, 32, .rw, 0x680, [], 1, true⟩
def CanCfg.STATUS_ID : Fld := ⟨0x4F20, 24, 0, 1, 0, 32, .rw, 0x7f0, [], 0, true⟩
def CanCfg.MIRROR : Fld := ⟨0x4F20, 32, 4, 32, 5, 3, .rw, 0, [], 0, true⟩
def CanCfg.UNLIM : Fld := ⟨0x4F20, 32, 4, 32, 4, 1, .rw, 0, [], 0, true⟩
def CanCfg.RETRY : Fld := ⟨0x4F20, 32, 4, 32, 0, 4, .rw, 0xf, [], 0, true⟩
/-- The fields of Table 14.2. -/
def CanCfg.fields : List Fld :=
  [CanCfg.LAYOUT, CanCfg.MBX_IDE, CanCfg.MBX_BRS, CanCfg.AUTO_REC, CanCfg.MODE, CanCfg.STATUS_MS, CanCfg.NBRP, CanCfg.NSJW, CanCfg.NTSEG1, CanCfg.NTSEG2, CanCfg.DBRP, CanCfg.DTSEG1, CanCfg.DTSEG2, CanCfg.DSJW, CanCfg.TDCO, CanCfg.MBX_REQ_ID, CanCfg.MBX_RESP_ID, CanCfg.STATUS_ID, CanCfg.MIRROR, CanCfg.UNLIM, CanCfg.RETRY]

/-! Table 14.3, object 0x4F28 (14_can_and_hatband.md). -/
def CanStat.LAYOUT : Fld := ⟨0x4F28, 0, 0, 1, 0, 8, .ro, 1, [], 0, false⟩
def CanStat.RECOVER : Fld := ⟨0x4F28, 1, 0, 1, 3, 1, .wo, 0, [], 0, false⟩
def CanStat.WARN : Fld := ⟨0x4F28, 1, 0, 1, 2, 1, .ro, 0, [], 0, false⟩
def CanStat.ESTATE : Fld := ⟨0x4F28, 1, 0, 1, 0, 2, .ro, 0, [], 0, false⟩
def CanStat.TEC : Fld := ⟨0x4F28, 2, 0, 1, 0, 8, .ro, 0, [], 0, false⟩
def CanStat.REC : Fld := ⟨0x4F28, 3, 0, 1, 0, 8, .ro, 0, [], 0, false⟩
def CanStat.HOLD : Fld := ⟨0x4F28, 4, 0, 1, 0, 32, .w1c, 0, [], 0, false⟩
def CanStat.BUSOFF_CNT : Fld := ⟨0x4F28, 8, 0, 1, 0, 16, .ro, 0, [], 0, false⟩
def CanStat.DROP_CNT : Fld := ⟨0x4F28, 10, 0, 1, 0, 16, .ro, 0, [], 0, false⟩
def CanStat.ID_COLLIDE_CNT : Fld := ⟨0x4F28, 12, 0, 1, 0, 16, .ro, 0, [], 0, false⟩
def CanStat.FIFO0_DROP : Fld := ⟨0x4F28, 14, 0, 1, 0, 16, .ro, 0, [], 0, false⟩
def CanStat.FIFO1_DROP : Fld := ⟨0x4F28, 16, 0, 1, 0, 16, .ro, 0, [], 0, false⟩
def CanStat.SEG_DROP_CNT : Fld := ⟨0x4F28, 18, 0, 1, 0, 16, .ro, 0, [], 0, false⟩
def CanStat.MIRROR_CNT : Fld := ⟨0x4F28, 20, 0, 1, 0, 16, .ro, 0, [], 0, false⟩
def CanStat.LAST_TX_SOF : Fld := ⟨0x4F28, 24, 0, 1, 0, 64, .ro, 0, [], 0, false⟩
def CanStat.LAST_RX_SOF : Fld := ⟨0x4F28, 32, 0, 1, 0, 64, .ro, 0, [], 0, false⟩
/-- The fields of Table 14.3. -/
def CanStat.fields : List Fld :=
  [CanStat.LAYOUT, CanStat.RECOVER, CanStat.WARN, CanStat.ESTATE, CanStat.TEC, CanStat.REC, CanStat.HOLD, CanStat.BUSOFF_CNT, CanStat.DROP_CNT, CanStat.ID_COLLIDE_CNT, CanStat.FIFO0_DROP, CanStat.FIFO1_DROP, CanStat.SEG_DROP_CNT, CanStat.MIRROR_CNT, CanStat.LAST_TX_SOF, CanStat.LAST_RX_SOF]

/-! Table 14.7, object 0x4F30 (14_can_and_hatband.md). -/
def HbCfg.LAYOUT : Fld := ⟨0x4F30, 0, 0, 1, 0, 8, .ro, 1, [], 0, false⟩
def HbCfg.ROLE_B : Fld := ⟨0x4F30, 1, 0, 1, 2, 2, .rw, 0, [], 0, true⟩
def HbCfg.ROLE_A : Fld := ⟨0x4F30, 1, 0, 1, 0, 2, .rw, 0, [], 0, true⟩
def HbCfg.TX_INV : Fld := ⟨0x4F30, 2, 0, 1, 4, 4, .rw, 0, [], 0, true⟩
def HbCfg.RX_INV : Fld := ⟨0x4F30, 2, 0, 1, 0, 4, .rw, 0, [], 0, true⟩
/-- The fields of Table 14.7. -/
def HbCfg.fields : List Fld :=
  [HbCfg.LAYOUT, HbCfg.ROLE_B, HbCfg.ROLE_A, HbCfg.TX_INV, HbCfg.RX_INV]

/-! Table 14.8, object 0x4F31 (14_can_and_hatband.md). -/
def HbStat.LAYOUT : Fld := ⟨0x4F31, 0, 0, 1, 0, 8, .ro, 1, [], 0, false⟩
def HbStat.LINK : Fld := ⟨0x4F31, 1, 0, 1, 0, 2, .ro, 0, [], 0, false⟩
def HbStat.CREDITS : Fld := ⟨0x4F31, 2, 0, 1, 0, 8, .ro, 0x10, [], 0, false⟩
def HbStat.HB_MISS : Fld := ⟨0x4F31, 3, 0, 1, 0, 8, .ro, 0, [], 0, false⟩
def HbStat.PEER_UNIT_ID : Fld := ⟨0x4F31, 4, 0, 1, 0, 64, .ro, 0, [], 0, false⟩
def HbStat.PEER_ROLE : Fld := ⟨0x4F31, 12, 0, 1, 0, 8, .ro, 0, [], 0, false⟩
def HbStat.PEER_PAIR_ID : Fld := ⟨0x4F31, 13, 0, 1, 0, 8, .ro, 0, [], 0, false⟩
def HbStat.TRANSIENT_CNT : Fld := ⟨0x4F31, 16, 0, 1, 0, 16, .ro, 0, [], 0, false⟩
def HbStat.LASTING_CNT : Fld := ⟨0x4F31, 18, 0, 1, 0, 16, .ro, 0, [], 0, false⟩
def HbStat.SKIP_CNT : Fld := ⟨0x4F31, 20, 0, 1, 0, 16, .ro, 0, [], 0, false⟩
def HbStat.CR_TIMEOUT_CNT : Fld := ⟨0x4F31, 22, 0, 1, 0, 16, .ro, 0, [], 0, false⟩
def HbStat.MSG_DISCARD_CNT : Fld := ⟨0x4F31, 24, 0, 1, 0, 16, .ro, 0, [], 0, false⟩
def HbStat.LINK_UP_CNT : Fld := ⟨0x4F31, 26, 0, 1, 0, 16, .ro, 0, [], 0, false⟩
/-- The fields of Table 14.8. -/
def HbStat.fields : List Fld :=
  [HbStat.LAYOUT, HbStat.LINK, HbStat.CREDITS, HbStat.HB_MISS, HbStat.PEER_UNIT_ID, HbStat.PEER_ROLE, HbStat.PEER_PAIR_ID, HbStat.TRANSIENT_CNT, HbStat.LASTING_CNT, HbStat.SKIP_CNT, HbStat.CR_TIMEOUT_CNT, HbStat.MSG_DISCARD_CNT, HbStat.LINK_UP_CNT]

/-! Table 15.6, object 0x4F40 (15_redundant_pair.md). -/
def PairCfg.LAYOUT : Fld := ⟨0x4F40, 0, 0, 1, 0, 8, .ro, 1, [], 0, false⟩
def PairCfg.PAIR_PORT : Fld := ⟨0x4F40, 1, 0, 1, 2, 1, .rw, 0, [], 0, true⟩
def PairCfg.HANDOVER : Fld := ⟨0x4F40, 1, 0, 1, 1, 1, .wo, 0, [], 0, false⟩
def PairCfg.EN : Fld := ⟨0x4F40, 1, 0, 1, 0, 1, .rw, 0, [], 0, true⟩
def PairCfg.MBX_SCOPE : Fld := ⟨0x4F40, 4, 0, 1, 0, 32, .rw, 0, [], 0, true⟩
/-- The fields of Table 15.6. -/
def PairCfg.fields : List Fld :=
  [PairCfg.LAYOUT, PairCfg.PAIR_PORT, PairCfg.HANDOVER, PairCfg.EN, PairCfg.MBX_SCOPE]

/-! Table 15.7, object 0x4F41 (15_redundant_pair.md). -/
def PairStat.LAYOUT : Fld := ⟨0x4F41, 0, 0, 1, 0, 8, .ro, 1, [], 0, false⟩
def PairStat.SYNC : Fld := ⟨0x4F41, 1, 0, 1, 4, 2, .ro, 0, [], 0, false⟩
def PairStat.PAIR_ID : Fld := ⟨0x4F41, 1, 0, 1, 3, 1, .ro, 0, [], 0, false⟩
def PairStat.ROLE : Fld := ⟨0x4F41, 1, 0, 1, 0, 3, .ro, 0, [], 0, false⟩
def PairStat.SCOPE_CLASH : Fld := ⟨0x4F41, 2, 0, 1, 2, 1, .ro, 0, [], 0, false⟩
def PairStat.PAIR_ID_CLASH : Fld := ⟨0x4F41, 2, 0, 1, 1, 1, .ro, 0, [], 0, false⟩
def PairStat.PA_IN : Fld := ⟨0x4F41, 2, 0, 1, 0, 1, .ro, 0, [], 0, false⟩
def PairStat.TAKEOVER_CNT : Fld := ⟨0x4F41, 4, 0, 1, 0, 16, .ro, 0, [], 0, true⟩
def PairStat.HANDOVER_CNT : Fld := ⟨0x4F41, 6, 0, 1, 0, 16, .ro, 0, [], 0, true⟩
def PairStat.SPLIT_CNT : Fld := ⟨0x4F41, 8, 0, 1, 0, 16, .ro, 0, [], 0, true⟩
def PairStat.HB_ONLY_CNT : Fld := ⟨0x4F41, 10, 0, 1, 0, 16, .ro, 0, [], 0, false⟩
def PairStat.PA_ONLY_CNT : Fld := ⟨0x4F41, 12, 0, 1, 0, 16, .ro, 0, [], 0, false⟩
def PairStat.HASH_TRANSIENT_CNT : Fld := ⟨0x4F41, 14, 0, 1, 0, 16, .ro, 0, [], 0, false⟩
def PairStat.HASH_LASTING_CNT : Fld := ⟨0x4F41, 16, 0, 1, 0, 16, .ro, 0, [], 0, false⟩
def PairStat.EXEC_DIFF_CNT : Fld := ⟨0x4F41, 18, 0, 1, 0, 16, .ro, 0, [], 0, false⟩
def PairStat.RESYNC_CNT : Fld := ⟨0x4F41, 20, 0, 1, 0, 16, .ro, 0, [], 0, false⟩
def PairStat.ALIGN_MAX : Fld := ⟨0x4F41, 24, 0, 1, 0, 32, .rc, 0, [], 0, false⟩
def PairStat.TB_OFFSET : Fld := ⟨0x4F41, 28, 0, 1, 0, 32, .ro, 0, [], 0, false⟩
def PairStat.ROLE_TIME : Fld := ⟨0x4F41, 32, 0, 1, 0, 64, .ro, 0, [], 0, false⟩
/-- The fields of Table 15.7. -/
def PairStat.fields : List Fld :=
  [PairStat.LAYOUT, PairStat.SYNC, PairStat.PAIR_ID, PairStat.ROLE, PairStat.SCOPE_CLASH, PairStat.PAIR_ID_CLASH, PairStat.PA_IN, PairStat.TAKEOVER_CNT, PairStat.HANDOVER_CNT, PairStat.SPLIT_CNT, PairStat.HB_ONLY_CNT, PairStat.PA_ONLY_CNT, PairStat.HASH_TRANSIENT_CNT, PairStat.HASH_LASTING_CNT, PairStat.EXEC_DIFF_CNT, PairStat.RESYNC_CNT, PairStat.ALIGN_MAX, PairStat.TB_OFFSET, PairStat.ROLE_TIME]

/-! Table 17.6, object 0x5F00 (17_power_and_holdup.md). -/
def PowCfg.LAYOUT : Fld := ⟨0x5F00, 0, 0, 1, 0, 8, .ro, 1, [], 0, false⟩
def PowCfg.WAKE_EN : Fld := ⟨0x5F00, 1, 0, 1, 4, 4, .rw, 0, [], 0, true⟩
def PowCfg.WAKE_CAN : Fld := ⟨0x5F00, 1, 0, 1, 3, 1, .rw, 0, [], 0, true⟩
def PowCfg.WAKE_RTC : Fld := ⟨0x5F00, 1, 0, 1, 2, 1, .rw, 0, [], 0, true⟩
def PowCfg.HARV_KEEP : Fld := ⟨0x5F00, 1, 0, 1, 1, 1, .rw, 1, [], 0, true⟩
def PowCfg.HARV_EN : Fld := ⟨0x5F00, 1, 0, 1, 0, 1, .rw, 0, [], 0, true⟩
def PowCfg.CHG_MA : Fld := ⟨0x5F00, 2, 0, 1, 0, 16, .rw, 0xc8, [], 0, true⟩
def PowCfg.MEAS_S : Fld := ⟨0x5F00, 4, 0, 1, 0, 16, .rw, 0, [], 0, true⟩
def PowCfg.MEAS_CH : Fld := ⟨0x5F00, 6, 0, 1, 0, 3, .rw, 0, [], 0, true⟩
def PowCfg.WAKE3_TAMPER : Fld := ⟨0x5F00, 7, 0, 1, 0, 1, .rw, 0, [], 0, true⟩
def PowCfg.TH : Fld := ⟨0x5F00, 8, 4, 4, 0, 8, .rw, 0x78, [], 0, true⟩
def PowCfg.POL : Fld := ⟨0x5F00, 9, 4, 4, 0, 1, .rw, 0, [], 0, true⟩
def PowCfg.DEB : Fld := ⟨0x5F00, 10, 4, 4, 0, 8, .rw, 3, [], 0, true⟩
def PowCfg.WAKE_IDE : Fld := ⟨0x5F00, 24, 0, 1, 31, 1, .rw, 0, [], 0, true⟩
def PowCfg.WAKE_ID : Fld := ⟨0x5F00, 24, 0, 1, 0, 29, .rw, 0x7f1, [], 0, true⟩
def PowCfg.RTC_ALARM : Fld := ⟨0x5F00, 28, 0, 1, 0, 64, .rw, 0, [], 0, true⟩
/-- The fields of Table 17.6. -/
def PowCfg.fields : List Fld :=
  [PowCfg.LAYOUT, PowCfg.WAKE_EN, PowCfg.WAKE_CAN, PowCfg.WAKE_RTC, PowCfg.HARV_KEEP, PowCfg.HARV_EN, PowCfg.CHG_MA, PowCfg.MEAS_S, PowCfg.MEAS_CH, PowCfg.WAKE3_TAMPER, PowCfg.TH, PowCfg.POL, PowCfg.DEB, PowCfg.WAKE_IDE, PowCfg.WAKE_ID, PowCfg.RTC_ALARM]

/-! Table 17.7, object 0x5F01 (17_power_and_holdup.md). -/
def PowStat.LAYOUT : Fld := ⟨0x5F01, 0, 0, 1, 0, 8, .ro, 1, [], 0, false⟩
def PowStat.TAMPER_SEEN : Fld := ⟨0x5F01, 1, 0, 1, 2, 1, .ro, 0, [], 0, true⟩
def PowStat.BAT_LOW : Fld := ⟨0x5F01, 1, 0, 1, 1, 1, .ro, 0, [], 0, false⟩
def PowStat.RUN_OK : Fld := ⟨0x5F01, 1, 0, 1, 0, 1, .ro, 0, [], 0, false⟩
def PowStat.LULL_CAUSE : Fld := ⟨0x5F01, 2, 0, 1, 0, 8, .ro, 0, [], 0, true⟩
def PowStat.WAKE_SRC : Fld := ⟨0x5F01, 3, 0, 1, 0, 8, .ro, 0, [], 0, true⟩
def PowStat.VIN_AUX_MV : Fld := ⟨0x5F01, 4, 0, 1, 0, 16, .ro, 0, [], 0, false⟩
def PowStat.VSTORE_MV : Fld := ⟨0x5F01, 6, 0, 1, 0, 16, .ro, 0, [], 0, false⟩
def PowStat.HV_HARV_MV : Fld := ⟨0x5F01, 8, 0, 1, 0, 16, .ro, 0, [], 0, false⟩
def PowStat.VBAT_MV : Fld := ⟨0x5F01, 10, 0, 1, 0, 16, .ro, 0, [], 0, false⟩
def PowStat.STORE_MJ : Fld := ⟨0x5F01, 12, 0, 1, 0, 32, .ro, 0, [], 0, false⟩
def PowStat.LEVEL : Fld := ⟨0x5F01, 16, 0, 1, 0, 3, .ro, 0, [], 0, false⟩
def PowStat.CHARGER : Fld := ⟨0x5F01, 17, 0, 1, 0, 8, .ro, 0, [], 0, false⟩
def PowStat.IDLE_WAKE : Fld := ⟨0x5F01, 18, 0, 1, 0, 8, .w1c, 0, [], 0, false⟩
def PowStat.BROWNOUT_CNT : Fld := ⟨0x5F01, 20, 0, 1, 0, 16, .ro, 0, [], 0, true⟩
def PowStat.MEAS_GRANT_CNT : Fld := ⟨0x5F01, 22, 0, 1, 0, 16, .ro, 0, [], 0, true⟩
def PowStat.MEAS_DENY_CNT : Fld := ⟨0x5F01, 24, 0, 1, 0, 16, .ro, 0, [], 0, true⟩
def PowStat.TX_GRANT_CNT : Fld := ⟨0x5F01, 26, 0, 1, 0, 16, .ro, 0, [], 0, true⟩
def PowStat.TX_DENY_CNT : Fld := ⟨0x5F01, 28, 0, 1, 0, 16, .ro, 0, [], 0, true⟩
def PowStat.TX_CUT_CNT : Fld := ⟨0x5F01, 30, 0, 1, 0, 16, .ro, 0, [], 0, true⟩
def PowStat.WAKE_DENY_CNT : Fld := ⟨0x5F01, 32, 0, 1, 0, 16, .ro, 0, [], 0, true⟩
def PowStat.TAMPER_CNT : Fld := ⟨0x5F01, 34, 0, 1, 0, 16, .ro, 0, [], 0, true⟩
def PowStat.TAMPER_ACK : Fld := ⟨0x5F01, 36, 0, 1, 0, 16, .rw, 0, [], 0, true⟩
def PowStat.HELD_S : Fld := ⟨0x5F01, 40, 0, 1, 0, 32, .ro, 0, [], 0, true⟩
def PowStat.TAMPER_RTC : Fld := ⟨0x5F01, 48, 0, 1, 0, 64, .ro, 0, [], 0, true⟩
/-- The fields of Table 17.7. -/
def PowStat.fields : List Fld :=
  [PowStat.LAYOUT, PowStat.TAMPER_SEEN, PowStat.BAT_LOW, PowStat.RUN_OK, PowStat.LULL_CAUSE, PowStat.WAKE_SRC, PowStat.VIN_AUX_MV, PowStat.VSTORE_MV, PowStat.HV_HARV_MV, PowStat.VBAT_MV, PowStat.STORE_MJ, PowStat.LEVEL, PowStat.CHARGER, PowStat.IDLE_WAKE, PowStat.BROWNOUT_CNT, PowStat.MEAS_GRANT_CNT, PowStat.MEAS_DENY_CNT, PowStat.TX_GRANT_CNT, PowStat.TX_DENY_CNT, PowStat.TX_CUT_CNT, PowStat.WAKE_DENY_CNT, PowStat.TAMPER_CNT, PowStat.TAMPER_ACK, PowStat.HELD_S, PowStat.TAMPER_RTC]

/-! Table 17.8, object 0x5F02 (17_power_and_holdup.md). -/
def StoreFuse.LAYOUT : Fld := ⟨0x5F02, 0, 0, 1, 0, 8, .ro, 1, [], 0, false⟩
def StoreFuse.FUSED : Fld := ⟨0x5F02, 1, 0, 1, 0, 1, .ro, 0, [], 0, false⟩
def StoreFuse.C_MIN_MF : Fld := ⟨0x5F02, 2, 0, 1, 0, 16, .ro, 0, [], 0, false⟩
def StoreFuse.C_MAX_MF : Fld := ⟨0x5F02, 4, 0, 1, 0, 16, .ro, 0x4e20, [], 0, false⟩
def StoreFuse.V_CEIL_MV : Fld := ⟨0x5F02, 6, 0, 1, 0, 16, .ro, 0xdf, [], 0, false⟩
def StoreFuse.E_CEIL_MJ : Fld := ⟨0x5F02, 8, 0, 1, 0, 32, .ro, 0x1f4, [], 0, false⟩
/-- The fields of Table 17.8. -/
def StoreFuse.fields : List Fld :=
  [StoreFuse.LAYOUT, StoreFuse.FUSED, StoreFuse.C_MIN_MF, StoreFuse.C_MAX_MF, StoreFuse.V_CEIL_MV, StoreFuse.E_CEIL_MJ]

/-! Table 17.9, object 0x5F03 (17_power_and_holdup.md). -/
def Rtc.LAYOUT : Fld := ⟨0x5F03, 0, 0, 1, 0, 8, .ro, 1, [], 0, false⟩
def Rtc.RTC_INVALID : Fld := ⟨0x5F03, 1, 0, 1, 0, 1, .ro, 0, [], 0, false⟩
def Rtc.RTC : Fld := ⟨0x5F03, 8, 0, 1, 0, 64, .ro, 0, [], 0, false⟩
def Rtc.RTC_OFFSET : Fld := ⟨0x5F03, 16, 0, 1, 0, 64, .ro, 0, [], 0, true⟩
def Rtc.RTC_SET : Fld := ⟨0x5F03, 24, 0, 1, 0, 64, .wo, 0, [], 0, false⟩
/-- The fields of Table 17.9. -/
def Rtc.fields : List Fld :=
  [Rtc.LAYOUT, Rtc.RTC_INVALID, Rtc.RTC, Rtc.RTC_OFFSET, Rtc.RTC_SET]

/-! Table 18.10, object 0x6F00 (18_lifecycle_and_update.md). -/
def Life.LAYOUT : Fld := ⟨0x6F00, 0, 0, 1, 0, 8, .ro, 1, [], 0, false⟩
def Life.LIFECYCLE : Fld := ⟨0x6F00, 1, 0, 1, 0, 2, .ro, 1, [], 0, false⟩
def Life.DEBUG_OPEN : Fld := ⟨0x6F00, 2, 0, 1, 5, 1, .ro, 0, [], 0, false⟩
def Life.STORE : Fld := ⟨0x6F00, 2, 0, 1, 4, 1, .ro, 0, [], 0, false⟩
def Life.BIND_REQUIRED : Fld := ⟨0x6F00, 2, 0, 1, 3, 1, .ro, 0, [], 0, false⟩
def Life.BILL_KEY : Fld := ⟨0x6F00, 2, 0, 1, 2, 1, .ro, 0, [], 0, false⟩
def Life.DEBUG_KEY : Fld := ⟨0x6F00, 2, 0, 1, 1, 1, .ro, 0, [], 0, false⟩
def Life.OEM_KEY : Fld := ⟨0x6F00, 2, 0, 1, 0, 1, .ro, 0, [], 0, false⟩
def Life.SEC_FLOOR : Fld := ⟨0x6F00, 3, 0, 1, 0, 8, .ro, 0, [], 0, false⟩
def Life.LC_NONCE : Fld := ⟨0x6F00, 8, 0, 1, 0, 64, .ro, 0, [], 0, false⟩
def Life.UNIT_ID : Fld := ⟨0x6F00, 16, 0, 1, 0, 64, .ro, 0, [], 0, false⟩
/-- The fields of Table 18.10. -/
def Life.fields : List Fld :=
  [Life.LAYOUT, Life.LIFECYCLE, Life.DEBUG_OPEN, Life.STORE, Life.BIND_REQUIRED, Life.BILL_KEY, Life.DEBUG_KEY, Life.OEM_KEY, Life.SEC_FLOOR, Life.LC_NONCE, Life.UNIT_ID]

/-! Table 18.11, object 0x6F01 (18_lifecycle_and_update.md). -/
def Fw.LAYOUT : Fld := ⟨0x6F01, 0, 0, 1, 0, 8, .ro, 1, [], 0, false⟩
def Fw.RUN_BANK : Fld := ⟨0x6F01, 1, 0, 1, 3, 1, .ro, 0, [], 0, true⟩
def Fw.INACT_STATE : Fld := ⟨0x6F01, 1, 0, 1, 0, 3, .ro, 0, [], 0, true⟩
def Fw.LAST_REJECT : Fld := ⟨0x6F01, 2, 0, 1, 0, 8, .ro, 0, [], 0, true⟩
def Fw.BOOT_FAIL : Fld := ⟨0x6F01, 3, 0, 1, 0, 8, .ro, 0, [], 0, true⟩
/-- Version of the firmware that runs. Table 18.11 gives no Reset value: for the delivered firmware the model takes release line 1, build 0 (DESIGN CHOICE, log entry 54). -/
def Fw.RUN_VERSION : Fld := ⟨0x6F01, 4, 0, 1, 0, 32, .ro, 0x1000000, [], 0, false⟩
def Fw.INACT_VERSION : Fld := ⟨0x6F01, 8, 0, 1, 0, 32, .ro, 0, [], 0, true⟩
/-- SEC_VERSION of the firmware that runs: for the delivered firmware the model takes 0 (DESIGN CHOICE, log entry 54). -/
def Fw.RUN_SEC : Fld := ⟨0x6F01, 12, 0, 1, 0, 8, .ro, 0, [], 0, false⟩
def Fw.INACT_SEC : Fld := ⟨0x6F01, 13, 0, 1, 0, 8, .ro, 0, [], 0, true⟩
def Fw.ACTIVATE_CNT : Fld := ⟨0x6F01, 16, 0, 1, 0, 16, .ro, 0, [], 0, true⟩
def Fw.FALLBACK_CNT : Fld := ⟨0x6F01, 18, 0, 1, 0, 16, .ro, 0, [], 0, true⟩
def Fw.MIGRATE_CNT : Fld := ⟨0x6F01, 20, 0, 1, 0, 16, .ro, 0, [], 0, false⟩
def Fw.DEFAULTED_CNT : Fld := ⟨0x6F01, 22, 0, 1, 0, 16, .ro, 0, [], 0, false⟩
/-- The fields of Table 18.11. -/
def Fw.fields : List Fld :=
  [Fw.LAYOUT, Fw.RUN_BANK, Fw.INACT_STATE, Fw.LAST_REJECT, Fw.BOOT_FAIL, Fw.RUN_VERSION, Fw.INACT_VERSION, Fw.RUN_SEC, Fw.INACT_SEC, Fw.ACTIVATE_CNT, Fw.FALLBACK_CNT, Fw.MIGRATE_CNT, Fw.DEFAULTED_CNT]

/-! Table 18.12, object 0x6F02 (18_lifecycle_and_update.md). -/
def Dist.LAYOUT : Fld := ⟨0x6F02, 0, 0, 1, 0, 8, .ro, 1, [], 0, false⟩
def Dist.ACCEPT_BATT : Fld := ⟨0x6F02, 1, 0, 1, 1, 1, .rw, 0, [], 0, true⟩
def Dist.ACCEPT_FW : Fld := ⟨0x6F02, 1, 0, 1, 0, 1, .rw, 0, [], 0, true⟩
def Dist.SEND_KIND : Fld := ⟨0x6F02, 2, 0, 1, 0, 1, .rw, 0, [], 0, false⟩
def Dist.SEND_SLOT : Fld := ⟨0x6F02, 3, 0, 1, 0, 8, .rw, 0, [], 0, false⟩
def Dist.START : Fld := ⟨0x6F02, 4, 0, 1, 0, 1, .wo, 0, [], 0, false⟩
def Dist.XFER_STATE : Fld := ⟨0x6F02, 5, 0, 1, 0, 8, .ro, 0, [], 0, false⟩
def Dist.XFER_BLOCKS : Fld := ⟨0x6F02, 6, 0, 1, 0, 16, .ro, 0, [], 0, false⟩
def Dist.XFER_ID : Fld := ⟨0x6F02, 8, 0, 1, 0, 32, .ro, 0, [], 0, false⟩
def Dist.XFER_TRANSIENT_CNT : Fld := ⟨0x6F02, 12, 0, 1, 0, 16, .ro, 0, [], 0, false⟩
def Dist.XFER_ABANDON_CNT : Fld := ⟨0x6F02, 14, 0, 1, 0, 16, .ro, 0, [], 0, false⟩
def Dist.PASS_CNT : Fld := ⟨0x6F02, 16, 0, 1, 0, 16, .ro, 0, [], 0, false⟩
/-- The fields of Table 18.12. -/
def Dist.fields : List Fld :=
  [Dist.LAYOUT, Dist.ACCEPT_BATT, Dist.ACCEPT_FW, Dist.SEND_KIND, Dist.SEND_SLOT, Dist.START, Dist.XFER_STATE, Dist.XFER_BLOCKS, Dist.XFER_ID, Dist.XFER_TRANSIENT_CNT, Dist.XFER_ABANDON_CNT, Dist.PASS_CNT]

/-! Table 16.3, object 0x7F10 (16_fabric_and_memory.md). -/
def Fabric.LAYOUT : Fld := ⟨0x7F10, 0, 0, 1, 0, 8, .ro, 1, [], 0, false⟩
def Fabric.CLASS : Fld := ⟨0x7F10, 2, 1, 15, 0, 2, .rw, 0, [1, 0, 0, 0, 0, 0, 0, 0, 0, 0, 2, 2, 1, 3, 3], 0, true⟩
/-- The fields of Table 16.3. -/
def Fabric.fields : List Fld :=
  [Fabric.LAYOUT, Fabric.CLASS]

/-! Table 16.4, object 0x7F11 (16_fabric_and_memory.md). -/
def MemStat.LAYOUT : Fld := ⟨0x7F11, 0, 0, 1, 0, 8, .ro, 1, [], 0, false⟩
def MemStat.POOL_EMPTY : Fld := ⟨0x7F11, 1, 0, 1, 1, 1, .ro, 0, [], 0, true⟩
def MemStat.SCRUB_LATE : Fld := ⟨0x7F11, 1, 0, 1, 0, 1, .ro, 0, [], 0, true⟩
def MemStat.SPARES_LEFT : Fld := ⟨0x7F11, 2, 0, 1, 0, 16, .ro, 0x6400, [], 0, true⟩
def MemStat.MRAM_TRANSIENT_CNT : Fld := ⟨0x7F11, 4, 0, 1, 0, 32, .ro, 0, [], 0, true⟩
def MemStat.RETIRE_CNT : Fld := ⟨0x7F11, 8, 0, 1, 0, 32, .ro, 0, [], 0, true⟩
def MemStat.SRAM_CORR_CNT : Fld := ⟨0x7F11, 12, 0, 1, 0, 32, .ro, 0, [], 0, false⟩
def MemStat.SRAM_UNCORR_CNT : Fld := ⟨0x7F11, 16, 0, 1, 0, 16, .ro, 0, [], 0, false⟩
def MemStat.WITHDRAW_CNT : Fld := ⟨0x7F11, 18, 0, 1, 0, 16, .ro, 0, [], 0, false⟩
def MemStat.SCRUB_POS : Fld := ⟨0x7F11, 20, 0, 1, 0, 32, .ro, 0, [], 0, true⟩
def MemStat.PASS_START_RTC : Fld := ⟨0x7F11, 24, 0, 1, 0, 64, .ro, 0, [], 0, true⟩
def MemStat.LAST_RETIRED : Fld := ⟨0x7F11, 32, 0, 1, 0, 32, .ro, 0xffffffff, [], 0, true⟩
/-- The fields of Table 16.4. -/
def MemStat.fields : List Fld :=
  [MemStat.LAYOUT, MemStat.POOL_EMPTY, MemStat.SCRUB_LATE, MemStat.SPARES_LEFT, MemStat.MRAM_TRANSIENT_CNT, MemStat.RETIRE_CNT, MemStat.SRAM_CORR_CNT, MemStat.SRAM_UNCORR_CNT, MemStat.WITHDRAW_CNT, MemStat.SCRUB_POS, MemStat.PASS_START_RTC, MemStat.LAST_RETIRED]

/-! Table 19.17, object 0x7F12 (19_pins_and_electrical.md). -/
def Package.LAYOUT : Fld := ⟨0x7F12, 0, 0, 1, 0, 8, .ro, 1, [], 0, false⟩
def Package.PAIR_ID : Fld := ⟨0x7F12, 1, 0, 1, 4, 1, .ro, 0, [], 0, false⟩
def Package.NID : Fld := ⟨0x7F12, 1, 0, 1, 0, 4, .ro, 0, [], 0, false⟩
def Package.TJ_CTRL : Fld := ⟨0x7F12, 2, 0, 1, 0, 16, .ro, 0, [], 0, false⟩
def Package.TJ_BCD : Fld := ⟨0x7F12, 4, 0, 1, 0, 16, .ro, 0, [], 0, false⟩
def Package.TJ_PEAK : Fld := ⟨0x7F12, 6, 0, 1, 0, 16, .ro, 0, [], 0, true⟩
def Package.TJ_LIFE_AVG : Fld := ⟨0x7F12, 8, 0, 1, 0, 16, .ro, 0, [], 0, true⟩
def Package.THERM_CNT : Fld := ⟨0x7F12, 10, 0, 1, 0, 16, .ro, 0, [], 0, true⟩
def Package.RUN_HOURS : Fld := ⟨0x7F12, 12, 0, 1, 0, 32, .ro, 0, [], 0, true⟩
/-- The fields of Table 19.17. -/
def Package.fields : List Fld :=
  [Package.LAYOUT, Package.PAIR_ID, Package.NID, Package.TJ_CTRL, Package.TJ_BCD, Package.TJ_PEAK, Package.TJ_LIFE_AVG, Package.THERM_CNT, Package.RUN_HOURS]

end Sys2Proof.Machine.Reg
end

