-- ==== Sys2Proof/Machine/State.lean ====
section
/-! DEFINITION. The state of the device: the object registers, the state that no object holds, and what the model adds to run (time, reports, free-value counter, the queue). -/

namespace Sys2Proof.Machine

/-- Reasons a step faults. The device has no fault: every condition of the spec is a next state. -/
inductive Fault where
  /-- Raised by no command: the type is closed and holds one name because the interface asks for one. Safe. -/
  | none
deriving DecidableEq, Repr

/-- Reasons a step is refused. -/
inductive Refusal where
  /-- Raised by exec for a command without a meaning in this model, under its mnemonic. Safe: the machine stops. -/
  | notModelled (mnemonic : String)
deriving DecidableEq, Repr

/-! ### Crown, mailboxes, journal (12_crown_mailboxes.md) -/

/-- What the Crown is doing: CROWN of Table 12.10. -/
inductive CrownRun where
  | rom | starting | running | pause | recovery | halted
deriving DecidableEq, Repr

/-- State of a command (Table 12.5), coded as STATE of Table 12.4. -/
inductive CmdState where
  | accepted | executing | done | failed | aborted
deriving DecidableEq, Repr

/-- A command that holds a credit: accepted, and its final response not yet delivered (R271). -/
structure Cmd where
  epoch : Nat
  seq : Nat
  code : Nat
  payload : List Byte
  source : Nat
  time : Nat
  acceptJ : Nat
  st : CmdState
  status : Nat
  detail : Nat
  result : List Byte
  /-- The result is shortened to the part held in the journal (R276). -/
  part : Bool
  /-- A lock of its mailbox was broken before it was submitted: it fails with LOCK_BROKEN without executing (R285). -/
  broken : Bool
  /-- In a standby: the status this device's own execution of a paired command has reached, while the owner's FINAL record has not come (R338). -/
  own : Option Nat
  /-- Crown firmware has processed it: while it stays EXECUTING it waits for a device event and does not hold the Crown (R433). -/
  ran : Bool
deriving DecidableEq, Repr

/-- A staged write of a lock (R283): bytes of one object from an offset, and the command it came from. -/
structure Staged where
  oid : Nat
  off : Nat
  bytes : List Byte
  epoch : Nat
  seq : Nat
deriving DecidableEq, Repr

/-- A lock of a mailbox: the groups it holds and its staged writes, oldest first (R282, R283). -/
structure Lock where
  epoch : Nat
  groups : List Nat
  staged : List Staged
  /-- Time-base count at which the lease ends (R285). -/
  lease : Nat
deriving DecidableEq, Repr

/-- One mailbox: the commands holding credits, oldest first, its lock, and whether a lock of it was broken since the last SUBMIT (R285). -/
structure Mailbox where
  cmds : List Cmd
  lock : Option Lock
  lockBroken : Bool
deriving DecidableEq, Repr

/-- A journal record without its CRC (Table 12.6). -/
structure JRec where
  carried : Bool
  typ : Nat
  mbx : Nat
  part : Nat
  jseq : Nat
  body : List Byte
deriving DecidableEq, Repr

/-- A change-record entry without its CRC (Table 12.8). -/
structure CRec where
  source : Nat
  kind : Nat
  mbx : Nat
  cseq : Nat
  epoch : Nat
  seq : Nat
  time : Nat
  rtc : Nat
  object : Nat
  item : Nat
  oldCrc : Nat
  newCrc : Nat
  last : Bool
deriving DecidableEq, Repr

/-- Outcome of the command row that ran last, whichever mailbox it came from: the model's own observation, not the spec's. -/
structure Report where
  mbx : Nat
  status : Nat
  detail : Nat
  result : List Byte
deriving DecidableEq, Repr

/-- A reply frame, and the command whose response it delivers once it has been sent (R271, R278). -/
structure Reply where
  bytes : List Byte
  delivers : Option (Mbx × Nat × Nat)
deriving DecidableEq, Repr

/-- What a reply held back is: the ACCEPTED of a SUBMIT (mailbox, epoch, sequence number, code), or a frame formed already. -/
inductive HeldReply where
  | accepted (m : Mbx) (epoch seq code : Nat)
  | formed (r : Reply)
deriving DecidableEq, Repr

/-- A reply that a member of a pair holds back: until the peer has acknowledged the JOURNAL message of this number (R272, R339), or, in a standby, until the
owner has journalled the entry (R337). -/
structure Held where
  t : Transport
  what : HeldReply
  upTo : Option Nat
deriving DecidableEq, Repr

/-- The Crown: its run state, the sixteen mailboxes, journal and change record (newest first), and the host port. -/
structure Crown where
  run : CrownRun
  mbxs : Vector Mailbox 16
  journal : List JRec
  changes : List CRec
  hostId : Nat
  /-- Reply being clocked out on the host port, complete with its CRC (R264, R265). -/
  reply : Option Reply
  /-- Replies held back in a pair, oldest first. -/
  held : List Held
  /-- Answer of the direct window (R289). -/
  direct : List Byte
  /-- RESET_CAUSE of the direct window (R432). -/
  resetCause : Nat
  /-- A Crown restart of R20 is running. -/
  restarting : Bool
deriving DecidableEq, Repr
/-! ### Clock (02_clock_synthesis.md) -/

/-- Where the domains take their clock while off the PLL (R33). -/
inductive BypassSrc where
  | ref | rc
deriving DecidableEq, Repr

/-- One CLKOUT (R42-R45), in units of 1/8 VCO period: the phase count not yet spent and the step made in the running period, whether the output is
muted, whether it clocks, its level, the length of the running high or low phase and what is left of it, and the length of the last high phase. -/
structure ClkOutSt where
  unspent : Int
  step : Int
  muted : Bool
  clocks : Bool
  level : Bool
  len : Nat
  left : Nat
  highLen : Nat
deriving DecidableEq, Repr

/-- Hidden state of clock synthesis: attempt of the running acquisition (0 none, 1, 2), locked and settling (R32), bypass source, the CLKOUTs. -/
structure ClkSt where
  attempt : Nat
  settling : Bool
  bypass : BypassSrc
  outs : Vector ClkOutSt 2
deriving DecidableEq, Repr
/-! ### Angle timebase and event scheduler (03_angle_timebase.md) -/

/-- A commit that waits for a wrap (R49, R65): none, waiting, or given in a wrap tick and so waiting for the following wrap. -/
inductive Wait where
  | none | waiting | fresh
deriving DecidableEq, Repr

/-- The angle tracker of a channel: accumulator after this tick and after the one before (R46), word in use, PLL integrator,
coasting word, sums of the PLL output over the turn, the consecutive-update counters of Table 3.2, and the encoder. -/
structure AtSt where
  acc : Nat
  accPrev : Nat
  /-- The AT started in this tick (R60). -/
  startTick : Bool
  fw : Int
  fwWait : Wait
  integ : Int
  coastWord : Int
  /-- Sum and number of PLL outputs in the running turn, whether that turn began at a wrap, their mean over the last complete turn, and that mean as it
  stood before the first of the running low updates (R52). -/
  turnSum : Int
  turnCnt : Nat
  turnFull : Bool
  turnMean : Option Int
  lossMean : Option Int
  lockCnt : Nat
  unlockCnt : Nat
  clampCnt : Nat
  lossCnt : Nat
  returnCnt : Nat
  /-- Amplitude of the last voltage set (R52), sQ1.31. -/
  amp : Nat
  /-- GRID: the first complete voltage set has set the angle (R51). -/
  gridSeen : Bool
  /-- Voltage entries converted since the last complete set, one bit each for VA, VB, VC; for SINCOS sine and cosine. -/
  setMask : Nat
  /-- Encoder: position, levels, rate and edge times (R53-R55). -/
  pm : Int
  encA : Bool
  encB : Bool
  lastEdge : Option Nat
  encRate : Int
  /-- Accumulator at the last edge, and its distance from the next edge upward and downward: the interpolation stops there (R53). -/
  encBase : Nat
  encUp : Nat
  encDown : Nat
  lastIllegal : Option Nat
  zSeen : Bool
  zDiff : Bool
  quadrant : Option Nat
deriving DecidableEq, Repr

/-- A disarmed ES occurrence (R62): entry (0-127 of the active bank, 128-135 direct), occurrence, and the side it has crossed to. -/
structure Disarmed where
  entry : Nat
  occ : Nat
  forward : Bool
deriving DecidableEq, Repr

/-- An ES entry (Table 3.7). -/
structure EsEntry where
  angle : Nat
  step : Nat
  mask : Nat
  regions : Nat
  dir : Nat
  action : Nat
  param : Nat
  evEn : Bool
  ev : Nat
  reps : Nat
deriving DecidableEq, Repr
/-! ### Batt banks (04_batt_tables.md) -/

/-- Who waits for the end of a command that runs on: the mailbox, and epoch and sequence number of the command if it came as one (R433). -/
structure Waiter where
  mbx : Mbx
  key : Option (Nat × Nat)
deriving DecidableEq, Repr

/-- What stands in the loader queue of a channel (R76, Table 4.9). -/
inductive LoaderItem where
  | load (w : Waiter) (bankB : Bool) (slot : Nat)
  | swap (w : Waiter) (bankB : Bool)
  | erase (w : Waiter) (bankB : Bool)
deriving DecidableEq, Repr

/-- The load that runs (R74): its command, bank, slot, the code of a block that failed its CRC twice (0 none), and the image blocks that failed once. -/
structure RunningLoad where
  w : Waiter
  bankB : Bool
  slot : Nat
  badCode : Nat
  again : List Nat
deriving DecidableEq, Repr

/-- The swap outstanding on a channel (R431). -/
structure SwapOut where
  w : Waiter
  bankB : Bool
deriving DecidableEq, Repr

/-- A pattern-mode pair (R84-R87): edges fired this turn, state commanded, and the interpolated edge list in force. -/
structure PatPair where
  fired : Nat
  state : Nat
  edges : List (Nat × Nat)
  /-- Wraps passed backward and not yet forward again: they hold the pair (R88). -/
  held : Nat
  /-- A swap or a region change has replaced the list in this tick (R86). -/
  fresh : Bool
deriving DecidableEq, Repr

/-- Banks and loader of a channel. -/
structure BattSt where
  bankA : SMap Byte
  bankB : SMap Byte
  /-- Store slots the banks were loaded from. -/
  slotA : Nat
  slotB : Nat
  load : Option RunningLoad
  queue : List LoaderItem
  swap : Option SwapOut
  /-- The most recent swap took effect and no cancel has reported it (R79). -/
  swapUnreported : Bool
  /-- The bank that was active before the swap of this tick (R64): outer `none`, no swap in this tick. -/
  swapTick : Option (Option Bool)
  pairs : Vector PatPair 6
deriving DecidableEq, Repr
/-! ### Converters and comparators (05_sensing.md) -/

/-- The settings of a sequence entry (Table 5.2). -/
structure SeqEntry where
  pol : Bool
  input : Nat
  shift : Nat
  avg : Nat
  offset : Int
deriving DecidableEq, Repr

/-- A SAR converter: the conversion that runs (R92), the partial sums of the regular and of the injected entry (R95), and the trigger. -/
structure SarSt where
  /-- A conversion is in progress. -/
  conv : Bool
  /-- The conversion in progress belongs to the injected sequence. -/
  inj : Bool
  regEntry : Nat
  regCnt : Nat
  regSum : Int
  regClip : Bool
  regSplit : Bool
  injEntry : Nat
  injCnt : Nat
  injSum : Int
  injClip : Bool
  injPending : Bool
  /-- The conversion in progress started in this tick (R94). -/
  fresh : Bool
  /-- RUN = 0 was written and takes effect at the next boundary (R102). -/
  stopping : Bool
  /-- Entry of the conversion in progress, and whether it is the last of its sequence, when a set has replaced it since the stop was written (R100). -/
  kept : Option (SeqEntry × Bool)
  /-- CEIN of regular results 0-15 and injected results 16-19 (R97). -/
  cein : SMap Int
deriving DecidableEq, Repr

/-- A comparator (R103-R107): raw output (`none` UNRESOLVED), the last input seen in µV, the synchroniser, the decisions newest first,
the filtered output (`none` UNRESOLVED), and the tick from which the ramp counts. -/
structure CmpSt where
  raw : Option Bool
  vin : Option Nat
  sync1 : Option (Option Bool)
  sync2 : Option (Option Bool)
  hist : List (Option Bool)
  filt : Option Bool
  rampT0 : Nat
deriving DecidableEq, Repr
/-! ### Control engine (06_control_engine.md) -/

/-- The control engine: running slot, the snapshot of its start tick (R119), the coefficients taken (R129), trigger ticks, states (R125),
working variables and outputs with PG outputs written by the evaluation (R132). -/
structure CeSt where
  running : Option (Fin 4)
  snapRes : SMap Int
  snapH : List Int
  snapAng : Nat
  snapSpd : Int
  coefs : List (Int × Nat)
  trigTick : Vector Nat 4
  /-- State words at key slot * 256 + position * 4 + word. -/
  states : SMap Int
  /-- CLEAR_STATE waiting per slot. -/
  clearPend : Nat
  /-- Commits given in the current tick, which miss an evaluation that starts in it (R130): coefficients 3..0, programs 7..4, host 8. -/
  freshPend : Nat
deriving DecidableEq, Repr
/-! ### Pulse generator and gate drive (07_pulse_generation.md, 08_gate_drive.md) -/

/-- One PWM output. Instants are counted in 1/32 tick of the time base. `ideal` is the level of stage 1; `sched` holds the edges that left
the dead-time stage and are not yet due (R152); `lvl` is the level after stage 4; `stretch` a fall moved by minimum pulse (R153);
`held` a rise held by the interlock (R154); `pipe` the edges on their way to the pin (R141) and `drv` the level that has arrived there. -/
structure OutSt where
  ideal : Bool
  sched : List (Nat × Bool)
  lvl : Bool
  suppressed : Bool
  stretch : Option Nat
  /-- Stretched fall of a pulse into which a later one has merged (R153). -/
  merged : Option Nat
  held : Bool
  roseAt : Nat
  fellAt : Option Nat
  pipe : List (Nat × Bool)
  drv : Bool
  /-- Active at the pin, after every stage. -/
  act : Bool
  /-- A blanking interval runs (R169), and what it has recorded: instant of an assertion still standing, and masked events counted. -/
  blank : Bool
  recAt : Option Nat
  masked : Nat
  /-- Changes of `act` since the channel start, newest first: what the attribution and the blanking of an earlier instant look at (R167-R169). -/
  hist : List (Nat × Bool)
deriving DecidableEq, Repr

/-- An armed set: tick of its COMMIT, whether LATE_COMMIT was raised for it, and PERIOD, DUTY0-5, M (R145, R148). -/
structure ArmedSet where
  tick : Nat
  late : Bool
  vals : List Nat
deriving DecidableEq, Repr

/-- A carrier pair in the current period: edges fired, and the pair state commanded. -/
structure PairSt where
  first : Bool
  second : Bool
  state : Nat
deriving DecidableEq, Repr

/-- The pulse generator and gate-drive interface of a channel. -/
structure PgSt where
  armed : List ArmedSet
  periodStart : Nat
  /-- End of the running period of a TIME carrier (R142, R147). -/
  periodEnd : Nat
  /-- The period started in this tick. -/
  psTick : Bool
  /-- Reload points made by PG_LOAD firings and not yet taken, with the LAG of their stamps (Table 3.8). -/
  esLoad : List (Nat × Nat)
  /-- The unfired pattern edges of the turn being left have fired in this tick (R86). -/
  wrapLeft : Bool
  prs : Vector PairSt 6
  outs : Vector OutSt 12
  /-- FLT inputs asserted after POL and FILT (R158). -/
  flt : Nat
  /-- Outputs latched off by a DESAT fault, and by an OC fault (R178). -/
  latchDesat : Nat
  latchOc : Nat
  /-- A reload point has been taken in this tick (R148). -/
  reloadTick : Bool
  /-- SERVICE was written and takes effect in the next tick (R179). -/
  servicePend : Bool
  /-- Squall step 1 taken: outputs that may stay active until step 2 (R176). -/
  sqAllowed : Option Nat
  recovExpired : Bool
  /-- Last fault acted on of each pair: instant (R174). -/
  faultAt : Vector (Option Nat) 6
  /-- 200 µs have passed since both enables read high (R166). -/
  settled : Bool
  /-- PG halted by a debug halt or by a clock trip (R159). -/
  dbgHalt : Bool
  /-- A cut has started in this tick (R156). -/
  cutTick : Bool
  /-- HB levels, the instants of their last falls, the levels commanded last, the start of a refresh, and sides held off until their next commanded edge (R181-R183). -/
  ho : Bool
  lo : Bool
  hoFell : Nat
  loFell : Nat
  hoCmd : Bool
  loCmd : Bool
  refreshAt : Option Nat
  hoHeld : Bool
  loHeld : Bool
  /-- BOOT - HS is above 9.5 V, or has not fallen below 8.5 V since it was (R183). -/
  bootOk : Bool
deriving DecidableEq, Repr
/-! ### Grid functions and MPPT (09_grid_functions.md) -/

/-- Grid functions of a channel: element timers in counts (R192; `none` while the condition does not hold), the elements that have expired
and whose trip is not done, those that have expired since their condition began, and the cycles seen (F in mHz, length in samples, newest first). -/
structure GridSt where
  vTimers : List (Option Nat)
  fTimers : List (Option Nat)
  islTimer : Option Nat
  rocofCnt : Nat
  /-- Masks over the eleven elements of Table 9.8. -/
  expired : Nat
  done : Nat
  cycles : List (Nat × Rat)
  /-- Reconnection timer in counts; `none` while its conditions fail (R194). -/
  reconTimer : Option Nat
  /-- Time of the last evaluation. -/
  lastEval : Option Nat
  /-- Counts since RAMP began. -/
  rampT : Nat
  /-- Active current in force when F first exceeded FD_F1 (R189). -/
  idF1 : Option Int
  /-- The PG has been RUNNING since RAMP began (Table 9.2: it can leave RUNNING only then). -/
  ran : Bool
  /-- RECONNECT has been written 1 since the last evaluation (R200). -/
  asked : Bool
  /-- What the last evaluation found in WAIT: the reconnection timer has run out, and RECONNECT stands (R194, R195). -/
  due : Bool
  told : Bool
deriving DecidableEq, Repr

/-- MPPT of a channel: direction, P of the previous step, energy at the previous step, and the sweep: step, best so far, reference before it. -/
structure MpptSt where
  up : Bool
  pPrev : Option Nat
  energy : Int
  sweepStep : Nat
  best : Option (Nat × Int)
  before : Int
  /-- A sweep has fallen due and waits for TRACK (R202). -/
  due : Bool
deriving DecidableEq, Repr

/-! ### Metering (10_metering.md) -/

/-- What a commit record completes (R225, R303). -/
inductive MPurpose where
  | mark
  | sessionStart (w : Waiter) (id : Nat)
  | sessionStop (w : Waiter)
  | clear (w : Waiter)
deriving DecidableEq, Repr

/-- A commit record without its CRC (Table 10.1); registers with their residues, in 2^-32 µWh. -/
structure MRec where
  closed : Bool
  resumed : Bool
  gap : Bool
  lost : Bool
  timer : Bool
  session : Bool
  cause : Nat
  seq : Nat
  rtc : Nat
  tb : Nat
  ivStart : Nat
  ivEnd : Nat
  /-- The record names an interval: it is the first after a restart or a suspension (R222). -/
  named : Bool
  regs : List Nat
  purpose : MPurpose
deriving DecidableEq, Repr

/-- An open session (R225). -/
structure SessInfo where
  id : Nat
  startSeq : Nat
  startRtc : Nat
  startImp : Nat
  startExp : Nat
  gap : Bool
  spanned : Bool
deriving DecidableEq, Repr

/-- Session of a channel (R225, R226). -/
inductive SessSt where
  | none
  | starting (w : Waiter) (id : Nat)
  | opened (i : SessInfo)
  | stopping (w : Waiter) (i : SessInfo)
deriving DecidableEq, Repr

/-- Sums of a cycle or window: samples, squares of 3 voltages, 3 differences, 3 currents, energy terms of A, B, C, T. -/
structure CycleSum where
  n : Nat
  sq : List Nat
  ep : List Int
  eq : List Int
  es : List Int
deriving DecidableEq, Repr

/-- A cycle as the Crown reads it (R215): F in mHz, length in samples, NO_ZC, and its quantities in the order of object 0x2n02: U_RMS, U_PP, I_RMS of three
phases, P, Q, S and PF of A, B, C, T, the five angles. -/
structure CycleRec where
  f : Nat
  len : Rat
  noZc : Bool
  vals : List Nat
deriving DecidableEq, Repr

/-- Sums of an aggregate (R216): members, squares per phase, flag. -/
structure AggSum where
  n : Nat
  sq : List Nat
  flag : Bool
deriving DecidableEq, Repr

/-- Metering front end of a channel. -/
structure MfSt where
  /-- The 28 registers with residue, in 2^-32 µWh (R217). -/
  acc : List Nat
  /-- Record slots of the meter partition; `none` holds no record whose REC_CRC matches (R221, R222). -/
  slotA : Option MRec
  slotB : Option MRec
  /-- The record being written and those waiting (R221). -/
  recQ : List MRec
  /-- SEQ given last. -/
  seq : Nat
  /-- The next record is the first after a restart or a suspension: GAP (true) or RESUMED, and IV_START; then IV_END. -/
  first : Option (Bool × Nat)
  firstEnd : Option Nat
  /-- EN written 0: the closing record comes at the next sample. -/
  closing : Bool
  /-- RTC at the last sample. -/
  lastRtc : Nat
  sample : Nat
  markCnt : Nat
  zcCnt : Nat
  fPrev : Option Int
  below : Bool
  lastCross : Option Rat
  /-- A crossing was accepted since NO_ZC was set (R214). -/
  zcSeen : Bool
  cyc : CycleSum
  /-- Samples of the running cycle, newest first: three voltages and three currents each (R213). -/
  wave : List (List Int)
  /-- Voltages of the sample before, and their leaking integrals in units of 2^-16 code and sample (R210). -/
  vPrev : List Int
  integ : List Int
  /-- Time-base count of the last sample (R207), and the RTC of the last 10-minute and 10-second boundary (R216). -/
  lastTb : Option Nat
  agg10At : Option Nat
  f10At : Option Nat
  /-- RMS of the last cycle in sQ1.23: three voltages, three currents (R211). -/
  rms : List Nat
  fifo : List CycleRec
  win : CycleSum
  winCycles : Nat
  winFlag : Bool
  agg150 : AggSum
  agg10 : AggSum
  f10Cycles : Nat
  f10Len : Rat
  sess : SessSt
  /-- Sessions stopped, their billing records being signed (R226). -/
  signing : List (Waiter × SessInfo × MRec)
  /-- A Lull measurement runs this MF (R379): the sample count at which it ends. -/
  lull : Option Nat
deriving DecidableEq, Repr
/-! ### Safety island (11_safety.md) -/

/-- A safety input: resolved level, and the test-pulse judgement of its frame and of the frame before (R240). -/
structure SinSt where
  high : Bool
  /-- An off-pulse of its TP has started and has not been judged. -/
  startSeen : Bool
  /-- It read high at that start, and it has fallen since. -/
  armed : Bool
  fell : Bool
  /-- TP in whose window it fell while its own was not open. -/
  lowIn : Option Nat
  foreign : Bool
  prevMissing : Bool
  prevForeign : Bool
  /-- Missing and foreign pulse of the last frame judged since a channel it gates entered CHECK (R250): none yet. -/
  frame : Option (Bool × Bool)
deriving DecidableEq, Repr

/-- A Feide connection: last accepted SEQ, PERMIT carried, a failed frame before, next SEQ sent, newest frame produced and not collected (R253-R255, R304). -/
structure ConnSt where
  seq : Nat
  permit : Bool
  failed : Bool
  txSeq : Nat
  frame : Option (List Byte)
deriving DecidableEq, Repr

/-- A channel as the island sees it: the Guard's demand latch and heartbeat, the CRC of the Guard's configuration copy, a stop that
Crown firmware owes (R245), and a periodic start test whose enables have not settled (R250). -/
structure SafeCh where
  latch : Bool
  hb : Bool
  guardCrc : Nat
  stopDue : Bool
  afterTest : Bool
deriving DecidableEq, Repr

/-- The safety island: powered, its inputs, TP lines in their off-pulse, test windows open, connections, channels. -/
structure SafeSt where
  on : Bool
  sins : Vector SinSt 16
  tpOff : Nat
  winOpen : Nat
  conns : Vector ConnSt 16
  chs : Vector SafeCh 8
deriving DecidableEq, Repr
/-! ### CAN (14_can_and_hatband.md) -/

/-- What an entry of a transmit queue belongs to when it is a segment of a mailbox reply (R318, R319): the reply's number, whether it is the last
segment, and the response that its completion delivers (mailbox, epoch, sequence number). -/
structure ReplySeg where
  rid : Nat
  last : Bool
  delivers : Option (Mbx × Nat × Nat)
deriving DecidableEq, Repr

/-- The copy of an entry in a mirror queue (R314): none made, waiting or in transmission at a controller, or discarded. -/
inductive CopySt where
  | none | out (k : Fin 4) | discarded
deriving DecidableEq, Repr

/-- An entry of a transmit queue (R310): identifier, format, data, failed attempts so far (R312), and its copy (R314). -/
structure CanTx where
  ident : Nat
  ide : Bool
  fdf : Bool
  brs : Bool
  data : List Byte
  tries : Nat
  copy : CopySt
  reply : Option ReplySeg
deriving DecidableEq, Repr

/-- An entry of a mirror queue (R314): the copy, and the controller and buffer of its original. -/
structure MirTx where
  tx : CanTx
  src : Fin 4
  buf : Fin 32
deriving DecidableEq, Repr

/-- Where an entry stands: a buffer, or the mirror queue. -/
inductive CanSrc where
  | buf (b : Fin 32)
  | mirror
deriving DecidableEq, Repr

/-- A CAN controller: transmit buffers and mirror queue, the buffer whose head goes first after recovery (R313), integration (R309), recovery running,
collision times per buffer (R317), receive FIFOs (R316), the request being reassembled (next segment number, bytes), requests reassembled and
not yet taken (R318), and the reply number given next. -/
structure CanSt where
  bufs : Vector (List CanTx) 32
  mirror : List MirTx
  retained : Option (Fin 32)
  integrating : Bool
  recovering : Bool
  collide : Vector (List Nat) 32
  fifo0 : List CanFrame
  fifo1 : List CanFrame
  partial_ : Option (Nat × List Byte)
  whole : List (List Byte)
  nextReply : Nat
  /-- The entry that the controller has offered since the bus became idle (R311), and whether another node has the bus since it lost arbitration. -/
  sending : Option CanSrc
  busy : Bool
deriving DecidableEq, Repr

/-! ### Hatband (14_can_and_hatband.md) -/

/-- A message waiting to be sent (R328): TYPE, message number, the next part, and the parts not yet sent. -/
structure HbMsg where
  typ : Nat
  msg : Nat
  part : Nat
  parts : List (List Byte)
deriving DecidableEq, Repr

/-- A frame sent and not answered (R325, R326): FSEQ, TYPE, message, part, last part, payload, and the failed attempts on it. -/
structure HbOut where
  fseq : Nat
  typ : Nat
  msg : Nat
  part : Nat
  last : Bool
  data : List Byte
  tries : Nat
deriving DecidableEq, Repr

/-- A message being received: TYPE, message number, next part, bytes so far. -/
structure HbPartial where
  typ : Nat
  msg : Nat
  part : Nat
  bytes : List Byte
deriving DecidableEq, Repr

/-- A Hatband port: messages to send, unanswered frames oldest first, FSEQ to send and expected, message numbers given next by TYPE, partial and
complete messages received, frames whose buffers are not freed yet, the CR set sent last (FSEQ, CODE), heartbeats sent (R330), the peer's LINK_INFO. -/
structure HbSt where
  out : List HbMsg
  flight : List HbOut
  nextF : Nat
  expF : Nat
  msgNo : Vector Nat 8
  parts : List HbPartial
  inbox : List (Nat × List Byte)
  held : List HbFrame
  lastCr : Option (Nat × Nat)
  hbCount : Nat
  peer : Option LinkInfo
deriving DecidableEq, Repr

/-! ### Redundant pair (15_redundant_pair.md) -/

/-- A channel in a pair: wraps since its start and the state hashes formed at them, newest first; whether its last compared hash differed (R347);
CE states and W0-W63 received, and the slots at whose next start they are applied (R346). -/
structure PairCh where
  wrapNo : Nat
  hashes : List (Nat × Nat)
  bad : Bool
  ceStates : List (Nat × Int)
  ceW : List W32
  ceDue : Nat
deriving DecidableEq, Repr

/-- Redundant pair: PAIR_ALIVE_OUT, whether outputs and heartbeat are released until the next Thaw (R343), the instant of a planned handover
with the command that asked for it (R344), the channels, and where the replies of frames forwarded to the owner go, oldest first (R337). -/
structure PairDev where
  aliveOut : Bool
  released : Bool
  handover : Option (Nat × Option Waiter)
  chs : Vector PairCh 8
  fwd : List Transport
  /-- Owner: records of the standby's local mailboxes whose entry is not whole yet (R337). -/
  offers : List JRec
deriving DecidableEq, Repr

/-! ### MRAM (16_fabric_and_memory.md) -/

/-- MRAM blocks: retired blocks with their spare (R366), and blocks whose content is lost until they are written again (R364). -/
structure MemSt where
  remap : List (Nat × Nat)
  lost : List Nat
  /-- Next spare of the pool. -/
  nextSpare : Nat
  /-- Round-robin positions of the fabric (R355, R358): for each target (SRAM0-3, MRAM0, MRAM1) and class, the requester granted last. -/
  lastGrant : Vector (Vector Nat 4) 6
deriving DecidableEq, Repr

/-! ### Power (17_power_and_holdup.md) -/

/-- Device power states (Table 17.4). -/
inductive PowState where
  | off | frost | thaw | run | brownout | lull | reset
deriving DecidableEq, Repr

/-- Power and always-on island. -/
structure PowSt where
  st : PowState
  /-- Level of nRST. -/
  nrst : Bool
  /-- Die held in reset after a thermal trip (R427). -/
  thermal : Bool
  /-- What has happened since the last Thaw, for RESET_CAUSE (R432): entered from OFF, nRST low, brown-out or supply loss, LULL_ENTER. -/
  sinceOff : Bool
  sinceNrst : Bool
  sinceSupply : Bool
  sinceLull : Bool
  /-- Low period of nRST measured so far, in seconds (R385). -/
  heldS : Nat
  /-- TAMPER to be raised at the end of the next Thaw (R383). -/
  tamperDue : Bool
  /-- Fraction of the RTC below 2^-15 s, in units of 2^-15 s / 200 000 000. -/
  rtcFrac : Nat
  /-- The always-on island has lost all supply (R383). -/
  islandLost : Bool
  /-- A Thaw runs from Lull: it differs in step 4 (R381). -/
  fromLull : Bool
  /-- Temperature sums of the running hour: readings and their number (R428). -/
  tjSum : Int
  tjCnt : Nat
  /-- Sum of the hourly means of all Run hours (R428). -/
  tjLife : Rat
  /-- A granted burst is sending its frames on CAN0 (R375). -/
  burst : Bool
  /-- Store levels that E has passed upward and not left downward (R374): bits of COMMIT_RES, MEAS, TX. -/
  lvlUp : Nat
  /-- VIN_AUX stands at RUN_OK: the level itself, which the field RUN_OK of object 0x5F01 shows after its Thaw (R7, R369). -/
  runOk : Bool
  /-- VSTORE in mV as measured last: it outlasts the Thaw that clears its field (R7, R370). -/
  vstore : Nat
  /-- The RTC when nRST fell: HELD_S counts from it (R385). -/
  lowAt : Nat
  /-- The island's copies of object 0x5F00 stand at their delivered values: no write of it has been accepted since the island was lost (R373, R383, R386). -/
  copiesLost : Bool
deriving DecidableEq, Repr

/-! ### Life cycle and firmware (18_lifecycle_and_update.md) -/

/-- An incoming image transfer (R398): XFER_ID, port, kind, slot, blocks, next block, whether it is stored, whether the next block was asked for again,
and the slot's former CRC. -/
structure XferIn where
  id : Nat
  port : Fin 2
  kind : Nat
  slot : Nat
  nBlocks : Nat
  next : Nat
  stored : Bool
  resent : Bool
  /-- CRC-32C of the store slot before the transfer (R402). -/
  oldCrc : Nat
deriving DecidableEq, Repr

/-- An outgoing image transfer (R397): XFER_ID, kind, slot, blocks, next block for each port. -/
structure XferOut where
  id : Nat
  kind : Nat
  slot : Nat
  nBlocks : Nat
  next : Nat × Nat
deriving DecidableEq, Repr

/-- An activation that runs (R404): its command, the bank that starts, and the author for the change record. -/
structure Activating where
  w : Waiter
  epoch : Nat
  seq : Nat
deriving DecidableEq, Repr

/-- Fuses and firmware: key hashes (`none` unburned), debug fuse, items that failed to burn, the two firmware banks with the half blocks written since each was EMPTY,
the activation, transfers, and the XFER_IDs seen. -/
structure LifeSt where
  vendorHash : List Byte
  oemHash : Option (List Byte)
  debugHash : Option (List Byte)
  vendorDebugHash : List Byte
  debugFused : Bool
  billBurned : Bool
  /-- Items whose burn failed lastingly: unusable (R392). -/
  fuseFailed : List Nat
  /-- Burns that succeeded at the second attempt (R29, R392): no object shows this count. -/
  fuseTransient : Nat
  fwA : SMap Byte
  fwB : SMap Byte
  writtenA : SMap Bool
  writtenB : SMap Bool
  activating : Option Activating
  xin : List XferIn
  xout : Option XferOut
  seen : List Nat
  /-- Last block sent on a port, kept for a RESEND (R399). -/
  lastSent : Vector (Option (ImgDesc × List Byte)) 2
deriving DecidableEq, Repr
/-! ### A channel -/

/-- An entry of the channel event FIFO (01_device_architecture.md R26). -/
structure FifoEntry where
  event : Nat
  time : Nat
  angle : Nat
deriving DecidableEq, Repr

/-- Everything a channel holds beside its objects. -/
structure Chan where
  at_ : AtSt
  /-- ES occurrences that have fired and not re-armed (R62). -/
  disarmed : List Disarmed
  /-- Commit of the direct ES entries (R65). -/
  esWait : Wait
  /-- Direct entries in force before the wrap of this tick (R65): empty when none was replaced. -/
  esOld : List EsEntry
  /-- Region index at the start of this tick (R60). -/
  regionTick : Nat
  /-- Comparator windows decided in this tick: comparator, LAG, open (R63). -/
  winDec : List (Nat × Nat × Bool)
  /-- Captures loaded and not read since (R66). -/
  capUnread : Nat
  batt : BattSt
  sa : SarSt
  sb : SarSt
  cmps : Vector CmpSt 16
  ce : CeSt
  pg : PgSt
  grid : GridSt
  mppt : MpptSt
  mf : MfSt
  /-- Channel event FIFO, oldest first, and its overflow counter (R26). -/
  fifo : List FifoEntry
  fifoOvf : Nat
  /-- Consumers triggered in this tick (R25): CE slots 3..0, captures 7..4, SA 8, SB 9. -/
  trigMask : Nat
  /-- The Crown loss hold runs (R17). -/
  hold : Bool
  /-- The channel is in Idle (R380). -/
  idle : Bool
  /-- The clock branch of the channel runs (R35, R36). -/
  branch : Bool
  /-- SRAM error count: single-bit errors corrected in the channel's SRAM (R69, R131). -/
  sramErr : Nat
  /-- CH_START waiting for its start tick: it keeps the channel reserved (R300). -/
  startWait : Option Waiter
  /-- CH_STARTs waiting for the end of a periodic start test, in the order they came (R250, R300). -/
  testWait : List Waiter
  /-- CH_STOPs waiting for SQUALL_DONE (R301). -/
  stopWait : List Waiter
deriving DecidableEq, Repr
/-! ### The device -/

/-- The state of the device. `regs` holds every object field as its value XOR its reset value, at the key of the field. -/
structure State where
  regs : SMap Nat
  chans : Vector Chan 8
  clk : ClkSt
  crown : Crown
  safe : SafeSt
  cans : Vector CanSt 4
  hbs : Vector HbSt 2
  pair : PairDev
  mem : MemSt
  pow : PowSt
  life : LifeSt
  /-- The Batt store: slot s at 262 144 · s (04_batt_tables.md). -/
  store : SMap Byte
  /-- Billing records stored: number and bytes, newest first (R227). -/
  bills : List (Nat × List Byte)
  /-- Time base (R48): 64-bit count and the odd tick. -/
  time : Nat
  odd : Bool
  /-- Events raised so far, newest first: the model's own record of every event. -/
  raised : List Nat
  /-- Outcome of the last command row that finished: the model's own observation. -/
  report : Option Report
  /-- Free values drawn so far: the model's own counter. -/
  freeCtr : Nat
  /-- Commands waiting, first in, first out. -/
  pending : List Instr
deriving DecidableEq, Repr

/-! ### Reset: a delivered device at the end of its Thaw (17_power_and_holdup.md R381, 00_scope.md R7) -/

/-- A CLKOUT that is low. -/
def ClkOutSt.reset : ClkOutSt := ⟨0, 0, false, false, false, 0, 0, 0⟩

/-- A synchroniser at rest: a comparator UNRESOLVED and its ramp at tick 0 (R107). -/
def CmpSt.reset : CmpSt := ⟨none, none, none, none, [], none, 0⟩

/-- A converter at rest. -/
def SarSt.reset : SarSt := ⟨false, false, 0, 0, 0, false, false, 0, 0, 0, false, false, false, false, none, []⟩

/-- A stopped AT. -/
def AtSt.reset : AtSt :=
  ⟨0, 0, false, 0, .none, 0, 0, 0, 0, false, none, none, 0, 0, 0, 0, 0, 0, false, 0, 0, false, false, none, 0, 0, 0, 0, none, false, false, none⟩

/-- Empty banks and an idle loader. -/
def BattSt.reset : BattSt := ⟨[], [], 0xFF, 0xFF, none, [], none, false, none, Vector.replicate 6 ⟨0, 0, [], 0, false⟩⟩

/-- An idle CE. -/
def CeSt.reset : CeSt := ⟨none, [], [], 0, 0, [], Vector.replicate 4 0, [], 0, 0⟩

/-- A PWM output at rest. -/
def OutSt.reset : OutSt := ⟨false, [], false, false, none, none, false, 0, none, [], false, false, false, none, 0, []⟩

/-- A stopped PG; the enables have not read high yet. -/
def PgSt.reset : PgSt :=
  { armed := [], periodStart := 0, periodEnd := 0, psTick := false, esLoad := [], wrapLeft := false
    prs := Vector.replicate 6 ⟨false, false, 0⟩, outs := Vector.replicate 12 OutSt.reset, flt := 0
    latchDesat := 0, latchOc := 0, reloadTick := false, servicePend := false, sqAllowed := none, recovExpired := false, faultAt := Vector.replicate 6 none
    settled := false, dbgHalt := false, cutTick := false, ho := false, lo := false, hoFell := 0, loFell := 0
    hoCmd := false, loCmd := false, refreshAt := none, hoHeld := false, loHeld := false, bootOk := true }

/-- Grid functions off. -/
def GridSt.reset : GridSt := ⟨List.replicate 4 none, List.replicate 4 none, none, 0, 0, 0, [], none, none, 0, none, false, false, false, false⟩

/-- MPPT off. -/
def MpptSt.reset : MpptSt := ⟨false, none, 0, 0, none, 0, false⟩

/-- Empty sums. -/
def CycleSum.zero : CycleSum := ⟨0, List.replicate 9 0, List.replicate 4 0, List.replicate 4 0, List.replicate 4 0⟩
def AggSum.zero : AggSum := ⟨0, [0, 0, 0], false⟩

/-- The record a MF is delivered with: closed, sequence number 0, every register 0 (log entry 117). -/
def MRec.delivered : MRec := ⟨true, false, false, false, false, false, 0, 0, 0, 0, 0, 0, false, List.replicate 28 0, .mark⟩

/-- A MF that has never run: its registers are 0, and one slot holds the record it is delivered with. -/
def MfSt.reset : MfSt :=
  { acc := List.replicate 28 0, slotA := some MRec.delivered, slotB := none, recQ := [], seq := 0, first := none, firstEnd := none, closing := false
    lastRtc := 0, sample := 0, markCnt := 0, zcCnt := 0, fPrev := none, below := false, lastCross := none, zcSeen := false
    cyc := CycleSum.zero, wave := [], vPrev := [0, 0, 0], integ := [0, 0, 0], lastTb := none, agg10At := none, f10At := none, rms := List.replicate 6 0, fifo := [], win := CycleSum.zero, winCycles := 0, winFlag := false
    agg150 := AggSum.zero, agg10 := AggSum.zero, f10Cycles := 0, f10Len := 0, sess := .none, signing := [], lull := none }

/-- A channel. -/
def Chan.reset : Chan :=
  { at_ := AtSt.reset, disarmed := [], esWait := .none, esOld := [], regionTick := 0, winDec := [], capUnread := 0, batt := BattSt.reset
    sa := SarSt.reset, sb := SarSt.reset, cmps := Vector.replicate 16 CmpSt.reset, ce := CeSt.reset, pg := PgSt.reset
    grid := GridSt.reset, mppt := MpptSt.reset, mf := MfSt.reset, fifo := [], fifoOvf := 0, trigMask := 0, hold := false, idle := false
    branch := true, sramErr := 0, startWait := none, testWait := [], stopWait := [] }

/-- CFG_CRC of the delivered safety configuration (R236, 11_safety.md): the CRC of objects 0x3F00 and 0x3F01 at their delivered values. -/
def deliveredCfgCrc : Nat := 3727725499

/-- The safety island after Thaw: powered, inputs unresolved, Guards' copies loaded (R236, R381), no heartbeat seen yet (SSTAT reads 0). -/
def SafeSt.reset : SafeSt :=
  ⟨true, Vector.replicate 16 ⟨false, false, false, false, none, false, false, false, none⟩, 0, 0,
   Vector.replicate 16 ⟨0, false, false, 0, none⟩, Vector.replicate 8 ⟨false, false, deliveredCfgCrc, false, false⟩⟩

/-- A CAN controller with empty queues; MODE is OFF. -/
def CanSt.reset : CanSt := ⟨Vector.replicate 32 [], [], none, false, false, Vector.replicate 32 [], [], [], none, [], 0, none, false⟩

/-- A Hatband port that is OFF. -/
def HbSt.reset : HbSt := ⟨[], [], 0, 0, Vector.replicate 8 0, [], [], [], none, 0, none⟩

/-- A channel outside a pair. -/
def PairCh.reset : PairCh := ⟨0, [], false, [], [], 0⟩

/-- A device outside a pair; PAIR_ALIVE_OUT is high after Thaw (R335). -/
def PairDev.reset : PairDev := ⟨true, false, none, Vector.replicate 8 PairCh.reset, [], []⟩

/-- Run, from a Thaw with VIN_AUX at RUN_OK. -/
def PowSt.reset : PowSt := ⟨.run, true, false, false, false, false, false, 0, false, 0, false, false, 0, 0, 0, false, 0, true, 0, 0, false⟩

/-- Delivered fuses and firmware. The vendor's key hashes are burned before delivery with values the spec does not give: named 0 (log entry 40). -/
def LifeSt.reset : LifeSt :=
  { vendorHash := List.replicate 48 0, oemHash := none, debugHash := none, vendorDebugHash := List.replicate 48 0, debugFused := false
    billBurned := false, fuseFailed := [], fuseTransient := 0, fwA := [], fwB := [], writtenA := [], writtenB := [], activating := none, xin := [], xout := none, seen := []
    lastSent := Vector.replicate 2 none }

/-- The Crown after Thaw: sixteen empty mailboxes and an empty journal and change record; RESET_CAUSE 1 (R432: the first Thaw comes from OFF). -/
def Crown.reset : Crown :=
  ⟨.running, Vector.replicate 16 ⟨[], none, false⟩, [], [], 0, none, [], [], 1, false⟩

/-- The one field without a number in its Reset column that the Thaw forms: the CRC of the safety configuration (R236, 11_safety.md). -/
def resetRegs : SMap Nat := [(Reg.Safe.CFG_CRC.key 0 0 0, deliveredCfgCrc)]

/-- The machine right after reset: a delivered device whose Thaw sequence has just completed (R7, R381), with nothing in its queue. -/
def State.reset : State :=
  { regs := resetRegs, chans := Vector.replicate 8 Chan.reset
    clk := ⟨0, false, .ref, Vector.replicate 2 ClkOutSt.reset⟩
    crown := Crown.reset, safe := SafeSt.reset, cans := Vector.replicate 4 CanSt.reset, hbs := Vector.replicate 2 HbSt.reset
    pair := PairDev.reset, mem := ⟨[], [], 0, Vector.replicate 6 (Vector.replicate 4 14)⟩, pow := PowSt.reset, life := LifeSt.reset
    store := [], bills := [], time := 0, odd := false, raised := [], report := none, freeCtr := 0, pending := [] }

end Sys2Proof.Machine
end

