-- ==== Sys2Proof/Machine/Ops.lean ====
section
/-! DEFINITION. The named operations every meaning uses: reading and writing object fields and the sets in force, channels, time, events, free values. -/

namespace Sys2Proof.Machine

/-- Outcome of a command. -/
abbrev Out := Host.Outcome State Fault Refusal

/-- End a command: the effect on everything but the queue. -/
def fin (s t : State) : Out := .next { t with pending := s.pending }

/-! ### Object fields -/

/-- A field of an object as it stands in the object (00_scope.md R6, R7). -/
def State.rd (s : State) (f : Fld) (n : Nat := 0) (i : Nat := 0) : Nat :=
  SMap.get 0 s.regs (f.key 0 n i) ^^^ f.reset n i

/-- Write a field of an object; the value is cut to the width of the field. -/
def State.wr (s : State) (f : Fld) (n i v : Nat) : State :=
  { s with regs := SMap.set 0 s.regs (f.key 0 n i) ((v % 2 ^ f.w) ^^^ f.reset n i) }

/-- A field of the set in force (R430). -/
def State.rdL (s : State) (f : Fld) (n : Nat := 0) (i : Nat := 0) : Nat :=
  SMap.get 0 s.regs (f.key 1 n i) ^^^ f.reset n i

/-- Write a field of the set in force. -/
def State.wrL (s : State) (f : Fld) (n i v : Nat) : State :=
  { s with regs := SMap.set 0 s.regs (f.key 1 n i) ((v % 2 ^ f.w) ^^^ f.reset n i) }

/-- Bring one shadow field into force (R430). -/
def State.commit1 (s : State) (f : Fld) (n i : Nat) : State := s.wrL f n i (s.rd f n i)

/-- Bring every index of a list of shadow fields into force. -/
def State.commitAll (s : State) (fs : List Fld) (n : Nat) : State :=
  fs.foldl (fun s f => (List.range f.cnt).foldl (fun s i => s.commit1 f n i) s) s

/-- Count one up, saturating at the width of the field. -/
def State.count (s : State) (f : Fld) (n : Nat := 0) (i : Nat := 0) : State :=
  s.wr f n i (satInc f.w (s.rd f n i))

/-- Count one up, modulo the width of the field. -/
def State.countMod (s : State) (f : Fld) (n : Nat := 0) (i : Nat := 0) : State :=
  s.wr f n i (s.rd f n i + 1)

/-- A one-bit field as a Bool. -/
def State.rdB (s : State) (f : Fld) (n : Nat := 0) (i : Nat := 0) : Bool := s.rd f n i == 1

/-- Write a one-bit field. -/
def State.wrB (s : State) (f : Fld) (n i : Nat) (b : Bool) : State := s.wr f n i b.toNat

/-- Set or clear one bit of a mask field. -/
def State.wrBit (s : State) (f : Fld) (n i k : Nat) (b : Bool) : State :=
  s.wr f n i (setBit (s.rd f n i) k b)

/-- A field read as a signed number. -/
def State.rdS (s : State) (f : Fld) (n : Nat := 0) (i : Nat := 0) : Int := sgn f.w (s.rd f n i)

/-- A field of the set in force read as a signed number. -/
def State.rdLS (s : State) (f : Fld) (n : Nat := 0) (i : Nat := 0) : Int := sgn f.w (s.rdL f n i)

/-- Write a signed number. -/
def State.wrS (s : State) (f : Fld) (n i : Nat) (v : Int) : State := s.wr f n i (enc f.w v)

/-! ### Channels and time -/

/-- The hidden state of a channel. -/
def State.ch (s : State) (c : Ch) : Chan := s.chans[c]

/-- Change the hidden state of a channel. -/
def State.setCh (s : State) (c : Ch) (f : Chan → Chan) : State :=
  { s with chans := s.chans.set c (f s.chans[c]) }

/-- Every channel, in order. -/
def allCh : List Ch := List.finRange 8

/-- Run an operation on every channel in order. -/
def State.eachCh (s : State) (f : State → Ch → State) : State := allCh.foldl f s

/-- The tick of now: two per time-base count (R48). -/
def State.tick (s : State) : Nat := 2 * s.time + s.odd.toNat

/-- The instant of now in 1/32 tick. -/
def State.now (s : State) : Nat := 32 * s.tick

/-- The angle of a channel: the top 32 bits of its accumulator (R9, R46). -/
def Chan.angle (c : Chan) : Nat := c.at_.acc / 2 ^ 16 % 2 ^ 32

/-- The angle one tick before (R60). -/
def Chan.anglePrev (c : Chan) : Nat := c.at_.accPrev / 2 ^ 16 % 2 ^ 32

/-! ### Events and free values -/

/-- Record a raised event number (R23). -/
def State.raise (s : State) (e : Nat) : State := { s with raised := e :: s.raised }

/-- Draw a free value below `2^w`: nothing is known of it. -/
def State.free (s : State) (w : Nat) : Nat := Config.freeValue s.freeCtr % 2 ^ w

/-- Advance the counter of the free values. -/
def State.drew (s : State) : State := { s with freeCtr := s.freeCtr + 1 }

end Sys2Proof.Machine
end

