-- ==== Sys2Proof/Machine/Events.lean ====
section
/-! DEFINITION. Channel events and their routing (01_device_architecture.md R23-R26), captures (03_angle_timebase.md R66), injected triggers (05_sensing.md R94, R96) and CE triggers (06_control_engine.md R127). -/

namespace Sys2Proof.Machine

/-! ### Event offsets of Table 1.7 -/

def evWrap : Nat := 0
def evLock : Nat := 1
def evUnlock : Nat := 2
def evCoastStart : Nat := 3
def evCoastEnd : Nat := 4
def evSrcLoss : Nat := 5
def evEs (j : Nat) : Nat := 6 + j
def evRegDone (sb : Bool) : Nat := if sb then 17 else 14
def evInjDone (sb : Bool) : Nat := if sb then 18 else 15
def evOverrun (sb : Bool) : Nat := if sb then 19 else 16
def evCmp (j : Nat) : Nat := 20 + j
def evCap (j : Nat) : Nat := 36 + j
def evSlot (j : Nat) : Nat := 40 + j
def evPeriodStart : Nat := 44
def evReload : Nat := 45
def evLateCommit : Nat := 46
def evFltCut : Nat := 47
def evBankSwap : Nat := 48
def evMinpulse : Nat := 49
def evDesat : Nat := 50
def evOcFast : Nat := 51
def evSquallStart : Nat := 52
def evSquallDone : Nat := 53
def evMasked : Nat := 54
def evHbootUv : Nat := 55

/-! ### Consumers -/

/-- The SAR converter of a channel. -/
def Chan.sar (c : Chan) (sb : Bool) : SarSt := if sb then c.sb else c.sa

/-- Change a SAR converter. -/
def Chan.setSar (c : Chan) (sb : Bool) (f : SarSt → SarSt) : Chan :=
  if sb then { c with sb := f c.sb } else { c with sa := f c.sa }

/-- Instance of the sequence and result objects of a converter. -/
def sarI (c : Ch) (sb : Bool) : Nat := cI c + sb.toNat

/-- Start the injected sequence (R94): a regular entry with samples taken is interrupted (R95). -/
def SarSt.startInj (x : SarSt) : SarSt :=
  { x with conv := true, inj := true, fresh := true, injPending := false, injEntry := 0, injCnt := 0, injSum := 0,
           injClip := false, regSplit := x.regSplit || decide (0 < x.regCnt) }

/-- An angle of a stamp: a_now minus LAG parts in 32 of the last step, rounded half up (R66). -/
def Chan.angleAt (c : Chan) (lag : Nat) : Nat :=
  enc 32 ((c.angle : Int) - rhu ((lag : Int) * angDiff c.angle c.anglePrev) 32)

/-- Post an event to the channel event FIFO (R26); the Crown raises CHFIFO_OVF when it is full. -/
def postFifo (c : Ch) (e lag : Nat) (s : State) : State :=
  let x := s.ch c
  if x.fifo.length < 32 then
    s.setCh c fun x => { x with fifo := x.fifo ++ [⟨e, s.time, x.angleAt lag⟩] }
  else
    (s.setCh c fun x => { x with fifoOvf := x.fifoOvf + 1 }).raise (472 + c.val)

/-- Load a capture register with a stamp and the angle at that instant (R66). -/
def capStore (c : Ch) (j lag : Nat) (s : State) : State :=
  let x := s.ch c
  let s := if bit x.capUnread j then s.wr Reg.Cap.OVR (cI c) j 1 else s
  let s := s.wr Reg.Cap.ANGLE (cI c) j (x.angleAt lag)
  let s := s.wr Reg.Cap.LAG (cI c) j lag
  let s := s.wrB Reg.Cap.TICK_ODD (cI c) j s.odd
  let s := s.wr Reg.Cap.TIME (cI c) j s.time
  s.setCh c fun x => { x with capUnread := setBit x.capUnread j true }

/-- Whether an injected trigger is served (R96): converter running, injected sequence idle and not empty. -/
def injServed (c : Ch) (sb : Bool) (s : State) : Bool :=
  let x := (s.ch c).sar sb
  s.rdB Reg.Seq.RUN (sarI c sb) && !x.stopping && (s.ch c).branch && !(s.ch c).idle
    && !x.injPending && !(x.conv && x.inj) && decide (0 < s.rdL Reg.Seq.INJ_LEN (sarI c sb))

/-- Take an injected trigger (R94): pending until the boundary, or started in this tick. -/
def injTake (c : Ch) (sb : Bool) (s : State) : State :=
  let x := (s.ch c).sar sb
  if x.conv && !x.fresh then s.setCh c fun y => y.setSar sb fun x => { x with injPending := true }
  else
    let s := s.setCh c fun y => y.setSar sb SarSt.startInj
    s.wr (if sb then Reg.Conv.SB_STATE else Reg.Conv.SA_STATE) (cI c) 0 2

/-- Count an unserved injected trigger (R96). -/
def injMiss (c : Ch) (sb : Bool) (s : State) : State :=
  s.count (if sb then Reg.Conv.SB_OVR_CNT else Reg.Conv.SA_OVR_CNT) (cI c) 0

/-- Trigger a CE slot (R127): a disabled slot ignores it, a pending one counts it as unserved. -/
def ceTrig (c : Ch) (j : Fin 4) (s : State) : State :=
  if !bit (s.rd Reg.CeCtl.SLOT_EN (cI c)) j then s
  else if bit (s.rd Reg.CeStat.PENDING (cI c)) j then s.count Reg.CeStat.OVR_CNT (cI c) j
  else
    let s := s.wrBit Reg.CeStat.PENDING (cI c) 0 j true
    s.setCh c fun x => { x with ce := { x.ce with trigTick := x.ce.trigTick.set j s.tick } }

/-! ### Routing -/

/-- Mark a consumer as triggered in this tick (R25). -/
def markTrig (c : Ch) (b : Nat) (s : State) : State :=
  s.setCh c fun x => { x with trigMask := setBit x.trigMask b true }

/-- Trigger one consumer once per tick, answering the event it raises in its turn. -/
def trigger (c : Ch) (b lag : Nat) (s : State) : State × Option Nat :=
  if bit (s.ch c).trigMask b then (s, none)
  else
    let s := markTrig c b s
    if h : b < 4 then (ceTrig c ⟨b, h⟩ s, none)
    else if b < 8 then (capStore c (b - 4) lag s, some (evCap (b - 4)))
    else if injServed c (b == 9) s then (injTake c (b == 9) s, none)
    else (injMiss c (b == 9) s, some (evOverrun (b == 9)))

/-- Trigger a list of consumers, collecting the events they raise. -/
def triggers (c : Ch) (lag : Nat) : List Nat → State → State × List Nat
  | [], s => (s, [])
  | b :: bs, s =>
    let r := trigger c b lag s
    let q := triggers c lag bs r.1
    (q.1, r.2.toList ++ q.2)

/-- Consumers routed to a source (Table 1.9). -/
def routed (c : Ch) (k : Nat) (s : State) : List Nat :=
  let slots := s.rd Reg.Route.CE_SLOT (cI c) k
  let caps := s.rd Reg.Route.CAP (cI c) k
  (List.range 4).filter (bit slots) ++ ((List.range 4).filter (bit caps)).map (· + 4)
    ++ (if s.rdB Reg.Route.SA_INJ (cI c) k then [8] else []) ++ (if s.rdB Reg.Route.SB_INJ (cI c) k then [9] else [])

/-- Fire channel sources, given as offset and LAG: record, post to the FIFO, trigger routed consumers, and the sources these raise (R25, R26).
The fuel bounds the chain: every consumer is triggered at most once in a tick. -/
def fireAll (c : Ch) : Nat → List (Nat × Nat) → State → State
  | 0, _, s => s
  | _ + 1, [], s => s
  | fuel + 1, (k, lag) :: ks, s =>
    let s := s.raise (c.val * 56 + k)
    let s := if s.rdB Reg.Route.TO_CROWN (cI c) k then postFifo c (c.val * 56 + k) lag s else s
    let r := triggers c lag (routed c k s) s
    fireAll c fuel (ks ++ r.2.map fun e => (e, 0)) r.1

/-- Fire one channel source without a sub-tick position. -/
def fire (c : Ch) (k : Nat) (s : State) : State := fireAll c 32 [(k, 0)] s

/-- Fire one channel source with the LAG of its stamp (R61). -/
def fireLag (c : Ch) (k lag : Nat) (s : State) : State := fireAll c 32 [(k, lag)] s

/-- Trigger one consumer directly, as an ES action does (Table 3.8), and fire what it raises. -/
def actOn (c : Ch) (b lag : Nat) (s : State) : State :=
  let r := trigger c b lag s
  fireAll c 32 (r.2.toList.map fun e => (e, 0)) r.1

end Sys2Proof.Machine
end

