-- ==== Sys2Proof/Machine/Crc.lean ====
section
/-! DEFINITION. CRC-32C (04_batt_tables.md R72), the Feide CRC (11_safety.md Table 11.6), and SHA-384 (R73; the algorithm itself is PRESUMED from FIPS 180-4, log entry 5). -/

namespace Sys2Proof

/-- One bit of a reflected 32-bit CRC with the reversed polynomial `p`. -/
def crcBit (p c : Nat) : Nat := if c % 2 = 1 then (c / 2) ^^^ p else c / 2

/-- Eight bits of a reflected CRC. -/
def crcByte (p c b : Nat) : Nat :=
  (List.range 8).foldl (fun x _ => crcBit p x) (c ^^^ b)

/-- CRC-32C of a byte list (R72): polynomial 0x1EDC_6F41 reflected, initial value and final XOR 0xFFFF_FFFF. -/
def crc32c (bs : List Byte) : Nat :=
  (bs.foldl (fun c b => crcByte 0x82F63B78 c b.toNat) 0xFFFFFFFF) ^^^ 0xFFFFFFFF

/-- One bit of a CRC that shifts left with polynomial `p`. -/
def crcBitL (p c : Nat) : Nat :=
  if 2 ^ 31 ≤ c then ((2 * c) % 2 ^ 32) ^^^ p else 2 * c

/-- Eight bits of a CRC that shifts left. -/
def crcByteL (p c b : Nat) : Nat :=
  (List.range 8).foldl (fun x _ => crcBitL p x) (c ^^^ (b * 2 ^ 24))

/-- A 32-bit CRC that shifts left, with initial value and final XOR 0xFFFF_FFFF given by the caller. -/
def crcLeft (p init fin : Nat) (bs : List Byte) : Nat :=
  (bs.foldl (fun c b => crcByteL p c b.toNat) init) ^^^ fin

/-- The largest r below 2^bits whose n-th power stays within x, bit by bit from the top. -/
def rootBits (n x bits : Nat) : Nat :=
  (List.range bits).foldl (fun r k => bif Nat.ble ((r + 2 ^ (bits - 1 - k)) ^ n) x then r + 2 ^ (bits - 1 - k) else r) 0

/-- First 64 bits of the fractional part of the n-th root of p. -/
def rootFrac (n p : Nat) : Nat := rootBits n (p * 2 ^ (64 * n)) 69 % 2 ^ 64

/-- The primes below 410: the first eighty. -/
def primes80 : List Nat :=
  (List.range 410).filter fun p => Nat.ble 2 p && (List.range 21).all fun d => Nat.ble d 1 || Nat.ble p d || p % d != 0

/-- Round constants: cube roots of the first eighty primes. -/
def shaK : List Nat := primes80.map (rootFrac 3)

/-- Initial hash value: square roots of the ninth to the sixteenth prime. -/
def shaH0 : List Nat := ((primes80.drop 8).take 8).map (rootFrac 2)

/-- Rotate a 64-bit word right. -/
def rotr64 (n x : Nat) : Nat := (x / 2 ^ n) ||| ((x * 2 ^ (64 - n)) % 2 ^ 64)

/-- Complement of a 64-bit word. -/
def not64 (x : Nat) : Nat := (2 ^ 64 - 1) ^^^ x

/-- XOR of a word rotated right by each amount of a list. -/
def rotXor (rs : List Nat) (x : Nat) : Nat := rs.foldl (fun a r => a ^^^ rotr64 r x) 0

/-- One more message word in front of the sixteen before it, newest first (index k: the word k + 1 places back). -/
def shaMore (ws : List Nat) : List Nat :=
  let back := fun k => ws.getD (k - 1) 0
  let mix := fun (rs : List Nat) (sh x : Nat) => rotXor rs x ^^^ (x >>> sh)
  (mix [19, 61] 6 (back 2) + back 7 + mix [1, 8] 7 (back 15) + back 16) % 2 ^ 64 :: ws

/-- The eighty message words of a block of sixteen, in order. -/
def shaSchedule (blk : List Nat) : List Nat := ((List.range 64).foldl (fun ws _ => shaMore ws) blk.reverse).reverse

/-- One round: the eight working words move one place, the fifth takes in T1, and the first is T1 + T2. -/
def shaRound (v : List Nat) (kw : Nat × Nat) : List Nat :=
  let at_ := fun k => v.getD k 0
  let pick := (at_ 4 &&& at_ 5) ^^^ (not64 (at_ 4) &&& at_ 6)
  let most := (at_ 0 &&& (at_ 1 ||| at_ 2)) ||| (at_ 1 &&& at_ 2)
  let t := at_ 7 + rotXor [14, 18, 41] (at_ 4) + pick + kw.1 + kw.2
  ((t + rotXor [28, 34, 39] (at_ 0) + most) % 2 ^ 64 :: v.take 3) ++ ((at_ 3 + t) % 2 ^ 64 :: (v.drop 4).take 3)

/-- One block. -/
def shaBlock (h : List Nat) (blk : List Nat) : List Nat :=
  let v := (shaK.zip (shaSchedule blk)).foldl shaRound h
  (h.zip v).map fun p => (p.1 + p.2) % 2 ^ 64

/-- Cut a list into pieces of `n`, at most `fuel` of them. -/
def chunks {α : Type} (n : Nat) : Nat → List α → List (List α)
  | 0, _ => []
  | _ + 1, [] => []
  | fuel + 1, x :: xs => (x :: xs).take n :: chunks n fuel ((x :: xs).drop n)

/-- SHA-384 of a byte list: 48 bytes. -/
def sha384 (bs : List Byte) : List Byte :=
  let n := bs.length
  let z := (128 - (n + 17) % 128) % 128
  let m := bs ++ [0x80] ++ List.replicate z 0 ++ beBytes 16 (8 * n)
  let blks := (chunks 128 m.length m).map fun b => (chunks 8 16 b).map beVal
  ((blks.foldl shaBlock shaH0).take 6).flatMap fun w => beBytes 8 w

end Sys2Proof
end

