-- ==== Sys2Proof/Machine/HbSend.lean ====
section
/-! DEFINITION. Hatband ports: state of a port, the pair link, and the sending of messages (14_can_and_hatband.md R325, R328, R329, 15_redundant_pair.md R334). -/

namespace Sys2Proof.Machine

/-- A Hatband port: 0 HBA, 1 HBB. -/
abbrev HbIx := Fin 2

/-- Both ports. -/
def allHb : List HbIx := List.finRange 2

/-- A port's hidden state. -/
def State.hb (s : State) (p : HbIx) : HbSt := s.hbs[p]
/-- Change a port. -/
def State.setHb (s : State) (p : HbIx) (f : HbSt → HbSt) : State := { s with hbs := s.hbs.set p (f s.hbs[p]) }

/-- LINK (Table 14.6): 0 OFF, 1 TRAINING, 2 ROLE_MISMATCH, 3 UP. -/
def hbLink (p : HbIx) (s : State) : Nat := s.rd Reg.HbStat.LINK p.val
/-- The port is UP. -/
def hbUp (p : HbIx) (s : State) : Bool := hbLink p s == 3
/-- ROLE of a port (Table 14.7): 0 off, 1 PAIR, 2 CHAIN_UP, 3 CHAIN_DOWN. -/
def hbRole (p : HbIx) (s : State) : Nat := if p = 0 then s.rd Reg.HbCfg.ROLE_A else s.rd Reg.HbCfg.ROLE_B

/-- Message types (Table 14.5). -/
def tyFeide : Nat := 1
def tyAlign : Nat := 2
def tyJournal : Nat := 3
def tyMailbox : Nat := 4
def tyLink : Nat := 5
def tyImage : Nat := 6

/-! ### The pair link -/

/-- The port of the pair link (R334). -/
def pairPort (s : State) : HbIx := if s.rd Reg.PairCfg.PAIR_PORT = 1 then 1 else 0

/-- The pair link is UP. -/
def pairUp (s : State) : Bool := s.rdB Reg.PairCfg.EN && hbRole (pairPort s) s == 1 && hbUp (pairPort s) s

/-! ### Sending (R325, R328) -/

/-- The message that goes next: the first of the TYPE with the highest priority, which is the lowest number (R328). -/
def nextMsg (q : List HbMsg) : Option HbMsg :=
  q.find? fun m => q.all fun x => decide (m.typ ≤ x.typ)

/-- Take one part off a message, which is the first of its TYPE. -/
def takePart (m : HbMsg) : List HbMsg → List HbMsg
  | [] => []
  | x :: xs =>
    if x = m then (if 1 < x.parts.length then { x with part := x.part + 1, parts := x.parts.tail } :: xs else xs)
    else x :: takePart m xs

/-- Send frames while credits are held (R325). -/
def hbPump (p : HbIx) : Nat → State → State
  | 0, s => s
  | fuel + 1, s =>
    let cr := s.rd Reg.HbStat.CREDITS p.val
    if !hbUp p s || cr == 0 then s
    else match nextMsg (s.hb p).out with
      | none => s
      | some m =>
        let s := s.wr Reg.HbStat.CREDITS p.val 0 (cr - 1)
        let s := s.setHb p fun x => { x with
          out := takePart m x.out
          flight := x.flight ++ [⟨x.nextF, m.typ, m.msg, m.part, decide (m.parts.length ≤ 1), m.parts.headD [], 0⟩]
          nextF := (x.nextF + 1) % 256 }
        hbPump p fuel s

/-- Cut bytes into parts of 64. -/
def partsOf : Nat → List Byte → List (List Byte)
  | 0, _ => []
  | fuel + 1, bs => if bs.length ≤ 64 then [bs] else bs.take 64 :: partsOf fuel (bs.drop 64)

/-- Queue a message on a port; one that is not UP delivers nothing (R329). -/
def hbSend (p : HbIx) (typ : Fin 8) (bytes : List Byte) (s : State) : State :=
  if hbUp p s then
    let s := s.setHb p fun x => { x with
      out := x.out ++ [⟨typ.val, x.msgNo[typ], 0, partsOf 1024 bytes⟩], msgNo := x.msgNo.set typ ((x.msgNo[typ] + 1) % 65536) }
    hbPump p 16 s
  else s

/-! ### What the pair exchanges (R337, R339, R346) -/

/-- The device is OWNER or STANDBY with its pair link UP. -/
def pairLinked (s : State) : Bool := (s.rd Reg.PairStat.ROLE == 2 || s.rd Reg.PairStat.ROLE == 3) && pairUp s

/-- Journal traffic flows: SYNC is SYNCING or ALIGNED (Table 15.5). -/
def booksFlow (s : State) : Bool := pairLinked s && (s.rd Reg.PairStat.SYNC == 1 || s.rd Reg.PairStat.SYNC == 2)

/-- Send an ALIGN item from the owner. The spec gives the items of Table 15.4 and not their bytes: a tag byte and the fields in order are the model's (log entry 45). -/
def sendAlign (tag : Nat) (bs : List Byte) (s : State) : State :=
  if s.rd Reg.PairStat.ROLE == 2 && pairUp s then hbSend (pairPort s) 2 (leBytes 1 tag ++ bs) s else s

/-- A start or stop that owner firmware issues goes to the standby at once (Table 15.4). -/
def sendOrder (c : Ch) (start : Bool) (s : State) : State := sendAlign 0 (leBytes 1 c.val ++ leBytes 1 start.toNat) s

end Sys2Proof.Machine
end

