-- ==== Sys2Proof/Machine/Journal.lean ====
section
/-! DEFINITION. The journal and the change record (12_crown_mailboxes.md R279-R281, R287, R288). -/

namespace Sys2Proof.Machine

/-- Records of the journal ring (R279). -/
def journalSize : Nat := 32768
/-- Entries of the change-record ring (R288). -/
def changeSize : Nat := 16384

/-- Pad a body with 0 to `n` bytes, or cut it there. -/
def padTo (n : Nat) (bs : List Byte) : List Byte := (bs ++ List.replicate n 0).take n

/-- The 64 bytes of a journal record (Table 12.6). -/
def JRec.bytes (r : JRec) : List Byte :=
  let b := leBytes 1 (r.typ + 128 * r.carried.toNat) ++ leBytes 1 r.mbx ++ leBytes 2 r.part ++ leBytes 4 r.jseq ++ padTo 52 r.body
  b ++ leBytes 4 (crc32c b)

/-- The 64 bytes of a change-record entry (Table 12.8). -/
def CRec.bytes (r : CRec) : List Byte :=
  let b := leBytes 1 1 ++ leBytes 1 r.source ++ leBytes 1 r.kind ++ leBytes 1 r.mbx ++ leBytes 4 r.cseq ++ leBytes 4 r.epoch
    ++ leBytes 4 r.seq ++ leBytes 8 r.time ++ leBytes 8 r.rtc ++ leBytes 2 r.object ++ leBytes 2 r.item ++ leBytes 4 r.oldCrc
    ++ leBytes 4 r.newCrc ++ leBytes 1 r.last.toNat ++ List.replicate 15 0
  b ++ leBytes 4 (crc32c b)

/-- A mailbox. -/
def State.mb (s : State) (m : Mbx) : Mailbox := s.crown.mbxs[m]

/-- Change a mailbox. -/
def State.setMb (s : State) (m : Mbx) (f : Mailbox → Mailbox) : State :=
  { s with crown := { s.crown with mbxs := s.crown.mbxs.set m (f s.crown.mbxs[m]) } }

/-- Every mailbox, in order. -/
def allMbx : List Mbx := List.finRange 16

/-- The current host epoch. -/
def State.epoch (s : State) : Nat := s.rd Reg.HostStat.EPOCH

/-- A command is not final (Table 12.5). -/
def Cmd.live (c : Cmd) : Bool := c.st == .accepted || c.st == .executing

/-- Bytes 0-7 of the body of a record: epoch and sequence number of the command it is about (Table 12.7). -/
def JRec.about (r : JRec) (ep sq : Nat) : Bool := leAt r.body 0 4 == ep && leAt r.body 4 4 == sq

/-- A command of a mailbox is not final. -/
def liveIn (b : Mailbox) (r : JRec) : Bool := b.cmds.any fun c => c.live && r.about c.epoch c.seq

/-- A record of an entry whose command is not final (R280): ACCEPT, EXEC or ABORT_REQ, and the ACCEPT of a staged write that still waits for its UNLOCK (R298).
The DATA records of an ACCEPT entry go with it. -/
def entryLive (r : JRec) (s : State) : Bool :=
  decide (r.mbx < 16) &&
    (let mb := s.mb (Fin.ofNat 16 r.mbx)
     ((r.typ == 1 || r.typ == 3 || r.typ == 5) && liveIn mb r)
       || (r.typ == 1 && mb.lock.toList.any fun l => l.staged.any fun w => r.about w.epoch w.seq))

/-! ### Where records stand -/

/-- First block of the journal and of the change record (Table 16.2). -/
def journalBlock0 : Nat := 393216
def changeBlock0 : Nat := 475136

/-- The block that holds a journal record, and the one that holds a change-record entry: each partition is a ring of one record a block (R279, R288). -/
def journalBlock (jseq : Nat) : Nat := journalBlock0 + jseq % journalSize
def changeBlock (cseq : Nat) : Nat := changeBlock0 + cseq % changeSize

/-- Change the MRAM bookkeeping. -/
def State.setMem (s : State) (f : MemSt → MemSt) : State := { s with mem := f s.mem }

/-- The content of a block is lost: reads of it fail until it is written (R364). -/
def blockLost (blk : Nat) (s : State) : Bool := s.mem.lost.contains blk

/-- A block that fails lastingly and has no spare: every transfer of it fails (R366). -/
def blockDead (blk : Nat) (s : State) : Bool := blockLost blk s && !s.mem.remap.any fun r => r.1 == blk

/-- A block has been written: it can be read again (R364). -/
def blockWritten (blk : Nat) (s : State) : State :=
  if blockLost blk s then s.setMem fun m => { m with lost := m.lost.filter fun b => b != blk } else s

/-! ### Writing records (R279, R280, R337) -/

/-- The owner sends a record that it has formed to the standby (R337). -/
def jSend (r : JRec) (s : State) : State :=
  if s.rd Reg.PairStat.ROLE == 2 && booksFlow s then hbSend (pairPort s) 3 r.bytes s else s

/-- The newest record and the oldest of the ring, as object 0x4F11 reports them. -/
def jBounds (next : Nat) (jn : List JRec) (s : State) : State :=
  ({ s with crown := { s.crown with journal := jn } }.wr Reg.HostStat.JSEQ_NEXT 0 0 next).wr Reg.HostStat.OLDEST_JSEQ 0 0 ((jn.getLast?.map JRec.jseq).getD 0)

/-- Write a record at the ring head under the next JSEQ; a full ring loses its oldest record (R279). -/
def jPut (carried : Bool) (typ mbx part : Nat) (body : List Byte) (s : State) : State :=
  let j := s.rd Reg.HostStat.JSEQ_NEXT
  let old := if journalSize ≤ s.crown.journal.length then s.crown.journal.dropLast else s.crown.journal
  let r : JRec := ⟨carried, typ, mbx, part, j, padTo 52 body⟩
  jSend r (jBounds (j + 1) (r :: old) (blockWritten (journalBlock j) s))

/-- A VOID record over a JSEQ whose record cannot stand (R279). -/
def jVoid (s : State) : State := jPut false 0x0A 0xFF 0 [] s

/-- Copy the entry of a record that is about to be overwritten to the head under new JSEQs, with CARRIED set; the copy stands in for the original (R280). -/
def jCarry (r : JRec) (s : State) : State :=
  let n := if r.typ = 1 then leAt r.body 12 2 else 1
  let mine := fun (x : JRec) => decide (r.jseq ≤ x.jseq) && decide (x.jseq < r.jseq + n) && x.mbx == r.mbx
  let entry := s.crown.journal.filter mine
  let s := { s with crown := { s.crown with journal := s.crown.journal.filter fun x => !mine x } }
  entry.reverse.foldl (fun s x => jPut true x.typ x.mbx x.part x.body s) s

/-- Make room for `n` records at the head: the oldest records go, and entries of commands that are not final are carried first (R280). -/
def jRoom (n : Nat) : Nat → State → State
  | 0, s => s
  | fuel + 1, s =>
    if s.crown.journal.length + n ≤ journalSize then s
    else
      match s.crown.journal.getLast? with
      | some r =>
        jRoom n fuel (if entryLive r s then jCarry r s
          else { s with crown := { s.crown with journal := s.crown.journal.dropLast } })
      | none => s

/-- Reserve a contiguous range of `n` JSEQs whose blocks can be written; a position that cannot be written gets a VOID record (R279, R366, log entry 120). -/
def jClear (n : Nat) : Nat → State → State
  | 0, s => s
  | fuel + 1, s =>
    if (List.range n).any fun k => blockDead (journalBlock (s.rd Reg.HostStat.JSEQ_NEXT + k)) s then jClear n fuel (jVoid s) else s

/-- Room and range for an entry of `n` records. The fuels bound the entries that can be open and the positions of the ring. -/
def jReserve (n : Nat) (s : State) : State := jClear n journalSize (jRoom n 4096 s)

/-- Scope of a mailbox (R336): 0 PAIRED, 1 LOCAL_LO, 2 LOCAL_HI. While EN = 0 every mailbox is local. -/
def mbxScope (m : Mbx) (s : State) : Nat := s.rd Reg.PairCfg.MBX_SCOPE / 4 ^ m.val % 4

/-- A mailbox that this device serves: paired, or local to it (R336). -/
def mbxMine (m : Mbx) (s : State) : Bool :=
  let hi := s.rdB Reg.PairStat.PAIR_ID
  !s.rdB Reg.PairCfg.EN || mbxScope m s == 0 || (mbxScope m s == 1 && !hi) || (mbxScope m s == 2 && hi)

/-- A mailbox that serves the pair. -/
def mbxPaired (m : Mbx) (s : State) : Bool := s.rdB Reg.PairCfg.EN && mbxScope m s == 0

/-- This device follows the owner's records for a mailbox: it is the standby of a paired mailbox, outside MIXED (R338, Table 15.5). -/
def follows (m : Mbx) (s : State) : Bool :=
  s.rd Reg.PairStat.ROLE == 3 && mbxPaired m s && s.rd Reg.PairStat.SYNC != 3

/-- Crown firmware executes the commands of this mailbox on its own account: the mailbox is served here, and no owner's EXEC record is awaited (R338). -/
def actsFor (m : Mbx) (s : State) : Bool := mbxMine m s && !follows m s

/-- A standby whose books flow to the owner: the owner assigns every JSEQ, also to the records of the standby's local mailboxes (R337). -/
def standbyBooks (s : State) : Bool := s.rd Reg.PairStat.ROLE == 3 && booksFlow s

/-- Ask the owner to journal a record of a local mailbox: the record without a JSEQ, as a JOURNAL message (R337, log entry 45). -/
def jAsk (typ mbx part : Nat) (body : List Byte) (s : State) : State :=
  hbSend (pairPort s) 3 (JRec.bytes ⟨false, typ, mbx, part, 0, padTo 52 body⟩) s

/-- Write one entry: its records take a contiguous range of JSEQ (R279). The standby takes the records of paired mailboxes from the owner instead (R338). -/
def jEntry (mbx : Nat) (recs : List (Nat × Nat × List Byte)) (s : State) : State :=
  if mbx < 16 ∧ follows (Fin.ofNat 16 mbx) s = true then s
  else if standbyBooks s then recs.foldl (fun s r => jAsk r.1 mbx r.2.1 r.2.2 s) s
  else recs.foldl (fun s r => jPut false r.1 mbx r.2.1 r.2.2 s) (jReserve recs.length s)

/-- Write an entry of one record (Table 12.7). -/
def jAdd (typ mbx part : Nat) (body : List Byte) (s : State) : State := jEntry mbx [(typ, part, body)] s

/-- Records of the ACCEPT entry of a command: the ACCEPT record, and DATA records of 52 bytes each (Table 12.7). -/
def acceptParts (c : Cmd) : Nat := 1 + (c.payload.length + 51) / 52

/-- The ACCEPT entry of a command: type, part and body of each record. -/
def acceptRecs (c : Cmd) : List (Nat × Nat × List Byte) :=
  (1, 0, leBytes 4 c.epoch ++ leBytes 4 c.seq ++ leBytes 2 c.code ++ leBytes 2 c.payload.length ++ leBytes 2 (acceptParts c)
    ++ leBytes 1 c.source ++ leBytes 1 0 ++ leBytes 8 c.time ++ leBytes 4 (crc32c c.payload))
  :: (List.range (acceptParts c - 1)).map fun p => (2, p + 1, (c.payload.drop (52 * p)).take 52)

/-- Write the ACCEPT entry of a command. -/
def jAccept (m : Mbx) (c : Cmd) (s : State) : State := jEntry m.val (acceptRecs c) s

/-- Write a FINAL record (Table 12.7). -/
def jFinal (m : Mbx) (ep sq status state detail : Nat) (result : List Byte) (s : State) : State :=
  jAdd 4 m.val 0 (leBytes 4 ep ++ leBytes 4 sq ++ leBytes 1 status ++ leBytes 1 state ++ leBytes 2 detail
    ++ leBytes 2 result.length ++ leBytes 2 0 ++ leBytes 8 s.time ++ padTo 24 result) s

/-- Write an EXEC or ABORT_REQ record. -/
def jMark (typ : Nat) (m : Mbx) (ep sq : Nat) (s : State) : State :=
  jAdd typ m.val 0 (leBytes 4 ep ++ leBytes 4 sq ++ leBytes 8 s.time) s

/-- Write a LOCK, UNLOCK or BREAK record. -/
def jLock (typ : Nat) (m : Mbx) (ep sq : Nat) (groups : List Nat) (s : State) : State :=
  jAdd typ m.val 0 (leBytes 4 ep ++ leBytes 4 sq ++ leBytes 8 s.time ++ leBytes 1 groups.length ++ groups.flatMap (leBytes 1)) s

/-- The newest FINAL record of a command in the journal (R276). -/
def findFinal (m : Mbx) (ep sq : Nat) (s : State) : Option JRec :=
  s.crown.journal.find? fun r => r.typ == 4 && r.mbx == m.val && r.about ep sq

/-- A record of a type about a command stands in the journal. -/
def jHas (typ : Nat) (m : Mbx) (ep sq : Nat) (s : State) : Bool :=
  s.crown.journal.any fun r => r.typ == typ && r.mbx == m.val && r.about ep sq

/-- Payload of an ACCEPT entry when every part of it stands (Table 12.7); none when one is missing or VOID (R279). -/
def entryPayload (a : JRec) (s : State) : Option (List Byte) :=
  let n := leAt a.body 12 2 - 1
  let parts := (List.range n).map fun p => s.crown.journal.find? fun x => x.typ == 2 && x.mbx == a.mbx && x.part == p + 1 && x.jseq == a.jseq + p + 1
  if parts.all Option.isSome then some ((parts.flatMap fun x => (x.map JRec.body).getD []).take (leAt a.body 10 2)) else none

/-- The command of an ACCEPT entry, ACCEPTED. -/
def cmdOf (a : JRec) (p : List Byte) : Cmd :=
  let b := a.body
  ⟨leAt b 0 4, leAt b 4 4, leAt b 8 2, p, leAt b 14 1, leAt b 16 8, a.jseq, .accepted, 1, 0, [], false, false, none, false⟩

/-- What the change record says of who made a change (R287); `cmd`: a command of the journal made it, so that the entry can be found again. -/
structure Author where
  source : Nat
  mbx : Nat
  epoch : Nat
  seq : Nat
  cmd : Bool
deriving DecidableEq, Repr

/-- Append one change-record entry (R287, R288). -/
def cAdd (a : Author) (kind object item oldCrc newCrc : Nat) (last : Bool) (s : State) : State :=
  let c := s.rd Reg.HostStat.CSEQ_NEXT
  let old := if changeSize ≤ s.crown.changes.length then s.crown.changes.dropLast else s.crown.changes
  let cs := ⟨a.source, kind, a.mbx, c, a.epoch, a.seq, s.time, s.rd Reg.Rtc.RTC, object, item, oldCrc, newCrc, last⟩ :: old
  let s := { s with crown := { s.crown with changes := cs } }
  (s.wr Reg.HostStat.CSEQ_NEXT 0 0 (c + 1)).wr Reg.HostStat.OLDEST_CSEQ 0 0 ((cs.getLast?.map CRec.cseq).getD 0)

/-- An entry for the same epoch, mailbox, sequence number and object stands already (R281); a change that no journalled command makes is always a new one (R287). -/
def cHas (a : Author) (object : Nat) (s : State) : Bool :=
  a.cmd && decide (a.mbx < 16) && s.crown.changes.any fun r =>
    r.mbx == a.mbx && r.epoch == a.epoch && r.seq == a.seq && r.object == object

end Sys2Proof.Machine
end

