-- ==== Sys2Proof/Machine/Mailbox.lean ====
section
/-! DEFINITION. Mailboxes: command states, final responses, waiters of commands that run on, reply frames and locks (12_crown_mailboxes.md R266-R286, 13_command_reference.md R297). -/

namespace Sys2Proof.Machine

/-! ### Status codes of Table 13.6 -/

def stDone : Nat := 0x00
def stAccepted : Nat := 0x01
def stExecuting : Nat := 0x02
def stDuplicate : Nat := 0x10
def stSeqGap : Nat := 0x11
def stNoCredit : Nat := 0x12
def stFrameError : Nat := 0x13
def stInterrupted : Nat := 0x14
def stLockedByOther : Nat := 0x20
def stLockBroken : Nat := 0x21
def stNotLocked : Nat := 0x22
def stLockFull : Nat := 0x23
def stBankActive : Nat := 0x30
def stTableCheckFail : Nat := 0x31
def stSwapWithdrawn : Nat := 0x32
def stAborted : Nat := 0x40
def stAbortTooLate : Nat := 0x41
def stLifecycleDenied : Nat := 0x50
def stImageRejected : Nat := 0x51
def stTokenMismatch : Nat := 0x60
def stUnknownObject : Nat := 0x70
def stUnknownCommand : Nat := 0x71
def stBadLength : Nat := 0x72
def stLayoutMismatch : Nat := 0x73
def stFieldInvalid : Nat := 0x74
def stStateRefused : Nat := 0x75
def stNoSuchRecord : Nat := 0x76
def stInternal : Nat := 0x7F
def stStartRefused : Nat := 0x80
def stSessionRefused : Nat := 0x81

/-- How a command ends: status, DETAIL and result. -/
structure Done where
  status : Nat
  detail : Nat
  result : List Byte
deriving DecidableEq, Repr

/-- DONE with a detail and a result. -/
def Done.ok (detail : Nat := 0) (result : List Byte := []) : Done := ⟨stDone, detail, result⟩

/-- A failure without a result. -/
def Done.fail (status detail : Nat) : Done := ⟨status, detail, []⟩

/-- Final state of a status (Table 12.5). -/
def finalState (status : Nat) : CmdState :=
  if status = stDone then .done else if status = stAborted then .aborted else .failed

/-- STATE of Table 12.4. -/
def CmdState.code : CmdState → Nat
  | .accepted => 1 | .executing => 2 | .done => 3 | .failed => 4 | .aborted => 5

/-- Commands of a mailbox that hold credits (R271). -/
def Mailbox.queued (b : Mailbox) : Nat := b.cmds.length

/-- Responses of a mailbox that are pending (R278). -/
def Mailbox.pendingResp (b : Mailbox) : Nat := (b.cmds.filter fun c => !c.live).length

/-! ### The standby of a pair (R336-R340) -/

/-- The standby's outcome differs from the owner's: EXEC_DIFF_CNT, and SYNC leaves ALIGNED (R338, Table 15.5). -/
def execDiff (s : State) : State :=
  let s := s.count Reg.PairStat.EXEC_DIFF_CNT
  if s.rd Reg.PairStat.SYNC = 2 then s.wr Reg.PairStat.SYNC 0 0 1 else s

/-- The standby notes its own outcome; a command that the owner has made final is compared at once (R338). -/
def noteOwn (m : Mbx) (ep sq : Nat) (d : Done) (s : State) : State :=
  if (s.mb m).cmds.any fun c => c.live && c.epoch == ep && c.seq == sq then
    s.setMb m fun b => { b with cmds := b.cmds.map fun c =>
      if c.live && c.epoch == ep && c.seq == sq then { c with own := some d.status, detail := d.detail, result := d.result } else c }
  else match findFinal m ep sq s with
    | some r => if leAt r.body 8 1 = d.status then s else execDiff s
    | none => s

/-- A command reaches its final state: FINAL record, response pending behind those pending already, event MBXn (R272, R278). -/
def finalise (m : Mbx) (ep sq : Nat) (d : Done) (s : State) : State :=
  let s := jFinal m ep sq d.status (finalState d.status).code d.detail d.result s
  let s := s.setMb m fun b =>
    let mine := fun (c : Cmd) => c.live && c.epoch == ep && c.seq == sq
    { b with cmds := b.cmds.filter (fun c => !c.live) ++ (b.cmds.filter mine).map (fun c =>
        { c with st := finalState d.status, status := d.status, detail := d.detail, result := d.result, own := none })
      ++ b.cmds.filter fun c => c.live && !mine c }
  s.raise (448 + m.val)

/-- The command of a mailbox that is EXECUTING with this code. -/
def executing (m : Mbx) (code : Nat) (s : State) : Option Cmd :=
  (s.mb m).cmds.find? fun c => c.st == .executing && c.code == code

/-- Who to answer when a command with this code, executing now, ends later (R433). -/
def waiterOf (m : Mbx) (code : Nat) (s : State) : Waiter :=
  ⟨m, (executing m code s).map fun c => (c.epoch, c.seq)⟩

/-- End the command of a waiter. -/
def completeW (w : Waiter) (d : Done) (s : State) : State :=
  let s := match w.key with
    | some (ep, sq) =>
      if follows w.mbx s then noteOwn w.mbx ep sq d s
      else if (s.mb w.mbx).cmds.any (fun c => c.live && c.epoch == ep && c.seq == sq) then finalise w.mbx ep sq d s else s
    | none => s
  { s with report := some ⟨w.mbx.val, d.status, d.detail, d.result⟩ }

/-- End the command with this code that the mailbox executes now. -/
def complete (m : Mbx) (code : Nat) (d : Done) (s : State) : State := completeW (waiterOf m code s) d s

/-- End the commands of an optional waiter. -/
def completeO (w : Option Waiter) (d : Done) (s : State) : State :=
  match w with
  | some w => completeW w d s
  | none => s

/-- Transport number of a mailbox, as in Table 12.9 and object 0x4F10. -/
def Transport.code : Transport → Nat
  | .host => 0
  | .can c => 1 + c.val
  | .hb p => 5 + p.val

/-! ### One command at a time (R273, R433) -/

/-- Crown firmware processes this command now: it is EXECUTING and its effect has not been started. -/
def Cmd.inWork (c : Cmd) : Bool := c.st == .executing && !c.ran

/-- Crown firmware processes a command of a mailbox that it serves. -/
def crownBusy (s : State) : Bool := allMbx.any fun x => mbxMine x s && (s.mb x).cmds.any Cmd.inWork

/-- A command row acts as the command that its mailbox executes when code and payload are that command's (R272). With nothing accepted before it in any mailbox and
nothing unfinished in its own, it stands for the whole of its transaction (log entry 88). -/
def rowMay (m : Mbx) (code : Nat) (p : List Byte) (s : State) : Bool :=
  ((s.mb m).cmds.any fun c => c.inWork && c.code == code && c.payload == p)
    || (!crownBusy s && !((s.mb m).cmds.any Cmd.live)
      && allMbx.all fun x => !actsFor x s || (s.mb x).cmds.all fun c => c.st != .accepted)

/-- The command of a mailbox has been processed: what still executes waits for a device event (R433). -/
def processed (m : Mbx) (s : State) : State :=
  if (s.mb m).cmds.any Cmd.inWork then
    s.setMb m fun b => { b with cmds := b.cmds.map fun c => if c.inWork then { c with ran := true } else c }
  else s

/-- The author of what a mailbox's executing command changes (R287). -/
def authorOf (m : Mbx) (code : Nat) (s : State) : Author :=
  match executing m code s with
  | some c => ⟨c.source, m.val, c.epoch, c.seq, true⟩
  | none => ⟨s.rd Reg.MbxCfg.TRANSPORT 0 m.val, m.val, s.epoch, 0, false⟩

/-! ### Locks -/

/-- The group of an object: bits 15..8 of its id (R282). -/
def groupOf (oid : Nat) : Nat := oid / 256

/-- A lock of another mailbox holds the group (R283, R297). -/
def lockedByOther (m : Mbx) (g : Nat) (s : State) : Bool :=
  allMbx.any fun x => x != m && ((s.mb x).lock.toList.any fun l => l.groups.contains g)

/-- This mailbox holds the group. -/
def holdsGroup (m : Mbx) (g : Nat) (s : State) : Bool :=
  (s.mb m).lock.toList.any fun l => l.groups.contains g

/-- Time-base counts of a lease: 500 ms (R285). -/
def leaseCounts : Nat := 50000000

/-- A frame on the owning mailbox renews the lease of its lock (R285). -/
def renewLease (m : Mbx) (s : State) : State :=
  s.setMb m fun b => { b with lock := b.lock.map fun l => { l with lease := s.time + leaseCounts } }

/-- Break the lock of a mailbox: staged writes are discarded, a BREAK record is written, and its next SUBMIT fails (R285). -/
def breakLock (m : Mbx) (s : State) : State :=
  match (s.mb m).lock with
  | none => s
  | some l =>
    let s := jLock 9 m l.epoch 0 l.groups s
    s.setMb m fun b => { b with lock := none, lockBroken := true }

/-! ### Replies -/

/-- A reply frame with its CRC (Table 12.2). -/
def replyFrame (op mbx seq code flags credits : Nat) (payload : List Byte) : List Byte :=
  let b := leBytes 1 op ++ leBytes 1 mbx ++ leBytes 4 seq ++ leBytes 2 payload.length ++ leBytes 2 code
    ++ leBytes 1 flags ++ leBytes 1 credits ++ payload
  b ++ leBytes 4 (crc32c b)

/-- The 8-byte reply head (Table 12.4). -/
def replyHead (status state cmdStatus detail : Nat) : List Byte :=
  leBytes 1 status ++ leBytes 1 state ++ leBytes 1 cmdStatus ++ [0] ++ leBytes 2 detail ++ [0, 0]

/-- Where a command named in a frame stands (R276): queue of the mailbox, journal, or nowhere. -/
inductive Found where
  | queued (c : Cmd)
  | recorded (r : JRec)
  | gone
deriving DecidableEq, Repr

/-- Find a command of the current epoch by sequence number (R276). -/
def findCmd (m : Mbx) (sq : Nat) (s : State) : Found :=
  match (s.mb m).cmds.find? fun c => c.epoch == s.epoch && c.seq == sq with
  | some c => .queued c
  | none =>
    match findFinal m s.epoch sq s with
    | some r => .recorded r
    | none => .gone

/-- A delivery mark as it travels to the peer: mailbox and SEQ (R339). Its layout in the message is the model's (log entry 45). -/
def markBytes (m : Mbx) (sq : Nat) : List Byte := leBytes 1 m.val ++ leBytes 4 sq

/-- The reply with the final response of a command has been sent: its credit returns (R271, R278). -/
def deliver (m : Mbx) (ep sq : Nat) (s : State) : State :=
  s.setMb m fun b => { b with cmds := b.cmds.filter fun x => !(x.epoch == ep && x.seq == sq && !x.live) }

/-- Flag MIRRORED (Table 12.3): ACCEPTED covers both journals, in an ALIGNED pair with its link UP (R340, Table 15.5). -/
def mirrorFlag (s : State) : Nat := if pairUp s && s.rd Reg.PairStat.SYNC == 2 then 4 else 0

/-- Flags MORE and MIRRORED of a reply that leaves `taken` responses fewer pending (Table 12.3). -/
def baseFlags (m : Mbx) (taken : Nat) (s : State) : Nat := (if taken < (s.mb m).pendingResp then 1 else 0) + mirrorFlag s

/-- A reply that delivers nothing. -/
def Reply.plain (bs : List Byte) : Reply := ⟨bs, none⟩

/-- A reply that names a command, and delivers its response when that is pending (R271, R275, R276, R278).
`status` gives STATUS from the command's own status. -/
def reportCmd (op : Nat) (m : Mbx) (sq code : Nat) (status : Nat → Nat) (f : Found) (s : State) : Reply :=
  match f with
  | .gone => .plain (replyFrame op m.val sq code (baseFlags m 0 s + 16) 0 (replyHead (status 0xFF) 0 0xFF 0))
  | .recorded r =>
    let st := leAt r.body 8 1
    let rl := leAt r.body 12 2
    .plain (replyFrame op m.val sq code (baseFlags m 0 s + (if 24 < rl then 8 else 0)) 0
      (replyHead (status st) (leAt r.body 9 1) st (leAt r.body 10 2) ++ slice r.body 24 (min rl 24)))
  | .queued c =>
    let old := if c.epoch = s.epoch then 0 else 2
    if c.live then
      let st := if c.st = .executing then stExecuting else stAccepted
      .plain (replyFrame op m.val c.seq code (baseFlags m 0 s + old) 0 (replyHead (status st) c.st.code st 0))
    else
      ⟨replyFrame op m.val c.seq c.code (baseFlags m 1 s + old + (if c.part then 8 else 0)) 1
        (replyHead (status c.status) c.st.code c.status c.detail ++ c.result), some (m, c.epoch, c.seq)⟩

end Sys2Proof.Machine
end

