-- ==== Sys2Proof/Machine/OutStage.lean ====
section
/-! DEFINITION. The output path of the pulse generator (07_pulse_generation.md R139-R160, Table 7.1): pair states, dead time, minimum pulse, interlock, cuts, and the level at the pin with the GDI and the override; the auxiliary half-bridge (08_gate_drive.md R181-R183). -/

namespace Sys2Proof.Machine

/-- An output PWM0-PWM11. -/
abbrev OutIx := Fin 12
/-- A pair or DFB input 0-5. -/
abbrev PairIx := Fin 6

/-- Every output, every pair. -/
def allOut : List OutIx := List.finRange 12
def allPair : List PairIx := List.finRange 6

/-- Even output of a pair (R139). -/
def evenOut (k : PairIx) : OutIx := ⟨2 * k.val, by omega⟩
/-- Odd output of a pair. -/
def oddOut (k : PairIx) : OutIx := ⟨2 * k.val + 1, by omega⟩
/-- Pair of an output. -/
def pairOf (j : OutIx) : PairIx := ⟨j.val / 2, by omega⟩
/-- The other output of the pair. -/
def partner (j : OutIx) : OutIx := if j.val % 2 = 0 then oddOut (pairOf j) else evenOut (pairOf j)

/-- PG states of Table 7.6. -/
def pgStopped : Nat := 0
def pgRunning : Nat := 1
def pgHalted : Nat := 2

/-- The pulse generator of a channel. -/
def State.pg (s : State) (c : Ch) : PgSt := (s.ch c).pg

/-- Change the pulse generator of a channel. -/
def State.setPg (s : State) (c : Ch) (f : PgSt → PgSt) : State := s.setCh c fun x => { x with pg := f x.pg }

/-- One output. -/
def State.out (s : State) (c : Ch) (j : OutIx) : OutSt := (s.pg c).outs[j]

/-- Change one output. -/
def State.setOut (s : State) (c : Ch) (j : OutIx) (f : OutSt → OutSt) : State :=
  s.setPg c fun p => { p with outs := p.outs.set j (f p.outs[j]) }

/-- The PG of a channel is RUNNING. -/
def pgIsRunning (c : Ch) (s : State) : Bool := s.rd Reg.PgStat.STATE (cI c) == pgRunning

/-! ### Comparator and FLT levels -/

/-- Comparator j is enabled. -/
def cmpOn (c : Ch) (j : Nat) (s : State) : Bool := s.rdB Reg.CmpCfg.EN (cI c) j

/-- The window of comparator j lets its gated outputs through (R108). -/
def windowOpen (c : Ch) (j : Nat) (s : State) : Bool :=
  !s.rdB Reg.CmpCfg.WIN_GATE (cI c) j || bit (s.rd Reg.CmpStat.WIN_OPEN (cI c)) j

/-- PROT or PROT_RAW of comparator j (Table 5.7): UNRESOLVED reads as asserted. -/
def protAsserted (c : Ch) (j : Fin 16) (s : State) : Bool :=
  cmpOn c j s && s.rdB Reg.CmpCfg.PG_CUT (cI c) j && windowOpen c j s &&
    (let x := (s.ch c).cmps[j]
     (if s.rdB Reg.CmpCfg.CUT_RAW (cI c) j then x.raw else x.filt) != some false)

/-- OC of comparator j (Table 5.7): not gated, UNRESOLVED reads as asserted. -/
def ocAsserted (c : Ch) (j : Fin 16) (s : State) : Bool :=
  cmpOn c j s && s.rdB Reg.CmpCfg.GDI_OC (cI c) j && ((s.ch c).cmps[j]).filt != some false

/-- EV of comparator j (Table 5.7). -/
def evAsserted (c : Ch) (j : Fin 16) (s : State) : Bool :=
  cmpOn c j s && windowOpen c j s && ((s.ch c).cmps[j]).filt == some true

/-- FLT input f is enabled and asserted. -/
def fltAsserted (c : Ch) (f : Nat) (s : State) : Bool :=
  s.rdB Reg.PgCut.EN (cI c) f && bit (s.pg c).flt f

/-- Some cut source of an output is asserted (R157). -/
def cutSourceOn (c : Ch) (j : OutIx) (s : State) : Bool :=
  ((List.range 4).any fun f => fltAsserted c f s && bit (s.rd Reg.PgCut.MASK (cI c) f) j.val)
    || ((List.finRange 16).any fun k => protAsserted c k s && bit (s.rd Reg.PgCut.CUT_MASK (cI c) k.val) j.val)

/-! ### Which pairs run in pattern mode, and the carrier -/

/-- Pair in pattern mode: PAT_NOW (07_pulse_generation.md, Pattern-mode pairs). -/
def patMode (c : Ch) (k : PairIx) (s : State) : Bool := bit (s.rd Reg.PgStat.PAT_NOW (cI c)) k.val

/-- CARRIER_SRC = ANGLE (R143). -/
def angleCarrier (c : Ch) (s : State) : Bool := s.rdB Reg.PgCfg.CARRIER_SRC (cI c)

/-- Length of the carrier period: 32nds of a tick, or counts of the angle (R142, R143). -/
def carrierP (c : Ch) (s : State) : Nat :=
  if angleCarrier c s then 2 ^ 32 else s.rd Reg.PgStat.PERIOD_NOW (cI c)

/-- On-width of a duty in a period (R144). -/
def onWidth (d p : Nat) : Nat := (2 * d * p + 2 ^ 32) / 2 ^ 33

/-- On-width of a pair under the applied set. -/
def pairW (c : Ch) (k : PairIx) (s : State) : Nat := onWidth (s.rd Reg.PgStat.DUTY_NOW (cI c) k.val) (carrierP c s)

/-- SHAPE = TRIANGLE. -/
def triangle (c : Ch) (s : State) : Bool := s.rdB Reg.PgCfg.SHAPE (cI c)

/-- Centre of the period (R144). -/
def centrePos (c : Ch) (s : State) : Nat := carrierP c s / 2

/-- Position of the first edge of a pair under the applied set (R144): none without an on-interval. -/
def firstPos (c : Ch) (k : PairIx) (s : State) : Option Nat :=
  let w := pairW c k s
  if w = 0 then none
  else if carrierP c s ≤ w then some 0
  else some (if triangle c s then centrePos c s - w / 2 else 0)

/-- Position of the second edge of a pair whose first has fired, under the applied set (R144): none while on throughout.
A width of 0 puts it at 0, or at the centre of a TRIANGLE. -/
def secondPos (c : Ch) (k : PairIx) (s : State) : Option Nat :=
  let w := pairW c k s
  if carrierP c s ≤ w then none
  else some (if triangle c s then centrePos c s + w - w / 2 else w)

/-- Pair state in and outside the on-interval (Table 7.2). -/
def cmodeState (mode : Nat) (inside : Bool) : Nat :=
  if inside then (if mode = 0 ∨ mode = 1 then 1 else if mode = 2 then 2 else 0)
  else if mode = 0 then 2 else 0

/-- CMODE of a pair. -/
def cmodeOf (c : Ch) (k : PairIx) (s : State) : Nat := s.rd Reg.PgCfg.CMODE (cI c) / 4 ^ k.val % 4

/-- Position in the current period (POS of Table 7.13). -/
def carrierPos (c : Ch) (s : State) : Nat :=
  if angleCarrier c s then (s.ch c).angle else (s.now - (s.pg c).periodStart) % 2 ^ 32

/-- Carrier state of a pair from the edges fired in its period. -/
def PairSt.carrier (p : PairSt) (mode : Nat) : Nat := cmodeState mode (p.first && !p.second)

/-- Output j is active in a pair state (R139). -/
def activeIn (j : OutIx) (st : Nat) : Bool := if j.val % 2 = 0 then st == 1 else st == 2

/-- An angle distance as a time in 1/32 tick at the frequency word in use (R153). -/
def angleToTime (c : Ch) (d : Nat) (s : State) : Nat :=
  let fw := (s.ch c).at_.fw.natAbs
  if fw = 0 then 2 ^ 64 else d * 2 ^ 16 * 32 / fw

/-- Edges of a pair still to come in this period and through the next under the applied set: position and state (R153). -/
def carrierAhead (c : Ch) (k : PairIx) (s : State) : List (Nat × Nat) :=
  let pr := ((s.pg c).prs)[k]
  let mode := cmodeOf c k s
  let e1 := if pr.first then none else firstPos c k s
  let e2 := if pr.second ∨ (pr.first = false ∧ e1 = none) then none else secondPos c k s
  let at0 := firstPos c k s == some 0 && !(secondPos c k s == some 0)
  let next := (firstPos c k s).toList.flatMap fun p =>
    (p, cmodeState mode true) :: ((secondPos c k s).toList.map fun q => (q, cmodeState mode false))
  (e1.toList.map fun p => (p, cmodeState mode true)) ++ (e2.toList.map fun p => (p, cmodeState mode false))
    ++ (carrierP c s, cmodeState mode at0) :: (next.map fun e => (carrierP c s + e.1, e.2))

/-- Next carrier edge that ends the activity of output j, as a time from now in 1/32 tick. -/
def carrierFallIn (c : Ch) (j : OutIx) (s : State) : Option Nat :=
  ((carrierAhead c (pairOf j) s).find? fun e => !activeIn j e.2).map fun e =>
    if angleCarrier c s then angleToTime c (e.1 - (s.ch c).angle) s else (s.pg c).periodStart + e.1 - s.now

/-- Distance to the first edge of a turn-long list, from index `i` on, that does not keep output j active. -/
def patFallIn (c : Ch) (j : OutIx) (s : State) : Option Nat :=
  let pp := ((s.ch c).batt.pairs)[pairOf j]
  let a := (s.ch c).angle
  let rest := pp.edges.drop pp.fired
  match rest.find? fun e => !activeIn j e.2 with
  | some e => some (angleToTime c (e.1 - a) s)
  | none =>
    match pp.edges.find? fun e => !activeIn j e.2 with
    | some e => some (angleToTime c (e.1 + 2 ^ 32 - a) s)
    | none => none

/-- Fall due of output j, judged at the rise (R153): time from now of the ideal fall. -/
def fallIn (c : Ch) (j : OutIx) (s : State) : Option Nat :=
  if patMode c (pairOf j) s then patFallIn c j s else carrierFallIn c j s

/-! ### Stages 1 to 4 -/

/-- Stage 2: an ideal level change enters the dead-time stage (R152). Answers whether a pulse or gap was removed. -/
def OutSt.setIdeal (o : OutSt) (lvl : Bool) (t rise fall : Nat) : OutSt × Bool :=
  if o.ideal = lvl then (o, false)
  else
    let t' := if lvl then t + rise else t + fall
    match o.sched.getLast? with
    | some (u, l) =>
      if l ≠ lvl ∧ t' ≤ u then ({ o with ideal := lvl, sched := o.sched.dropLast }, true)
      else ({ o with ideal := lvl, sched := o.sched ++ [(t', lvl)] }, false)
    | none => ({ o with ideal := lvl, sched := [(t', lvl)] }, false)

/-- Stage 1: command an ideal level for an output at an instant. -/
def setIdeal (c : Ch) (j : OutIx) (lvl : Bool) (t : Nat) (s : State) : State :=
  let r := (s.out c j).setIdeal lvl t (s.rd Reg.PgOut.RISE_DLY (cI c) j.val) (s.rd Reg.PgOut.FALL_DLY (cI c) j.val)
  let s := s.setOut c j fun _ => r.1
  if r.2 then s.count Reg.PgStat.SWALLOW_CNT (cI c) else s

/-- Stage 1: command a pair state at an instant (R139). -/
def setPair (c : Ch) (k : PairIx) (st t : Nat) (s : State) : State :=
  let s := s.setPg c fun p => { p with prs := p.prs.set k { p.prs[k] with state := st } }
  setIdeal c (oddOut k) (activeIn (oddOut k) st) t (setIdeal c (evenOut k) (activeIn (evenOut k) st) t s)

/-- Fire the edges of a carrier pair that lie at or before a position, at an instant (R144, R147): a rise and a fall both at the position make no pulse. -/
def carrierFire (c : Ch) (k : PairIx) (x t : Nat) (s : State) : State :=
  let pr := ((s.pg c).prs)[k]
  let first := pr.first || (match firstPos c k s with
    | some p => decide (p ≤ x)
    | none => false)
  let second := pr.second || (first && match secondPos c k s with
    | some p => decide (p ≤ x)
    | none => false)
  let was := pr.state
  let s := s.setPg c fun p => { p with prs := p.prs.set k { p.prs[k] with first := first, second := second } }
  let st := (PairSt.mk first second was).carrier (cmodeOf c k s)
  if st = was then s else setPair c k st t s

/-- Minimum pulse of an output. -/
def minPulse (c : Ch) (j : OutIx) (s : State) : Nat := s.rd Reg.PgOut.MINPULSE (cI c) j.val

/-- A minimum-pulse action (R153). -/
def mpAction (c : Ch) (s : State) : State := fire c evMinpulse (s.count Reg.PgStat.MP_CNT (cI c))

/-- The partner keeps an output from rising at an instant (R154). -/
def ilkBlocks (c : Ch) (j : OutIx) (t : Nat) (s : State) : Bool :=
  let p := s.out c (partner j)
  p.lvl || (match p.fellAt with
    | some f => decide (t < f + s.rd Reg.PgOut.ILK_GAP (cI c) (pairOf j).val)
    | none => false)

/-- DFB input k is asserted after POL and FILT. -/
def dfbOn (c : Ch) (k : PairIx) (s : State) : Bool := bit (s.rd Reg.GdiStat.DFB_NOW (cI c)) k.val

/-- The sources that latched an output are healthy (R178): after a DESAT fault the DFB input of the pair is deasserted, after an OC fault the OC
output of every comparator whose OC_MASK names the output. -/
def faultHealthy (c : Ch) (j : OutIx) (s : State) : Bool :=
  !(bit (s.pg c).latchDesat j.val && dfbOn c (pairOf j) s)
    && !(bit (s.pg c).latchOc j.val
      && (List.finRange 16).any fun m => ocAsserted c m s && bit (s.rd Reg.GdiCfg.OC_MASK (cI c) m.val) j.val)

/-- GDI leaves RECOVERY when its timer has expired and no off-latch is set (Table 8.1). -/
def leaveRecovery (c : Ch) (s : State) : State :=
  if s.rd Reg.GdiStat.STATE (cI c) = 3 ∧ (s.pg c).recovExpired = true ∧ s.rd Reg.GdiStat.OFF_LATCH (cI c) = 0 then
    s.wr Reg.GdiStat.STATE (cI c) 0 (if s.rdB Reg.GdiCfg.SERVICE (cI c) then 2 else 1)
  else s

/-- At a rise from stage 4 an off-latch clears if its source is healthy (R178). -/
def latchTest (c : Ch) (j : OutIx) (s : State) : State :=
  if bit (s.rd Reg.GdiStat.OFF_LATCH (cI c)) j.val && faultHealthy c j s then
    let s := s.setPg c fun p => { p with latchDesat := setBit p.latchDesat j.val false, latchOc := setBit p.latchOc j.val false }
    leaveRecovery c (s.wrBit Reg.GdiStat.OFF_LATCH (cI c) 0 j.val false)
  else s

/-- Latency of the synchronous stages: 4 ticks (R141). -/
def pinLatency : Nat := 128

/-- Stage 4: the output rises. -/
def rise4 (c : Ch) (j : OutIx) (t : Nat) (s : State) : State :=
  let s := s.setOut c j fun o => { o with lvl := true, held := false, pipe := o.pipe ++ [(t + pinLatency, true)] }
  latchTest c j s

/-- Stages 3 and 4: a delayed rise falls due (R153, R154). -/
def riseDue (c : Ch) (j : OutIx) (t : Nat) (s : State) : State :=
  let o := s.out c j
  let mp := minPulse c j s
  match o.stretch with
  | some tf => s.setOut c j fun o => { o with stretch := none, merged := some tf }
  | none =>
    let short := match o.sched.find? fun e => !e.2 with
      | some e => decide (e.1 < t + mp)
      | none =>
        match fallIn c j s with
        | some d => decide (s.now + d + s.rd Reg.PgOut.FALL_DLY (cI c) j.val < t + mp)
        | none => false
    if 0 < mp ∧ s.rdB Reg.PgOut.MP_MODE (cI c) j.val = false ∧ short = true then
      mpAction c (s.setOut c j fun o => { o with suppressed := true })
    else
      let s := s.setOut c j fun o => { o with roseAt := t, merged := none }
      if ilkBlocks c j t s then
        ((s.setOut c j fun o => { o with held := true }).count Reg.PgStat.ILK_CNT (cI c)).wr Reg.PgStat.INTERLOCK_SEEN (cI c) 0 1
      else rise4 c j t s

/-- Stage 4: the output falls, or a held pulse is removed (R154). -/
def fall4 (c : Ch) (j : OutIx) (t : Nat) (s : State) : State :=
  s.setOut c j fun o =>
    if o.held then { o with held := false, stretch := none, merged := none }
    else { o with lvl := false, fellAt := some t, stretch := none, merged := none, pipe := o.pipe ++ [(t + pinLatency, false)] }

/-- Stages 3 and 4: a delayed fall falls due (R153). -/
def fallDue (c : Ch) (j : OutIx) (t : Nat) (s : State) : State :=
  let o := s.out c j
  let mp := minPulse c j s
  if o.suppressed then s.setOut c j fun o => { o with suppressed := false }
  else match o.merged with
    | some tf =>
      if t < tf then s.setOut c j fun o => { o with stretch := some tf, merged := none } else fall4 c j t s
    | none =>
      if 0 < mp ∧ t < o.roseAt + mp then
        mpAction c (s.setOut c j fun o => { o with stretch := some (o.roseAt + mp) })
      else fall4 c j t s

/-- What an output has due next by an instant: time, and whether it is a rise. Falls come first at equal times. -/
def OutSt.next (o : OutSt) (now : Nat) : Option (Nat × Nat) :=
  let h := match o.sched with
    | (t, l) :: _ => if t ≤ now then some (2 * t + l.toNat, if l then 1 else 0) else none
    | [] => none
  match o.stretch, h with
  | some tf, some (k, e) => if tf ≤ now ∧ 2 * tf < k then some (2 * tf, 2) else some (k, e)
  | some tf, none => if tf ≤ now then some (2 * tf, 2) else none
  | none, h => h

/-- Take one due edge of an output: 0 a delayed fall, 1 a delayed rise, 2 a stretched fall. -/
def takeEdge (c : Ch) (j : OutIx) (key kind : Nat) (s : State) : State :=
  if kind = 2 then fall4 c j (key / 2) s
  else
    let s := s.setOut c j fun o => { o with sched := o.sched.tail }
    if kind = 1 then riseDue c j (key / 2) s else fallDue c j (key / 2) s

/-- The instant up to which delayed edges are taken: one tick before now. An edge of stage 1 falls due within the tick that fires it, so none that is still
to come in this tick lies before it (R152). -/
def dueBy (s : State) : Nat := s.now - 32

/-- Take the due edges of a pair in order of time. -/
def advancePair (c : Ch) (k : PairIx) : Nat → State → State
  | 0, s => s
  | fuel + 1, s =>
    match (s.out c (evenOut k)).next (dueBy s), (s.out c (oddOut k)).next (dueBy s) with
    | none, none => s
    | some (a, e), none => advancePair c k fuel (takeEdge c (evenOut k) a e s)
    | none, some (b, f) => advancePair c k fuel (takeEdge c (oddOut k) b f s)
    | some (a, e), some (b, f) =>
      if a ≤ b then advancePair c k fuel (takeEdge c (evenOut k) a e s)
      else advancePair c k fuel (takeEdge c (oddOut k) b f s)

/-- Take every due edge of a channel. -/
def advanceOuts (c : Ch) (s : State) : State := allPair.foldl (fun s k => advancePair c k 64 s) s

/-! ### Cuts (stage 5) -/

/-- A source assigned to a set of outputs asserts (R156): the outputs not cut yet are cut; `cnt` counts the assertion. -/
def startCut (c : Ch) (mask : Nat) (cnt : State → State) (s : State) : State :=
  let now := s.rd Reg.PgStat.CUT_NOW (cI c)
  if mask &&& now = mask then s
  else
    let s := cnt (s.wr Reg.PgStat.CUT_NOW (cI c) 0 (now ||| mask))
    if (s.pg c).cutTick then s
    else fire c evFltCut (s.setPg c fun p => { p with cutTick := true })

/-- FLT input f asserts (R158). -/
def fltCut (c : Ch) (f : Nat) (s : State) : State :=
  if fltAsserted c f s then
    startCut c (s.rd Reg.PgCut.MASK (cI c) f) (fun s => s.count Reg.PgStat.FLT_CUT_CNT (cI c) f) s
  else s

/-- PROT of comparator j asserts (R156). -/
def cmpCut (c : Ch) (j : Fin 16) (s : State) : State :=
  if protAsserted c j s then
    startCut c (s.rd Reg.PgCut.CUT_MASK (cI c) j.val) (fun s => s.count Reg.PgStat.CMP_CUT_CNT (cI c)) s
  else s

/-- The cut interval of an output ends (R157): released when no source is asserted, and then taken as an ideal rise if its ideal level is active. -/
def cutEnd (c : Ch) (j : OutIx) (t : Nat) (s : State) : State :=
  if bit (s.rd Reg.PgStat.CUT_NOW (cI c)) j.val && !cutSourceOn c j s then
    let s := s.wrBit Reg.PgStat.CUT_NOW (cI c) 0 j.val false
    let act := (s.out c j).ideal
    let s := s.setOut c j fun o =>
      { o with ideal := false, sched := [], lvl := false, suppressed := false, stretch := none, merged := none, held := false, pipe := [], drv := false }
    if act then setIdeal c j true t s else s
  else s

/-! ### The pin (stages 6 to 8) -/

/-- Level of the pin when an output is active (R139). -/
def activeLvl (c : Ch) (j : OutIx) (s : State) : Nat := 1 - s.rd Reg.PgOut.POL (cI c) j.val

/-- Squall step 1 holds the output at SAFE_LVL: it is in OUTER_MASK (R176). -/
def squallOuter (c : Ch) (j : OutIx) (s : State) : Bool := (s.pg c).sqAllowed.isSome && bit (s.rd Reg.GdiCfg.OUTER_MASK (cI c)) j.val

/-- Squall step 1 lets the output be active: it was when the step began, and has not fallen since (R176). -/
def squallMay (c : Ch) (j : OutIx) (s : State) : Bool :=
  match (s.pg c).sqAllowed with
  | some m => bit m j.val
  | none => true

/-- Something after stage 4 holds the output at SAFE_LVL (Table 7.1, stages 5 to 7). -/
def overridden (c : Ch) (j : OutIx) (s : State) : Bool :=
  !pgIsRunning c s || bit (s.rd Reg.PgStat.CUT_NOW (cI c)) j.val || bit (s.rd Reg.GdiStat.OFF_LATCH (cI c)) j.val
    || squallOuter c j s

/-- The output is active at the pin. -/
def pinActive (c : Ch) (j : OutIx) (s : State) : Bool :=
  if overridden c j s then s.rd Reg.PgOut.SAFE_LVL (cI c) j.val == activeLvl c j s else (s.out c j).drv && squallMay c j s

/-- Level of the pin: none is high impedance (R159, R161). -/
def pinLevel (c : Ch) (j : OutIx) (s : State) : Option Nat :=
  if s.rdB Reg.PgStat.HIZ (cI c) then none
  else if overridden c j s then some (s.rd Reg.PgOut.SAFE_LVL (cI c) j.val)
  else some (if (s.out c j).drv && squallMay c j s then activeLvl c j s else 1 - activeLvl c j s)

/-- Edges that have reached the pin by now. -/
def OutSt.arrive (o : OutSt) (now : Nat) : OutSt :=
  let due := o.pipe.filter fun e => decide (e.1 ≤ now)
  { o with pipe := o.pipe.filter (fun e => !decide (e.1 ≤ now)), drv := (due.getLast?.map Prod.snd).getD o.drv }

/-- During Squall step 1 an output whose command has fallen may not rise again (R176). -/
def squallDrop (c : Ch) (j : OutIx) (s : State) : State :=
  match (s.pg c).sqAllowed with
  | some m => if (s.out c j).drv then s else s.setPg c fun p => { p with sqAllowed := some (setBit m j.val false) }
  | none => s

/-! ### Auxiliary half-bridge -/

/-- The HB follows its pair (R181): EN, not in a standby, no refresh running. -/
def hbFollows (c : Ch) (s : State) : Bool := s.rdB Reg.Hb.EN (cI c) && !s.rdB Reg.PgStat.HIZ (cI c)

/-- The pair whose levels drive the HB. -/
def hbPair (c : Ch) (s : State) : PairIx := Fin.ofNat 6 (s.rd Reg.Hb.PAIR (cI c))

/-- A refresh that has run to its end (R182), or whose half-bridge no longer follows: LO is off since its end, and edges commanded during it take effect now. -/
def refreshEnd (on : Bool) (dt now : Nat) (p : PgSt) : PgSt :=
  match p.refreshAt with
  | some t0 => if t0 + 2 * dt + 6400 ≤ now ∨ on = false then { p with refreshAt := none, lo := false, loFell := t0 + dt + 6400 } else p
  | none => p

/-- The two sides follow their levels with the gap HB_DT between a fall and the rise of the other (R181). -/
def hbDrive (wantHo wantLo : Bool) (dt now : Nat) (p : PgSt) : PgSt :=
  let p := if p.ho && !wantHo then { p with ho := false, hoFell := now } else p
  let p := if p.lo && !wantLo then { p with lo := false, loFell := now } else p
  let p := if wantHo && !p.ho && !p.lo && decide (p.loFell + dt ≤ now) then { p with ho := true } else p
  if wantLo && !p.lo && !p.ho && decide (p.hoFell + dt ≤ now) then { p with lo := true } else p

/-- HB after the pins have settled: dead time between the sides, refresh, and sides held off (R181-R183): HO until a commanded rise that finds BOOT - HS
above 9.5 V, and both after VDRV_UV until their next commanded edges. -/
def hbSettle (c : Ch) (s : State) : State :=
  let k := hbPair c s
  let on := hbFollows c s
  let ho := on && pinActive c (evenOut k) s
  let lo := on && pinActive c (oddOut k) s
  let dt := s.rd Reg.Hb.HB_DT (cI c)
  let now := s.now
  let p := s.pg c
  let uv := s.rdB Reg.Hb.VDRV_UV (cI c)
  let hoHeld := p.hoHeld && !(ho && !p.hoCmd && !uv && p.bootOk)
  let loHeld := p.loHeld && !(lo != p.loCmd && !uv)
  let s := if p.hoHeld && !hoHeld then s.wr Reg.Hb.HBOOT_UV (cI c) 0 0 else s
  s.setPg c fun p =>
    let p := refreshEnd on dt now { p with hoCmd := ho, loCmd := lo, hoHeld := hoHeld, loHeld := loHeld }
    match p.refreshAt with
    | some t0 => { p with ho := false, lo := decide (t0 + dt ≤ now) && decide (now < t0 + dt + 6400) && !loHeld && !uv }
    | none => hbDrive (ho && !hoHeld && !uv) (lo && !loHeld && !uv) dt now p

end Sys2Proof.Machine
end

