-- ==== Sys2Proof/Machine/Bank.lean ====
section
/-! DEFINITION. Batt images (04_batt_tables.md): reading a bank, the image checks of Table 4.8, ES entries (03_angle_timebase.md Table 3.7, R59) and pattern interpolation (R85). -/

namespace Sys2Proof.Machine

/-- Bytes in a bank and in a store slot. -/
def bankSize : Nat := 262144

/-- Angle of an occurrence of an entry. -/
def EsEntry.occ (e : EsEntry) (i : Nat) : Nat := (e.angle + i * e.step) % 2 ^ 32

/-- PARAM is used by CE_SLOT and CAP (Table 3.8). -/
def EsEntry.usesParam (e : EsEntry) : Bool := e.action == 4 || e.action == 8

/-- R59: occurrences of an entry never fall on one angle, and PARAM names a slot or capture. -/
def EsEntry.ok59 (e : EsEntry) : Bool :=
  decide (e.step * (e.reps + 1) ≤ 2 ^ 32) && !(e.step == 0 && decide (0 < e.reps)) && !(e.usesParam && decide (3 < e.param))

/-! ### Reading bytes of an image held as an array -/

/-- One byte. -/
def u8 (a : Array Byte) (i : Nat) : Nat := (a.getD i 0).toNat
/-- A 16-bit field. -/
def u16 (a : Array Byte) (i : Nat) : Nat := u8 a i + 256 * u8 a (i + 1)
/-- A 32-bit field. -/
def u32 (a : Array Byte) (i : Nat) : Nat := u16 a i + 65536 * u16 a (i + 2)
/-- A signed 32-bit field. -/
def s32 (a : Array Byte) (i : Nat) : Int := sgn 32 (u32 a i)
/-- Bytes `lo … hi − 1` are 0. -/
def zeros (a : Array Byte) (lo hi : Nat) : Bool := (List.range (hi - lo)).all fun i => u8 a (lo + i) == 0
/-- A condition for every number below `n`. -/
def allBelow (n : Nat) (p : Nat → Bool) : Bool := (List.range n).all p
/-- Bytes of block `i`. -/
def blockOf (a : Array Byte) (i : Nat) : List Byte := (List.range 1024).map fun k => a.getD (1024 * i + k) 0

/-- The ES entry at a byte offset. -/
def esAt (a : Array Byte) (o : Nat) : EsEntry :=
  ⟨u32 a o, u32 a (o + 4), u16 a (o + 8), u16 a (o + 10), u8 a (o + 12) / 16 % 4, u8 a (o + 12) % 16, u8 a (o + 13),
   bit (u8 a (o + 14)) 3, u8 a (o + 14) % 8, u8 a (o + 15)⟩

/-- Number of patterns. -/
def imgNPat (a : Array Byte) : Nat := u8 a 16
/-- Number of blocks. -/
def imgNBlocks (a : Array Byte) : Nat := u16 a 14
/-- PAIR_MASK. -/
def imgPairMask (a : Array Byte) : Nat := u8 a 17 % 64
/-- MOD of a pattern. -/
def imgMod (a : Array Byte) (p : Nat) : Nat := u32 a (23552 + 2048 * p)
/-- Edges of a pair in a pattern. -/
def imgNEdge (a : Array Byte) (p k : Nat) : Nat := u8 a (23552 + 2048 * p + 4 + k)
/-- An edge word. -/
def imgEdge (a : Array Byte) (p k i : Nat) : Nat := u32 a (23552 + 2048 * p + 16 + 256 * k + 4 * i)
/-- Angle of an edge word (Table 4.7). -/
def edgeAngle (w : Nat) : Nat := w / 4 * 4
/-- State of an edge word. -/
def edgeState (w : Nat) : Nat := w % 4
/-- Region descriptor fields: COEF_SET, THR_SET, PAT_FIRST, PAT_LAST (Table 4.4). -/
def imgRegion (a : Array Byte) (r : Nat) : Nat × Nat × Nat × Nat :=
  let o := 2048 + 64 + 16 * r
  (u8 a o % 16, u8 a (o + 1) % 16, u8 a (o + 2), u8 a (o + 3))

/-! ### Checks of Table 4.8 -/

/-- Check 1: HDR_CRC. -/
def chk1 (a : Array Byte) : Bool := crc32c ((blockOf a 0).take 1020) == u32 a 1020
/-- Check 2: identity. -/
def chk2 (a : Array Byte) : Bool := u32 a 0 == 0x54544142 && u8 a 4 == 1 && u16 a 6 == 0x4860 && u32 a 8 != 0
/-- Check 3: CH_MASK. -/
def chk3 (c : Ch) (a : Array Byte) : Bool := bit (u8 a 18) c.val
/-- Check 4: size. -/
def chk4 (a : Array Byte) : Bool := decide (imgNPat a ≤ 64) && imgNBlocks a == 23 + 2 * imgNPat a
/-- Check 5: CRC table. -/
def chk5 (a : Array Byte) : Bool :=
  crc32c (blockOf a 1) == u32 a 20 && zeros a 1024 1032 && zeros a (1024 + 4 * imgNBlocks a) 2048
/-- Check 6: every block against its entry. -/
def chk6 (a : Array Byte) : Bool :=
  allBelow (imgNBlocks a - 2) fun i => crc32c (blockOf a (i + 2)) == u32 a (1024 + 4 * (i + 2))
/-- Check 7: HASH over all blocks with bytes 960-1023 of block 0 taken as 0 (R73). -/
def chk7 (a : Array Byte) : Bool :=
  let all := (List.range (1024 * imgNBlocks a)).map fun k => if 960 ≤ k ∧ k < 1024 then (0 : Byte) else a.getD k 0
  sha384 all == (List.range 48).map fun k => a.getD (960 + k) 0
/-- Check 8: reserved fields and ranges. -/
def chk8 (a : Array Byte) : Bool :=
  u8 a 5 == 0 && decide (u8 a 17 < 64) && decide (u8 a 19 < 4) && zeros a 24 960 && zeros a 1008 1020
    && decide (u8 a 2048 < 4) && decide (u8 a 2049 < 4) && decide (u8 a 2050 < 4) && u8 a 2051 == 0 && zeros a 2084 2112
    && (allBelow 16 fun r => decide (u8 a (2112 + 16 * r) < 16) && decide (u8 a (2113 + 16 * r) < 16) && zeros a (2116 + 16 * r) (2128 + 16 * r))
    && zeros a 2368 3072
    && (allBelow 128 fun e => decide (u8 a (3072 + 16 * e + 12) < 64) && decide (u8 a (3072 + 16 * e + 14) < 16))
    && (allBelow 256 fun t => decide (u16 a (5120 + 8 * t) < 4096) && decide (u16 a (5122 + 8 * t) < 4096) && u16 a (5126 + 8 * t) == 0)
    && (allBelow 2048 fun k => decide (u8 a (7172 + 8 * k) < 32) && zeros a (7173 + 8 * k) (7176 + 8 * k))
    && (allBelow (imgNPat a) fun p =>
        let o := 23552 + 2048 * p
        zeros a (o + 10) (o + 16) && zeros a (o + 1552) (o + 2048)
          && allBelow 6 fun k => zeros a (o + 16 + 256 * k + 4 * imgNEdge a p k) (o + 16 + 256 * (k + 1)))
/-- Check 9: ES entries. -/
def chk9 (a : Array Byte) : Bool :=
  allBelow 128 fun e =>
    let x := esAt a (3072 + 16 * e)
    x.ok59 && decide (x.action ≤ 9) && (x.dir != 0 || zeros a (3072 + 16 * e) (3088 + 16 * e))
/-- Breakpoints of one axis (check 10): unused ones 0, used ones ascending with gaps above twice the hysteresis. -/
def chkBp (a : Array Byte) (o nb : Nat) (h : Int) : Bool :=
  (allBelow 3 fun i => decide (i < nb) || u32 a (o + 4 * i) == 0)
    && allBelow (nb - 1) fun i => decide (2 * h < s32 a (o + 4 * (i + 1)) - s32 a (o + 4 * i))
/-- Check 10: classifier. -/
def chk10 (a : Array Byte) : Bool :=
  let hx := s32 a 2076
  let hy := s32 a 2080
  decide (u8 a 2048 ≤ 3) && decide (0 ≤ hx) && decide (hx < 0x20000000) && decide (0 ≤ hy) && decide (hy < 0x20000000)
    && chkBp a 2052 (u8 a 2049) hx && chkBp a 2064 (u8 a 2050) hy
/-- Check 11: spans of the regions. -/
def chk11 (a : Array Byte) : Bool :=
  allBelow 16 fun r =>
    let d := imgRegion a r
    if imgPairMask a = 0 then d.2.2.1 == 0 && d.2.2.2 == 0
    else decide (d.2.2.1 ≤ d.2.2.2) && decide (d.2.2.2 < imgNPat a)
/-- Check 12: edge counts. -/
def chk12 (a : Array Byte) : Bool :=
  allBelow (imgNPat a) fun p => allBelow 6 fun k =>
    if bit (imgPairMask a) k then decide (2 ≤ imgNEdge a p k) && decide (imgNEdge a p k ≤ 64) else imgNEdge a p k == 0
/-- Check 13: edges ascend by at least 4 counts, states are legal and change at every edge. -/
def chk13 (a : Array Byte) : Bool :=
  allBelow (imgNPat a) fun p => allBelow 6 fun k =>
    let n := imgNEdge a p k
    allBelow n fun i =>
      let w := imgEdge a p k i
      let v := imgEdge a p k ((i + 1) % n)
      edgeState w != 3 && edgeState w != edgeState v && (decide (n ≤ i + 1) || decide (edgeAngle w + 4 ≤ edgeAngle v))
/-- Check 14: within every span MOD ascends and the patterns agree in edge counts and states. -/
def chk14 (a : Array Byte) : Bool :=
  allBelow 16 fun r =>
    let d := imgRegion a r
    allBelow (d.2.2.2 - d.2.2.1) fun q =>
      let p := d.2.2.1 + q
      decide (imgMod a p < imgMod a (p + 1)) && allBelow 6 fun k =>
        imgNEdge a p k == imgNEdge a (p + 1) k
          && allBelow (imgNEdge a p k) fun i => edgeState (imgEdge a p k i) == edgeState (imgEdge a (p + 1) k i)
/-- A threshold entry is valid (05_sensing.md R114). -/
def thrOk (ta tb : Nat) : Bool := tb == 0 || decide (ta < tb)
/-- Check 15: threshold and coefficient entries; their reserved bits are check 8. -/
def chk15 (a : Array Byte) : Bool := allBelow 256 fun t => thrOk (u16 a (5120 + 8 * t)) (u16 a (5122 + 8 * t))

/-- Code of the first failed check of Table 4.8, 0 when all pass. -/
def imageCheck (c : Ch) (a : Array Byte) : Nat :=
  (([chk1, chk2, chk3 c, chk4, chk5, chk6, chk7, chk8, chk9, chk10, chk11, chk12, chk13, chk14, chk15].zipIdx.find?
    fun p => !p.1 a).map fun p => p.2 + 1).getD 0

/-! ### The banks of a channel -/

/-- Bytes of a bank. -/
def BattSt.bank (b : BattSt) (isB : Bool) : SMap Byte := if isB then b.bankB else b.bankA

/-- A bank as an array of its image bytes: up to 151 blocks. -/
def bankArr (c : Ch) (isB : Bool) (s : State) : Array Byte := (SMap.scan 0 ((s.ch c).batt.bank isB) 0 154624).toArray

/-- A little-endian field of a bank, without forming the whole image. -/
def bankLe (c : Ch) (isB : Bool) (o n : Nat) (s : State) : Nat := leVal (SMap.scan 0 ((s.ch c).batt.bank isB) o n)

/-- State field of a bank (Table 4.11). -/
def bankF (isB : Bool) : Fld := if isB then Reg.Batt.STATE_B else Reg.Batt.STATE_A
/-- IMAGE_ID field of a bank. -/
def bankIdF (isB : Bool) : Fld := if isB then Reg.Batt.IMAGE_ID_B else Reg.Batt.IMAGE_ID_A

def bkEmpty : Nat := 0
def bkLoading : Nat := 1
def bkValid : Nat := 2
def bkArmed : Nat := 3
def bkActive : Nat := 4
def bkRetiring : Nat := 5

/-- State of a bank (Table 4.9). -/
def bankState (c : Ch) (isB : Bool) (s : State) : Nat := s.rd (bankF isB) (cI c)

/-- Set the state of a bank. -/
def setBank (c : Ch) (isB : Bool) (v : Nat) (s : State) : State := s.wr (bankF isB) (cI c) 0 v

/-- The active bank (R68). -/
def activeBank (c : Ch) (s : State) : Option Bool :=
  if bankState c false s = bkActive then some false
  else if bankState c true s = bkActive then some true else none

/-- PAIR_MASK of a bank. -/
def bankPairMask (c : Ch) (isB : Bool) (s : State) : Nat := bankLe c isB 17 1 s % 64

/-- PAIR_MASK of the active bank, 0 with none. -/
def activePairMask (c : Ch) (s : State) : Nat :=
  match activeBank c s with
  | some b => bankPairMask c b s
  | none => 0

/-- THR_IN_BANK of the active bank (R113). -/
def thrInBank (c : Ch) (s : State) : Option Bool :=
  (activeBank c s).filter fun b => bit (bankLe c b 19 1 s) 1

/-- COEF_IN_BANK of the active bank (R129). -/
def coefInBank (c : Ch) (s : State) : Option Bool :=
  (activeBank c s).filter fun b => bit (bankLe c b 19 1 s) 0

/-- Region index in force. -/
def regionOf (c : Ch) (s : State) : Nat := s.rd Reg.Batt.REGION (cI c)

/-- Threshold entry of comparator j in force: TH_A, TH_B, RAMP_SLOPE (R113). -/
def thresholds (c : Ch) (j : Nat) (s : State) : Nat × Nat × Nat :=
  match thrInBank c s with
  | some b =>
    let set := bankLe c b (2048 + 64 + 16 * regionOf c s + 1) 1 s % 16
    let o := 5120 + 128 * set + 8 * j
    (bankLe c b o 2 s % 4096, bankLe c b (o + 2) 2 s % 4096, bankLe c b (o + 4) 2 s)
  | none => (s.rdL Reg.CmpTh.TH_A (cI c) j, s.rdL Reg.CmpTh.TH_B (cI c) j, s.rdL Reg.CmpTh.RAMP_SLOPE (cI c) j)

/-- An ES entry of a bank. -/
def bankEs (c : Ch) (isB : Bool) (e : Nat) (s : State) : EsEntry :=
  esAt (SMap.scan 0 ((s.ch c).batt.bank isB) (3072 + 16 * e) 16).toArray 0

/-- A direct ES entry in force (R65). -/
def directEs (c : Ch) (j : Nat) (s : State) : EsEntry :=
  let r := fun f => s.rdL f (cI c) j
  ⟨r Reg.Es.ENTRY_ANGLE, r Reg.Es.ENTRY_STEP, r Reg.Es.ENTRY_MASK, r Reg.Es.ENTRY_REGION_MASK, r Reg.Es.ENTRY_DIR, r Reg.Es.ENTRY_ACTION,
   r Reg.Es.ENTRY_PARAM, r Reg.Es.ENTRY_EV_EN == 1, r Reg.Es.ENTRY_EV, r Reg.Es.ENTRY_REPEAT⟩

/-! ### Pattern interpolation -/

/-- Pattern index and fraction for M in a span (R85). -/
def interpIndex (mods : Nat → Nat) (first last m : Nat) : Nat × Nat :=
  if m ≤ mods first then (first, 0)
  else if mods last ≤ m then (last, 0)
  else
    let j := (List.range (last - first)).foldl (fun b i => if mods (first + i) ≤ m then first + i else b) first
    (j, ((m - mods j) * 2 ^ 17 + (mods (j + 1) - mods j)) / (2 * (mods (j + 1) - mods j)))

/-- One interpolated edge angle (R85). -/
def interpAngle (a b f : Nat) : Nat := ((a : Int) + rhu ((f : Int) * ((b : Int) - a)) 65536).toNat

/-- The interpolated edge list of a pair under a bank, region and M (R85). -/
def patEdges (c : Ch) (isB : Bool) (region m : Nat) (k : PairIx) (s : State) : List (Nat × Nat) :=
  let rd := fun o n => bankLe c isB o n s
  let o := 2048 + 64 + 16 * region
  let first := rd (o + 2) 1
  let last := rd (o + 3) 1
  let mods := fun p => rd (23552 + 2048 * p) 4
  let jf := interpIndex mods first last m
  let n := rd (23552 + 2048 * jf.1 + 4 + k.val) 1
  (List.range n).map fun i =>
    let ew := fun p => rd (23552 + 2048 * p + 16 + 256 * k.val + 4 * i) 4
    let a := edgeAngle (ew jf.1)
    let b := if jf.2 = 0 then a else edgeAngle (ew (jf.1 + 1))
    (interpAngle a b jf.2, edgeState (ew jf.1))

end Sys2Proof.Machine
end

