-- ==== Sys2Proof/Machine/Cmp.lean ====
section
/-! DEFINITION. Comparators (05_sensing.md R103-R113): raw output against the thresholds in force, decisions, and the cut they start. -/

namespace Sys2Proof.Machine

/-- The comparator. -/
def State.cmp (s : State) (c : Ch) (j : Fin 16) : CmpSt := (s.ch c).cmps[j]

/-- Change a comparator. -/
def State.setCmp (s : State) (c : Ch) (j : Fin 16) (f : CmpSt → CmpSt) : State :=
  s.setCh c fun x => { x with cmps := x.cmps.set j (f x.cmps[j]) }

/-- Every comparator. -/
def allCmp : List (Fin 16) := List.finRange 16

/-- Nominal hysteresis in µV (R103). -/
def hystNominal (h : Nat) : Int := if h = 0 then 0 else if h = 1 then 3000 else if h = 2 then 6000 else 12000

/-- Hysteresis of a comparator in µV: within ±25 % of nominal (R103, log entry 11). -/
def hystUv (c : Ch) (j : Fin 16) (h : Nat) : Int :=
  let n := hystNominal h
  n + clampI (-(n / 4)) (n / 4) (Config.hystDeviation c.val j.val h)

/-- Effective threshold of a ramp (R104). -/
def rampEff (th slope t : Nat) : Nat := th - (2 * slope * t + 4096) / 8192

/-- What an input voltage in µV says under a mode (Table 5.6): asserts, releases, or lies in the band. `a` and `b` are thresholds in DAC steps, `h` the hysteresis in µV. -/
def rawDecide (mode a b : Nat) (h v : Int) : Option Bool :=
  let va : Int := a * 3000000
  let vb : Int := (if b = 0 then 4095 else b) * 3000000
  if mode = 1 then
    if v * 4096 < va then some true else if va + h * 4096 < v * 4096 then some false else none
  else if mode = 2 then
    if vb < v * 4096 ∨ v * 4096 < va then some true
    else if va + h * 4096 < v * 4096 ∧ v * 4096 < vb - h * 4096 then some false else none
  else
    if va < v * 4096 then some true else if v * 4096 < va - h * 4096 then some false else none

/-- Decision of comparator j on an input voltage now (R103, R104). -/
def cmpDecide (c : Ch) (j : Fin 16) (uv : Nat) (s : State) : Option Bool :=
  let th := thresholds c j.val s
  let mode := s.rd Reg.CmpCfg.MODE (cI c) j.val
  let a := if mode = 3 then rampEff th.1 th.2.2 (s.tick - (s.cmp c j).rampT0) else th.1
  rawDecide mode a th.2.1 (hystUv c j (s.rd Reg.CmpCfg.HYST (cI c) j.val)) uv

/-- Run a change and cut the outputs of comparator j if it makes PROT assert (R156). -/
def protEdge (c : Ch) (j : Fin 16) (f : State → State) (s : State) : State :=
  let was := protAsserted c j s
  let s := f s
  if !was then cmpCut c j s else s

/-- Take an input voltage into the raw output: a voltage in the band leaves it as it is (R103, R107). -/
def rawTake (c : Ch) (j : Fin 16) (uv : Nat) (s : State) : State :=
  let raw := (cmpDecide c j uv s).orElse fun _ => (s.cmp c j).raw
  let s := s.setCmp c j fun x => { x with raw := raw, vin := some uv }
  s.wrBit Reg.CmpStat.RAW_OUT (cI c) 0 j.val (raw != some false)

/-- Re-evaluate a continuous comparator against thresholds that have changed (R83, R104). -/
def thrEval (c : Ch) (j : Fin 16) (s : State) : State :=
  if cmpOn c j s && !s.rdB Reg.CmpCfg.SAMPLED (cI c) j.val then
    match (s.cmp c j).vin with
    | some uv => protEdge c j (rawTake c j uv) s
    | none => s
  else s

/-- Re-evaluate every comparator of a channel. -/
def thrEvalAll (c : Ch) (s : State) : State := allCmp.foldl (fun s j => thrEval c j s) s

/-- A comparator starts UNRESOLVED (R107): enabled, MODE or INPUT changed, or its clock branch running again. Its ramp counts on (R104). -/
def cmpUnresolve (c : Ch) (j : Fin 16) (s : State) : State :=
  let on := cmpOn c j s
  let s := s.setCmp c j fun x => ⟨none, none, none, none, [], none, x.rampT0⟩
  let s := s.wrBit Reg.CmpStat.RAW_OUT (cI c) 0 j.val on
  let s := s.wrBit Reg.CmpStat.UNRES (cI c) 0 j.val on
  s.wrBit Reg.CmpStat.OUT (cI c) 0 j.val false

/-- A comparator is enabled, by a write or at Thaw: it starts UNRESOLVED, and its ramp counts from now until the first PERIOD_START (R104, R107). -/
def cmpEnable (c : Ch) (j : Fin 16) (s : State) : State := cmpUnresolve c j (s.setCmp c j fun x => { x with rampT0 := s.tick })

/-- One tick of a comparator's synchroniser: the decision that has passed it enters the filter (R106). -/
def cmpTick (c : Ch) (j : Fin 16) (s : State) : State :=
  if cmpOn c j s then
    let sampled := s.rdB Reg.CmpCfg.SAMPLED (cI c) j.val
    s.setCmp c j fun x =>
      { x with
        hist := (match x.sync2 with
          | some d => d :: x.hist
          | none => x.hist).take 15,
        sync2 := x.sync1,
        sync1 := if sampled then none else some x.raw }
  else s

/-- The level that N of the last M decisions show, if any (R106). -/
def filtLevel (c : Ch) (j : Fin 16) (s : State) : Option Bool :=
  let m := s.rd Reg.CmpCfg.M (cI c) j.val
  let n := s.rd Reg.CmpCfg.N (cI c) j.val
  let h := (s.cmp c j).hist.take m
  if n ≤ h.count (some true) then some true
  else if n ≤ h.count (some false) then some false else none

end Sys2Proof.Machine
end

