-- ==== Sys2Proof/Machine/Batt.lean ====
section
/-! DEFINITION. Batt banks at work (04_batt_tables.md R74-R90, R431): the loader and its queue, the swap, the region classifier, pattern-mode pairs. -/

namespace Sys2Proof.Machine

/-- Banks and loader of a channel. -/
def State.batt (s : State) (c : Ch) : BattSt := (s.ch c).batt

/-- Change banks and loader. -/
def State.setBatt (s : State) (c : Ch) (f : BattSt → BattSt) : State := s.setCh c fun x => { x with batt := f x.batt }

/-- The command of a waiter, if it came through a mailbox. -/
def waiterCmd (w : Waiter) (s : State) : Option Cmd :=
  w.key.bind fun k => (s.mb w.mbx).cmds.find? fun c => c.epoch == k.1 && c.seq == k.2

/-- The author of what a waiting command changes (R287). -/
def authorW (w : Waiter) (s : State) : Author :=
  match waiterCmd w s with
  | some c => ⟨c.source, w.mbx.val, c.epoch, c.seq, true⟩
  | none => ⟨s.rd Reg.MbxCfg.TRANSPORT 0 w.mbx.val, w.mbx.val, s.epoch, 0, false⟩

/-- CRC-32C of a bank (R287). -/
def bankCrc (c : Ch) (isB : Bool) (s : State) : Nat := crc32c (SMap.scan 0 ((s.batt c).bank isB) 0 bankSize)

/-- CRC-32C of a store slot (Table 13.3 STORE_WRITE, R287). -/
def slotCrc (slot : Nat) (s : State) : Nat := crc32c (SMap.scan 0 s.store (bankSize * slot) bankSize)

/-- ITEM of a change-record entry about a bank: channel and bank (Table 12.8). -/
def bankItem (c : Ch) (isB : Bool) : Nat := 256 * c.val + isB.toNat

/-- ACTIVE_SLOT = none (Table 4.11). -/
def noSlot : Nat := 0xFF

/-! ### Pattern-mode pairs -/

/-- A pattern pair. -/
def State.pat (s : State) (c : Ch) (k : PairIx) : PatPair := (s.batt c).pairs[k]

/-- Change a pattern pair. -/
def State.setPat (s : State) (c : Ch) (k : PairIx) (f : PatPair → PatPair) : State :=
  s.setBatt c fun b => { b with pairs := b.pairs.set k (f b.pairs[k]) }

/-- M of the applied set. -/
def mNow (c : Ch) (s : State) : Nat := s.rd Reg.PgStat.M_NOW (cI c)

/-- The edge list of a pair under the active bank, the region in force and M (R84). -/
def listInForce (c : Ch) (k : PairIx) (s : State) : List (Nat × Nat) :=
  match activeBank c s with
  | some b => patEdges c b (regionOf c s) (mNow c s) k s
  | none => []

/-- Edges of a list at or before an angle, and the state they leave: the last edge's state when there is none (R87). -/
def listAt (edges : List (Nat × Nat)) (a : Nat) : Nat × Nat :=
  let before := edges.filter fun e => decide (e.1 ≤ a)
  (before.length, (before.getLast?.orElse fun _ => edges.getLast?).map Prod.snd |>.getD 0)

/-- A pattern pair starts with every edge at or before the start angle counted as fired (R60, R160). -/
def startPattern (c : Ch) (k : PairIx) (s : State) : State :=
  let l := listInForce c k s
  let r := listAt l (s.ch c).angle
  let s := s.setPat c k fun _ => ⟨r.1, r.2, l, 0, false⟩
  setPair c k r.2 s.now s

/-- Command a pattern edge: the pair's state, and at the edge that turns an output on the end of its cut interval (R86, R157). -/
def patCommand (c : Ch) (k : PairIx) (st t : Nat) (s : State) : State :=
  let s := (s.setPat c k fun p => { p with state := st })
  let s := setPair c k st t s
  let j := if st = 1 then some (evenOut k) else if st = 2 then some (oddOut k) else none
  match j with
  | some j => cutEnd c j t s
  | none => s

/-- LAG of the crossing of an angle in this tick, in 0 … 31 (R61): an angle passed at the very start of the tick has the largest. -/
def lagOf (c : Ch) (e : Nat) (s : State) : Nat :=
  let x := s.ch c
  let d := (angDiff x.angle x.anglePrev).natAbs
  if d = 0 then 0 else min 31 (32 * (angDiff x.angle e).natAbs / d)

/-! ### Crossings -/

/-- The AT of the channel is STOPPED. -/
def atStopped (c : Ch) (s : State) : Bool := s.rd Reg.AtStat.STATE (cI c) == 0

/-- Forward crossing of an angle in this tick (R60). -/
def crossesFwd (c : Ch) (e : Nat) (s : State) : Bool :=
  let x := s.ch c
  decide (angDiff x.anglePrev e < 0) && decide (0 ≤ angDiff x.angle e)

/-- Reverse crossing of an angle in this tick (R60). -/
def crossesRev (c : Ch) (e : Nat) (s : State) : Bool :=
  let x := s.ch c
  decide (0 ≤ angDiff x.anglePrev e) && decide (angDiff x.angle e < 0)

/-- The angle wraps in this tick; the start tick is not a wrap (R60). -/
def wrapTick (c : Ch) (s : State) : Bool :=
  !atStopped c s && !(s.ch c).at_.startTick && (crossesFwd c 0 s || crossesRev c 0 s)

/-- The angle wraps forward in this tick. -/
def wrapFwd (c : Ch) (s : State) : Bool := wrapTick c s && crossesFwd c 0 s

/-- Instant of a stamp: the tick of now minus LAG (R48). -/
def stampAt (lag : Nat) (s : State) : Nat := s.now - lag

/-- Fire the unfired edges of a pair that satisfy a test, in index order, stopping at the first that does not (R86). -/
def patFireWhile (c : Ch) (k : PairIx) (p : Nat → Bool) (lag : Nat → Nat) (late : Bool) : Nat → State → State
  | 0, s => s
  | fuel + 1, s =>
    let x := s.pat c k
    match x.edges[x.fired]? with
    | some e =>
      if p e.1 then
        let s := s.setPat c k fun x => { x with fired := x.fired + 1 }
        let s := patCommand c k e.2 (stampAt (lag e.1) s) s
        let s := if late then s.count Reg.Batt.EDGE_LATE_CNT (cI c) else s
        patFireWhile c k p lag late fuel s
      else s
    | none => s

/-- In a forward wrap tick, the unfired edges of the turn being left fire first, once (R86, R149). -/
def wrapLeave (c : Ch) (s : State) : State :=
  if (s.pg c).wrapLeft || !pgIsRunning c s || !wrapFwd c s then s
  else
    let s := s.setPg c fun p => { p with wrapLeft := true }
    allPair.foldl (fun s k =>
      if patMode c k s && (s.pat c k).held == 0 then
        patFireWhile c k (fun a => decide ((s.ch c).anglePrev < a)) (fun a => lagOf c a s) false 64 s
      else s) s

/-- A swap or region change replaces the list of a pair (R87): it takes the state the new list commands now, counting a realignment. What the pair has
fired is counted anew at the present angle, so that no turn rolled back holds it any longer (R88). -/
def realign (c : Ch) (k : PairIx) (s : State) : State :=
  let l := listInForce c k s
  let r := listAt l (s.ch c).angle
  let was := ((s.pg c).prs[k]).state
  let s := s.setPat c k fun p => { p with edges := l, fired := r.1, state := r.2, held := 0, fresh := true }
  if !pgIsRunning c s || was = r.2 then s
  else (patCommand c k r.2 s.now s).count Reg.Batt.REALIGN_CNT (cI c)

/-- Realign every pattern pair. -/
def realignAll (c : Ch) (s : State) : State :=
  allPair.foldl (fun s k => if patMode c k s then realign c k s else s) s

/-- A carrier period is due to start in this tick and has not yet (R142, R143). -/
def periodDue (c : Ch) (s : State) : Bool :=
  pgIsRunning c s && !(s.pg c).psTick && (if angleCarrier c s then wrapFwd c s else decide ((s.pg c).periodEnd ≤ s.now))

/-- A pair enters carrier mode (R150): it takes the carrier's state at the current position and fires what remains; in the tick of a period start it takes
the state at position 0 when that starts. -/
def enterCarrier (c : Ch) (k : PairIx) (s : State) : State :=
  let s := s.setPg c fun p => { p with prs := p.prs.set k { p.prs[k] with first := false, second := false } }
  if pgIsRunning c s && !periodDue c s then carrierFire c k (carrierPos c s) s.now s else s

/-- PAT_NOW and the pairs follow the PAIR_MASK of the active bank (R80, R87, R150). -/
def pairsFollow (c : Ch) (s : State) : State :=
  let was := s.rd Reg.PgStat.PAT_NOW (cI c)
  let mask := activePairMask c s
  let s := s.wr Reg.PgStat.PAT_NOW (cI c) 0 mask
  allPair.foldl (fun s k =>
    if bit mask k.val then realign c k s
    else if bit was k.val then enterCarrier c k s else s) s

/-! ### The swap -/

/-- A CE evaluation runs. -/
def ceRunning (c : Ch) (s : State) : Bool := (s.ch c).ce.running.isSome

/-- Occurrences of the entries that a wrap tick leaves stand this much higher in the list of disarmed occurrences once a swap or a commit has replaced
them (R64, R65). -/
def oldMark : Nat := 1000

/-- Occurrences of the entries that a wrap tick enters stand this much higher until the swap or the commit has run (R64, R65). -/
def enterMark : Nat := 2000

/-- Entries of a bank (0-127), or direct entries (128-135), are replaced: those in force become the old ones, those entered come into force. -/
def Disarmed.replaced (direct : Bool) (d : Disarmed) : Disarmed :=
  if decide (128 ≤ d.entry % 1000) != direct then d
  else if enterMark ≤ d.entry then { d with entry := d.entry - enterMark }
  else if d.entry < oldMark then { d with entry := d.entry + oldMark } else d

/-- A bank becomes ACTIVE (Table 4.9): the former active bank retires or becomes VALID, BANK_SWAP is raised, slot and id are recorded,
thresholds, region descriptor and pattern pairs come from the new bank (R80), and the swap command completes. -/
def swapNow (c : Ch) (isB : Bool) (retire : Bool) (w : Option Waiter) (s : State) : State :=
  let old := activeBank c s
  let s := wrapLeave c s
  let oldCrc := match old with
    | some b => bankCrc c b s
    | none => 0
  let s := match old with
    | some b => setBank c b (if retire && ceRunning c s then bkRetiring else bkValid) s
    | none => s
  let s := setBank c isB bkActive s
  let s := s.count Reg.Batt.SWAP_CNT (cI c)
  let b := s.batt c
  let s := s.wr Reg.Batt.ACTIVE_SLOT (cI c) 0 (if isB then b.slotB else b.slotA)
  let s := s.wr Reg.Batt.ACTIVE_ID (cI c) 0 (s.rd (bankIdF isB) (cI c))
  let s := s.setBatt c fun b => { b with swap := none, swapUnreported := true, swapTick := some old }
  let s := pairsFollow c (fire c evBankSwap s)
  let s := thrEvalAll c s
  let s := s.setCh c fun x => { x with disarmed := x.disarmed.map (Disarmed.replaced false) }
  match w with
  | some w =>
    let s := cAdd (authorW w s) 5 0xFFFF (bankItem c isB) oldCrc (bankCrc c isB s) true s
    completeW w (.ok 0 (leBytes 8 s.time ++ leBytes 4 (s.rd (bankIdF isB) (cI c)))) s
  | none => s

/-- A swap command proceeds on the state it finds its bank in (Table 4.9, R431). SWAP_TB of a bank already ACTIVE is a free value: the spec names no instant for it (log entry 48). -/
def swapProceed (c : Ch) (w : Waiter) (isB : Bool) (s : State) : State :=
  let st := bankState c isB s
  if st = bkActive then
    completeW w ⟨stDone, 1, leBytes 8 (s.free 64) ++ leBytes 4 (s.rd (bankIdF isB) (cI c))⟩
      (s.drew.setBatt c fun b => { b with swap := none })
  else if st = bkEmpty then
    completeW w (.fail stTableCheckFail 0) (s.setBatt c fun b => { b with swap := none })
  else if st = bkValid then
    if atStopped c s then swapNow c isB false (some w) s
    else (setBank c isB bkArmed s).setBatt c fun b => { b with swap := some ⟨w, isB⟩ }
  else s.setBatt c fun b => { b with swap := some ⟨w, isB⟩ }

/-- Withdraw the outstanding swap of a channel (R79, R431), answering its command with a status. -/
def swapWithdraw (c : Ch) (d : Done) (s : State) : State :=
  match (s.batt c).swap with
  | none => s
  | some o =>
    let s := if bankState c o.bankB s = bkArmed then setBank c o.bankB bkValid s else s
    let s := s.setBatt c fun b => { b with
      swap := none,
      queue := b.queue.filter fun i => match i with
        | .swap w _ => w != o.w
        | _ => true }
    completeW o.w d s

/-- The AT has entered STOPPED or a retiring bank has become VALID: an armed or waiting swap proceeds (Table 4.9). -/
def swapAtStop (c : Ch) (s : State) : State :=
  match (s.batt c).swap with
  | some o => if bankState c o.bankB s = bkArmed then swapNow c o.bankB true (some o.w) s else s
  | none => s

/-- The evaluation that was running at a swap ends: a RETIRING bank becomes VALID, and a swap that waits for it proceeds (R77). -/
def retireEnd (c : Ch) (s : State) : State :=
  let go := fun (isB : Bool) (s : State) =>
    if bankState c isB s = bkRetiring then
      let s := setBank c isB bkValid s
      match (s.batt c).swap with
      | some o => if o.bankB = isB then swapProceed c o.w isB s else s
      | none => s
    else s
  go true (go false s)

/-! ### Loader -/

/-- Empty a bank: no image, no id. -/
def emptyBank (c : Ch) (isB : Bool) (s : State) : State :=
  let s := setBank c isB bkEmpty s
  let s := s.wr (bankIdF isB) (cI c) 0 0
  s.setBatt c fun b => if isB then { b with bankB := [] } else { b with bankA := [] }

/-- Put an image into a bank: its blocks, and 0 after them (R71). -/
def fillBank (c : Ch) (isB : Bool) (slot : Nat) (img : SMap Byte) (s : State) : State :=
  let n := 1024 * (leVal (SMap.scan 0 img 14 2))
  let img := SMap.cut img 0 n
  s.setBatt c fun b => if isB then { b with bankB := img, slotB := slot } else { b with bankA := img, slotA := slot }

/-- Start a load (Table 4.9): the bank is LOADING. -/
def loadStart (c : Ch) (w : Waiter) (isB : Bool) (slot : Nat) (s : State) : State :=
  (setBank c isB bkLoading s).setBatt c fun b => { b with load := some ⟨w, isB, slot, 0, []⟩ }

/-- A load command that finds its bank busy as ACTIVE, ARMED or RETIRING fails (R76). -/
def bankBusy (c : Ch) (isB : Bool) (s : State) : Bool :=
  let st := bankState c isB s
  st == bkActive || st == bkArmed || st == bkRetiring

/-- An erase command on the state it finds (Table 4.9). -/
def eraseNow (c : Ch) (w : Waiter) (isB : Bool) (s : State) : State :=
  if bankBusy c isB s then completeW w (.fail stBankActive 0) s
  else
    let old := bankCrc c isB s
    let s := emptyBank c isB s
    let s := cAdd (authorW w s) 5 0xFFFF (bankItem c isB) old (bankCrc c isB s) true s
    completeW w (.ok) s

/-- Take what waits in the loader queue, until a load runs (R76). -/
def loaderRun (c : Ch) : Nat → State → State
  | 0, s => s
  | fuel + 1, s =>
    if (s.batt c).load.isSome then s
    else
      match (s.batt c).queue with
      | [] => s
      | i :: rest =>
        let s := s.setBatt c fun b => { b with queue := rest }
        loaderRun c fuel (match i with
          | .load w isB slot =>
            if bankBusy c isB s then completeW w (.fail stBankActive 0) s else loadStart c w isB slot s
          | .swap w isB => swapProceed c w isB s
          | .erase w isB => eraseNow c w isB s)

/-- Fuel for the loader queue: one entry per command that can wait. -/
def loaderFuel : Nat := 160

/-- The image in a store slot. -/
def slotImage (slot : Nat) (s : State) : SMap Byte := SMap.cut s.store (bankSize * slot) bankSize

/-- First MRAM block of the Batt store (Table 16.2). -/
def storeBlock0 : Nat := 262144

/-- Code of Table 4.8 for an image block that cannot be read: the check of its CRC (R72, R74). -/
def blockCode (i : Nat) : Nat := if i = 0 then 1 else if i = 1 then 5 else 6

/-- Blocks of the image in a store slot: N_BLOCKS of its header, and the header itself at least. -/
def slotBlocks (slot : Nat) (s : State) : Nat := max 1 (leVal (SMap.scan 0 s.store (bankSize * slot + 14) 2))

/-- Image block of a store slot that an MRAM block belongs to, if the loader copies it. -/
def imageBlockOf (slot blk : Nat) (s : State) : Option Nat :=
  let i := (blk - storeBlock0 - 4096 * slot) / 16
  if storeBlock0 + 4096 * slot ≤ blk ∧ i < slotBlocks slot s then some i else none

/-- Code of the first image block of a slot whose MRAM content is lost (R364); 0 none. -/
def lostCode (slot : Nat) (s : State) : Nat :=
  let bad := s.mem.lost.filterMap fun b => imageBlockOf slot b s
  if bad = [] then 0 else blockCode (minL 256 bad)

/-- The loader ends a load (R75): every check of Table 4.8 passes and the bank is VALID, or it is EMPTY with LAST_FAIL. -/
def loadDone (c : Ch) (s : State) : State :=
  match (s.batt c).load with
  | none => s
  | some l =>
    let img := slotImage l.slot s
    let chk := imageCheck c (SMap.scan 0 img 0 154624).toArray
    let bad := if l.badCode ≠ 0 then l.badCode else lostCode l.slot s
    let code := if bad ≠ 0 ∧ (chk = 0 ∨ bad ≤ chk) then bad else chk
    let old := bankCrc c l.bankB s
    let s := s.setBatt c fun b => { b with load := none }
    let s :=
      if code = 0 then
        let s := setBank c l.bankB bkValid (fillBank c l.bankB l.slot img s)
        let id := leVal (SMap.scan 0 img 8 4)
        let s := s.wr (bankIdF l.bankB) (cI c) 0 id
        let s := cAdd (authorW l.w s) 4 0xFFFF (bankItem c l.bankB) old (bankCrc c l.bankB s) true s
        completeW l.w (.ok 0 (leBytes 4 id ++ leBytes 2 (leVal (SMap.scan 0 img 14 2)) ++ [0, 0])) s
      else
        let s := (emptyBank c l.bankB s).wr Reg.Batt.LAST_FAIL (cI c) 0 code
        let s := cAdd (authorW l.w s) 4 0xFFFF (bankItem c l.bankB) old (bankCrc c l.bankB s) true s
        completeW l.w (.fail stTableCheckFail code) (s.count Reg.Batt.CHECK_FAIL_CNT (cI c))
    loaderRun c loaderFuel s

/-! ### Region classifier -/

/-- One interval number moves up and then down over the breakpoints (R81); breakpoints in sQ1.31. -/
def classify (nb : Nat) (bp : Nat → Int) (h x : Int) (i : Nat) : Nat :=
  let up := (List.range 3).foldl (fun i _ => if i < nb ∧ bp i + h ≤ x then i + 1 else i) i
  (List.range 4).foldl (fun i _ => if 0 < i ∧ x < bp (i - 1) - h then i - 1 else i) up

/-- End of an evaluation of CLASS_SLOT: the classifier takes X and Y (R81, R135). -/
def classifierUpdate (c : Ch) (slot : Nat) (x y : Int) (s : State) : State :=
  match activeBank c s with
  | none => s
  | some b =>
    if bankLe c b 2048 1 s % 4 ≠ slot then s
    else
      let sg := fun o => sgn 32 (bankLe c b o 4 s)
      let ix := classify (bankLe c b 2049 1 s % 4) (fun i => sg (2052 + 4 * i)) (sg 2076) x (s.rd Reg.Batt.IX (cI c))
      let iy := classify (bankLe c b 2050 1 s % 4) (fun i => sg (2064 + 4 * i)) (sg 2080) y (s.rd Reg.Batt.IY (cI c))
      let s := (s.wr Reg.Batt.IX (cI c) 0 ix).wr Reg.Batt.IY (cI c) 0 iy
      (s.wrS Reg.Batt.X_LAST (cI c) 0 x).wrS Reg.Batt.Y_LAST (cI c) 0 y

/-- Region index formed at the start tick of an evaluation (R81). -/
def nextRegion (c : Ch) (s : State) : Nat :=
  let f := s.rd Reg.BattCtl.REGION_FORCE (cI c)
  if f ≤ 15 then f
  else match activeBank c s with
    | some _ => s.rd Reg.Batt.IX (cI c) + 4 * s.rd Reg.Batt.IY (cI c)
    | none => 0

/-- The region index comes into force at the start of this tick (R82, R83): thresholds, pattern pairs and the ES test follow at once. -/
def regionTake (c : Ch) (s : State) : State :=
  let r := nextRegion c s
  if r = regionOf c s then s
  else
    let s := wrapLeave c s
    let s := ((s.wr Reg.Batt.REGION (cI c) 0 r).count Reg.Batt.REGION_CNT (cI c)).setCh c fun x => { x with regionTick := r }
    realignAll c (thrEvalAll c s)

end Sys2Proof.Machine
end

