-- ==== Sys2Proof/Machine/Island.lean ====
section
/-! DEFINITION. Safety island (11_safety.md R231-R259): enables, disconnect states, lock-outs, inputs and test pulses, Feide frames. -/

namespace Sys2Proof.Machine

/-- A safety input or a Feide connection. -/
abbrev Ix16 := Fin 16
/-- All of them. -/
def allIx : List Ix16 := List.finRange 16

/-- Disconnect states (Table 11.10). -/
def sfCheck : Nat := 0
def sfHoldE : Nat := 1
def sfPermit : Nat := 2
def sfLocked : Nat := 3

/-- Role in a redundant pair (Table 15.6): 0 SOLO, 1 WAITING, 2 OWNER, 3 STANDBY. -/
def pairRole (s : State) : Nat := s.rd Reg.PairStat.ROLE
/-- The device is a standby. -/
def isStandby (s : State) : Bool := pairRole s == 3

/-- Disconnect state of a channel. -/
def safeState (c : Ch) (s : State) : Nat := s.rd Reg.Safe.STATE 0 c.val

/-- The island's view of a channel. -/
def State.sc (s : State) (c : Ch) : SafeCh := s.safe.chs[c]
/-- Change it. -/
def State.setSc (s : State) (c : Ch) (f : SafeCh → SafeCh) : State :=
  { s with safe := { s.safe with chs := s.safe.chs.set c (f s.safe.chs[c]) } }
/-- A safety input. -/
def State.sin (s : State) (i : Ix16) : SinSt := s.safe.sins[i]
/-- Change it. -/
def State.setSin (s : State) (i : Ix16) (f : SinSt → SinSt) : State :=
  { s with safe := { s.safe with sins := s.safe.sins.set i (f s.safe.sins[i]) } }
/-- A Feide connection. -/
def State.conn (s : State) (c : Ix16) : ConnSt := s.safe.conns[c]
/-- Change it. -/
def State.setConn (s : State) (c : Ix16) (f : ConnSt → ConnSt) : State :=
  { s with safe := { s.safe with conns := s.safe.conns.set c (f s.safe.conns[c]) } }

/-! ### Configuration -/

/-- TYPE of an input: 0 unused, 1 single, 2 equivalent pair, 3 antivalent pair. -/
def sinType (i : Ix16) (s : State) : Nat := s.rd Reg.SafeIn.TYPE 0 i.val
/-- Channels an input gates. -/
def sinMask (i : Ix16) (s : State) : Nat := if sinType i s = 0 then 0 else s.rd Reg.SafeIn.CH_MASK 0 i.val
/-- The TP that supplies an input. -/
def sinTp (i : Ix16) (s : State) : Option Nat :=
  let k := s.rd Reg.SafeIn.TP_SRC 0 i.val
  if k < 8 then some k else none
/-- Level at which an input permits (R237). -/
def sinPermitHigh (i : Ix16) (s : State) : Bool := !(sinType i s == 3 && i.val % 2 == 1)
/-- Input i is recognised as permitting. -/
def sinPermits (i : Ix16) (s : State) : Bool := bit (s.rd Reg.Safe.SIN_STATE) i.val
/-- Input i is UNRESOLVED. -/
def sinUnres (i : Ix16) (s : State) : Bool := bit (s.rd Reg.Safe.SIN_UNRES) i.val

/-- Little-endian image of a list of object fields, as stored (R257). -/
def imageOf (len n : Nat) (fs : List Fld) (s : State) : List Byte :=
  leBytes len (fs.foldl (fun v f => (List.range f.cnt).foldl (fun v i => v + s.rd f n i * 2 ^ f.pos i) v) 0)

/-- Feide CRC (R251). -/
def feideCrc (bs : List Byte) : Nat := crcLeft 0xF4ACFB13 0xFFFFFFFF 0xFFFFFFFF bs

/-- CRC of the safety configuration in force (R257): object 0x3F00 followed by 0x3F01. -/
def safetyCrc (s : State) : Nat := feideCrc (imageOf 136 0 Reg.SafeIn.fields s ++ imageOf 260 0 Reg.Feide.fields s)

/-- A consumed connection. -/
def connConsumes (c : Ix16) (s : State) : Bool := s.rd Reg.Feide.DIR 0 c.val == 1
/-- CONN_STATE (Table 11.7): 0 OFF, 1 OPENING, 2 RUN, 3 FAILED. -/
def connState (c : Ix16) (s : State) : Nat := s.rd Reg.Safe.CONN_STATE 0 c.val
/-- Set it. -/
def setConnState (c : Ix16) (v : Nat) (s : State) : State := s.wr Reg.Safe.CONN_STATE 0 c.val v
/-- Channels a connection gates. -/
def connMask (c : Ix16) (s : State) : Nat := s.rd Reg.Feide.CH_MASK 0 c.val

/-! ### Demands and enables -/

/-- A Class E demand on a channel is present (R244). -/
def demandOn (c : Ch) (s : State) : Bool :=
  (allIx.any fun i => bit (sinMask i s) c.val && !sinPermits i s)
    || (allIx.any fun k => connConsumes k s && bit (connMask k s) c.val && connState k s == 2 && !(s.conn k).permit)

/-- A connection in OPENING holds the channel out of PERMIT (R244). -/
def holdOn (c : Ch) (s : State) : Bool :=
  allIx.any fun k => connConsumes k s && bit (connMask k s) c.val && connState k s == 1

/-- What a path commands its enable: GEN_A (R231), GEN_B (R233). -/
def genCommand (c : Ch) (genB : Bool) (s : State) : Bool :=
  safeState c s == sfPermit && (!genB || ((s.sc c).hb && !(s.sc c).latch))

/-- What the device drives on an enable line: none is high impedance (R165, R259). -/
def genDrive (c : Ch) (genB : Bool) (s : State) : Option Bool :=
  if !s.safe.on ∨ pairRole s = 1 then none
  else if isStandby s then (if safeState c s = sfLocked ∨ demandOn c s = true then some false else none)
  else some (genCommand c genB s)

/-- Level of an enable line: a line nobody drives is low; a standby reads what its aligned peer drives (log entry 31). -/
def genLevel (c : Ch) (genB : Bool) (s : State) : Bool :=
  match genDrive c genB s with
  | some v => v
  | none => s.safe.on && isStandby s && genCommand c genB s

/-- The enable readbacks follow the lines; a fall starts the 200 µs of R166 anew. -/
def enablesUpdate (c : Ch) (s : State) : State :=
  let a := genLevel c false s
  let b := genLevel c true s
  let s := (s.wrB Reg.GdiStat.GEN_A_RB (cI c) 0 a).wrB Reg.GdiStat.GEN_B_RB (cI c) 0 b
  if a && b then s else s.setPg c fun p => { p with settled := false }

/-- SSTAT: no channel LOCKED and the heartbeat runs (Table 11.10). -/
def sstatUpdate (s : State) : State :=
  s.wrB Reg.Safe.SSTAT 0 0 (s.safe.on && allCh.all fun c => safeState c s != sfLocked && (s.sc c).hb)

/-! ### The conditions of a start (Table 13.4) -/

/-- DETAIL of the first condition of Table 13.4 that fails, 0 when all hold. `own`: the start that waits for its start tick is this one. -/
def startCheck (c : Ch) (own : Bool) (s : State) : Nat :=
  let rb := fun f => s.rdB f (cI c)
  if s.rd Reg.PgStat.STATE (cI c) ≠ pgStopped ∨ (own = false ∧ (s.ch c).startWait ≠ none) then 1
  else if s.rd Reg.ClkStat.STATE ≠ 1 then 2
  else if !(rb Reg.GdiStat.GEN_A_RB && rb Reg.GdiStat.GEN_B_RB && (s.pg c).settled) then 3
  else if s.rd Reg.PgCfg.PAT_DECL (cI c) ≠ activePairMask c s then 4
  else if angleCarrier c s ∧ s.rd Reg.AtCtl.SRC (cI c) ≠ 0 then 5
  else if rb Reg.MeterCfg.BILL ∧ bit (s.rd Reg.PowStat.LEVEL) 0 = false then 6
  else 0

/-- How a start is refused: the first condition of Table 13.4 that fails; a channel in Idle, whose PG stays STOPPED (R380), with STATE_REFUSED (log entry 46). -/
def startDenied (c : Ch) (own : Bool) (s : State) : Option Done :=
  let d := startCheck c own s
  if d ≠ 0 then some (.fail stStartRefused d)
  else if (s.ch c).idle then some (.fail stStateRefused 0)
  else none

/-- A periodic start test ends because PERMIT is lost: a start that waits for it meets the conditions of Table 13.4 with its enables low (R245, R250, R300). -/
def testLost (c : Ch) (s : State) : State :=
  if (s.sc c).afterTest && !(s.safe.on && safeState c s == sfPermit) then
    let ws := (s.ch c).testWait
    let s := (s.setSc c fun x => { x with afterTest := false }).setCh c fun x => { x with testWait := [] }
    match startDenied c false s with
    | some d => ws.foldl (fun s w => completeW w d s) s
    | none => s
  else s

/-- One channel of the disconnect state machine (Table 11.3), while the island is powered (R231). -/
def safeEval (c : Ch) (s : State) : State :=
  if !s.safe.on then testLost c (enablesUpdate c s) else
  let d := demandOn c s
  let h := holdOn c s
  let st := safeState c s
  let s :=
    if st = sfPermit ∧ (d = true ∨ h = true) then
      let s := (s.wr Reg.Safe.STATE 0 c.val sfHoldE).setSc c fun x => { x with stopDue := true }
      if d then ((s.wr Reg.Safe.E_PEND 0 c.val 1).count Reg.Safe.DEMAND_CNT 0 c.val).raise 489 else s
    else
      let s := if d then s.wr Reg.Safe.E_PEND 0 c.val 1 else s
      if st = sfHoldE ∧ d = false ∧ h = false ∧ s.rd Reg.Safe.E_PEND 0 c.val = 0 ∧ s.rd Reg.PgStat.STATE (cI c) = 0 then
        (s.wr Reg.Safe.STATE 0 c.val sfPermit).setSc c fun x => { x with stopDue := false }
      else s
  testLost c (enablesUpdate c s)

/-- Every channel. -/
def safeEvalAll (s : State) : State := sstatUpdate (s.eachCh fun s c => safeEval c s)

/-- A channel enters CHECK: the consumed connections that gate it go to OPENING (Table 11.3, Table 11.7). -/
def enterCheck (c : Ch) (s : State) : State :=
  let s := s.wr Reg.Safe.STATE 0 c.val sfCheck
  let s := allIx.foldl (fun s i => if bit (sinMask i s) c.val then s.setSin i fun x => { x with frame := none } else s) s
  allIx.foldl (fun s k =>
    if connConsumes k s && bit (connMask k s) c.val then (setConnState k 1 s).setConn k fun x => { x with failed := false } else s) s

/-! ### Lock-out -/

/-- TOKEN of a lock-out (R248). -/
def tokenOf (serial mask cause detail rtc : Nat) : Nat :=
  let t := feideCrc (leBytes 4 serial ++ leBytes 1 mask ++ leBytes 1 cause ++ leBytes 1 detail ++ [0] ++ leBytes 8 rtc)
  if t = 0 then 1 else t

/-- A Class L cause in scope (R248): channels not LOCKED lock with one new token; LOCKED ones only count. -/
def lockOut (mask cause detail : Nat) (s : State) : State :=
  if s.safe.on = false then s else
  let fresh := allCh.filter fun c => bit mask c.val && safeState c s != sfLocked
  let s := allCh.foldl (fun s c => if bit mask c.val then s.count Reg.Safe.LOCK_CNT 0 c.val else s) s
  if fresh = [] then s
  else
    let serial := (s.rd Reg.Safe.LOCK_SERIAL + 1) % 2 ^ 32
    let s := s.wr Reg.Safe.LOCK_SERIAL 0 0 serial
    let tok := tokenOf serial mask cause detail (s.rd Reg.Rtc.RTC)
    let s := fresh.foldl (fun s c =>
      let out := safeState c s == sfPermit
      let s := (s.wr Reg.Safe.STATE 0 c.val sfLocked).wr Reg.Safe.TOKEN 0 c.val tok
      let s := (s.wr Reg.Safe.L_CAUSE 0 c.val cause).wr Reg.Safe.L_DETAIL 0 c.val detail
      if out then s.setSc c fun x => { x with stopDue := true } else s) s
    safeEvalAll (s.raise 488)

/-- SAFETY_ACK (R249). -/
def safetyAckEff (token : Nat) (s : State) : Done × State :=
  let hit := allCh.filter fun c => safeState c s == sfLocked && s.rd Reg.Safe.TOKEN 0 c.val == token
  if token = 0 ∨ hit = [] then (.fail stTokenMismatch 0, s)
  else (.ok 0 (leBytes 1 (hit.foldl (fun m c => m + 2 ^ c.val) 0) ++ [0, 0, 0]), safeEvalAll (hit.foldl (fun s c => enterCheck c (s.wr Reg.Safe.TOKEN 0 c.val 0)) s))

/-- The frame of an input that check 3 of R250 asks for: it is mapped to the channel, supplied from a TP and reads high. -/
def sinChecked (c : Ch) (i : Ix16) (s : State) : Bool := bit (sinMask i s) c.val && (sinTp i s).isSome && (s.sin i).high

/-- Check 3 of R250: the first input of the channel with a missing (cause 7) or a foreign pulse (cause 8) in its frame. -/
def sinCheckFails (c : Ch) (s : State) : Option (Ix16 × Nat) :=
  allIx.findSome? fun i => if sinChecked c i s then
      (match (s.sin i).frame with
       | some (true, _) => some (i, 7)
       | some (false, true) => some (i, 8)
       | _ => none) else none

/-- Some input that check 3 asks for has not completed a frame: CHECK goes on. -/
def sinCheckWaits (c : Ch) (s : State) : Bool := allIx.any fun i => sinChecked c i s && (s.sin i).frame.isNone

/-- CHECK_COMPLETE (R250): the configuration CRC, the start test (`some false` GEN_A fails, `some true` GEN_B), the inputs' frames, then the next state. -/
def checkCompleteEff (c : Ch) (t : Option Bool) (s : State) : State :=
  if safeState c s ≠ sfCheck ∨ sinCheckWaits c s = true then s
  else
    let crc := s.rd Reg.Safe.CFG_CRC
    let exp := s.rd Reg.SafeIn.EXPECT_CRC
    if (s.sc c).guardCrc ≠ crc ∨ (exp ≠ 0 ∧ exp ≠ crc) then lockOut (2 ^ c.val) 6 0 s
    else match t with
      | some b => lockOut (2 ^ c.val) 3 b.toNat s
      | none =>
        let s := (s.wr Reg.Safe.TEST_AGE_H 0 c.val 0).wr Reg.Safe.TEST_DUE 0 c.val 0
        match sinCheckFails c s with
        | some (i, cause) => lockOut (sinMask i s) cause i.val s
        | none => safeEvalAll (s.wr Reg.Safe.STATE 0 c.val sfHoldE)

/-- PERIODIC_START_TEST (R250). -/
def periodicTestEff (c : Ch) (t : Option Bool) (s : State) : State :=
  if safeState c s = sfPermit ∧ s.rd Reg.PgStat.STATE (cI c) = 0 ∧ 720 ≤ s.rd Reg.Safe.TEST_AGE_H 0 c.val then
    match t with
    | some b => lockOut (2 ^ c.val) 3 b.toNat s
    | none =>
      let s := (s.wr Reg.Safe.TEST_AGE_H 0 c.val 0).wr Reg.Safe.TEST_DUE 0 c.val 0
      (s.setSc c fun x => { x with afterTest := true }).setPg c fun p => { p with settled := false }
  else s

/-- TEST_DUE is set while TEST_AGE_H is 8760 or more (R250). -/
def testDueEval (c : Ch) (s : State) : State := s.wrB Reg.Safe.TEST_DUE 0 c.val (decide (8760 ≤ s.rd Reg.Safe.TEST_AGE_H 0 c.val))

/-- TEST_AGE_INCREMENT (R250). -/
def testAgeEff (c : Ch) (s : State) : State := testDueEval c (s.count Reg.Safe.TEST_AGE_H 0 c.val)

/-! ### Inputs -/

/-- The own test window of an input is open (R239). -/
def ownWindow (i : Ix16) (s : State) : Bool :=
  match sinTp i s with
  | some k => bit s.safe.winOpen k
  | none => false

/-- A TP other than the input's own whose window is open. -/
def otherWindow (i : Ix16) (s : State) : Option Nat :=
  (List.range 8).find? fun k => sinTp i s != some k && bit s.safe.winOpen k

/-- SIN_CHANGE (R237, R240, R242). -/
def sinChangeEff (i : Ix16) (lvl : SinLevel) (s : State) : State :=
  match lvl with
  | .band => s
  | _ =>
    let high := lvl == .high
    let was := (s.sin i).high
    let s := s.wrBit Reg.Safe.SIN_UNRES 0 0 i.val false
    let own := ownWindow i s
    let other := otherWindow i s
    let open_ := s.safe.winOpen
    s.setSin i fun x =>
      if was && !high then { x with high := false, fell := x.fell || own, lowIn := if own then none else other }
      else if !was && high then
        { x with high := true, lowIn := none, foreign := x.foreign || (match x.lowIn with
          | some k => bit open_ k
          | none => false) }
      else { x with high := high }

/-- An input is at its demand level; an UNRESOLVED input demands (R242). -/
def sinAtDemand (i : Ix16) (s : State) : Bool := sinUnres i s || (s.sin i).high != sinPermitHigh i s

/-- SIN_DEMAND_RECOGNISED (R239, R233): not inside the own window; the Guards of its channels latch. -/
def sinDemandEff (i : Ix16) (s : State) : State :=
  if sinAtDemand i s && !ownWindow i s then
    let s := s.wrBit Reg.Safe.SIN_STATE 0 0 i.val false
    let m := sinMask i s
    let s := allCh.foldl (fun s c => if bit m c.val then s.setSc c fun x => { x with latch := true } else s) s
    safeEvalAll s
  else s

/-- SIN_DEMAND_END (R239). -/
def sinDemandEndEff (i : Ix16) (s : State) : State :=
  if sinAtDemand i s then s else safeEvalAll (s.wrBit Reg.Safe.SIN_STATE 0 0 i.val true)

/-- TP_PULSE_START (R238-R240): the window opens; inputs of the TP that read high must fall. -/
def tpStartEff (k : Fin 8) (s : State) : State :=
  let s := { s with safe := { s.safe with tpOff := setBit s.safe.tpOff k.val true, winOpen := setBit s.safe.winOpen k.val true } }
  allIx.foldl (fun s i =>
    if sinTp i s = some k.val then s.setSin i fun x => { x with startSeen := true, armed := x.high, fell := false } else s) s

/-- TP_PULSE_END (R238). -/
def tpEndEff (k : Fin 8) (s : State) : State := { s with safe := { s.safe with tpOff := setBit s.safe.tpOff k.val false } }

/-- TEST_WINDOW_CLOSE (R239, R240): a low that began in this window and outlasts it is no foreign pulse. -/
def windowCloseEff (k : Fin 8) (s : State) : State :=
  { s with safe := { s.safe with
    winOpen := setBit s.safe.winOpen k.val false
    sins := s.safe.sins.map fun x => if x.lowIn = some k.val then { x with lowIn := none } else x } }

/-- One test-pulse fault of a frame (R240): transient the first time, lasting when the frame before had it. -/
def tpFault (i : Ix16) (now prev : Bool) (cause : Nat) (s : State) : State :=
  if !now then s
  else if prev then lockOut (sinMask i s) cause i.val s
  else s.count Reg.Safe.TP_TRANSIENT_CNT

/-- TP_PULSE_CHECK (R240): missing pulse (cause 7) and foreign pulse (cause 8) of the input's frame. -/
def tpCheckEff (i : Ix16) (s : State) : State :=
  let x := s.sin i
  if !x.startSeen then s
  else
    let missing := x.armed && !x.fell
    let s := s.setSin i fun y => { y with startSeen := false, armed := false, fell := false, foreign := false, prevMissing := missing, prevForeign := x.foreign, frame := some (missing, x.foreign) }
    tpFault i x.foreign x.prevForeign 8 (tpFault i missing x.prevMissing 7 s)

/-- TP_LINE_FAULT (R238): every channel mapped to an input supplied from the TP. -/
def tpLineEff (k : Fin 8) (s : State) : State :=
  let m := allIx.foldl (fun m i => if sinTp i s = some k.val then m ||| sinMask i s else m) 0
  lockOut m 12 k.val s

/-- DISCREPANCY_EXPIRE (R241, R242). -/
def discrepancyEff (p : Fin 8) (s : State) : State :=
  let a : Ix16 := ⟨2 * p.val, by omega⟩
  let b : Ix16 := ⟨2 * p.val + 1, by omega⟩
  if 2 ≤ sinType a s ∧ (sinPermits a s ≠ sinPermits b s ∨ sinUnres a s = true ∨ sinUnres b s = true) then
    lockOut (sinMask a s) 9 a.val s
  else s

/-- SP_HEARTBEAT (R234). -/
def heartbeatEff (s : State) : State :=
  if s.safe.on then safeEvalAll (s.eachCh fun s c => s.setSc c fun x => { x with hb := true }) else s

/-- GUARD_HEARTBEAT_LOSS (R234). -/
def hbLossEff (c : Ch) (s : State) : State :=
  safeEvalAll (lockOut 0xFF 4 c.val (s.setSc c fun x => { x with hb := false }))

/-- CONFIG_CRC_CHECK (R236): a Guard whose copy differs locks its channel out. -/
def crcCheckEff (s : State) : State :=
  let crc := s.rd Reg.Safe.CFG_CRC
  allCh.foldl (fun s c => if (s.sc c).guardCrc ≠ crc then lockOut (2 ^ c.val) 6 0 s else s) s

/-- SACK_RELEASE (R246, R247): a press of `heldUs` after a low of `lowUs` ends. -/
def sackEff (heldUs lowUs : Nat) (s : State) : State :=
  let s := s.wr Reg.Safe.SACK 0 0 0
  let s := if heldUs < 50000 then s.count Reg.Safe.SACK_SHORT_CNT else s
  let valid := decide (50000 ≤ heldUs) && decide (heldUs ≤ 3000000) && decide (50000 ≤ lowUs)
  let guard_ := decide (40000 ≤ heldUs) && decide (heldUs ≤ 3500000) && decide (50000 ≤ lowUs)
  let s := if valid then
      let s := s.wr Reg.Safe.ACK_STUCK 0 0 0
      allCh.foldl (fun s c =>
        if (safeState c s = sfCheck ∨ safeState c s = sfHoldE) ∧ demandOn c s = false then s.wr Reg.Safe.E_PEND 0 c.val 0 else s) s
    else s
  let s := if guard_ then
      allCh.foldl (fun s c =>
        if allIx.any fun i => bit (sinMask i s) c.val && !sinPermits i s then s else s.setSc c fun x => { x with latch := false }) s
    else s
  safeEvalAll s

/-- ACK_STUCK (R247). -/
def ackStuckEff (s : State) : State := ((s.wr Reg.Safe.SACK 0 0 1).wr Reg.Safe.ACK_STUCK 0 0 1).raise 490

/-! ### Feide frames -/

/-- The connection a frame is assigned to (R252). `none`: discarded. -/
def feideConn (t : Transport) (ident : BitVec 29) (ide : Bool) (bs : List Byte) (s : State) : Option Ix16 :=
  let tr := match t with
    | .can c => c.val
    | .hb p => 4 + p.val
    | .host => 6
  allIx.find? fun c => connConsumes c s && s.rd Reg.Feide.TRANSPORT 0 c.val == tr &&
    (match t with
      | .can _ => s.rd Reg.Feide.CAN_ID 0 c.val == ident.toNat && s.rdB Reg.Feide.IDE 0 c.val == ide
      | _ => decide (8 ≤ bs.length) && s.rd Reg.Feide.CONN_ID 0 c.val == leAt bs 4 4)

/-- Checks 1 to 4 of R253. -/
def feideValid (c : Ix16) (bs : List Byte) (s : State) : Bool :=
  let len := leAt bs 1 1
  decide (16 + len ≤ bs.length) && leAt bs (12 + len) 4 == feideCrc (bs.take (12 + len))
    && leAt bs 0 1 == 1 && len == 1 && leAt bs 10 2 == 0 && decide (leAt bs 12 1 < 2)
    && leAt bs 4 4 == s.rd Reg.Feide.CONN_ID 0 c.val && leAt bs 8 2 == s.rd Reg.Feide.WD_MS 0 c.val

/-- A connection fails (R254). -/
def feideFail (c : Ix16) (s : State) : State :=
  lockOut (connMask c s) 10 c.val ((setConnState c 3 s).raise 491)

/-- A frame fails a check (R254): transient first; the next failure is lasting in RUN. -/
def feideBad (c : Ix16) (s : State) : State :=
  if (s.conn c).failed ∧ connState c s = 2 then feideFail c s
  else (s.count Reg.Safe.FEIDE_TRANSIENT_CNT).setConn c fun x => { x with failed := true }

/-- A consumed frame (R252-R254). -/
def feideReceive (t : Transport) (ident : BitVec 29) (ide : Bool) (bs : List Byte) (s : State) : State :=
  if !s.safe.on then s
  else match feideConn t ident ide bs s with
    | none => s
    | some c =>
      let st := connState c s
      if st ≠ 1 ∧ st ≠ 2 then s
      else if !feideValid c bs s then feideBad c s
      else
        let sq := leAt bs 2 2
        if st = 2 ∧ sq = (s.conn c).seq then
          (s.count Reg.Safe.FEIDE_DUP_CNT).setConn c fun x => { x with failed := false }
        else if st = 2 ∧ sq ≠ ((s.conn c).seq + 1) % 65536 then feideBad c s
        else
          let s := (setConnState c 2 s).setConn c fun x => { x with seq := sq, permit := leAt bs 12 1 == 1, failed := false }
          safeEvalAll s

/-- FEIDE_WATCHDOG_EXPIRE (R254). -/
def feideWatchdogEff (c : Ix16) (s : State) : State := if connState c s = 2 then feideFail c s else s

/-- Safe data produced (Table 11.6). -/
def feideData (s : State) : List Byte :=
  let mask := fun st => allCh.foldl (fun m c => if safeState c s = st then m + 2 ^ c.val else m) 0
  leBytes 2 (s.rd Reg.Safe.SIN_STATE) ++ leBytes 1 (mask sfPermit) ++ leBytes 1 (mask sfLocked) ++ leBytes 2 (s.rd Reg.Safe.SIN_UNRES) ++ [0, 0]

/-- The next produced frame of a connection (R255). -/
def feideFrame (c : Ix16) (s : State) : List Byte :=
  let b := leBytes 1 1 ++ leBytes 1 8 ++ leBytes 2 (s.conn c).txSeq ++ leBytes 4 (s.rd Reg.Feide.CONN_ID 0 c.val)
    ++ leBytes 2 (s.rd Reg.Feide.WD_MS 0 c.val) ++ [0, 0] ++ feideData s
  b ++ leBytes 4 (feideCrc b)

/-! ### Configuration and start -/

/-- The accepted configuration takes effect in both paths (R236, R257, R258): consumed connections OPENING, others OFF. -/
def safetyTake (s : State) : State :=
  let crc := safetyCrc s
  let s := s.wr Reg.Safe.CFG_CRC 0 0 crc
  let s := s.eachCh fun s c => s.setSc c fun x => { x with guardCrc := crc }
  allIx.foldl (fun s k => (setConnState k (if connConsumes k s then 1 else 0) s).setConn k fun x => { x with failed := false }) s

/-- An accepted write of the safety configuration: every channel that is not LOCKED enters CHECK (Table 11.3). -/
def safetyWritten (s : State) : State :=
  let s := safetyTake s
  safeEvalAll (allCh.foldl (fun s c => if safeState c s = sfLocked then s else enterCheck c s) s)

/-- Some GEN pin of the device reads high (R258). -/
def anyGenHigh (s : State) : Bool :=
  allCh.any fun c => s.rdB Reg.GdiStat.GEN_A_RB (cI c) || s.rdB Reg.GdiStat.GEN_B_RB (cI c)

/-- The island starts during Thaw (Table 11.3, R242, R247, R255): inputs UNRESOLVED and demanding, E_PEND set, connections OPENING, SEQ 0; the Guards await the
first heartbeat, and SSTAT reads 0 (Table 11.10, R7). -/
def islandStart (s : State) : State :=
  let s := { s with safe := { s.safe with
    on := true, tpOff := 0, winOpen := 0,
    sins := Vector.replicate 16 ⟨false, false, false, false, none, false, false, false, none⟩,
    conns := Vector.replicate 16 ⟨0, false, false, 0, none⟩ } }
  let s := (s.wr Reg.Safe.SIN_STATE 0 0 0).wr Reg.Safe.SIN_UNRES 0 0 0xFFFF
  let s := ((s.wr Reg.Safe.ACK_STUCK 0 0 0).wr Reg.Safe.SACK 0 0 0).wr Reg.Safe.TP_TRANSIENT_CNT 0 0 0
  let s := ((s.wr Reg.Safe.FEIDE_TRANSIENT_CNT 0 0 0).wr Reg.Safe.SACK_SHORT_CNT 0 0 0).wr Reg.Safe.FEIDE_DUP_CNT 0 0 0
  let s := safetyTake s
  let s := s.eachCh fun s c =>
    let mapped := allIx.any fun i => bit (sinMask i s) c.val
    let s := s.setSc c fun x => { x with latch := mapped, hb := false, stopDue := false, afterTest := false }
    let s := testDueEval c (s.wr Reg.Safe.E_PEND 0 c.val 1)
    if s.rd Reg.Safe.TOKEN 0 c.val ≠ 0 then s.wr Reg.Safe.STATE 0 c.val sfLocked else enterCheck c s
  safeEvalAll s

/-- The island loses its supply (R231): every enable is low. -/
def islandStop (s : State) : State :=
  safeEvalAll { s with safe := { s.safe with on := false } }

/-- What the island does while it is powered (R231): in Lull, Frost and OFF its inputs, timers and memory stand still. -/
def onIsland (f : State → State) (s : State) : State := if s.safe.on then f s else s

/-- SIN_CHANGE. -/
def execSinChange (i : Fin 16) (lvl : SinLevel) (s : State) : Out := fin s (onIsland (sinChangeEff i lvl) s)
/-- SIN_DEMAND_RECOGNISED. -/
def execSinDemandRecognised (i : Fin 16) (s : State) : Out := fin s (onIsland (sinDemandEff i) s)
/-- SIN_DEMAND_END. -/
def execSinDemandEnd (i : Fin 16) (s : State) : Out := fin s (onIsland (sinDemandEndEff i) s)
/-- TP_PULSE_START. -/
def execTpPulseStart (k : Fin 8) (s : State) : Out := fin s (onIsland (tpStartEff k) s)
/-- TP_PULSE_END. -/
def execTpPulseEnd (k : Fin 8) (s : State) : Out := fin s (onIsland (tpEndEff k) s)
/-- TEST_WINDOW_CLOSE. -/
def execTestWindowClose (k : Fin 8) (s : State) : Out := fin s (onIsland (windowCloseEff k) s)
/-- TP_PULSE_CHECK. -/
def execTpPulseCheck (i : Fin 16) (s : State) : Out := fin s (onIsland (tpCheckEff i) s)
/-- TP_LINE_FAULT. -/
def execTpLineFault (k : Fin 8) (s : State) : Out := fin s (onIsland (tpLineEff k) s)
/-- DISCREPANCY_EXPIRE. -/
def execDiscrepancyExpire (p : Fin 8) (s : State) : Out := fin s (onIsland (discrepancyEff p) s)
/-- SP_HEARTBEAT. -/
def execSpHeartbeat (s : State) : Out := fin s (onIsland heartbeatEff s)
/-- GUARD_HEARTBEAT_LOSS. -/
def execGuardHeartbeatLoss (c : Ch) (s : State) : Out := fin s (onIsland (hbLossEff c) s)
/-- ENABLE_READBACK_FAULT (R235). -/
def execEnableReadbackFault (c : Ch) (genB : Bool) (s : State) : Out := fin s (onIsland (lockOut (2 ^ c.val) (if genB then 2 else 1) 0) s)
/-- CONFIG_CRC_CHECK. -/
def execConfigCrcCheck (s : State) : Out := fin s (onIsland crcCheckEff s)
/-- PATH_DISAGREE (R236). -/
def execPathDisagree (c : Ch) (i : Fin 16) (s : State) : Out := fin s (lockOut (2 ^ c.val) 5 i.val s)
/-- SAFETY_SELF_TEST_FAIL (Table 11.4). -/
def execSafetySelfTestFail (test : Byte) (s : State) : Out := fin s (lockOut 0xFF 11 test.toNat s)
/-- SACK_RELEASE. -/
def execSackRelease (heldUs lowUs : Nat) (s : State) : Out := fin s (onIsland (sackEff heldUs lowUs) s)
/-- ACK_STUCK. -/
def execAckStuck (s : State) : Out := fin s (onIsland ackStuckEff s)
/-- CHECK_COMPLETE. -/
def execCheckComplete (c : Ch) (t : Option Bool) (s : State) : Out := fin s (onIsland (checkCompleteEff c t) s)
/-- PERIODIC_START_TEST. -/
def execPeriodicStartTest (c : Ch) (t : Option Bool) (s : State) : Out := fin s (onIsland (periodicTestEff c t) s)
/-- TEST_AGE_INCREMENT. -/
def execTestAgeIncrement (c : Ch) (s : State) : Out := fin s (onIsland (testAgeEff c) s)
/-- FEIDE_WATCHDOG_EXPIRE. -/
def execFeideWatchdogExpire (c : Fin 16) (s : State) : Out := fin s (onIsland (feideWatchdogEff c) s)

end Sys2Proof.Machine
end

