-- ==== Sys2Proof/Machine/Gdi.lean ====
section
/-! DEFINITION. Gate-drive interface (08_gate_drive.md): pins and blanking, faults, per-switch turn-off, escalation, Squall shutdown, and the stop of a channel (07_pulse_generation.md Table 7.6). -/

namespace Sys2Proof.Machine

/-- GDI state (Table 8.3): 0 IDLE, 1 GUARDED, 2 NORMAL, 3 RECOVERY, 4 SQUALL. -/
def gdiState (c : Ch) (s : State) : Nat := s.rd Reg.GdiStat.STATE (cI c)

/-- Set the GDI state. -/
def setGdi (c : Ch) (v : Nat) (s : State) : State := s.wr Reg.GdiStat.STATE (cI c) 0 v

/-! ### Stop of a channel -/

/-- An output with nothing before the pin (R160). -/
def OutSt.idle : OutSt :=
  ⟨false, [], false, false, none, none, false, 0, none, [], false, false, false, none, 0, []⟩

/-- The synchronous stages of every output go inactive and the armed set is discarded (R160, Table 7.6). The pin, its blanking interval and what that has
recorded stay until the pin follows. -/
def pgQuiet (c : Ch) (s : State) : State :=
  let s := s.wr Reg.PgSet.PEND (cI c) 0 0
  s.setPg c fun p => { p with
    armed := [], esLoad := [], sqAllowed := none,
    prs := p.prs.map fun q => { q with state := 0 },
    outs := p.outs.map fun o => { OutSt.idle with act := o.act, blank := o.blank, recAt := o.recAt, masked := o.masked, hist := o.hist } }

/-- The AT enters STOPPED (Table 3.2): the accumulator is frozen, the hold timer stops, an ARMED bank becomes ACTIVE (Table 4.9). -/
def atStop (c : Ch) (s : State) : State :=
  if atStopped c s then s
  else
    let s := s.wr Reg.AtStat.STATE (cI c) 0 0
    let s := s.wr Reg.AtStat.COAST (cI c) 0 0
    swapAtStop c s

/-- A running evaluation ends without delivering its outputs and the pending set is cleared (R128). -/
def ceStop (c : Ch) (s : State) : State :=
  let s := (s.wr Reg.CeStat.RUNNING (cI c) 0 0).wr Reg.CeStat.PENDING (cI c) 0 0
  let s := s.setCh c fun x => { x with ce := { x.ce with running := none } }
  retireEnd c s

/-- The channel stops: PG to STOPPED, AT to STOPPED, CE ended (Table 7.6, Table 3.2, R128). -/
def channelHalt (c : Ch) (pgState : Nat) (s : State) : State :=
  safeEval c (ceStop c (atStop c (pgQuiet c (s.wr Reg.PgStat.STATE (cI c) 0 pgState))))

/-- Squall step 2 (R176): every output at SAFE_LVL, SQUALL_DONE, PG to STOPPED; every CH_STOP that waits completes (R301). -/
def squallFinish (c : Ch) (s : State) : State :=
  let s := channelHalt c pgStopped (setGdi c 0 s)
  let s := fire c evSquallDone s
  let ws := (s.ch c).stopWait
  ws.foldl (fun s w => completeW w (.ok) s) (s.setCh c fun x => { x with stopWait := [] })

/-- Squall step 1 (R176): outputs in OUTER_MASK go to SAFE_LVL, the others keep their level but may fall; with OUTER_MASK = 0 step 2 follows at once. -/
def squallStep1 (c : Ch) (cause : Nat) (s : State) : State :=
  let outer := s.rd Reg.GdiCfg.OUTER_MASK (cI c)
  let s := (setGdi c 4 s).wr Reg.GdiStat.SQ_CAUSE (cI c) 0 cause
  let s := fire c evSquallStart (s.count Reg.GdiStat.SQUALL_CNT (cI c))
  let keep := allOut.foldl (fun m j => if (s.out c j).act && !bit outer j.val then m + 2 ^ j.val else m) 0
  let s := s.setPg c fun p => { p with sqAllowed := some keep }
  if outer = 0 then squallFinish c s else s

/-- A Squall request (R177): acts from GUARDED, NORMAL and RECOVERY only. -/
def squallRequest (c : Ch) (cause : Nat) (s : State) : State :=
  if gdiState c s = 1 ∨ gdiState c s = 2 ∨ gdiState c s = 3 then squallStep1 c cause s else s

/-! ### Faults -/

/-- What a fault is: a DESAT report of a DFB input, a READY report, or an OC output (R172). -/
inductive FaultKind where
  | desat (k : PairIx)
  | ready (k : PairIx)
  | oc
deriving DecidableEq, Repr

/-- Both outputs of some pair are in a mask. -/
def bothOfPair (m : Nat) : Bool := allPair.any fun k => bit m (2 * k.val) && bit m (2 * k.val + 1)

/-- Some output of the mask has a partner whose off-latch is set. -/
def partnerLatched (m latch : Nat) : Bool := allOut.any fun j => bit m j.val && bit latch (partner j).val

/-- Pairs that a mask touches. -/
def pairsOf (m : Nat) : List PairIx := allPair.filter fun k => bit m (2 * k.val) || bit m (2 * k.val + 1)

/-- Two faults on different pairs have assertion instants within 200 ticks (R174). -/
def twoLegs (c : Ch) (m at_ : Nat) (s : State) : Bool :=
  let ps := pairsOf m
  decide (1 < ps.length) || allPair.any fun k =>
    !ps.contains k && (match ((s.pg c).faultAt)[k] with
      | some t => decide (t ≤ at_ + 6400) && decide (at_ ≤ t + 6400)
      | none => false)

/-- An inner switch faulted while an outer output is active at the pin (R175). -/
def innerOuter (c : Ch) (m : Nat) (s : State) : Bool :=
  let outer := s.rd Reg.GdiCfg.OUTER_MASK (cI c)
  outer != 0 && (allOut.any fun j => bit m j.val && !bit outer j.val)
    && (allOut.any fun j => bit outer j.val && (s.out c j).act)

/-- SQ_CAUSE of the escalation a fault meets, in the order of R172; none when it meets none. -/
def escalation (c : Ch) (kind : FaultKind) (m at_ : Nat) (s : State) : Option Nat :=
  match kind with
  | .ready _ => some 10
  | _ =>
    if bothOfPair m || partnerLatched m (s.rd Reg.GdiStat.OFF_LATCH (cI c)) then some 9
    else if twoLegs c m at_ s then some 8
    else if innerOuter c m s then some 11 else none

/-- Count a fault acted on: its input and FAULT_TIME (Table 8.3). -/
def faultCount (c : Ch) (kind : FaultKind) (at_ : Nat) (s : State) : State :=
  let s := match kind with
    | .desat k => s.count Reg.GdiStat.DESAT_CNT (cI c) k.val
    | .ready k => s.count Reg.GdiStat.DESAT_CNT (cI c) k.val
    | .oc => s
  s.wr Reg.GdiStat.FAULT_TIME (cI c) 0 (at_ / 64)

/-- Per-switch turn-off (R173): off-latches set, DESAT raised for a DESAT fault, GDI to RECOVERY. -/
def switchOff (c : Ch) (kind : FaultKind) (m at_ : Nat) (s : State) : State :=
  let s := s.wr Reg.GdiStat.OFF_LATCH (cI c) 0 (s.rd Reg.GdiStat.OFF_LATCH (cI c) ||| m)
  let s := s.setPg c fun p => { p with
    recovExpired := false,
    latchDesat := match kind with
      | .desat _ => p.latchDesat ||| m
      | _ => p.latchDesat
    latchOc := if kind = .oc then p.latchOc ||| m else p.latchOc,
    faultAt := Vector.ofFn fun k => if (pairsOf m).contains k then some at_ else p.faultAt[k] }
  let s := setGdi c 3 s
  match kind with
  | .desat _ => fire c evDesat s
  | _ => s

/-- The GDI acts on a fault of a set of outputs (Table 8.1, R172-R175). In SQUALL it is only counted; in IDLE nothing happens. -/
def gdiFault (c : Ch) (kind : FaultKind) (m at_ : Nat) (s : State) : State :=
  let st := gdiState c s
  if st = 0 then s
  else if st = 4 then
    (match kind with
      | .desat k => s.count Reg.GdiStat.DESAT_CNT (cI c) k.val
      | .ready k => s.count Reg.GdiStat.DESAT_CNT (cI c) k.val
      | .oc => s)
  else
    let s := faultCount c kind at_ s
    if st = 1 then squallStep1 c 6 s
    else match escalation c kind m at_ s with
      | some cause => squallStep1 c cause (s.count Reg.GdiStat.ESC_CNT (cI c))
      | none => if st = 3 then squallStep1 c 7 s else switchOff c kind m at_ s

/-! ### Feedback inputs -/

/-- Both enables read high and have for 200 µs (R166). -/
def fbLive (c : Ch) (s : State) : Bool :=
  s.rdB Reg.GdiStat.GEN_A_RB (cI c) && s.rdB Reg.GdiStat.GEN_B_RB (cI c) && (s.pg c).settled

/-- Changes of an output at its pin up to an instant, newest first. -/
def OutSt.upTo (o : OutSt) (t : Nat) : List (Nat × Bool) := o.hist.filter fun e => decide (e.1 ≤ t)

/-- The output was active at its pin at an instant. -/
def OutSt.actAt (o : OutSt) (t : Nat) : Bool := ((o.upTo t).head?.map Prod.snd).getD false

/-- Instant up to which an output has been active, seen from a later one; none since the channel start. -/
def OutSt.lastActive (o : OutSt) (t : Nat) : Option Nat := (o.upTo t).head?.map Prod.fst

/-- Outputs a DESAT assertion at an instant is attributed to (R168): those active at the pin then, else the one active most recently, else both. -/
def attribute_ (c : Ch) (k : PairIx) (t : Nat) (s : State) : Nat :=
  let e := s.out c (evenOut k)
  let o := s.out c (oddOut k)
  let even := 2 ^ (2 * k.val)
  let odd := 2 ^ (2 * k.val + 1)
  if e.actAt t || o.actAt t then (if e.actAt t then even else 0) + (if o.actAt t then odd else 0)
  else match e.lastActive t, o.lastActive t with
    | some a, some b => if a < b then odd else if b < a then even else even + odd
    | some _, none => even
    | none, some _ => odd
    | none, none => even + odd

/-- An instant lies in a blanking interval of an output (R169): from a rise at its pin for DESAT_BLANK ticks, or to its fall. -/
def blankAt (c : Ch) (j : OutIx) (t : Nat) (s : State) : Bool :=
  match ((s.out c j).upTo t).head? with
  | some (r, true) => decide (t < r + 32 * s.rd Reg.GdiCfg.DESAT_BLANK (cI c))
  | _ => false

/-- The one output a mask of a pair names. -/
def soleOut (k : PairIx) (m : Nat) : Option OutIx :=
  if m = 2 ^ (2 * k.val) then some (evenOut k) else if m = 2 ^ (2 * k.val + 1) then some (oddOut k) else none

/-- A DFB input counts as asserting at an instant (R167-R169): READY at once, DESAT after attribution and blanking. An assertion whose blanking interval is
over when it is recognised is acted on now, with its instant. -/
def dfbAct (c : Ch) (k : PairIx) (at_ : Nat) (s : State) : State :=
  let mode := s.rd Reg.GdiCfg.MODE (cI c) k.val
  if !fbLive c s then s
  else if mode = 2 then gdiFault c (.ready k) (2 ^ (2 * k.val) + 2 ^ (2 * k.val + 1)) at_ s
  else if mode = 1 then
    let m := attribute_ c k at_ s
    match soleOut k m with
    | some j =>
      if (s.out c j).blank && blankAt c j at_ s then s.setOut c j fun o => { o with recAt := some at_ }
      else gdiFault c (.desat k) m at_ s
    | none => gdiFault c (.desat k) m at_ s
  else s

/-- A blanking interval ends (R169, R170): masked events are reported, a recorded assertion still standing is acted on with its instant. -/
def blankEnd (c : Ch) (j : OutIx) (s : State) : State :=
  let o := s.out c j
  if !o.blank then s
  else
    let k := pairOf j
    let s := s.setOut c j fun o => { o with blank := false, recAt := none, masked := 0 }
    let s := if 0 < o.masked then fire c evMasked s else s
    match o.recAt with
    | some t => if dfbOn c k s && fbLive c s then gdiFault c (.desat k) (2 ^ j.val) t s else s
    | none => s

/-- A DFB input deasserts: assertions recorded in a blanking interval become masked events (R170); while feedback is ignored they only lapse (R166). -/
def dfbRelease (c : Ch) (k : PairIx) (s : State) : State :=
  [evenOut k, oddOut k].foldl (fun s j =>
    if (s.out c j).blank && (s.out c j).recAt.isSome then
      (if fbLive c s then (s.setOut c j fun o => { o with recAt := none, masked := o.masked + 1 }).count Reg.GdiStat.MASKED_CNT (cI c) k.val
       else s.setOut c j fun o => { o with recAt := none })
    else s) s

/-- An OC output of a comparator asserts (R171): counted and reported in every state of the GDI, which acts on it as on any fault. -/
def ocAct (c : Ch) (j : Fin 16) (s : State) : State :=
  let m := s.rd Reg.GdiCfg.OC_MASK (cI c) j.val
  let s := fire c evOcFast (s.count Reg.GdiStat.OC_CNT (cI c))
  if m = 0 then s else gdiFault c .oc m s.now s

/-! ### Pins -/

/-- An output begins to be active at its pin: a blanking interval starts (R169). -/
def pinRise (c : Ch) (j : OutIx) (s : State) : State :=
  s.setOut c j fun o => { o with act := true, blank := true, recAt := none, masked := 0, hist := ((s.now, true) :: o.hist).take 16 }

/-- One output's level at the pin is compared with what it was: a rise starts a blanking interval, a fall ends it (R168, R169). -/
def settlePin (c : Ch) (j : OutIx) (s : State) : State :=
  let was := (s.out c j).act
  let is := pinActive c j s
  if was = is then s
  else
    if is then pinRise c j s
    else blankEnd c j (s.setOut c j fun o => { o with act := false, hist := ((s.now, false) :: o.hist).take 16 })

/-- One pass over the pins of a channel. -/
def settlePins (c : Ch) (s : State) : State := allOut.foldl (fun s j => settlePin c j s) s

/-- Bring the outputs of a channel up to now: due edges of stages 2 to 4, edges arriving at the pins, blanking and faults, the HB.
Three passes suffice: a fault stops one switch, then the channel. -/
def settle (c : Ch) (s : State) : State :=
  let s := advanceOuts c s
  let s := s.setPg c fun p => { p with outs := p.outs.map fun o => o.arrive s.now }
  let s := allOut.foldl (fun s j => squallDrop c j s) s
  hbSettle c (settlePins c (settlePins c (settlePins c s)))

/-- The PG enters HALTED (R159): outputs at SAFE_LVL through stage 7, GDI to IDLE, armed set discarded. -/
def pgHalt (c : Ch) (s : State) : State :=
  if pgIsRunning c s then
    let s := pgQuiet c (s.wr Reg.PgStat.STATE (cI c) 0 pgHalted)
    setGdi c 0 s
  else s

/-- The GDI enters GUARDED from IDLE when the PG enters RUNNING (Table 8.1): latches cleared, SERVICE 0, levels asserted now count as asserting. -/
def gdiStart (c : Ch) (s : State) : State :=
  let s := setGdi c 1 ((s.wr Reg.GdiStat.OFF_LATCH (cI c) 0 0).wr Reg.GdiCfg.SERVICE (cI c) 0 0)
  let s := s.setPg c fun p => { p with
    recovExpired := false, faultAt := Vector.replicate 6 none, latchDesat := 0, latchOc := 0, servicePend := false, sqAllowed := none,
    outs := p.outs.map fun o => { o with hist := o.hist.take (if o.act then 1 else 0) } }
  let s := allPair.foldl (fun s k => if dfbOn c k s then dfbAct c k s.now s else s) s
  allCmp.foldl (fun s j => if ocAsserted c j s then ocAct c j s else s) s

end Sys2Proof.Machine
end

