-- ==== Sys2Proof/Machine/Trig.lean ====
section
/-! DEFINITION. Sine, cosine and arctangent of angles in counts (06_control_engine.md R118) by fixed-point series, and integer square root with rounding (Table 6.3 MAG). -/

namespace Sys2Proof

/-- Fraction bits of the series: 2^80 stands for 1. -/
def trigOne : Int := 2 ^ 80

/-- 2π with 80 fraction bits. -/
def twoPi80 : Int := 7595904947272677161575987

/-- Terms of the sine series at x (80 fraction bits), x up to π/2. -/
def sinTerms : Nat → Nat → Int → Int → Int → Int
  | 0, _, _, _, acc => acc
  | fuel + 1, k, x2, t, acc =>
    let t' := -(Int.fdiv (Int.fdiv (t * x2) trigOne) (((2 * k) * (2 * k + 1) : Nat) : Int))
    sinTerms fuel (k + 1) x2 t' (acc + t')

/-- Terms of the cosine series. -/
def cosTerms : Nat → Nat → Int → Int → Int → Int
  | 0, _, _, _, acc => acc
  | fuel + 1, k, x2, t, acc =>
    let t' := -(Int.fdiv (Int.fdiv (t * x2) trigOne) (((2 * k - 1) * (2 * k) : Nat) : Int))
    cosTerms fuel (k + 1) x2 t' (acc + t')

/-- sin of a first-octant angle given in counts, 80 fraction bits. -/
def sin80 (c : Nat) : Int :=
  let x := Int.fdiv ((c : Int) * twoPi80) (2 ^ 32)
  sinTerms 16 1 (Int.fdiv (x * x) trigOne) x x

/-- cos of a first-octant angle given in counts, 80 fraction bits. -/
def cos80 (c : Nat) : Int :=
  let x := Int.fdiv ((c : Int) * twoPi80) (2 ^ 32)
  cosTerms 16 1 (Int.fdiv (x * x) trigOne) trigOne trigOne

/-- sin of an angle from 0 to a quarter turn, both ends included, 80 fraction bits. -/
def sinQ80 (c : Nat) : Int := if c ≤ 2 ^ 29 then sin80 c else cos80 (2 ^ 30 - c)

/-- sin of any angle in counts, 80 fraction bits. -/
def sinC80 (c : Nat) : Int :=
  let a := c % 2 ^ 32
  let q := a / 2 ^ 30
  let r := a % 2 ^ 30
  if q = 0 then sinQ80 r else if q = 1 then sinQ80 (2 ^ 30 - r)
  else if q = 2 then -(sinQ80 r) else -(sinQ80 (2 ^ 30 - r))

/-- Sine in sQ1.31, rounded half up and held at 0x7FFF_FFFF (R118). -/
def sinQ31 (c : Nat) : Int := min (rhu (sinC80 c) (2 ^ 49)) (2 ^ 31 - 1)

/-- Cosine in sQ1.31 (R118). -/
def cosQ31 (c : Nat) : Int := sinQ31 (c + 2 ^ 30)

/-- Largest first-quadrant angle `c` built bit by bit with sin(c)·x ≤ cos(c)·y: the angle of (x, y), x, y ≥ 0. -/
def atanBits (x y : Int) : Nat → Nat → Nat
  | 0, c => c
  | b + 1, c =>
    let c' := c + 2 ^ b
    if c' ≤ 2 ^ 30 ∧ sinC80 c' * x ≤ sinC80 (c' + 2 ^ 30) * y then atanBits x y b c' else atanBits x y b c

/-- Angle in counts of a vector with x, y ≥ 0, not both 0, rounded to the nearest count: searched in half counts. -/
def atanQ (x y : Int) : Nat :=
  let c := atanBits x y 31 0
  if c = 2 ^ 30 then c
  else
    -- half a count further still below the direction rounds up
    if (sinC80 c + sinC80 (c + 1)) * x ≤ (sinC80 (c + 2 ^ 30) + sinC80 (c + 1 + 2 ^ 30)) * y then c + 1 else c

/-- atan2(y, x) in counts, 0 to 2^32 − 1; the vector is not zero. -/
def atan2C (y x : Int) : Nat :=
  (if 0 ≤ x then
    if 0 ≤ y then atanQ x y else 2 ^ 32 - atanQ x (-y)
  else
    if 0 ≤ y then 2 ^ 31 - atanQ (-x) y else 2 ^ 31 + atanQ (-x) (-y)) % 2 ^ 32

/-- floor(sqrt(n) + 1/2). -/
def sqrtHalfUp (n : Nat) : Nat :=
  let r := Nat.sqrt n
  if r * r + r < n then r + 1 else r

end Sys2Proof
end

