-- ==== Sys2Proof/Machine/Ce.lean ====
section
/-! DEFINITION. The control engine (06_control_engine.md R116-R138): operations, evaluation start and end, commits. -/

namespace Sys2Proof.Machine

/-! ### Operations -/

/-- The values an evaluation works on: W0-W63 at 0-63, DUTY0-5 at 64-69, M, X, Y at 70-72; the outputs written; the four states of the operation; flags SAT, LIM, DIV0. -/
structure CeEnv where
  vars : List Int
  written : Nat
  st : List Int
  sat : Bool
  lim : Bool
  div0 : Bool
deriving DecidableEq, Repr

/-- An operation word (Table 6.2). -/
structure CeOp where
  op : Nat
  dst : Nat
  a : Nat
  b : Nat
  coef : Nat
  aux : Bool
deriving DecidableEq, Repr

/-- Position of a writable operand in the variables. -/
def varIx (i : Nat) : Nat := if i < 0x80 then i - 0x40 else 64 + (i - 0xA0)

/-- Read an operand (Table 6.1) from the snapshot or live. -/
def ceRead (x : CeSt) (e : CeEnv) (i : Nat) : Int :=
  if i < 0x40 then SMap.get 0 x.snapRes i
  else if i < 0x80 then e.vars.getD (i - 0x40) 0
  else if i < 0x90 then x.snapH.getD (i - 0x80) 0
  else if i = 0x90 then sgn 32 x.snapAng
  else if i = 0x91 then x.snapSpd
  else if 0xA0 ≤ i ∧ i ≤ 0xA8 then e.vars.getD (varIx i) 0
  else 0

/-- Write an operand, marking an output as written. -/
def CeEnv.put (e : CeEnv) (i : Nat) (v : Int) : CeEnv :=
  { e with vars := e.vars.set (varIx i) v, written := if 0xA0 ≤ i then setBit e.written (i - 0xA0) true else e.written }

/-- A result that may saturate: value, and whether it did. -/
def satF (x : Int) : Int × Bool := (sat32 x, sat32 x != x)

/-- Saturate and write, setting SAT when saturation changed the value (R116). -/
def CeEnv.putS (e : CeEnv) (i : Nat) (x : Int) : CeEnv :=
  let r := satF x
  { e.put i r.1 with sat := e.sat || r.2 }

/-- Mark that an intermediate result saturated. -/
def CeEnv.mark (e : CeEnv) (b : Bool) : CeEnv := { e with sat := e.sat || b }

/-- A coefficient of the evaluation: value and shift. -/
def ceCoef (x : CeSt) (k : Nat) : Int × Nat := x.coefs.getD k (0, 0)

/-- Product of a coefficient and a value (R117). -/
def ceMul (x : CeSt) (k : Nat) (v : Int) : Int × Bool :=
  let c := ceCoef x k
  satF (shru (c.1 * v) c.2)

/-- Raw value of a coefficient. -/
def ceRaw (x : CeSt) (k : Nat) : Int := (ceCoef x k).1

/-- Constants of the transforms (R118). -/
def k3 : Int := 1239850262
def k23 : Int := 1431655765

/-- A state word of the operation. -/
def CeEnv.s (e : CeEnv) (i : Nat) : Int := e.st.getD i 0
/-- Write a state word. -/
def CeEnv.setSt (e : CeEnv) (i : Nat) (v : Int) : CeEnv := { e with st := e.st.set i v }

/-- Clamp of PI and PID with its anti-windup (R121). `u` the unlimited output, `ii` the new integrator, `err` the error. -/
def piLimit (e : CeEnv) (d : Nat) (u ii err lo hi : Int) : CeEnv :=
  let y := clampI lo hi u
  let e := e.put d y
  if y = u then e.setSt 0 ii
  else if (y < u ∧ 0 < err) ∨ (u < y ∧ err < 0) then { e with lim := true }
  else { e.setSt 0 (clampI lo hi ii) with lim := true }

/-- PI (R121). -/
def ceOpPi (x : CeSt) (e : CeEnv) (o : CeOp) (a b : Int) : CeEnv :=
  let err := satF (a - b)
  let p := ceMul x o.coef err.1
  let ki := ceMul x (o.coef + 1) err.1
  let ii := satF (e.s 0 + ki.1)
  let u := satF (p.1 + ii.1)
  piLimit (e.mark (err.2 || p.2 || ki.2 || ii.2 || u.2)) o.dst u.1 ii.1 err.1 (ceRaw x (o.coef + 2)) (ceRaw x (o.coef + 3))

/-- PID (R121). -/
def ceOpPid (x : CeSt) (e : CeEnv) (o : CeOp) (a b : Int) : CeEnv :=
  let err := satF (a - b)
  let p0 := ceMul x o.coef err.1
  let ki := ceMul x (o.coef + 1) err.1
  let ii := satF (e.s 0 + ki.1)
  let de := satF (err.1 - e.s 1)
  let v := ceMul x (o.coef + 2) de.1
  let vd := satF (v.1 - e.s 2)
  let al := ceMul x (o.coef + 3) vd.1
  let dn := satF (e.s 2 + al.1)
  let p := satF (p0.1 + dn.1)
  let u := satF (p.1 + ii.1)
  let e := (e.setSt 1 err.1).setSt 2 dn.1
  piLimit (e.mark (err.2 || p0.2 || ki.2 || ii.2 || de.2 || v.2 || vd.2 || al.2 || dn.2 || p.2 || u.2)) o.dst u.1 ii.1 err.1
    (ceRaw x (o.coef + 4)) (ceRaw x (o.coef + 5))

/-- BIQUAD (R122). -/
def ceOpBiquad (x : CeSt) (e : CeEnv) (o : CeOp) (a : Int) : CeEnv :=
  let m0 := ceMul x o.coef a
  let y := satF (m0.1 + e.s 0)
  let m1 := ceMul x (o.coef + 1) a
  let n1 := ceMul x (o.coef + 3) y.1
  let s1 := satF (m1.1 - n1.1 + e.s 1)
  let m2 := ceMul x (o.coef + 2) a
  let n2 := ceMul x (o.coef + 4) y.1
  let s2 := satF (m2.1 - n2.1)
  let e := (e.setSt 0 s1.1).setSt 1 s2.1
  (e.mark (m0.2 || y.2 || m1.2 || n1.2 || s1.2 || m2.2 || n2.2 || s2.2)).put o.dst y.1

/-- CLARKE (R123). -/
def ceOpClarke (e : CeEnv) (o : CeOp) (a b : Int) : CeEnv :=
  if o.aux then (e.putS o.dst (rhu ((2 * a + b) * k23) (2 ^ 32))).putS (o.dst + 1) (rhu (b * k3) (2 ^ 31))
  else (e.put o.dst a).putS (o.dst + 1) (rhu ((a + 2 * b) * k3) (2 ^ 31))

/-- PARK and IPARK (R123). -/
def ceOpPark (x : CeSt) (e : CeEnv) (o : CeOp) (a b : Int) (inv : Bool) : CeEnv :=
  let th := enc 32 ((x.snapAng : Int) + ceRaw x o.coef)
  let co := cosQ31 th
  let si := sinQ31 th
  if inv then (e.putS o.dst (rhu (a * co - b * si) (2 ^ 31))).putS (o.dst + 1) (rhu (a * si + b * co) (2 ^ 31))
  else (e.putS o.dst (rhu (a * co + b * si) (2 ^ 31))).putS (o.dst + 1) (rhu (-a * si + b * co) (2 ^ 31))

/-- ICLARKE (R123); √3 is formed from the held constant K3 = 1/√3 (log entry 15). -/
def ceOpIclarke (e : CeEnv) (o : CeOp) (a b : Int) : CeEnv :=
  let r3 := 3 * k3 * b
  ((e.put o.dst a).putS (o.dst + 1) (rhu (-a * 2 ^ 31 + r3) (2 ^ 32))).putS (o.dst + 2) (rhu (-a * 2 ^ 31 - r3) (2 ^ 32))

/-- RES (R124): each product is rounded on its own (R117). -/
def ceOpRes (x : CeSt) (e : CeEnv) (o : CeOp) (a b : Int) : CeEnv :=
  let ph := enc 32 (ceRaw x (o.coef + 1) * (x.snapAng : Int) + ceRaw x (o.coef + 2))
  let co := cosQ31 ph
  let si := sinQ31 ph
  let m := fun p q : Int => rhu (p * q) (2 ^ 31)
  let ar := satF (m a co + m b si)
  let br := satF (m b co - m a si)
  let ka := ceMul x o.coef ar.1
  let kb := ceMul x o.coef br.1
  let ir := satF (e.s 0 + ka.1)
  let is := satF (e.s 1 + kb.1)
  let e := (e.setSt 0 ir.1).setSt 1 is.1
  let e := e.mark (ar.2 || br.2 || ka.2 || kb.2 || ir.2 || is.2)
  (e.putS o.dst (m ir.1 co - m is.1 si)).putS (o.dst + 1) (m ir.1 si + m is.1 co)

/-- DIV (Table 6.3): the quotient rounded half up; division by 0 gives the stated value and DIV0. -/
def ceOpDiv (e : CeEnv) (o : CeOp) (a b : Int) : CeEnv :=
  if b = 0 then { e.put o.dst (if 0 ≤ a then 2 ^ 31 - 1 else -(2 ^ 31)) with div0 := true }
  else if 0 < b then e.putS o.dst (rhu (a * 2 ^ 31) b.toNat)
  else e.putS o.dst (rhu (-a * 2 ^ 31) (-b).toNat)

/-- One operation (Table 6.3). -/
def ceOpRun (x : CeSt) (e : CeEnv) (o : CeOp) : CeEnv :=
  let a := ceRead x e o.a
  let b := ceRead x e o.b
  match o.op with
  | 1 => e.put o.dst a
  | 2 => e.putS o.dst (a + b)
  | 3 => e.putS o.dst (a - b)
  | 4 => let m := ceMul x o.coef a
         (e.mark m.2).put o.dst m.1
  | 5 => let m := ceMul x o.coef b
         (e.mark m.2).putS o.dst (a + m.1)
  | 6 => e.putS o.dst (rhu (a * b) (2 ^ 31))
  | 7 => ceOpDiv e o a b
  | 8 => let y := clampI (ceRaw x o.coef) (ceRaw x (o.coef + 1)) a
         { e.put o.dst y with lim := e.lim || y != a }
  | 9 => ceOpPi x e o a b
  | 10 => ceOpPid x e o a b
  | 11 => ceOpBiquad x e o a
  | 12 => ceOpClarke e o a b
  | 13 => ceOpPark x e o a b false
  | 14 => ceOpPark x e o a b true
  | 15 => ceOpIclarke e o a b
  | 16 => ceOpRes x e o a b
  | 17 => e.putS o.dst (sqrtHalfUp (a * a + b * b).natAbs)
  | 18 => { e with vars := (e.vars.set 71 a).set 72 b }
  | _ => e

/-- Operations with their outputs, coefficients used and units (Table 6.3): `none` is undefined. -/
def opShape (op : Nat) : Option (Nat × Nat × Nat) :=
  match op with
  | 1 => some (1, 0, 1) | 2 => some (1, 0, 1) | 3 => some (1, 0, 1) | 4 => some (1, 1, 1) | 5 => some (1, 1, 1)
  | 6 => some (1, 0, 1) | 7 => some (1, 0, 2) | 8 => some (1, 2, 1) | 9 => some (1, 4, 1) | 10 => some (1, 6, 2)
  | 11 => some (1, 5, 2) | 12 => some (2, 0, 1) | 13 => some (2, 1, 1) | 14 => some (2, 1, 1) | 15 => some (3, 0, 1)
  | 16 => some (2, 3, 3) | 17 => some (1, 0, 1) | 18 => some (0, 0, 1)
  | _ => none

/-! ### Programs and coefficients in force -/

/-- Operation i of a slot's program in force. -/
def progOp (c : Ch) (j : Fin 4) (i : Nat) (s : State) : CeOp :=
  let r := fun f => s.rdL f (cI c + j.val) i
  ⟨r Reg.Prog.OP_OP, r Reg.Prog.OP_DST, r Reg.Prog.OP_SRC_A, r Reg.Prog.OP_SRC_B, r Reg.Prog.OP_COEF, r Reg.Prog.OP_AUX == 1⟩

/-- PROG_LEN in force. -/
def progLen (c : Ch) (j : Fin 4) (s : State) : Nat := s.rdL Reg.Prog.PROG_LEN (cI c + j.val)

/-- Units of a slot's program in force (R120). -/
def progUnits (c : Ch) (j : Fin 4) (s : State) : Nat :=
  ((List.range (progLen c j s)).map fun i => ((opShape (progOp c j i s).op).map fun t => t.2.2).getD 0).sum

/-- Instance and index of coefficient k of slot j in set `set` (R129). -/
def coefI (c : Ch) (set : Nat) (j : Fin 4) : Nat := cI c + 2 * set + j.val / 2
def coefX (j : Fin 4) (k : Nat) : Nat := 32 * (j.val % 2) + k

/-- The coefficients an evaluation of slot j takes (R129). -/
def coefsFor (c : Ch) (j : Fin 4) (s : State) : List (Int × Nat) :=
  let r := regionOf c s
  match coefInBank c s with
  | some b =>
    let set := bankLe c b (2112 + 16 * r) 1 s % 16
    let bs := (SMap.scan 0 ((s.batt c).bank b) (7168 + 1024 * set + 256 * j.val) 256).toArray
    (List.range 32).map fun k => (s32 bs (8 * k), u8 bs (8 * k + 4) % 32)
  | none =>
    let set := match activeBank c s with
      | some b => bankLe c b (2112 + 16 * r) 1 s % 16
      | none => r
    (List.range 32).map fun k =>
      (s.rdLS Reg.Coef.COEF_VALUE (coefI c set j) (coefX j k), s.rdL Reg.Coef.COEF_SHIFT (coefI c set j) (coefX j k))

/-- Apply the shadow coefficients of slot j in all 16 sets (R130). -/
def coefApply (c : Ch) (j : Fin 4) (s : State) : State :=
  (List.range 16).foldl (fun s set => (List.range 32).foldl (fun s k =>
    (s.commit1 Reg.Coef.COEF_VALUE (coefI c set j) (coefX j k)).commit1 Reg.Coef.COEF_SHIFT (coefI c set j) (coefX j k)) s) s

/-- Clear the states of one operation position, or of a whole slot (R125). -/
def clearOpStates (c : Ch) (j : Fin 4) (i : Nat) (s : State) : State :=
  s.setCh c fun x => { x with ce := { x.ce with states := SMap.clearRange x.ce.states (j.val * 256 + 4 * i) (j.val * 256 + 4 * i + 4) } }
def clearSlotStates (c : Ch) (j : Fin 4) (s : State) : State :=
  s.setCh c fun x => { x with ce := { x.ce with states := SMap.clearRange x.ce.states (j.val * 256) (j.val * 256 + 256) } }

/-- Apply the shadow program of slot j; positions whose OP changes lose their states (R125, R130). -/
def progApply (c : Ch) (j : Fin 4) (s : State) : State :=
  let n := cI c + j.val
  let s := (List.range 64).foldl (fun s i =>
    if s.rd Reg.Prog.OP_OP n i = s.rdL Reg.Prog.OP_OP n i then s else clearOpStates c j i s) s
  s.commitAll [Reg.Prog.PROG_LEN, Reg.Prog.PG_COMMIT, Reg.Prog.OP_OP, Reg.Prog.OP_DST, Reg.Prog.OP_SRC_A, Reg.Prog.OP_SRC_B,
    Reg.Prog.OP_COEF, Reg.Prog.OP_AUX] n

/-- Apply the shadow host inputs (R130). -/
def hostApply (c : Ch) (s : State) : State := s.commitAll [Reg.CeCtl.H] (cI c)

/-! ### Commits (R130) -/

/-- A commit waits; given in this tick it misses an evaluation that starts in it. -/
def ceFresh (c : Ch) (b : Nat) (s : State) : State :=
  s.setCh c fun x => { x with ce := { x.ce with freshPend := setBit x.ce.freshPend b true } }

/-- COMMIT_COEF of slot j. -/
def commitCoefEff (c : Ch) (j : Nat) (s : State) : State :=
  if bit (s.rd Reg.CeStat.PEND_COEF (cI c)) j then s else ceFresh c j (s.wrBit Reg.CeStat.PEND_COEF (cI c) 0 j true)
/-- COMMIT_PROG of slot j. -/
def commitProgEff (c : Ch) (j : Nat) (s : State) : State :=
  if bit (s.rd Reg.CeStat.PEND_PROG (cI c)) j then s else ceFresh c (4 + j) (s.wrBit Reg.CeStat.PEND_PROG (cI c) 0 j true)
/-- COMMIT_HOST. -/
def commitHostEff (c : Ch) (s : State) : State :=
  if s.rdB Reg.CeStat.PEND_HOST (cI c) then s else ceFresh c 8 (s.wr Reg.CeStat.PEND_HOST (cI c) 0 1)
/-- CLEAR_STATE of slot j (R125). -/
def clearStateEff (c : Ch) (j : Nat) (s : State) : State :=
  s.setCh c fun x => { x with ce := { x.ce with clearPend := setBit x.ce.clearPend j true } }
/-- SLOT_EN bit j written 0 (R128). -/
def slotDisableEff (c : Ch) (j : Nat) (s : State) : State := s.wrBit Reg.CeStat.PENDING (cI c) 0 j false

/-- The commits that apply at a start of slot j (R130). -/
def ceApplyCommits (c : Ch) (j : Fin 4) (s : State) : State :=
  let fresh := (s.ch c).ce.freshPend
  let s := if bit (s.rd Reg.CeStat.PEND_COEF (cI c)) j && !bit fresh j then
      coefApply c j (s.wrBit Reg.CeStat.PEND_COEF (cI c) 0 j false) else s
  let s := if bit (s.rd Reg.CeStat.PEND_PROG (cI c)) j && !bit fresh (4 + j) then
      progApply c j (s.wrBit Reg.CeStat.PEND_PROG (cI c) 0 j false) else s
  if s.rdB Reg.CeStat.PEND_HOST (cI c) && !bit fresh 8 then hostApply c (s.wr Reg.CeStat.PEND_HOST (cI c) 0 0) else s

/-! ### Evaluation -/

/-- The snapshot of the converter results (R99, R119): result index to CEIN. -/
def snapResults (c : Ch) (s : State) : SMap Int :=
  (List.range 64).foldl (fun m i =>
    let sar := (s.ch c).sar (bit i 5)
    let e := i % 16
    let v := if bit i 4 then (if e < 4 then SMap.get 0 sar.cein (16 + e) else 0) else SMap.get 0 sar.cein e
    SMap.set 0 m i v) []

/-- Slot that starts now (R127): the lowest-numbered slot pending since an earlier tick. Of several slots triggered in one tick on an idle engine, of which the
spec does not say which starts, it is the lowest too (log entry 115). -/
def nextSlot (c : Ch) (s : State) : Option (Fin 4) :=
  (List.finRange 4).find? fun j => bit (s.rd Reg.CeStat.PENDING (cI c)) j && decide (((s.ch c).ce.trigTick)[j] < s.tick)

/-- SPD of the snapshot (Table 6.1). -/
def speed (c : Ch) (s : State) : Int := sat32 (Int.fdiv (s.ch c).at_.fw 1024)

/-- At a start tick of slot j the standby's CE states of the slot, and at the first such tick W0-W63, become those the owner has sent (Table 15.4): a state that the
owner does not list is 0. -/
def ceAlign (c : Ch) (j : Fin 4) (s : State) : State :=
  let p := s.pair.chs[c]
  if bit p.ceDue j.val then
    let mine := p.ceStates.filter fun e => e.1 / 256 == j.val
    let s := s.setCh c fun x => { x with ce := { x.ce with
      states := mine.foldl (fun m e => SMap.set 0 m e.1 e.2) (x.ce.states.filter fun e => e.1 / 256 != j.val) } }
    let s := (List.range p.ceW.length).foldl (fun s k => s.wr Reg.CeVar.W (cI c) k (p.ceW.getD k 0).toNat) s
    { s with pair := { s.pair with chs := s.pair.chs.set c { p with ceW := [], ceDue := setBit p.ceDue j.val false } } }
  else s

/-- An evaluation of slot j starts (R119, R127, R129, R130, R82): the owner's states apply in a standby (R346), commits apply, the region comes into force, the snapshot is taken. -/
def evalStart (c : Ch) (j : Fin 4) (s : State) : State :=
  let wait := s.tick - ((s.ch c).ce.trigTick)[j]
  let s := ceApplyCommits c j (ceAlign c j s)
  let s := if bit (s.ch c).ce.clearPend j then
      (clearSlotStates c j s).setCh c fun x => { x with ce := { x.ce with clearPend := setBit x.ce.clearPend j false } } else s
  let s := regionTake c s
  let s := s.wrBit Reg.CeStat.PENDING (cI c) 0 j false
  let s := s.wr Reg.CeStat.RUNNING (cI c) 0 (2 ^ j.val)
  let s := s.wr Reg.CeStat.LAST_WAIT (cI c) j (min wait 65535)
  let s := s.wr Reg.CeStat.MAX_WAIT (cI c) j (max (s.rd Reg.CeStat.MAX_WAIT (cI c) j) (min wait 65535))
  let co := coefsFor c j s
  let res := snapResults c s
  let h := (List.range 16).map fun k => s.rdLS Reg.CeCtl.H (cI c) k
  s.setCh c fun x => { x with ce := { x.ce with
    running := some j, snapRes := res, snapH := h, snapAng := x.angle, snapSpd := speed c s, coefs := co } }

/-- The variables as the last completed evaluation left them (R136). -/
def ceVars (c : Ch) (s : State) : List Int :=
  ((List.range 64).map fun w => s.rdS Reg.CeVar.W (cI c) w) ++ ((List.range 6).map fun k => s.rdS Reg.CeVar.DUTY (cI c) k)
    ++ [s.rdS Reg.CeVar.M (cI c), s.rdS Reg.CeVar.X (cI c), s.rdS Reg.CeVar.Y (cI c)]

/-- Leave the variables in object 0x1n76. -/
def ceStoreVars (c : Ch) (v : List Int) (s : State) : State :=
  let s := (List.range 64).foldl (fun s w => s.wrS Reg.CeVar.W (cI c) w (v.getD w 0)) s
  let s := (List.range 6).foldl (fun s k => s.wrS Reg.CeVar.DUTY (cI c) k (v.getD (64 + k) 0)) s
  ((s.wrS Reg.CeVar.M (cI c) 0 (v.getD 70 0)).wrS Reg.CeVar.X (cI c) 0 (v.getD 71 0)).wrS Reg.CeVar.Y (cI c) 0 (v.getD 72 0)

/-- State words of a position. -/
def opStates (x : CeSt) (j : Fin 4) (i : Nat) : List Int :=
  (List.range 4).map fun k => SMap.get 0 x.states (j.val * 256 + 4 * i + k)

/-- Run the program of slot j from the snapshot: variables, states and flags. -/
def ceRun (c : Ch) (j : Fin 4) (s : State) : CeEnv × SMap Int :=
  let x := (s.ch c).ce
  (List.range (progLen c j s)).foldl (fun r i =>
    let e := ceOpRun x { r.1 with st := opStates { x with states := r.2 } j i } (progOp c j i s)
    (e, SMap.setRun 0 r.2 (j.val * 256 + 4 * i) e.st)) (⟨ceVars c s, 0, [0, 0, 0, 0], false, false, false⟩, x.states)

/-- A duty output converted to Q0.32 by its DUTY_MODE (R133). -/
def dutyConv (mode : Nat) (v : Int) : Nat :=
  if mode = 1 then (if 0 ≤ v then (2 * v).toNat else 0)
  else if mode = 2 then (if v < 0 then (2 * v + 2 ^ 32).toNat else 2 ^ 32 - 1)
  else enc 32 v ^^^ 2 ^ 31

/-- A set that a reload point misses (R148): LATE_COMMIT once for its COMMIT. -/
def missOne (c : Ch) (a : ArmedSet) (s : State) : State :=
  if a.late then s
  else fire c evLateCommit ((s.wr Reg.PgStat.LATE_COMMIT (cI c) 0 1).count Reg.PgStat.LATE_CNT (cI c))

/-- A COMMIT of the PG set (R145): the whole shadow is copied into the armed set. Sets that a newer one has replaced are dropped; a
reload point already taken in this tick has been missed (R148). -/
def pgCommitSet (c : Ch) (s : State) : State :=
  let vals := s.rd Reg.PgSet.PERIOD (cI c) :: ((List.range 6).map fun k => s.rd Reg.PgSet.DUTY (cI c) k) ++ [s.rd Reg.PgSet.M (cI c)]
  let t := s.tick
  let a : ArmedSet := ⟨t, false, vals⟩
  let missed := (s.pg c).reloadTick
  let s := if missed then missOne c a s else s
  let s := s.setPg c fun p => { p with armed :=
    { a with late := missed } :: (p.armed.filter (fun a => decide (t < a.tick + 3)) ++ (p.armed.filter fun a => decide (a.tick + 3 ≤ t)).take 1) }
  s.wr Reg.PgSet.PEND (cI c) 0 1

/-- Deliver the PG outputs that an evaluation wrote into the shadow, and commit (R132, R133). -/
def ceDeliver (c : Ch) (e : CeEnv) (s : State) : State :=
  let modes := s.rd Reg.CeCtl.DUTY_MODE (cI c)
  let s := (List.range 6).foldl (fun s k =>
    if bit e.written k then s.wr Reg.PgSet.DUTY (cI c) k (dutyConv (modes / 4 ^ k % 4) (e.vars.getD (64 + k) 0)) else s) s
  let s := if bit e.written 6 then s.wr Reg.PgSet.M (cI c) 0 (e.vars.getD 70 0).toNat else s
  pgCommitSet c s

/-- The evaluation of slot j ends (R120, R132, R135, R136). -/
def evalEnd (c : Ch) (j : Fin 4) (s : State) : State :=
  let r := ceRun c j s
  let e := r.1
  let s := ceStoreVars c e.vars s
  let s := s.setCh c fun x => { x with ce := { x.ce with states := r.2, running := none } }
  let s := s.wr Reg.CeStat.RUNNING (cI c) 0 0
  let s := if e.sat then s.wrBit Reg.CeStat.SAT (cI c) 0 j true else s
  let s := if e.div0 then s.wrBit Reg.CeStat.DIV0 (cI c) 0 j true else s
  let s := if e.lim then s.wrBit Reg.CeStat.LIM (cI c) 0 j true else s
  let s := s.countMod Reg.CeStat.EVAL_CNT (cI c) j
  let s := if s.rdL Reg.Prog.PG_COMMIT (cI c + j.val) = 1 then ceDeliver c e s else s
  let s := classifierUpdate c j (e.vars.getD 71 0) (e.vars.getD 72 0) s
  let s := retireEnd c s
  fire c (evSlot j) s

/-! ### Commands -/

/-- CE_EVAL_START (R127): with an idle engine, the lowest slot pending since an earlier tick starts. -/
def ceEvalStartEff (c : Ch) (s : State) : State :=
  if (s.ch c).ce.running.isSome || !(s.ch c).branch then s
  else match nextSlot c s with
    | some j => settle c (evalStart c j s)
    | none => s

/-- The next pending slot starts in the end tick (R127). -/
def startNext (c : Ch) (s : State) : State :=
  match nextSlot c s with
  | some j => if (s.ch c).branch then evalStart c j s else s
  | none => s

/-- CE_EVAL_END (R132): the evaluation ends, its single-bit errors corrected in channel SRAM counted (R69, R131), and the next pending slot starts. -/
def ceEvalEndEff (c : Ch) (corr : Nat) (s : State) : State :=
  match (s.ch c).ce.running with
  | some j => settle c (startNext c (evalEnd c j (s.setCh c fun x => { x with sramErr := x.sramErr + corr })))
  | none => s

/-- CE_SRAM_UNCORRECTABLE (R131): the evaluation ends without output and the channel performs Squall shutdown. -/
def ceSramEff (c : Ch) (s : State) : State :=
  match (s.ch c).ce.running with
  | some _ =>
    let s := (s.setCh c fun x => { x with ce := { x.ce with running := none } }).wr Reg.CeStat.RUNNING (cI c) 0 0
    settle c (squallRequest c 3 (retireEnd c s))
  | none => s

/-- CE_EVAL_START. -/
def execCeEvalStart (c : Ch) (s : State) : Out := fin s (ceEvalStartEff c s)
/-- CE_EVAL_END. -/
def execCeEvalEnd (c : Ch) (corr : Byte) (s : State) : Out := fin s (ceEvalEndEff c corr.toNat s)
/-- CE_SRAM_UNCORRECTABLE. -/
def execCeSramUncorrectable (c : Ch) (s : State) : Out := fin s (ceSramEff c s)

end Sys2Proof.Machine
end

