-- ==== Sys2Proof/Machine/Angle.lean ====
section
/-! DEFINITION. The angle tracker and the event scheduler (03_angle_timebase.md R46-R67). -/

namespace Sys2Proof.Machine

/-- AT states of Table 3.6. -/
def atAcquire : Nat := 1
def atLocked : Nat := 2
def atCoast : Nat := 3
def atFree : Nat := 4

/-- AT state. -/
def atState (c : Ch) (s : State) : Nat := s.rd Reg.AtStat.STATE (cI c)

/-- Set the AT state. -/
def setAtState (c : Ch) (v : Nat) (s : State) : State := s.wr Reg.AtStat.STATE (cI c) 0 v

/-- Change the angle tracker. -/
def State.setAt (s : State) (c : Ch) (f : AtSt → AtSt) : State := s.setCh c fun x => { x with at_ := f x.at_ }

/-- Angle source: 0 SYN, 1 GRID, 2 ENC (Table 3.1). -/
def atSrc (c : Ch) (s : State) : Nat := s.rd Reg.AtCtl.SRC (cI c)

/-- FW in force, signed (R46). -/
def fwInForce (c : Ch) (s : State) : Int := s.rdLS Reg.AtCtl.FW (cI c)

/-- Largest magnitude of a frequency word (R47). -/
def fwMax : Int := 2 ^ 41

/-- Accumulator with an angle at its top (R46). -/
def accOf (angle : Nat) : Nat := angle % 2 ^ 32 * 2 ^ 16

/-! ### Commits (R49, R65) -/

/-- A commit that waits for a wrap: given in a wrap tick it waits for the following wrap. -/
def waitFor (w : Wait) (inWrap : Bool) : Wait :=
  match w with
  | .none => if inWrap then .fresh else .waiting
  | w => w

/-- COMMIT of object 0x1n30 (R49). -/
def fwCommitEff (c : Ch) (s : State) : State :=
  let w := wrapTick c s
  s.setAt c fun x => { x with fwWait := waitFor x.fwWait w }

/-- COMMIT of object 0x1n34 (R65). -/
def esCommitEff (c : Ch) (s : State) : State :=
  let w := wrapTick c s
  (s.setCh c fun x => { x with esWait := waitFor x.esWait w }).wr Reg.Es.PEND (cI c) 0 1

/-- The shadow FW comes into force, with FW_TIME (R49, R430). -/
def fwApply (c : Ch) (s : State) : State :=
  let s := (s.commit1 Reg.AtCtl.FW (cI c) 0).commit1 Reg.AtCtl.FW_TIME (cI c) 0
  let fw := fwInForce c s
  let syn := decide (atSrc c s = 0)
  s.setAt c fun x => { x with fwWait := .none, fw := if syn then fw else x.fw }

/-- The direct ES fields of an entry. -/
def esFields : List Fld :=
  [Reg.Es.ENTRY_ANGLE, Reg.Es.ENTRY_STEP, Reg.Es.ENTRY_MASK, Reg.Es.ENTRY_REGION_MASK, Reg.Es.ENTRY_DIR, Reg.Es.ENTRY_ACTION,
   Reg.Es.ENTRY_PARAM, Reg.Es.ENTRY_EV_EN, Reg.Es.ENTRY_EV, Reg.Es.ENTRY_REPEAT]

/-- The shadow direct entries come into force (R65); those of the old set stay testable in this tick. -/
def esApply (c : Ch) (s : State) : State :=
  let old := (List.range 8).map fun j => directEs c j s
  let s := s.commitAll esFields (cI c)
  (s.setCh c fun x => { x with esWait := .none, esOld := old, disarmed := x.disarmed.map (Disarmed.replaced true) }).wr
    Reg.Es.PEND (cI c) 0 0

/-- FW_TIME_REACHED (R49): at the even tick of FW_TIME a waiting word takes effect; that tick adds the new word. -/
def fwTimeEff (c : Ch) (s : State) : State :=
  let t := s.rd Reg.AtCtl.FW_TIME (cI c)
  if s.rdB Reg.AtCtl.FW_AT (cI c) && (s.ch c).at_.fwWait != .none && !atStopped c s && !s.odd && decide (t ≤ s.time) then
    let s := if t < s.time then s.wr Reg.AtStat.START_LATE (cI c) 0 1 else s
    let s := fwApply c s
    let syn := decide (atSrc c s = 0)
    s.setAt c fun x => if syn then { x with acc := enc 48 ((x.accPrev : Int) + x.fw) } else x
  else s

/-! ### Source loss, coast and return (Table 3.2) -/

/-- The coast hold ends (R56): FREE, or STOPPED with Squall shutdown. -/
def coastEnd (c : Ch) (s : State) : State :=
  if s.rdB Reg.AtStat.COAST (cI c) && (atState c s == atCoast || atState c s == atAcquire) then
    let s := fire c evCoastEnd (s.wr Reg.AtStat.COAST (cI c) 0 0)
    if s.rdB Reg.AtCtl.ON_EXPIRE (cI c) then atStop c (squallRequest c 4 s)
    else
      let s := setAtState c atFree s
      s.setAt c fun x => { x with fw := x.coastWord }
  else s

/-- The source is lost (R52, R54, R55): COAST on a frozen word, hold timer started; a hold of 0 ms expires at once. -/
def srcLost (c : Ch) (word : Int) (s : State) : State :=
  if atState c s = atAcquire ∨ atState c s = atLocked then
    let s := setAtState c atCoast s
    let s := s.setAt c fun x => { x with fw := word, coastWord := word, returnCnt := 0, lockCnt := 0, unlockCnt := 0, clampCnt := 0 }
    let s := (s.count Reg.AtStat.COAST_CNT (cI c)).wr Reg.AtStat.COAST (cI c) 0 1
    let s := fire c evCoastStart (fire c evSrcLoss s)
    if s.rd Reg.AtCtl.COAST_MS (cI c) = 0 then coastEnd c s else s
  else s

/-- The AT locks (Table 3.2). -/
def atLock (c : Ch) (s : State) : State :=
  let s := (setAtState c atLocked s).wr Reg.AtStat.COAST (cI c) 0 0
  fire c evLock (s.setAt c fun x => { x with lockCnt := 0, unlockCnt := 0, clampCnt := 0 })

/-! ### GRID PLL (R50-R52) -/

/-- Output limits (R50). -/
def fw45 : Int := 63331870
def fw66 : Int := 92886742

/-- (alpha, beta) of a voltage set, amplitude-invariant with the constants of R118 (R50; three phases: log entry 17). -/
def gridClarke (line : Bool) (va vb vc : Int) : Int × Int :=
  if line then (sat32 (rhu ((2 * va + vb) * k23) (2 ^ 32)), sat32 (rhu (vb * k3) (2 ^ 31)))
  else (sat32 (rhu ((2 * va - vb - vc) * k23) (2 ^ 32)), sat32 (rhu ((vb - vc) * k3) (2 ^ 31)))

/-- CEIN of a regular entry by its selection (Table 3.4: bit 4 converter, bits 3..0 entry). -/
def ceinSel (c : Ch) (sel : Nat) (s : State) : Int := SMap.get 0 ((s.ch c).sar (bit sel 4)).cein (sel % 16)

/-- Angle, d, q and amplitude of a voltage set at the present angle (R50). -/
structure PllIn where
  d : Int
  q : Int
  amp : Int
deriving DecidableEq, Repr

/-- Rotate (alpha, beta) into the angle of the channel. -/
def pllIn (angle : Nat) (al be : Int) : PllIn :=
  let si := sinQ31 angle
  let co := cosQ31 angle
  let q := sat64 (rhu (-al * si + be * co) (2 ^ 31))
  let d := sat64 (rhu (al * co + be * si) (2 ^ 31))
  ⟨d, q, sqrtHalfUp (d * d + q * q).natAbs⟩

/-- Phase error e in sQ1.31 (R50); the spec gives no value for a zero amplitude, where it is the free value `fv` (log entry 18). -/
def pllError (p : PllIn) (fv : Nat) : Int :=
  if p.amp = 0 then sgn 32 fv else sat32 (rhu (p.q * 2 ^ 31) p.amp.toNat)

/-- Close the loop: integrator and output word (R50). -/
def pllLoop (c : Ch) (e : Int) (s : State) : State :=
  let nom := fwInForce c s
  let ki := shru (sat64 (s.rdS Reg.Pll.KI (cI c) * e)) (s.rd Reg.Pll.KI_SH (cI c))
  let kp := shru (sat64 (s.rdS Reg.Pll.KP (cI c) * e)) (s.rd Reg.Pll.KP_SH (cI c))
  let integ := clampI (fw45 - nom) (fw66 - nom) (sat64 ((s.ch c).at_.integ + ki))
  let fw := clampI fw45 fw66 (sat64 (nom + integ + kp))
  let s := s.setAt c fun x => { x with integ := integ, fw := fw, turnSum := x.turnSum + fw, turnCnt := x.turnCnt + 1 }
  s.wrB Reg.AtStat.AT_CLAMP (cI c) 0 (fw == fw45 || fw == fw66)

/-- The coasting word (R52): the mean over the last complete turn before the first of the low updates; before any complete turn the spec gives none: a free
word within R50's limits. -/
def coastingWord (c : Ch) (s : State) : Int :=
  match (s.ch c).at_.lossMean with
  | some m => m
  | none => clampI fw45 fw66 (sgn 32 (s.free 32))

/-- Judge lock and unlock after an update (Table 3.2). -/
def pllJudge (c : Ch) (e : Int) (s : State) : State :=
  let clamp := s.rdB Reg.AtStat.AT_CLAMP (cI c)
  let lockN := s.rd Reg.Pll.LOCK_N (cI c)
  if atState c s = atAcquire then
    let n := if decide ((e.natAbs : Int) < s.rdS Reg.Pll.LOCK_E (cI c)) && !clamp then (s.ch c).at_.lockCnt + 1 else 0
    let s := s.setAt c fun x => { x with lockCnt := n }
    if lockN ≤ n then atLock c s else s
  else if atState c s = atLocked then
    let u := if s.rdS Reg.Pll.UNLOCK_E (cI c) < (e.natAbs : Int) then (s.ch c).at_.unlockCnt + 1 else 0
    let k := if clamp then (s.ch c).at_.clampCnt + 1 else 0
    let s := s.setAt c fun x => { x with unlockCnt := u, clampCnt := k }
    if 4 ≤ u ∨ lockN ≤ k then
      let s := (setAtState c atAcquire s).count Reg.AtStat.UNLOCK_CNT (cI c)
      fire c evUnlock (s.setAt c fun x => { x with lockCnt := 0, unlockCnt := 0, clampCnt := 0 })
    else s
  else s

/-- The source returns from COAST or FREE (Table 3.2): ACQUIRE with the integrator at the coasting word. -/
def gridReturn (c : Ch) (s : State) : State :=
  let nom := fwInForce c s
  (setAtState c atAcquire s).setAt c fun x => { x with integ := x.coastWord - nom, returnCnt := 0, lockCnt := 0, lossCnt := 0 }

/-- First complete voltage set of a GRID channel (R51): the angle is atan2(beta, alpha), a free value for the zero vector; integrator 0, word FW_NOM. It is the
start angle, at or before which pattern edges count as fired (R60). -/
def gridFirst (c : Ch) (al be : Int) (s : State) : State :=
  let zero := al = 0 ∧ be = 0
  let a := if zero then s.free 32 else atan2C be al
  let s := if zero then s.drew else s
  let nom := fwInForce c s
  let s := s.setAt c fun x => { x with
    acc := accOf a, accPrev := accOf (a + 2 ^ 32 - 1), startTick := true, gridSeen := true, integ := 0, fw := nom }
  if pgIsRunning c s then allPair.foldl (fun s k => if patMode c k s then startPattern c k s else s) s else s

/-- One PLL update on a complete voltage set (R50-R52). The amplitude is formed on a STOPPED AT too (R185, log entry 23). -/
def pllUpdate (c : Ch) (s : State) : State :=
  let sel := fun f => ceinSel c (s.rd f (cI c)) s
  let ab := gridClarke (s.rdB Reg.Pll.INPUT (cI c)) (sel Reg.Pll.VA_SEL) (sel Reg.Pll.VB_SEL) (sel Reg.Pll.VC_SEL)
  let p := pllIn (s.ch c).angle ab.1 ab.2
  let s := s.setAt c fun x => { x with amp := p.amp.toNat }
  if atStopped c s then s
  else if !(s.ch c).at_.gridSeen then gridFirst c ab.1 ab.2 s
  else
    let e := pllError p (s.free 32)
    let s := if p.amp = 0 then s.drew else s
    let s := s.wrS Reg.AtStat.E_NOW (cI c) 0 e
    let low := decide (p.amp < (s.rd Reg.Pll.LOSS_V (cI c) : Int) * 2 ^ 15)
    let lossN := s.rd Reg.Pll.LOSS_N (cI c)
    if atState c s = atCoast ∨ atState c s = atFree then
      let n := if low then 0 else (s.ch c).at_.returnCnt + 1
      let s := s.setAt c fun x => { x with returnCnt := n }
      if lossN ≤ n then gridReturn c s else s
    else
      let n := if low then (s.ch c).at_.lossCnt + 1 else 0
      let s := s.setAt c fun x => { x with lossCnt := n, lossMean := if n ≤ 1 then x.turnMean else x.lossMean }
      if lossN ≤ n then
        let w := coastingWord c s
        srcLost c w (if (s.ch c).at_.lossMean = none then s.drew else s)
      else pllJudge c e (pllLoop c e s)

/-! ### Encoder (R53-R55) -/

/-- Units of Pm in a line (Encoder section): 4 in AB mode, 65 536 in SINCOS mode. -/
def encU (c : Ch) (s : State) : Nat := if s.rd Reg.Enc.MODE (cI c) = 1 then 65536 else 4

/-- Units of Pm in a mechanical revolution. -/
def encRev (c : Ch) (s : State) : Nat := encU c s * s.rd Reg.Enc.LINES (cI c)

/-- Electrical angle of a position, rounded half up, plus OFFSET. -/
def encAngle (c : Ch) (pm : Int) (s : State) : Nat :=
  enc 32 (rhu (pm * (s.rd Reg.Enc.POLE_PAIRS (cI c) : Int) * 2 ^ 32) (encRev c s) + (s.rd Reg.Enc.OFFSET (cI c) : Int))

/-- An encoder error (R54): counted; a second within 1 ms loses the source. -/
def encIllegal (c : Ch) (s : State) : State :=
  let last := (s.ch c).at_.lastIllegal
  let s := s.count Reg.AtStat.QUAD_ERR_CNT (cI c)
  let t := s.tick
  let s := s.setAt c fun x => { x with lastIllegal := some t }
  match last with
  | some u => if t ≤ u + 200000 then srcLost c (s.ch c).at_.fw s else s
  | none => s

/-- The AT runs from the encoder and has not lost it. -/
def encRuns (c : Ch) (s : State) : Bool :=
  decide (atSrc c s = 2) && (atState c s == atAcquire || atState c s == atLocked)

/-- The position of the encoder becomes `pm`: the angle takes its value, with the distances from the next edge either way (R53). -/
def encPlace (c : Ch) (pm : Int) (s : State) : State :=
  let a := encAngle c pm s
  let up := (encAngle c (pm + 1) s + 2 ^ 32 - a) % 2 ^ 32 * 2 ^ 16
  let down := (a + 2 ^ 32 - encAngle c (pm - 1) s) % 2 ^ 32 * 2 ^ 16
  s.setAt c fun x => { x with acc := accOf a, encBase := accOf a, encUp := up, encDown := down }

/-- A counted position: the angle takes its value, the rate that of the last interval, rounded half up (R8, R53). A SINCOS channel with Z_USE = 0 locks at its
first position update, which stands for the first counted edge (log entry 113). -/
def encMove (c : Ch) (pm : Int) (s : State) : State :=
  let pm := pm % (encRev c s : Int)
  let t := s.tick
  let a := encAngle c pm s
  let x := (s.ch c).at_
  let rate := match x.lastEdge with
    | some u => if u < t then clampI (-fwMax) fwMax (rhu (angDiff a (encAngle c x.pm s) * 2 ^ 16) (t - u)) else x.encRate
    | none => 0
  let s := s.setAt c fun x => { x with pm := pm, lastEdge := some t, encRate := rate }
  if encRuns c s then
    let s := (encPlace c pm s).setAt c fun x => { x with fw := rate }
    if atState c s = atAcquire ∧ s.rdB Reg.Enc.Z_USE (cI c) = false then atLock c s else s
  else s

/-- Position of the levels A, B in the quadrature cycle: A leads B when counting up (log entry 19). -/
def quadPos (a b : Bool) : Nat := if a then (if b then 2 else 1) else (if b then 3 else 0)

/-- ENC_EDGE (R53, R54). -/
def encEdgeEff (c : Ch) (a b : Bool) (s : State) : State :=
  let x := (s.ch c).at_
  let d := (quadPos a b + 4 - quadPos x.encA x.encB) % 4
  let s := s.setAt c fun x => { x with encA := a, encB := b }
  if s.rd Reg.Enc.MODE (cI c) ≠ 0 ∨ d = 0 ∨ atStopped c s = true ∨ atSrc c s ≠ 2 then s
  else if d = 2 then encIllegal c s
  else
    let up := (d == 1) != s.rdB Reg.Enc.INVERT (cI c)
    encMove c (x.pm + if up then 1 else -1) s

/-- ENC_EDGE_TIMEOUT (R53): the rate is taken as 0. -/
def encTimeoutEff (c : Ch) (s : State) : State :=
  if encRuns c s && s.rd Reg.Enc.MODE (cI c) == 0 then s.setAt c fun x => { x with encRate := 0, fw := 0 } else s

/-- Signed difference of a position from the index within a revolution. -/
def zDiffOf (c : Ch) (s : State) : Int :=
  let rev := encRev c s
  let z : Int := (s.rd Reg.Enc.Z_OFFSET (cI c) : Int) * ((encU c s / 4 : Nat) : Int)
  let d := ((s.ch c).at_.pm - z) % (rev : Int)
  if (rev : Int) < 2 * d then d - rev else d

/-- Set Pm from the index, and the angle with it. -/
def zSet (c : Ch) (s : State) : State :=
  let z : Int := (s.rd Reg.Enc.Z_OFFSET (cI c) : Int) * ((encU c s / 4 : Nat) : Int)
  (encPlace c z s).setAt c fun x => { x with pm := z % (encRev c s : Int), zSeen := true }

/-- ENC_INDEX (R55, Table 3.2). -/
def encIndexEff (c : Ch) (s : State) : State :=
  if s.rdB Reg.Enc.Z_USE (cI c) = false ∨ atStopped c s = true ∨ atSrc c s ≠ 2 then s
  else if atState c s = atCoast ∨ atState c s = atFree then
    (setAtState c atAcquire (zSet c s)).setAt c fun x => { x with zDiff := false }
  else
    let s :=
      if !(s.ch c).at_.zSeen then zSet c s
      else
        let q := ((encU c s / 4 : Nat) : Int)
        if 2 * q < ((zDiffOf c s).natAbs : Int) then
          let s := s.count Reg.AtStat.Z_ERR_CNT (cI c)
          if (s.ch c).at_.zDiff then srcLost c (s.ch c).at_.fw s
          else (zSet c s).setAt c fun x => { x with zDiff := true }
        else s.setAt c fun x => { x with zDiff := false }
    if atState c s = atAcquire then atLock c s else s

/-- One SINCOS update (R54): position from atan2 and the quadrant passages; the angle of the zero vector is a free value (log entry 12). After a result that
is ignored for its advance the next one is compared with its quadrant (log entry 114). -/
def sincosUpdate (c : Ch) (s : State) : State :=
  let si := ceinSel c (s.rd Reg.Enc.SIN_SEL (cI c)) s
  let co := ceinSel c (s.rd Reg.Enc.COS_SEL (cI c)) s
  let amp : Int := sqrtHalfUp (si * si + co * co).natAbs
  let bad := decide (amp < (s.rd Reg.Enc.AMIN (cI c) : Int) * 2 ^ 15) || decide ((s.rd Reg.Enc.AMAX (cI c) : Int) * 2 ^ 15 < amp)
  let x := (s.ch c).at_
  let zero := si = 0 ∧ co = 0
  let th := if zero then s.free 32 else if s.rdB Reg.Enc.INVERT (cI c) then atan2C (-si) co else atan2C si co
  let s := if zero then s.drew else s
  let q := th / 2 ^ 30
  let step := match x.quadrant with
    | some p => (q + 4 - p) % 4
    | none => 0
  if bad || step == 2 then encIllegal c (s.setAt c fun x => { x with quadrant := if bad then x.quadrant else some q })
  else
    let line := Int.fdiv x.pm 65536 + (match x.quadrant with
      | some p => if p = 3 ∧ q = 0 then 1 else if p = 0 ∧ q = 3 then -1 else 0
      | none => 0)
    encMove c (line * 65536 + (th / 65536 : Nat)) (s.setAt c fun x => { x with quadrant := some q })

/-! ### Wrap -/

/-- A pattern pair enters a new turn (R86): its count returns to 0 and the edges at or before the angle fire; a pair whose list a swap or a region change has
replaced in this tick stands where R87 put it, and one rolled back comes one turn nearer to where it was (R88). -/
def patTurn (c : Ch) (k : PairIx) (s : State) : State :=
  if !patMode c k s || (s.pat c k).fresh then s
  else if (s.pat c k).held != 0 then s.setPat c k fun p => { p with held := p.held - 1 }
  else
    let s := s.setPat c k fun p => { p with fired := 0 }
    let a := (s.ch c).angle
    patFireWhile c k (fun e => decide (e ≤ a)) (fun e => lagOf c e s) false 64 s

/-- A swap of this channel takes effect at the wrap (R78). -/
def swapAtWrap (c : Ch) (s : State) : Bool :=
  match (s.batt c).swap with
  | some o =>
    bankState c o.bankB s == bkArmed
      && !(s.rdB Reg.BattCtl.SWAP_AT (cI c) && atSrc c s == 0 && bankPairMask c o.bankB s == 0)
  | none => false

/-- ANGLE_WRAP (R49, R64, R65, R86): WRAP is raised, waiting FW and ES commits apply, pattern pairs enter the new turn, the turn's mean is closed (R52). -/
def angleWrapEff (c : Ch) (s : State) : State :=
  if !wrapTick c s then s
  else
    let fwd := crossesFwd c 0 s
    let s := if fwd then wrapLeave c s else s
    let s := fireLag c evWrap (lagOf c 0 s) s
    let s :=
      if fwd then
        (if swapAtWrap c s || !pgIsRunning c s then s
         else allPair.foldl (fun s k => patTurn c k s) s)
      else allPair.foldl (fun s k => if patMode c k s then s.setPat c k fun p => { p with held := p.held + 1 } else s) s
    let s := if (s.ch c).at_.fwWait = .waiting ∧ s.rdB Reg.AtCtl.FW_AT (cI c) = false then fwApply c s else s
    let s := if (s.ch c).esWait = .waiting then esApply c s else s
    let s := s.setAt c fun x =>
      { x with
        turnMean := if x.turnFull ∧ 0 < x.turnCnt then some (rhu x.turnSum x.turnCnt) else x.turnMean,
        turnSum := 0, turnCnt := 0, turnFull := true }
    settle c s

/-- A carrier period starts in this tick (R142, R143). -/
def periodPoint (c : Ch) (s : State) : Bool :=
  pgIsRunning c s && ((s.pg c).psTick || (if angleCarrier c s then wrapTick c s else decide ((s.pg c).periodEnd ≤ s.now)))

/-- BANK_SWAP_POINT (R78): the armed bank becomes ACTIVE in the wrap tick, or at PERIOD_START under SWAP_AT = 1. -/
def bankSwapPointEff (c : Ch) (s : State) : State :=
  match (s.batt c).swap with
  | some o =>
    if bankState c o.bankB s = bkArmed ∧
        (if swapAtWrap c s then wrapTick c s = true else periodPoint c s = true) then
      let atWrap := swapAtWrap c s
      let s := swapNow c o.bankB true (some o.w) s
      settle c (if atWrap then s else s.setBatt c fun b => { b with swapTick := none })
    else s
  | none => s

/-- BANK_SRAM_UNCORRECTABLE (R69): the active bank becomes EMPTY and the channel performs Squall shutdown. -/
def bankSramEff (c : Ch) (s : State) : State :=
  match activeBank c s with
  | some b =>
    let s := squallRequest c 3 s
    let s := (emptyBank c b s).wr Reg.Batt.ACTIVE_SLOT (cI c) 0 noSlot
    settle c (pairsFollow c s)
  | none => s

/-! ### One tick of the angle -/

/-- The accumulator after one more tick (R46); between encoder edges it stops at the next edge either way, one quarter-line from the last (R53). -/
def AtSt.advance (x : AtSt) (enc_ : Bool) : AtSt :=
  let next := enc 48 ((x.acc : Int) + x.fw)
  let past := sgn 48 (next + (2 ^ 48 - x.encBase))
  let lim := if enc_ then (if (x.encUp : Int) < past then (x.encBase + x.encUp) % 2 ^ 48
      else if past < -(x.encDown : Int) then enc 48 ((x.encBase : Int) - x.encDown) else next) else next
  { x with acc := lim, accPrev := x.acc, startTick := false, fwWait := if x.fwWait = .fresh then .waiting else x.fwWait }

/-- One tick of the AT of a channel whose branch runs. -/
def atTick (c : Ch) (s : State) : State :=
  if atStopped c s then s.setAt c fun x => { x with startTick := false }
  else
    let e := atSrc c s == 2 && s.rd Reg.Enc.MODE (cI c) == 0 && (atState c s == atAcquire || atState c s == atLocked)
    s.setAt c fun x => x.advance e

/-! ### Commands -/

/-- FW_TIME_REACHED. -/
def execFwTimeReached (c : Ch) (s : State) : Out := fin s (fwTimeEff c s)
/-- ENC_EDGE. -/
def execEncEdge (c : Ch) (a b : Bool) (s : State) : Out := fin s (settle c (encEdgeEff c a b s))
/-- ENC_INDEX. -/
def execEncIndex (c : Ch) (s : State) : Out := fin s (settle c (encIndexEff c s))
/-- ENC_EDGE_TIMEOUT. -/
def execEncEdgeTimeout (c : Ch) (s : State) : Out := fin s (encTimeoutEff c s)
/-- COAST_END. -/
def execCoastEnd (c : Ch) (s : State) : Out := fin s (settle c (coastEnd c s))
/-- BANK_LOAD_DONE. -/
def execBankLoadDone (c : Ch) (s : State) : Out := fin s (settle c (loadDone c s))
/-- BANK_SWAP_POINT. -/
def execBankSwapPoint (c : Ch) (s : State) : Out := fin s (bankSwapPointEff c s)
/-- BANK_SRAM_UNCORRECTABLE. -/
def execBankSramUncorrectable (c : Ch) (s : State) : Out := fin s (bankSramEff c s)

end Sys2Proof.Machine
end

