-- ==== Sys2Proof/Machine/Sense.lean ====
section
/-! DEFINITION. SAR converters (05_sensing.md R91-R102) and the comparator commands (R103-R113). -/

namespace Sys2Proof.Machine

/-! ### Converters -/

/-- Sample code of an input voltage in µV (R91). -/
def sampleCode (uv : Nat) : Nat := min (65536 * uv / 3000000) 65535

/-- State field of a converter (Table 5.4). -/
def convF (sb : Bool) : Fld := if sb then Reg.Conv.SB_STATE else Reg.Conv.SA_STATE
/-- Split counter of a converter. -/
def splitF (sb : Bool) : Fld := if sb then Reg.Conv.SB_SPLIT_CNT else Reg.Conv.SA_SPLIT_CNT

/-- Entry e of the regular or injected set in force. -/
def seqEntry (c : Ch) (sb inj : Bool) (e : Nat) (s : State) : SeqEntry :=
  let n := sarI c sb
  if inj then ⟨s.rdL Reg.Seq.INJ_POL n e == 1, s.rdL Reg.Seq.INJ_INPUT n e, s.rdL Reg.Seq.INJ_SHIFT n e, s.rdL Reg.Seq.INJ_AVG n e, s.rdLS Reg.Seq.INJ_OFFSET n e⟩
  else ⟨s.rdL Reg.Seq.REG_POL n e == 1, s.rdL Reg.Seq.REG_INPUT n e, s.rdL Reg.Seq.REG_SHIFT n e, s.rdL Reg.Seq.REG_AVG n e, s.rdLS Reg.Seq.REG_OFFSET n e⟩

/-- Voltage that an entry converts: the internal reference and ground are what they are, whatever the sender gives (log entry 14). -/
def entryUv (x : SeqEntry) (uv : Nat) : Nat := if x.input = 13 then 1500000 else if x.input = 14 then 0 else uv

/-- What one sample adds (R97). -/
def sampleTerm (x : SeqEntry) (code : Nat) : Int := (if x.pol then (code : Int) - 32768 else code) - x.offset

/-- RAW of a sum (R97). -/
def resultRaw (x : SeqEntry) (sum : Int) : Int := shru sum x.shift
/-- CEIN of RAW (R97). -/
def resultCein (x : SeqEntry) (raw : Int) : Int :=
  sat32 (raw * 2 ^ (16 + x.shift - x.avg - (if x.pol then 0 else 1)))

/-- Store a completed result (R98): index 0-15 regular, 16-19 injected. -/
def storeResult (c : Ch) (sb : Bool) (ix : Nat) (x : SeqEntry) (sum : Int) (clip split : Bool) (s : State) : State :=
  let n := sarI c sb
  let raw := resultRaw x sum
  let s := s.wrS Reg.Res.RAW n ix raw
  let s := s.wrB Reg.Res.CLIP n ix clip
  let s := s.wrB Reg.Res.SPLIT n ix split
  let s := (s.countMod Reg.Res.COUNT n ix).wr Reg.Res.NEW n ix 1
  s.setCh c fun y => y.setSar sb fun q => { q with cein := SMap.set 0 q.cein ix (resultCein x raw) }

/-- Fields of the regular and the injected set. -/
def regFields : List Fld := [Reg.Seq.REG_LEN, Reg.Seq.REG_POL, Reg.Seq.REG_INPUT, Reg.Seq.REG_SHIFT, Reg.Seq.REG_AVG, Reg.Seq.REG_OFFSET]
def injFields : List Fld := [Reg.Seq.INJ_LEN, Reg.Seq.INJ_POL, Reg.Seq.INJ_INPUT, Reg.Seq.INJ_SHIFT, Reg.Seq.INJ_AVG, Reg.Seq.INJ_OFFSET]

/-- Change a converter. -/
def State.setSar (s : State) (c : Ch) (sb : Bool) (f : SarSt → SarSt) : State := s.setCh c fun x => x.setSar sb f

/-- The regular entry starts afresh at entry 0. -/
def SarSt.restart (x : SarSt) : SarSt := { x with regEntry := 0, regCnt := 0, regSum := 0, regClip := false, regSplit := false }

/-- The entry of the conversion in progress, and whether it is the last of its sequence. -/
def convEntry (c : Ch) (sb inj : Bool) (s : State) : SeqEntry × Bool :=
  let x := (s.ch c).sar sb
  let e := if inj then x.injEntry else x.regEntry
  let n := s.rdL (if inj then Reg.Seq.INJ_LEN else Reg.Seq.REG_LEN) (sarI c sb)
  x.kept.getD (seqEntry c sb inj e s, decide (n ≤ e + 1))

/-- A conversion of this sequence is in progress. -/
def convRuns (c : Ch) (sb inj : Bool) (s : State) : Bool := ((s.ch c).sar sb).conv && ((s.ch c).sar sb).inj == inj

/-- The regular set applies (R100). A conversion of the old set that still runs after RUN = 0 ends as it began. -/
def regApply (c : Ch) (sb : Bool) (s : State) : State :=
  let keep := convRuns c sb false s && ((s.ch c).sar sb).stopping
  let e := convEntry c sb false s
  let s := (s.commitAll regFields (sarI c sb)).wr Reg.Seq.PEND_REG (sarI c sb) 0 0
  s.setSar c sb fun x => if keep then { x with kept := some e } else x.restart

/-- The injected set applies (R100). A conversion of the old set that still runs after RUN = 0 ends as it began. -/
def injApply (c : Ch) (sb : Bool) (s : State) : State :=
  let keep := convRuns c sb true s && ((s.ch c).sar sb).stopping
  let e := convEntry c sb true s
  let s := (s.commitAll injFields (sarI c sb)).wr Reg.Seq.PEND_INJ (sarI c sb) 0 0
  if keep then s.setSar c sb fun x => { x with kept := some e } else s

/-- Waiting sets apply at once on a stopped converter (R100). -/
def applyStopped (c : Ch) (sb : Bool) (s : State) : State :=
  let s := if s.rdB Reg.Seq.PEND_REG (sarI c sb) then regApply c sb s else s
  if s.rdB Reg.Seq.PEND_INJ (sarI c sb) then injApply c sb s else s

/-- The converter stops (R102): partial sums are discarded, results keep their values. -/
def sarStop (c : Ch) (sb : Bool) (s : State) : State :=
  let s := s.setSar c sb fun x => { x.restart with
    conv := false, inj := false, fresh := false, injPending := false, injEntry := 0, injCnt := 0, injSum := 0, injClip := false, stopping := false, kept := none }
  applyStopped c sb (s.wr (convF sb) (cI c) 0 0)

/-- The converter may run: RUN = 1 and its clock branch runs (R92, R102). -/
def sarEnabled (c : Ch) (sb : Bool) (s : State) : Bool :=
  s.rdB Reg.Seq.RUN (sarI c sb) && (s.ch c).branch && !(s.ch c).idle

/-- Start or resume the regular sequence at a boundary; with REG_LEN = 0 the converter idles (R93). -/
def regStart (c : Ch) (sb : Bool) (s : State) : State :=
  if s.rdL Reg.Seq.REG_LEN (sarI c sb) = 0 then
    (s.setSar c sb fun x => { x with conv := false, inj := false }).wr (convF sb) (cI c) 0 3
  else (s.setSar c sb fun x => { x with conv := true, inj := false, fresh := true }).wr (convF sb) (cI c) 0 1

/-- The converter starts with regular entry 0, its injected sequence idle (R102). -/
def sarStart (c : Ch) (sb : Bool) (s : State) : State :=
  if sarEnabled c sb s then regStart c sb (applyStopped c sb (s.setSar c sb SarSt.restart)) else s

/-- The next conversion at a boundary: a stop, a pending injected sequence, the running one, or the regular one (R94, R102). -/
def boundary (c : Ch) (sb : Bool) (s : State) : State :=
  let x := (s.ch c).sar sb
  let s := if s.rdB Reg.Seq.PEND_REG (sarI c sb) && s.rdL Reg.Seq.REG_LEN (sarI c sb) == 0 then regApply c sb s else s
  if x.stopping then sarStop c sb s
  else if x.injPending then (s.setSar c sb SarSt.startInj).wr (convF sb) (cI c) 0 2
  else if x.inj then s.setSar c sb fun x => { x with fresh := true }
  else regStart c sb s

/-- A GRID or ENC consumer sees a completed regular entry; the set is complete when all selected entries have converted (R50, R54). -/
def angleFeed (c : Ch) (sb : Bool) (e : Nat) (s : State) : State :=
  if atStopped c s && atSrc c s != 1 then s
  else
    let hit := fun f => s.rd f (cI c) % 32 == e + 16 * sb.toNat
    if atSrc c s = 1 then
      let line := s.rdB Reg.Pll.INPUT (cI c)
      let m := (s.ch c).at_.setMask
      let m := setBit m 0 (bit m 0 || hit Reg.Pll.VA_SEL)
      let m := setBit m 1 (bit m 1 || hit Reg.Pll.VB_SEL)
      let m := setBit m 2 (bit m 2 || line || hit Reg.Pll.VC_SEL)
      if m = 7 then pllUpdate c (s.setAt c fun x => { x with setMask := 0 }) else s.setAt c fun x => { x with setMask := m }
    else if atSrc c s = 2 ∧ s.rd Reg.Enc.MODE (cI c) = 1 then
      let m := (s.ch c).at_.setMask
      let m := setBit m 0 (bit m 0 || hit Reg.Enc.SIN_SEL)
      let m := setBit m 1 (bit m 1 || hit Reg.Enc.COS_SEL)
      if m % 4 = 3 then sincosUpdate c (s.setAt c fun x => { x with setMask := 0 }) else s.setAt c fun x => { x with setMask := m }
    else s

/-- A sample of an injected entry ends (R94, R97). -/
def injSample (c : Ch) (sb : Bool) (uv : Nat) (s : State) : State :=
  let x := (s.ch c).sar sb
  let cur := convEntry c sb true s
  let en := cur.1
  let code := sampleCode (entryUv en uv)
  let sum := x.injSum + sampleTerm en code
  let clip := x.injClip || code == 0 || code == 65535
  if x.injCnt + 1 < 2 ^ en.avg then
    boundary c sb (s.setSar c sb fun x => { x with injCnt := x.injCnt + 1, injSum := sum, injClip := clip })
  else
    let s := storeResult c sb (16 + x.injEntry) en sum clip false s
    let s := s.setSar c sb fun x => { x with injEntry := x.injEntry + 1, injCnt := 0, injSum := 0, injClip := false }
    if !cur.2 then boundary c sb s
    else
      let s := s.setSar c sb fun x => { x with inj := false }
      let s := fire c (evInjDone sb) s
      let s := if s.rdB Reg.Seq.PEND_INJ (sarI c sb) then injApply c sb s else s
      boundary c sb s

/-- A sample of a regular entry ends (R93, R95, R97). -/
def regSample (c : Ch) (sb : Bool) (uv : Nat) (s : State) : State :=
  let x := (s.ch c).sar sb
  let cur := convEntry c sb false s
  let en := cur.1
  let code := sampleCode (entryUv en uv)
  let sum := x.regSum + sampleTerm en code
  let clip := x.regClip || code == 0 || code == 65535
  if x.regCnt + 1 < 2 ^ en.avg then
    boundary c sb (s.setSar c sb fun x => { x with regCnt := x.regCnt + 1, regSum := sum, regClip := clip })
  else
    let s := storeResult c sb x.regEntry en sum clip x.regSplit s
    let s := if x.regSplit then s.count (splitF sb) (cI c) else s
    let s := s.setSar c sb fun x => { x.restart with regEntry := if cur.2 then 0 else x.regEntry + 1 }
    let s := if cur.2 then
        let s := fire c (evRegDone sb) s
        if s.rdB Reg.Seq.PEND_REG (sarI c sb) then regApply c sb s else s
      else s
    angleFeed c sb x.regEntry (boundary c sb s)

/-- SAR_CONVERSION_END (R92): the running conversion ends. -/
def sarEndEff (c : Ch) (sb : Bool) (uv : Nat) (s : State) : State :=
  let x := (s.ch c).sar sb
  if !x.conv || !(s.ch c).branch then s
  else settle c (if x.inj then injSample c sb uv s else regSample c sb uv s)

/-- COMMIT_REG (R100). -/
def commitRegEff (c : Ch) (sb : Bool) (s : State) : State :=
  let x := (s.ch c).sar sb
  if s.rdB Reg.Seq.PEND_REG (sarI c sb) then s
  else if !sarEnabled c sb s then regApply c sb s
  else if s.rdL Reg.Seq.REG_LEN (sarI c sb) = 0 ∧ ¬(x.conv = true ∧ x.inj = true) then
    regStart c sb (regApply c sb s)
  else s.wr Reg.Seq.PEND_REG (sarI c sb) 0 1

/-- COMMIT_INJ (R100). -/
def commitInjEff (c : Ch) (sb : Bool) (s : State) : State :=
  let x := (s.ch c).sar sb
  if s.rdB Reg.Seq.PEND_INJ (sarI c sb) then s
  else if !sarEnabled c sb s then injApply c sb s
  else if x.injPending || (x.conv && x.inj) then s.wr Reg.Seq.PEND_INJ (sarI c sb) 0 1
  else injApply c sb s

/-- RUN written: 1 starts a stopped converter, 0 stops it at the next boundary (R102). The spec does not say what RUN = 1 does before that boundary:
the model takes the stop back and the sequence goes on where it is (log entry 110). -/
def runWriteEff (c : Ch) (sb : Bool) (was : Bool) (s : State) : State :=
  let now := s.rdB Reg.Seq.RUN (sarI c sb)
  let x := (s.ch c).sar sb
  if now && !was then
    (if x.conv then s.setSar c sb fun x => { x with stopping := false } else sarStart c sb s)
  else if was && !now then
    (if x.conv then s.setSar c sb fun x => { x with stopping := true } else sarStop c sb s)
  else s

/-! ### Comparators -/

/-- Run a change of a comparator and do what its outputs then do: EV raises its event, PROT cuts, OC acts on the GDI (R109, R111). -/
def cmpChange (c : Ch) (j : Fin 16) (f : State → State) (s : State) : State :=
  let ev := evAsserted c j s
  let oc := ocAsserted c j s
  let s := protEdge c j f s
  let s := if evAsserted c j s != ev then fire c (evCmp j) s else s
  if !oc && ocAsserted c j s then ocAct c j s else s

/-- The comparator's clock runs: the branch of the channel, kept in Idle (R112). -/
def cmpClocked (c : Ch) (s : State) : Bool := (s.ch c).branch

/-- CMP_RAW_CHANGE (R103): a continuous comparator sees a new input voltage. -/
def cmpRawEff (c : Ch) (j : Fin 16) (uv : Nat) (s : State) : State :=
  if cmpOn c j s && !s.rdB Reg.CmpCfg.SAMPLED (cI c) j.val then
    settle c (cmpChange c j (rawTake c j uv) s)
  else s

/-- CMP_SAMPLE (R105): a sampled comparator decides; the decision enters the synchroniser. -/
def cmpSampleEff (c : Ch) (j : Fin 16) (uv : Nat) (s : State) : State :=
  if cmpOn c j s && s.rdB Reg.CmpCfg.SAMPLED (cI c) j.val then
    let s := rawTake c j uv s
    s.setCmp c j fun x => { x with sync1 := some x.raw }
  else s

/-- The filtered output takes a level (R106). -/
def filtTake (c : Ch) (j : Fin 16) (lvl : Bool) (s : State) : State :=
  let s := s.setCmp c j fun x => { x with filt := some lvl }
  let s := (s.wrBit Reg.CmpStat.OUT (cI c) 0 j.val lvl).wrBit Reg.CmpStat.UNRES (cI c) 0 j.val false
  if lvl then s.count Reg.CmpStat.ASSERT_CNT (cI c) j.val else s

/-- A filter change, when N of the last M decisions show a level the output does not have (R106). -/
def cmpFilterEff (c : Ch) (j : Fin 16) (s : State) : State :=
  if !cmpOn c j s then s
  else match filtLevel c j s with
    | some lvl => if (s.cmp c j).filt = some lvl then s else settle c (cmpChange c j (filtTake c j lvl) s)
    | none => s

/-- COMMIT of the thresholds (R113): all shadow thresholds apply together, and the comparators are evaluated against them. -/
def thrCommitEff (c : Ch) (s : State) : State :=
  settle c (thrEvalAll c (s.commitAll [Reg.CmpTh.TH_A, Reg.CmpTh.TH_B, Reg.CmpTh.RAMP_SLOPE] (cI c)))

/-- CMP_OPEN or CMP_CLOSE acts on a comparator (R108); one with WIN_GATE = 0 ignores it. In one tick the smallest LAG decides, and an opening at equal LAG
(R63), so that what is decided waits for the end of the tick. -/
def windowSet (c : Ch) (j : Fin 16) (lag : Nat) (open_ : Bool) (s : State) : State :=
  let wins := match (s.ch c).winDec.find? fun d => d.1 == j.val with
    | some d => decide (lag < d.2.1) || (lag == d.2.1 && open_)
    | none => true
  if s.rdB Reg.CmpCfg.WIN_GATE (cI c) j.val && wins then
    s.setCh c fun x => { x with winDec := (j.val, lag, open_) :: x.winDec.filter fun d => d.1 != j.val }
  else s

/-- At the end of a tick the windows decided in it take their state (R63, R108). -/
def windowsTake (c : Ch) (s : State) : State :=
  if (s.ch c).winDec = [] then s
  else settle c ((s.ch c).winDec.foldl (fun s d => cmpChange c (Fin.ofNat 16 d.1) (fun s => s.wrBit Reg.CmpStat.WIN_OPEN (cI c) 0 d.1 d.2.2) s) s)

/-- SAR_CONVERSION_END. -/
def execSarConversionEnd (c : Ch) (sb : Bool) (uv : Nat) (s : State) : Out := fin s (sarEndEff c sb uv s)
/-- CMP_RAW_CHANGE. -/
def execCmpRawChange (c : Ch) (j : Fin 16) (uv : Nat) (s : State) : Out := fin s (cmpRawEff c j uv s)
/-- CMP_SAMPLE. -/
def execCmpSample (c : Ch) (j : Fin 16) (uv : Nat) (s : State) : Out := fin s (cmpSampleEff c j uv s)

end Sys2Proof.Machine
end

