-- ==== Sys2Proof/Machine/Pulse.lean ====
section
/-! DEFINITION. Pulse-generator commands (07_pulse_generation.md R142-R159) and gate-drive commands (08_gate_drive.md R166-R183). -/

namespace Sys2Proof.Machine

/-! ### Periods, reloads and edges -/

/-- LAG of an instant that lies in this tick (R61). -/
def lagFrom (t : Nat) (s : State) : Nat := min (s.now - t) 31

/-- A carrier period starts at an instant (R142-R144, R149, R104): pairs take the state at position 0, PERIOD_START is raised,
ramps restart, and the cut intervals of the carrier pairs end (R157). -/
def newPeriod (c : Ch) (x t lag : Nat) (s : State) : State :=
  let s := allPair.foldl (fun s k =>
    if patMode c k s then s
    else carrierFire c k x t (s.setPg c fun p => { p with prs := p.prs.set k { p.prs[k] with first := false, second := false } })) s
  let s := fireLag c evPeriodStart lag s
  let s := s.setCh c fun y => { y with cmps := y.cmps.map fun q => { q with rampT0 := s.tick } }
  let s := thrEvalAll c s
  allOut.foldl (fun s j => if patMode c (pairOf j) s then s else cutEnd c j t s) s

/-- PERIOD_START (R142, R143). -/
def periodStartEff (c : Ch) (s : State) : State :=
  if !pgIsRunning c s || (s.pg c).psTick then s
  else if angleCarrier c s then
    (if wrapTick c s && crossesFwd c 0 s then
      let lag := lagOf c 0 s
      let t := stampAt lag s
      let s := s.setPg c fun p => { p with psTick := true, periodStart := t }
      settle c (newPeriod c 0 t lag s)
    else s)
  else
    let t := (s.pg c).periodEnd
    let s := s.setPg c fun p => { p with psTick := true, periodStart := t, periodEnd := t + s.rd Reg.PgStat.PERIOD_NOW (cI c) }
    settle c (newPeriod c 0 t (lagFrom t s) s)

/-- A reload point (Table 7.3): its instant, its position in the period, and whether it is a period start. -/
structure Reload where
  at_ : Nat
  pos : Nat
  start : Bool
deriving DecidableEq, Repr

/-- The reload point of this tick (Table 7.3), if one falls in it. -/
def reloadPoint (c : Ch) (s : State) : Option Reload :=
  let src := s.rd Reg.PgCfg.RELOAD_SRC (cI c)
  let p := s.pg c
  let ang := angleCarrier c s
  if src = 3 then
    match p.esLoad with
    | (t, lag) :: _ =>
      if t ≤ s.now then some ⟨t, if ang then (s.ch c).angleAt lag else t - p.periodStart, false⟩ else none
    | [] => none
  else
    let st : Option Reload := some ⟨if ang then stampAt (lagOf c 0 s) s else if p.psTick then p.periodStart else p.periodEnd, 0, true⟩
    let ce : Option Reload :=
      if ang then (if crossesFwd c (2 ^ 31) s then some ⟨stampAt (lagOf c (2 ^ 31) s) s, 2 ^ 31, false⟩ else none)
      else some ⟨p.periodStart + centrePos c s, centrePos c s, false⟩
    if src = 0 then (if !ang || wrapTick c s then st else none)
    else if src = 1 then ce
    else if periodPoint c s then st else ce

/-- Bring the values of a set into force (R145): PERIOD, DUTY0-5, M. -/
def setNow (c : Ch) (vals : List Nat) (s : State) : State :=
  let s := s.wr Reg.PgStat.PERIOD_NOW (cI c) 0 (vals.getD 0 0)
  let s := (List.range 6).foldl (fun s k => s.wr Reg.PgStat.DUTY_NOW (cI c) k (vals.getD (k + 1) 0)) s
  s.wr Reg.PgStat.M_NOW (cI c) 0 (vals.getD 7 0)

/-- Pattern lists follow the set applied (R84, R86): edges the angle has already passed fire now with LAG 0. -/
def rePattern (c : Ch) (s : State) : State :=
  let prev := (s.ch c).anglePrev
  let late := !(s.ch c).at_.startTick && !crossesFwd c 0 s
  allPair.foldl (fun s k =>
    if !patMode c k s then s
    else
      let l := listInForce c k s
      let s := s.setPat c k fun p => { p with edges := l }
      if late && (s.pat c k).held == 0 then patFireWhile c k (fun e => decide (e ≤ prev)) (fun _ => 0) true 64 s else s) s

/-- An armed set is applied at a reload point (R147). -/
def applySet (c : Ch) (r : Reload) (vals : List Nat) (s : State) : State :=
  let s := wrapLeave c s
  let s := (setNow c vals s).countMod Reg.PgStat.RELOAD_CNT (cI c)
  let s := rePattern c (fireLag c evReload (lagFrom r.at_ s) s)
  if r.start && !(s.pg c).psTick then s
  else
    let s := s.setPg c fun p => { p with periodEnd := max (p.periodStart + vals.getD 0 0) r.at_ }
    allPair.foldl (fun s k => if patMode c k s then s else carrierFire c k r.pos r.at_ s) s

/-- PG_RELOAD (R147, R148). -/
def reloadEff (c : Ch) (s : State) : State :=
  if !pgIsRunning c s then s
  else match reloadPoint c s with
    | none => s
    | some r =>
      let t := s.tick
      let armed := (s.pg c).armed
      let miss := armed.filter fun a => decide (t < a.tick + 3)
      let due := armed.find? fun a => decide (a.tick + 3 ≤ t)
      let s := miss.reverse.foldl (fun s a => missOne c a s) s
      let s := s.setPg c fun p => { p with
        reloadTick := true,
        armed := miss.map fun a => { a with late := true },
        esLoad := if s.rd Reg.PgCfg.RELOAD_SRC (cI c) = 3 then p.esLoad.tail else p.esLoad }
      let s := s.wrB Reg.PgSet.PEND (cI c) 0 (!miss.isEmpty)
      settle c (match due with
        | some a => applySet c r a.vals s
        | none => s)

/-- PG_EDGE (R144): the first or second edge of a carrier pair falls due. -/
def pgEdgeEff (c : Ch) (k : PairIx) (second : Bool) (s : State) : State :=
  let pr := ((s.pg c).prs)[k]
  if !pgIsRunning c s || patMode c k s || (if second then pr.second || !pr.first else pr.first) then s
  else match (if second then secondPos c k s else firstPos c k s) with
    | none => s
    | some x =>
      if !angleCarrier c s then settle c (carrierFire c k x ((s.pg c).periodStart + x) s)
      else if crossesFwd c x s then settle c (carrierFire c k x (stampAt (lagOf c x s) s) s)
      else s

/-- PATTERN_EDGE_FIRE (R86, R88): the next edge of a pattern pair is crossed forward. -/
def patternEdgeEff (c : Ch) (k : PairIx) (s : State) : State :=
  if !pgIsRunning c s || !patMode c k s || (s.pat c k).held != 0 then s
  else settle c (patFireWhile c k (fun e => crossesFwd c e s) (fun e => lagOf c e s) false 1 s)

/-- INTERLOCK_RELEASE (R154): a held rise is allowed. -/
def ilkReleaseEff (c : Ch) (o : OutIx) (s : State) : State :=
  let p := s.out c (partner o)
  if (s.out c o).held && !p.lvl then
    let t := match p.fellAt with
      | some f => f + s.rd Reg.PgOut.ILK_GAP (cI c) (pairOf o).val
      | none => s.now
    settle c (rise4 c o t s)
  else s

/-- FLT_ASSERT (R156, R158): a FLT input changes after POL and FILT; an assertion cuts its outputs. -/
def fltEff (c : Ch) (f : Fin 4) (asserted : Bool) (s : State) : State :=
  let was := fltAsserted c f.val s
  let s := s.setPg c fun p => { p with flt := setBit p.flt f.val asserted }
  settle c (if was then s else fltCut c f.val s)

/-- HALTED to STOPPED (Table 7.6, R159). -/
def haltEnd (c : Ch) (s : State) : State :=
  if s.rd Reg.PgStat.STATE (cI c) = pgHalted then channelHalt c pgStopped s else s

/-! ### Gate-drive commands -/

/-- Assertion instant of a DFB input recognised now (R167): the edge itself with FILT = 0; with FILT = N the first of the N samples, which the two
synchroniser ticks and the N - 1 later samples put N + 1 ticks back. -/
def dfbInstant (c : Ch) (k : PairIx) (s : State) : Nat :=
  let n := s.rd Reg.GdiCfg.FILT (cI c) k.val
  if n = 0 then s.now else s.now - 32 * (n + 1)

/-- DFB_ASSERT (R167-R170): an input changes after POL and FILT. -/
def dfbEff (c : Ch) (k : PairIx) (asserted : Bool) (s : State) : State :=
  if dfbOn c k s = asserted then s
  else
    let t := dfbInstant c k s
    let s := s.wrBit Reg.GdiStat.DFB_NOW (cI c) 0 k.val asserted
    settle c (if asserted then dfbAct c k t s else dfbRelease c k s)

/-- ENABLE_SETTLE_END (R166): 200 µs after both enables read high the inputs are taken as they stand. -/
def enableSettleEff (c : Ch) (s : State) : State :=
  if s.rdB Reg.GdiStat.GEN_A_RB (cI c) && s.rdB Reg.GdiStat.GEN_B_RB (cI c) && !(s.pg c).settled then
    let s := s.setPg c fun p => { p with settled := true }
    settle c (allPair.foldl (fun s k => if dfbOn c k s then dfbAct c k s.now s else s) s)
  else s

/-- A SERVICE write takes effect, in the tick after it reached the channel (R179, Table 8.1). -/
def serviceEff (c : Ch) (s : State) : State :=
  let on := s.rdB Reg.GdiCfg.SERVICE (cI c)
  let s := s.setPg c fun p => { p with servicePend := false }
  if gdiState c s = 1 ∧ on = true then setGdi c 2 s
  else if gdiState c s = 2 ∧ on = false then setGdi c 1 s else s

/-- RECOVERY_EXPIRE (Table 8.1): the timer expires; the GDI leaves RECOVERY when no off-latch is set. -/
def recoveryExpireEff (c : Ch) (s : State) : State :=
  if gdiState c s = 3 then leaveRecovery c (s.setPg c fun p => { p with recovExpired := true }) else s

/-- SQUALL_DONE (R176): step 2. -/
def squallDoneEff (c : Ch) (s : State) : State :=
  if gdiState c s = 4 then settle c (squallFinish c s) else s

/-- HB_REFRESH (R182): a refresh starts. -/
def hbRefreshEff (c : Ch) (s : State) : State :=
  if hbFollows c s && (s.pg c).ho && (s.pg c).refreshAt.isNone then
    let t := s.now
    settle c ((s.setPg c fun p => { p with refreshAt := some t, ho := false, hoFell := t }).countMod Reg.Hb.REFRESH_CNT (cI c))
  else s

/-- HBOOT_UV (R183): BOOT - HS falls below 8.5 V, and the high side turns off until its next commanded rise at which it is above 9.5 V; or, `low` false, it
has risen above 9.5 V again. -/
def hbootEff (c : Ch) (low : Bool) (s : State) : State :=
  if low then
    let s := (s.wr Reg.Hb.HBOOT_UV (cI c) 0 1).wr Reg.Hb.HBOOT_UV_SEEN (cI c) 0 1
    let s := fire c evHbootUv (s.count Reg.Hb.UV_CNT (cI c))
    settle c (s.setPg c fun p => { p with hoHeld := true, bootOk := false })
  else settle c (s.setPg c fun p => { p with bootOk := true })

/-- VDRV_UV (R183): both sides of every HB turn off. -/
def vdrvUvEff (s : State) : State :=
  s.eachCh fun s c =>
    settle c ((s.wr Reg.Hb.VDRV_UV (cI c) 0 1).setPg c fun p => { p with hoHeld := true, loHeld := true })

/-- VDRV above 10.5 V (R183): the sides may return at their next commanded edges. -/
def vdrvReturnEff (s : State) : State := s.eachCh fun s c => settle c (s.wr Reg.Hb.VDRV_UV (cI c) 0 0)

/-- PERIOD_START. -/
def execPeriodStart (c : Ch) (s : State) : Out := fin s (periodStartEff c s)
/-- PG_RELOAD. -/
def execPgReload (c : Ch) (s : State) : Out := fin s (reloadEff c s)
/-- PG_EDGE. -/
def execPgEdge (c : Ch) (k : Fin 6) (second : Bool) (s : State) : Out := fin s (pgEdgeEff c k second s)
/-- PATTERN_EDGE_FIRE. -/
def execPatternEdgeFire (c : Ch) (k : Fin 6) (s : State) : Out := fin s (patternEdgeEff c k s)
/-- INTERLOCK_RELEASE. -/
def execInterlockRelease (c : Ch) (o : Fin 12) (s : State) : Out := fin s (ilkReleaseEff c o s)
/-- FLT_ASSERT. -/
def execFltAssert (c : Ch) (f : Fin 4) (asserted : Bool) (s : State) : Out := fin s (fltEff c f asserted s)
/-- DFB_ASSERT. -/
def execDfbAssert (c : Ch) (k : Fin 6) (asserted : Bool) (s : State) : Out := fin s (dfbEff c k asserted s)
/-- BLANKING_END (R169, R170). -/
def execBlankingEnd (c : Ch) (o : Fin 12) (s : State) : Out := fin s (settle c (blankEnd c o s))
/-- RECOVERY_EXPIRE. -/
def execRecoveryExpire (c : Ch) (s : State) : Out := fin s (settle c (recoveryExpireEff c s))
/-- SQUALL_DONE. -/
def execSquallDone (c : Ch) (s : State) : Out := fin s (squallDoneEff c s)
/-- HB_REFRESH. -/
def execHbRefresh (c : Ch) (s : State) : Out := fin s (hbRefreshEff c s)
/-- HBOOT_UV. -/
def execHbootUv (c : Ch) (low : Bool) (s : State) : Out := fin s (hbootEff c low s)
/-- VDRV_UV. -/
def execVdrvUv (s : State) : Out := fin s (vdrvUvEff s)
/-- VDRV_RETURN. -/
def execVdrvReturn (s : State) : Out := fin s (vdrvReturnEff s)

end Sys2Proof.Machine
end

