-- ==== Sys2Proof/Machine/Meter.lean ====
section
/-! DEFINITION. Metering front end (10_metering.md R205-R231): samples, energy registers, cycles, marks and commit records, aggregates, sessions. -/

namespace Sys2Proof.Machine

/-- Metering of a channel. -/
def State.mf (s : State) (c : Ch) : MfSt := (s.ch c).mf

/-- Change metering. -/
def State.setMf (s : State) (c : Ch) (f : MfSt → MfSt) : State := s.setCh c fun x => { x with mf := f x.mf }

/-- MF states (Table 10.10). -/
def mfOff : Nat := 0
def mfRun : Nat := 1
def mfSuspended : Nat := 2
def mfClosed : Nat := 3

/-- MF state. -/
def mfState (c : Ch) (s : State) : Nat := s.rd Reg.MeterStat.STATE (cI c)

/-- Set the MF state. -/
def setMfState (c : Ch) (v : Nat) (s : State) : State := s.wr Reg.MeterStat.STATE (cI c) 0 v

/-- KIND = DC. -/
def mfDc (c : Ch) (s : State) : Bool := s.rdB Reg.MeterCfg.KIND (cI c)

/-- RTC now (16-bit fraction below is not kept here). -/
def rtcNow (s : State) : Nat := s.rd Reg.Rtc.RTC

/-- Nearest whole root of N / D, half up. -/
def rootHalfUp (num den : Nat) : Nat := if den = 0 then 0 else (Nat.sqrt (4 * num / den) + 1) / 2

/-- Round a positive fraction of a rational half up. -/
def ratRound (x : Rat) : Int := rhu x.num x.den

/-- Saturate an unsigned value at width `w` (00_scope.md R8). -/
def satU (w : Nat) (x : Int) : Nat := (clampI 0 (2 ^ w - 1) x).toNat

/-- Registers in one record set: 2^96 units of 2^-32 µWh (R217). -/
def energyMod : Nat := 2 ^ 96

/-- Add two lists of sums. -/
def addN (a b : List Nat) : List Nat := List.zipWith (· + ·) a b
def addI (a b : List Int) : List Int := List.zipWith (· + ·) a b

/-- Add the sums of a cycle to those of a window. -/
def CycleSum.add (a b : CycleSum) : CycleSum :=
  ⟨a.n + b.n, addN a.sq b.sq, addI a.ep b.ep, addI a.eq b.eq, addI a.es b.es⟩

/-! ### Commit records -/

/-- The bytes of a commit record (Table 10.1). -/
def MRec.bytes (c : Ch) (r : MRec) : List Byte :=
  let flags := r.closed.toNat + 2 * r.resumed.toNat + 4 * r.gap.toNat + 8 * r.lost.toNat + 16 * r.timer.toNat + 32 * r.session.toNat
  let b := leBytes 1 1 ++ leBytes 1 c.val ++ leBytes 1 flags ++ leBytes 1 r.cause ++ leBytes 4 r.seq ++ leBytes 8 r.rtc ++ leBytes 8 r.tb
    ++ leBytes 8 r.ivStart ++ leBytes 8 r.ivEnd ++ leBytes 4 0
    ++ r.regs.flatMap fun v => leBytes 8 (v / 2 ^ 32) ++ leBytes 4 v
  b ++ leBytes 4 (crc32c b)

/-- The slot that holds the newest complete record: SEQ in serial order (R221, R222). -/
def newestIsB (m : MfSt) : Bool :=
  match m.slotA, m.slotB with
  | some a, some b => decide (sgn 32 (b.seq + 2 ^ 32 - a.seq) > 0)
  | none, some _ => true
  | _, none => false

/-- The newest complete record. -/
def MfSt.newest (m : MfSt) : Option MRec := if newestIsB m then m.slotB else m.slotA

/-- Latch the registers into a record and queue it for the commit engine (R220, R221). -/
def latchRec (c : Ch) (timer closed : Bool) (cause : Nat) (purpose : MPurpose) (s : State) : State :=
  let m := s.mf c
  let lost := s.rdB Reg.MeterStat.LOST (cI c)
  let gap := match m.first with
    | some (g, _) => g
    | none => false
  let resumed := m.first.isSome && !gap
  let iv := match m.first with
    | some (_, a) => (a, m.firstEnd.getD (rtcNow s))
    | none => (0, 0)
  let r : MRec := ⟨closed, resumed, gap || lost, lost, timer, (match purpose with
    | .sessionStart .. => true
    | _ => false), cause, (m.seq + 1) % 2 ^ 32, rtcNow s, s.time, iv.1, iv.2, m.first.isSome, m.acc, purpose⟩
  let s := if m.recQ.isEmpty then s else s.count Reg.MeterStat.COMMIT_LATE_CNT (cI c)
  s.setMf c fun m => { m with seq := r.seq, recQ := m.recQ ++ [r], first := none, firstEnd := none }

/-- A record is the start or the stop mark of a session. -/
def MRec.sessMark (r : MRec) : Bool :=
  match r.purpose with
  | .sessionStart _ _ => true
  | .sessionStop _ => true
  | _ => false

/-- What the next mark completes: a session that waits for its start or stop mark, and whose mark does not stand in the queue yet (R225). -/
def markPurpose (c : Ch) (s : State) : MPurpose :=
  if (s.mf c).recQ.any MRec.sessMark then .mark
  else match (s.mf c).sess with
  | .starting w id => .sessionStart w id
  | .stopping w _ => .sessionStop w
  | _ => .mark

/-- A meter mark (R220). -/
def meterMark (c : Ch) (timer : Bool) (s : State) : State :=
  let p := markPurpose c s
  let s := latchRec c timer false 0 p s
  s.setMf c fun m => { m with markCnt := 0 }

/-- The first record after a restart or suspension names this interval (R222, Table 10.2). -/
def firstRecord (c : Ch) (gap : Bool) (start : Nat) (s : State) : State :=
  let s := if gap then (s.count Reg.MeterStat.GAP_CNT (cI c)) else s
  s.setMf c fun m => { m with first := some (gap, start), firstEnd := none }

/-- A cycle or window begins with the next sample. -/
def MfSt.newCycle (m : MfSt) : MfSt := { m with cyc := CycleSum.zero, wave := [] }

/-- The MF stops accumulating: its partial cycle is discarded, and the integrals of R210 begin anew. -/
def MfSt.dropCycle (m : MfSt) : MfSt :=
  { m.newCycle with vPrev := [0, 0, 0], integ := [0, 0, 0], fPrev := none, below := false, lastCross := none, zcSeen := false, zcCnt := 0, markCnt := 0 }

/-- The MF closes at once with a record (Table 10.2: Idle or Lull entry, brown-out). -/
def mfClose (c : Ch) (cause next : Nat) (s : State) : State :=
  if mfState c s = mfRun then
    let s := latchRec c false true cause .mark s
    (setMfState c next s).setMf c MfSt.dropCycle
  else s

/-- The MF enters SUSPENDED (Table 10.2). One whose closing record waits for the next sample discards its partial cycle too. -/
def mfSuspend (c : Ch) (s : State) : State :=
  if mfState c s = mfRun then (setMfState c mfSuspended s).setMf c MfSt.dropCycle
  else if (s.mf c).closing then s.setMf c MfSt.dropCycle else s

/-- The MF continues after a suspension: first record GAP from the last sample before it, a closing record that waits included (R38, Table 10.2). -/
def mfResume (c : Ch) (s : State) : State :=
  if mfState c s = mfSuspended then firstRecord c true (s.mf c).lastRtc (setMfState c mfRun s)
  else if (s.mf c).closing then firstRecord c true (s.mf c).lastRtc s else s

/-- The MF enters RUN from OFF or CLOSED with a RESUMED record (Table 10.2); the interval starts at the last record. With KIND = DC NO_ZC is 0 (R214). -/
def mfStart (c : Ch) (s : State) : State :=
  let start := ((s.mf c).newest.map MRec.rtc).getD 0
  let s := setMfState c mfRun s
  let s := if mfDc c s then s.wr Reg.Cycle.NO_ZC (cI c) 0 0 else s
  if (s.mf c).first.isSome then s else firstRecord c false start s

/-- The MF may enter RUN: it is OFF, or CLOSED by a brown-out after which the device is in Run again (Table 10.2). -/
def mfWaits (c : Ch) (s : State) : Bool := mfState c s == mfOff || (mfState c s == mfClosed && s.pow.st == .run)

/-- EN = 1 and the clock branch runs: to RUN (Table 10.2). -/
def mfTryStart (c : Ch) (s : State) : State :=
  if mfWaits c s = true ∧ s.rdB Reg.MeterCfg.EN (cI c) = true ∧ (s.ch c).branch = true ∧ (s.ch c).idle = false then
    mfStart c (s.setMf c fun m => { m with closing := false })
  else s

/-! ### Samples -/

/-- Draw a free signed value of a width. -/
def State.drawS (s : State) (w : Nat) : Int × State := (sgn w (s.free w), s.drew)

/-- Calibrate one input (R208). A fractional delay other than 0 gives a value the spec does not state: a free value (log entry 24). -/
def calibrate (c : Ch) (k : Nat) (raw : BitVec 24) (s : State) : Int × State :=
  let x0 := raw.toInt - s.rdS Reg.MeterCal.OFFSET (cI c) k
  let d := s.drawS 33
  let phase := s.rd Reg.MeterCal.PHASE (cI c) k
  let x := if phase = 0 then x0 else d.1
  let s := if phase = 0 then s else d.2
  let y := shru (x * (s.rd Reg.MeterCal.GAIN (cI c) k : Int)) 30
  let clip := raw == 0x7FFFFF#24 || raw == 0x800000#24 || satS 24 y != y
  (satS 24 y, if clip then s.wr Reg.MeterStat.CLIP_SEEN (cI c) 0 1 else s)

/-- Calibrate a list of inputs. -/
def calibrateAll (c : Ch) : List (Nat × BitVec 24) → State → List Int × State
  | [], s => ([], s)
  | (k, r) :: rs, s =>
    let y := calibrate c k r s
    let q := calibrateAll c rs y.2
    (y.1 :: q.1, q.2)

/-- EK of R209. -/
def meterEk (c : Ch) (s : State) : Int :=
  (2 * (s.rd Reg.MeterCfg.V_FS_MV (cI c) * s.rd Reg.MeterCfg.I_FS_MA (cI c)) * 2 ^ 32 + 28800000) / 57600000

/-- F_USE in mHz (R210): the frequency of the last complete cycle, or the nominal one while NO_ZC is set or before the first cycle. -/
def meterFUse (c : Ch) (s : State) : Nat :=
  let f := s.rd Reg.Cycle.F_MHZ (cI c)
  if s.rdB Reg.Cycle.NO_ZC (cI c) || f == 0 then (if s.rdB Reg.MeterCfg.F_NOM (cI c) then 60000 else 50000) else f

/-- The integral of a voltage over one more sample by the trapezoidal rule, which lags 90° at every frequency, after the leak of 125 µs out of 0.5 s
(R210, log entry 118). -/
def integNext (i prev v : Int) : Int := i - rhu i 4000 + 2 ^ 15 * (prev + v)

/-- 2π times 125 µs times 1 mHz, with 2^48 for 1. -/
def quadFactor : Int := 221069930

/-- v90 of an integral (R210): 2π times F_USE times the integral, in codes. -/
def quadVoltage (fUse : Nat) (i : Int) : Int := shru (i * fUse * quadFactor) 64

/-- The quadrature voltages of three phases after a sample (R210). -/
def quadNext (c : Ch) (y : List Int) (s : State) : List Int × State :=
  let m := s.mf c
  let integ := (List.range 3).map fun x => integNext (m.integ.getD x 0) (m.vPrev.getD x 0) (y.getD x 0)
  (integ.map (quadVoltage (meterFUse c s)), s.setMf c fun m => { m with integ := integ, vPrev := y.take 3 })

/-- Energy terms of a sample: active, reactive, apparent, each of A, B, C, T (R209-R211). -/
structure Terms where
  ep : List Int
  eq : List Int
  es : List Int
deriving DecidableEq, Repr

/-- Append the total and apply DIR_INV. -/
def withTotal (inv : Bool) (l : List Int) : List Int :=
  (l ++ [l.sum]).map fun x => if inv then -x else x

/-- The terms of a sample from its values, its quadrature voltages and the RMS of the last cycle. -/
def sampleTerms (dc inv : Bool) (ek : Int) (y v90 : List Int) (rms : List Nat) : Terms :=
  let p := fun i => shru (y.getD i 0 * y.getD (i + 3) 0 * ek) 46
  if dc then
    let a := p 0
    ⟨withTotal inv [a, 0, 0], [0, 0, 0, 0], withTotal false [(a.natAbs : Int), 0, 0]⟩
  else
    ⟨withTotal inv ([0, 1, 2].map p),
     withTotal inv ([0, 1, 2].map fun i => shru (v90.getD i 0 * y.getD (i + 3) 0 * ek) 46),
     withTotal false ([0, 1, 2].map fun i => shru ((rms.getD i 0 : Int) * (rms.getD (i + 3) 0 : Int) * ek) 46)⟩

/-- What one register set gains in a sample: IMP, EXP, Q1-Q4, APP (R217). -/
def gains (ep eq es : Int) : List Nat :=
  let p := decide (0 ≤ ep)
  let q := decide (0 ≤ eq)
  let m := eq.natAbs
  [if p then ep.toNat else 0, if p then 0 else ep.natAbs, if p && q then m else 0, if !p && q then m else 0,
   if !p && !q then m else 0, if p && !q then m else 0, es.toNat]

/-- Accumulate a sample into the 28 registers (R217). -/
def accumulate (acc : List Nat) (t : Terms) : List Nat :=
  let g := (List.range 4).flatMap fun x => gains (t.ep.getD x 0) (t.eq.getD x 0) (t.es.getD x 0)
  List.zipWith (fun a b => (a + b) % energyMod) acc g

/-- Squares a sample adds: voltages, differences AB, BC, CA, currents (R213). -/
def squares (y : List Int) : List Nat :=
  let v := fun i => y.getD i 0
  let q := fun x : Int => (x * x).toNat
  [q (v 0), q (v 1), q (v 2), q (v 0 - v 1), q (v 1 - v 2), q (v 2 - v 0), q (v 3), q (v 4), q (v 5)]

/-! ### Cycles -/

/-- Power in W of an energy over a length in samples (R213). -/
def powerOf (e : Int) (len : Rat) : Int :=
  if len.num ≤ 0 then 0 else rhu (e * 288 * len.den) (10 * 2 ^ 32 * len.num.toNat)

/-- PF = P/S in sQ1.15 (R213); for S = 0 the spec gives no value: a free value. -/
def pfOf (p a : Int) (s : State) : Nat × State :=
  if a ≤ 0 then (s.free 16, s.drew) else (enc 16 (satS 16 (rhu (p * 2 ^ 15) a.toNat)), s)

/-- Write the four PF values of a list of sums. -/
def writePf (c : Ch) (f : Fld) (ep es : List Int) (s : State) : State :=
  (List.range 4).foldl (fun s x =>
    let r := pfOf (ep.getD x 0) (es.getD x 0) s
    r.2.wr f (cI c) x r.1) s

/-- RMS of a sum of squares in a unit of `fs` at full scale 2^23. -/
def rmsUnit (sq n fs : Nat) : Nat := min (rootHalfUp (sq * fs * fs) (n * 2 ^ 46)) (2 ^ 32 - 1)

/-- The single-bin transform of samples, oldest first, at one turn in `len` samples (R213): real and imaginary part, 80 fraction bits. -/
def singleBin (len : Rat) (xs : List Int) : Int × Int :=
  xs.zipIdx.foldl (fun a e =>
    let t := (rhu ((e.2 * 2 ^ 32 * len.den : Nat) : Int) len.num.toNat).toNat
    (a.1 + e.1 * sinC80 (t + 2 ^ 30), a.2 - e.1 * sinC80 t)) (0, 0)

/-- Fundamental phase of input `k` over the samples of a cycle (newest first), in counts (R213); none for the zero vector. -/
def fundPhase (len : Rat) (wave : List (List Int)) (k : Nat) : Option Nat :=
  let z := singleBin len (wave.reverse.map fun y => y.getD k 0)
  if z = (0, 0) then none else some (atan2C z.2 z.1)

/-- Write an angle field: one phase relative to another; a free value where one of them does not exist (log entry 24). -/
def writeAngle (c : Ch) (f : Fld) (i : Nat) (p q : Option Nat) (s : State) : State :=
  match p, q with
  | some a, some b => s.wr f (cI c) i (a + (2 ^ 32 - b))
  | _, _ => (s.wr f (cI c) i (s.free 32)).drew

/-- The angle fields of a cycle (R213): I relative to V in each phase, V_B and V_C relative to V_A. A timer window has no F, and its angles are free values
(log entry 24). -/
def writeAngles (c : Ch) (len : Rat) (f : Nat) (wave : List (List Int)) (s : State) : State :=
  let ph := fun k => if f = 0 then none else fundPhase len wave k
  let s := (List.range 3).foldl (fun s x => writeAngle c Reg.Cycle.ANG_VI x (ph (3 + x)) (ph x) s) s
  writeAngle c Reg.Cycle.ANG_C 0 (ph 2) (ph 0) (writeAngle c Reg.Cycle.ANG_B 0 (ph 1) (ph 0) s)

/-- The quantities of a cycle as they stand in object 0x2n02 (R215). -/
def cycleVals (c : Ch) (s : State) : List Nat :=
  let r := fun (n : Nat) (f : Fld) => (List.range n).map fun x => s.rd f (cI c) x
  r 3 Reg.Cycle.U_RMS_MV ++ r 3 Reg.Cycle.U_PP_MV ++ r 3 Reg.Cycle.I_RMS_MA ++ r 4 Reg.Cycle.P_W ++ r 4 Reg.Cycle.Q_VAR ++ r 4 Reg.Cycle.S_VA
    ++ r 4 Reg.Cycle.PF ++ r 3 Reg.Cycle.ANG_VI ++ r 1 Reg.Cycle.ANG_B ++ r 1 Reg.Cycle.ANG_C

/-- Close an aggregate over 150 or 180 cycles (R216). -/
def close150 (c : Ch) (s : State) : State :=
  let a := (s.mf c).agg150
  if a.n = 0 then s
  else
    let s := (List.range 3).foldl (fun s x => s.wr Reg.Aggr.U_150_MV (cI c) x (rootHalfUp (a.sq.getD x 0) a.n)) s
    (s.wrBit Reg.Aggr.FLAG (cI c) 0 1 a.flag).setMf c fun m => { m with agg150 := AggSum.zero }

/-- Add a window to an aggregate. -/
def AggSum.add (a : AggSum) (u : List Nat) (flag : Bool) : AggSum := ⟨a.n + 1, addN a.sq (u.map fun x => x * x), a.flag || flag⟩

/-- A window of 10 or 12 cycles ends (R216). -/
def closeWindow (c : Ch) (s : State) : State :=
  let m := s.mf c
  let fs := s.rd Reg.MeterCfg.V_FS_MV (cI c)
  let u := (List.range 3).map fun x => rmsUnit (m.win.sq.getD x 0) m.win.n fs
  let s := (List.range 3).foldl (fun s x => s.wr Reg.Aggr.U_W_MV (cI c) x (u.getD x 0)) s
  let s := writePf c Reg.Aggr.PF_W m.win.ep m.win.es s
  let s := (s.wr Reg.Aggr.W_END_TIME (cI c) 0 s.time).wrBit Reg.Aggr.FLAG (cI c) 0 0 m.winFlag
  let s := s.setMf c fun m => { m with
    agg150 := m.agg150.add u m.winFlag, agg10 := m.agg10.add u m.winFlag, win := CycleSum.zero, winCycles := 0, winFlag := false }
  if 15 ≤ (s.mf c).agg150.n then close150 c s else s

/-- A phase voltage in mV lies outside 0.90 to 1.10 of UDIN (R216). -/
def flaggedU (u udin : Nat) : Bool := decide (u * 10 < 9 * udin) || decide (11 * udin < u * 10)

/-- A cycle or window ends (R213-R216): its quantities, the FIFO, the RMS for es, the aggregates. -/
def cycleEnd (c : Ch) (len : Rat) (f endTime : Nat) (s : State) : State :=
  let m := s.mf c
  let y := m.cyc
  let vfs := s.rd Reg.MeterCfg.V_FS_MV (cI c)
  let ifs := s.rd Reg.MeterCfg.I_FS_MA (cI c)
  let noZc := s.rdB Reg.Cycle.NO_ZC (cI c)
  let u := (List.range 3).map fun x => rmsUnit (y.sq.getD x 0) y.n vfs
  let s := (List.range 3).foldl (fun s x =>
    ((s.wr Reg.Cycle.U_RMS_MV (cI c) x (u.getD x 0)).wr Reg.Cycle.U_PP_MV (cI c) x (rmsUnit (y.sq.getD (3 + x) 0) y.n vfs)).wr
      Reg.Cycle.I_RMS_MA (cI c) x (rmsUnit (y.sq.getD (6 + x) 0) y.n ifs)) s
  let s := s.wr Reg.Cycle.F_MHZ (cI c) 0 f
  let s := (List.range 4).foldl (fun s x =>
    ((s.wrS Reg.Cycle.P_W (cI c) x (sat32 (powerOf (y.ep.getD x 0) len))).wrS Reg.Cycle.Q_VAR (cI c) x (sat32 (powerOf (y.eq.getD x 0) len))).wrS
      Reg.Cycle.S_VA (cI c) x (sat32 (powerOf (y.es.getD x 0) len))) s
  let s := writeAngles c len f m.wave (writePf c Reg.Cycle.PF y.ep y.es s)
  let udin := s.rd Reg.MeterCfg.UDIN_MV (cI c)
  let flag := noZc || (u.take (if mfDc c s then 1 else 3)).any fun x => flaggedU x udin
  let s := ((s.wrB Reg.Cycle.FLAGGED (cI c) 0 flag).countMod Reg.Cycle.CYCLE_CNT (cI c)).wr Reg.Cycle.END_TIME (cI c) 0 endTime
  let s := if m.fifo.length < 80 then s.setMf c fun m => { m with fifo := m.fifo ++ [⟨f, len, noZc, cycleVals c s⟩] }
    else s.count Reg.MeterStat.FIFO_DROP_CNT (cI c)
  let r := fun i => min (rootHalfUp (y.sq.getD i 0) y.n) (2 ^ 23 - 1)
  let s := s.setMf c fun m => { m with
    rms := [r 0, r 1, r 2, r 6, r 7, r 8], win := m.win.add y, winCycles := m.winCycles + 1, winFlag := m.winFlag || flag,
    f10Cycles := if f = 0 then m.f10Cycles else m.f10Cycles + 1, f10Len := if f = 0 then m.f10Len else m.f10Len + len,
    cyc := CycleSum.zero, wave := [] }
  if (if s.rdB Reg.MeterCfg.F_NOM (cI c) then 12 else 10) ≤ (s.mf c).winCycles then closeWindow c s else s

/-- Frequency in mHz of an interval in samples of 125 µs (R213). -/
def freqOf (len : Rat) : Nat := if len.num ≤ 0 then 0 else satU 32 (rhu (8000000 * len.den) len.num.toNat)

/-- An accepted crossing (R212-R214, R220): a cycle ends or NO_ZC may clear, and a mark is taken. -/
def crossing (c : Ch) (t : Rat) (s : State) : State :=
  let m := s.mf c
  let len := match m.lastCross with
    | some u => t - u
    | none => 0
  let back := satU 64 (rhu (((m.sample : Rat) - t) * 12500).num ((m.sample : Rat) - t).den)
  let s :=
    if s.rdB Reg.Cycle.NO_ZC (cI c) then
      if m.zcSeen ∧ 1212 / 10 ≤ len ∧ len ≤ 17776 / 100 then
        (s.wr Reg.Cycle.NO_ZC (cI c) 0 0).setMf c MfSt.newCycle
      else s.setMf c fun m => { m with zcSeen := true }
    else if m.lastCross.isSome then cycleEnd c len (freqOf len) (s.time - back) s
    else s.setMf c MfSt.newCycle
  meterMark c false (s.setMf c fun m => { m with lastCross := some t, below := false, zcCnt := 0 })

/-- Crossing detection on a sample (R212); the low-pass filter's output is a free value (log entry 24). -/
def detectCross (c : Ch) (s : State) : State :=
  let d := s.drawS 24
  let f := d.1
  let s := d.2
  let m := s.mf c
  let arm : Int := -((s.rd Reg.MeterCfg.ZC_ARM (cI c) : Int) * 128)
  let below := m.below || decide (f < arm)
  let s := s.setMf c fun m => { m with fPrev := some f, below := below, zcCnt := m.zcCnt + 1 }
  match m.fPrev with
  | some p =>
    if 0 ≤ f ∧ p < 0 ∧ below = true then
      let t : Rat := ((m.sample : Rat) - 1) + (-p : Int) / ((f - p : Int) : Rat)
      match m.lastCross with
      | some u => if t - u < 80 then s else crossing c t s
      | none => crossing c t s
    else s
  | none => s

/-- The MF takes the samples of now: it runs or owes its closing record, it is clocked, and it has not taken them yet (R38, R207, R380). -/
def mfSamples (c : Ch) (s : State) : Bool :=
  (mfState c s == mfRun || (s.mf c).closing) && (((s.ch c).branch && !(s.ch c).idle) || (s.mf c).lull.isSome) && (s.mf c).lastTb != some s.time

/-- One channel's part of METER_SAMPLE (R207-R217). -/
def sampleChannel (c : Ch) (raw : List (BitVec 24)) (s : State) : State :=
  if !mfSamples c s then s
  else
    let dc := mfDc c s
    let ins := (if dc then [0, 3] else [0, 1, 2, 3, 4, 5]).map fun k => (k, raw.getD k 0)
    let r := calibrateAll c ins s
    let y := if dc then [r.1.getD 0 0, 0, 0, r.1.getD 1 0, 0, 0] else r.1
    let v := if dc then ([0, 0, 0], r.2) else quadNext c y r.2
    let s := v.2
    let t := sampleTerms dc (s.rdB Reg.MeterCfg.DIR_INV (cI c)) (meterEk c s) y v.1 (s.mf c).rms
    let rtc := rtcNow s
    let s := s.setMf c fun m => { m with
      acc := accumulate m.acc t, sample := m.sample + 1, markCnt := m.markCnt + 1, lastRtc := rtc, lastTb := some s.time,
      firstEnd := if m.first.isSome ∧ m.firstEnd = none then some rtc else m.firstEnd,
      cyc := m.cyc.add ⟨1, squares y, t.ep, t.eq, t.es⟩, wave := y :: m.wave }
    if (s.mf c).closing then
      (latchRec c false true 2 .mark s).setMf c fun m => { m.dropCycle with closing := false }
    else
      let s := if dc then s else detectCross c s
      if (dc || s.rdB Reg.Cycle.NO_ZC (cI c)) && decide (160 ≤ (s.mf c).cyc.n) then cycleEnd c 160 0 s.time s else s

/-- A Lull measurement ends after its 200 ms, which are 1600 samples, with a CLOSE_CAUSE 3 record (R379, Table 10.2). -/
def lullMeasEnd (c : Ch) (s : State) : State :=
  match (s.mf c).lull with
  | some n => if n ≤ (s.mf c).sample then (mfClose c 3 mfOff s).setMf c fun m => { m with lull := none } else s
  | none => s

/-- A sample instant: a time-base count that is a multiple of 12 500 (R207). -/
def sampleInstant (s : State) : Bool := s.time % 12500 == 0 && !s.odd

/-- METER_SAMPLE: every MF, at a sample instant (R207). -/
def meterSampleEff (raw : List (List (BitVec 24))) (s : State) : State :=
  if sampleInstant s then s.eachCh fun s c => lullMeasEnd c (sampleChannel c (raw.getD c.val []) s) else s

/-- NO_ZC (R214): no crossing within 500 samples. -/
def noZcEff (c : Ch) (s : State) : State :=
  if mfState c s = mfRun ∧ mfDc c s = false ∧ s.rdB Reg.Cycle.NO_ZC (cI c) = false ∧ 500 ≤ (s.mf c).zcCnt then
    ((s.wr Reg.Cycle.NO_ZC (cI c) 0 1).wr Reg.Cycle.F_MHZ (cI c) 0 0).setMf c fun m => { m.newCycle with zcSeen := false }
  else s

/-- METER_TIMER_MARK (R220): 160 samples after the previous mark. -/
def timerMarkEff (c : Ch) (s : State) : State :=
  if mfState c s = mfRun ∧ 160 ≤ (s.mf c).markCnt then meterMark c true s else s

/-! ### Completion of records -/

/-- The slot that the record being written goes to: the one that does not hold the newest complete record (R221, R223). -/
def MfSt.writesB (m : MfSt) : Bool := m.newest.isSome && !newestIsB m

/-- The supply is lost under the records that wait: the one being written fails its REC_CRC, and the others were never begun (R224, R362). -/
def MfSt.cutOff (m : MfSt) : MfSt :=
  if m.recQ.isEmpty then m
  else if m.writesB then { m with recQ := [], slotB := none } else { m with recQ := [], slotA := none }


/-- Index of a register in a record. -/
def impT : Nat := 21
def expT : Nat := 22

/-- What a completed record completes (R225, R226, R303). -/
def recPurpose (c : Ch) (r : MRec) (s : State) : State :=
  let imp := r.regs.getD impT 0 / 2 ^ 32
  let exp := r.regs.getD expT 0 / 2 ^ 32
  match r.purpose with
  | .mark => s
  | .clear w => completeW w (.ok 0 (leBytes 4 r.seq)) s
  | .sessionStart w id =>
    let s := s.setMf c fun m => { m with sess := .opened ⟨id, r.seq, r.rtc, imp, exp, r.gap, false⟩ }
    completeW w (.ok 0 (leBytes 4 r.seq ++ [0, 0, 0, 0] ++ leBytes 8 r.rtc)) (s.wr Reg.MeterStat.SESSION_OPEN (cI c) 0 1)
  | .sessionStop w =>
    match (s.mf c).sess with
    | .stopping _ i =>
      (s.setMf c fun m => { m with sess := .none, signing := m.signing ++ [(w, i, r)] }).wr Reg.MeterStat.SESSION_OPEN (cI c) 0 0
    | _ => s

/-- A session sees a record with GAP (R226). -/
def SessSt.seeGap : SessSt → SessSt
  | .opened i => .opened { i with gap := true }
  | .stopping w i => .stopping w { i with gap := true }
  | x => x

/-- METER_COMMIT (R221): the record being written is complete in the slot that does not hold the newest. -/
def meterCommitEff (c : Ch) (s : State) : State :=
  match (s.mf c).recQ with
  | [] => s
  | r :: rest =>
    let toB := (s.mf c).writesB
    let s := s.setMf c fun m => { m with
      recQ := rest, slotA := if toB then m.slotA else some r, slotB := if toB then some r else m.slotB,
      sess := if r.gap then m.sess.seeGap else m.sess }
    let s := ((s.wr Reg.MeterStat.SEQ (cI c) 0 r.seq).wr Reg.MeterStat.LAST_MARK_TIME (cI c) 0 r.tb).wr Reg.MeterStat.LAST_MARK_RTC (cI c) 0 r.rtc
    let s := if s.rdB Reg.MeterCfg.COMMIT_EV (cI c) then s.raise 482 else s
    let s := if r.gap then (s.wr Reg.MeterStat.GAP_SEEN (cI c) 0 1).raise 483 else s
    recPurpose c r s

/-- A 10-minute boundary in one channel (R216): the 10-minute aggregate and the 150/180-cycle aggregate in progress end. In an MF that runs, the voltages of an aggregate
without members are free values (log entry 93). -/
def aggregate10Ch (c : Ch) (s : State) : State :=
    let a := (s.mf c).agg10
    let s := if 0 < a.n then
        let s := (List.range 3).foldl (fun s x => s.wr Reg.Aggr.U_10M_MV (cI c) x (rootHalfUp (a.sq.getD x 0) a.n)) s
        s.wrBit Reg.Aggr.FLAG (cI c) 0 2 a.flag
      else if mfState c s = mfRun then
        let s := (List.range 3).foldl (fun s x => (s.wr Reg.Aggr.U_10M_MV (cI c) x (s.free 32)).drew) s
        s.wrBit Reg.Aggr.FLAG (cI c) 0 2 a.flag
      else s
    close150 c (s.setMf c fun m => { m with agg10 := AggSum.zero, agg10At := some (rtcNow s) })

/-- RTC counts of ten minutes and of ten seconds (R216). -/
def rtc10Min : Nat := 600 * 32768
def rtc10Sec : Nat := 10 * 32768

/-- AGGREGATE_10MIN: every channel, once at each 10-minute boundary of the RTC (R216). -/
def aggregate10Eff (s : State) : State :=
  if rtcNow s % rtc10Min = 0 then s.eachCh fun s c => if (s.mf c).agg10At = some (rtcNow s) then s else aggregate10Ch c s else s

/-- Frequency in mHz of n whole cycles that last len samples. -/
def freqMean (n : Nat) (len : Rat) : Nat := satU 32 (rhu (8000000 * n * len.den) len.num.toNat)

/-- A 10-second boundary in one channel (R216): whole cycles divided by their total duration; in an MF that runs, a free value without a cycle (log entry 93). -/
def frequency10Ch (c : Ch) (s : State) : State :=
    let m := s.mf c
    let s := if 0 < m.f10Cycles then s.wr Reg.Aggr.F_10S_MHZ (cI c) 0 (freqMean m.f10Cycles m.f10Len)
      else if mfState c s = mfRun then (s.wr Reg.Aggr.F_10S_MHZ (cI c) 0 (s.free 32)).drew
      else s
    s.setMf c fun m => { m with f10Cycles := 0, f10Len := 0, f10At := some (rtcNow s) }

/-- FREQUENCY_10S: every channel, once at each 10-second boundary of the RTC (R216). -/
def frequency10Eff (s : State) : State :=
  if rtcNow s % rtc10Sec = 0 then s.eachCh fun s c => if (s.mf c).f10At = some (rtcNow s) then s else frequency10Ch c s else s

/-- METER_SNAP (Table 3.8, R230): the registers as of the last complete sample, with the stamp of the firing. -/
def meterSnap (c : Ch) (lag : Nat) (s : State) : State :=
  let s := (List.range 28).foldl (fun s i => s.wr Reg.Snap.REG (cI c) i ((s.mf c).acc.getD i 0 / 2 ^ 32)) s
  let s := ((s.wr Reg.Snap.LAG (cI c) 0 lag).wrB Reg.Snap.TICK_ODD (cI c) 0 s.odd).wr Reg.Snap.TIME (cI c) 0 s.time
  s.wr Reg.Snap.NEW (cI c) 0 1

/-- EN of object 0x2n00 has been written (Table 10.2). -/
def meterEnWritten (c : Ch) (was : Bool) (s : State) : State :=
  let on := s.rdB Reg.MeterCfg.EN (cI c)
  if on && !was then mfTryStart c s
  else if was && !on && decide (mfState c s = mfRun) then
    (setMfState c mfOff s).setMf c fun m => { m with closing := true }
  else if was && !on then setMfState c mfOff s
  else s

/-- The records that wait are abandoned: their sequence numbers are free again, and the interval that the first of them names falls to the next record. -/
def MfSt.abandon (m : MfSt) : MfSt :=
  match m.recQ with
  | [] => m
  | r :: _ =>
    let named := m.recQ.find? MRec.named
    { m with
      recQ := [], seq := (r.seq + 2 ^ 32 - 1) % 2 ^ 32
      first := (named.map fun x => (!x.resumed, x.ivStart)).or m.first
      firstEnd := (named.map MRec.ivEnd).or m.firstEnd }

/-- Brown-out (R223): the writes in progress are abandoned, and the closing record takes their slot and SEQ, what they name, and the METER_CLEAR that one
of them completes. -/
def mfBrownout (c : Ch) (s : State) : State :=
  if mfState c s = mfRun then
    let clear := (s.mf c).recQ.find? fun r => match r.purpose with
      | .clear _ => true
      | _ => false
    let s := latchRec c false true 1 ((clear.map MRec.purpose).getD .mark) (s.setMf c MfSt.abandon)
    (setMfState c mfClosed s).setMf c MfSt.dropCycle
  else s

/-! ### Billing -/

/-- The billing record of a session without its signature (Table 10.5). -/
def billBody (c : Ch) (no unit : Nat) (i : SessInfo) (r : MRec) : List Byte :=
  let imp := r.regs.getD impT 0 / 2 ^ 32
  let exp := r.regs.getD expT 0 / 2 ^ 32
  leBytes 1 1 ++ leBytes 1 c.val ++ leBytes 1 (i.gap.toNat + 2 * i.spanned.toNat) ++ [0] ++ leBytes 4 no ++ leBytes 8 i.id ++ leBytes 8 unit
    ++ leBytes 8 i.startRtc ++ leBytes 8 r.rtc ++ leBytes 4 i.startSeq ++ leBytes 4 r.seq ++ leBytes 8 i.startImp ++ leBytes 8 i.startExp
    ++ leBytes 8 imp ++ leBytes 8 exp ++ List.replicate 48 0

/-- Billing records stored and not acknowledged (R227). -/
def billsHeld (s : State) : Nat := s.rd Reg.Bill.NEXT_RECORD - s.rd Reg.Bill.OLDEST_UNACK

/-- BILLING_RECORD_STORED (R226, R303): the signed record is stored; the signature is a free value. While 4096 records wait for their acknowledgement none is
overwritten, and a further one stays with the signing unit (R227, log entry 119). -/
def billStoredEff (c : Ch) (s : State) : State :=
  match (s.mf c).signing with
  | [] => s
  | (w, i, r) :: rest =>
    if 4096 ≤ billsHeld s then s
    else
    let no := s.rd Reg.Bill.NEXT_RECORD
    let rec_ := billBody c no (s.rd Reg.Bill.UNIT_ID) i r ++ leBytes 64 (s.free 512)
    let s := (s.drew).setMf c fun m => { m with signing := rest }
    let s := { s with bills := ((no, rec_) :: s.bills).take 4096 }
    completeW w (.ok 0 (leBytes 4 no ++ [0, 0, 0, 0] ++ rec_)) (s.wr Reg.Bill.NEXT_RECORD 0 0 (no + 1))

/-- METER_SAMPLE. -/
def execMeterSample (raw : List (List (BitVec 24))) (s : State) : Out := fin s (meterSampleEff raw s)
/-- NO_ZC. -/
def execNoZc (c : Ch) (s : State) : Out := fin s (noZcEff c s)
/-- METER_TIMER_MARK. -/
def execMeterTimerMark (c : Ch) (s : State) : Out := fin s (timerMarkEff c s)
/-- METER_COMMIT. -/
def execMeterCommit (c : Ch) (s : State) : Out := fin s (meterCommitEff c s)
/-- AGGREGATE_10MIN. -/
def execAggregate10min (s : State) : Out := fin s (aggregate10Eff s)
/-- FREQUENCY_10S. -/
def execFrequency10s (s : State) : Out := fin s (frequency10Eff s)
/-- BILLING_RECORD_STORED. -/
def execBillingRecordStored (c : Ch) (s : State) : Out := fin s (billStoredEff c s)

end Sys2Proof.Machine
end

