-- ==== Sys2Proof/Machine/Start.lean ====
section
/-! DEFINITION. The start of a channel (13_command_reference.md R300, 00_scope.md R430, 03_angle_timebase.md Table 3.2, 07_pulse_generation.md Table 7.6) and its stop (R301). -/

namespace Sys2Proof.Machine

/-- Everything that has a commit comes into force, and no commit waits (R430). -/
def startCommits (c : Ch) (s : State) : State :=
  let s := esApply c (fwApply c s)
  let s := s.commitAll [Reg.CmpTh.TH_A, Reg.CmpTh.TH_B, Reg.CmpTh.RAMP_SLOPE] (cI c)
  let s := (List.finRange 4).foldl (fun s j => coefApply c j (progApply c j s)) s
  let s := hostApply c s
  let s := ((s.wr Reg.CeStat.PEND_COEF (cI c) 0 0).wr Reg.CeStat.PEND_PROG (cI c) 0 0).wr Reg.CeStat.PEND_HOST (cI c) 0 0
  let vals := s.rd Reg.PgSet.PERIOD (cI c) :: ((List.range 6).map fun k => s.rd Reg.PgSet.DUTY (cI c) k) ++ [s.rd Reg.PgSet.M (cI c)]
  (setNow c vals s).wr Reg.PgSet.PEND (cI c) 0 0

/-- The AT leaves STOPPED (Table 3.2): the angle is START_ANGLE, and the angle before it one count less (R60). A GRID channel goes on from the accumulator it
stopped with, at FW_NOM, until its first complete voltage set (log entry 111); an ENC channel counts Pm from 0 until an index sets it (log entry 112). -/
def startAt (c : Ch) (s : State) : State :=
  let src := atSrc c s
  let a := s.rd Reg.AtCtl.START_ANGLE (cI c)
  let nom := fwInForce c s
  let s := setAtState c (if src = 0 then atLocked else atAcquire) (s.wr Reg.AtStat.COAST (cI c) 0 0)
  s.setAt c fun x => { x with
    acc := if src = 1 then x.acc else accOf a
    accPrev := if src = 1 then x.acc else accOf (a + 2 ^ 32 - 1)
    startTick := true, fw := if src = 2 then 0 else nom, fwWait := .none, integ := 0, coastWord := nom
    turnSum := 0, turnCnt := 0, turnFull := false, turnMean := none, lossMean := none, lockCnt := 0, unlockCnt := 0, clampCnt := 0, lossCnt := 0, returnCnt := 0
    gridSeen := false, setMask := 0, pm := 0, lastEdge := none, encRate := 0, encBase := accOf a, encUp := 0, encDown := 0
    lastIllegal := none, zSeen := false, zDiff := false, quadrant := none }

/-- The CE starts with its variables, outputs and states at 0 (R125, R138); the region index takes its start value (R82). -/
def startCe (c : Ch) (s : State) : State :=
  let s := ceStoreVars c [] s
  let s := s.setCh c fun x => { x with ce := { x.ce with states := [], freshPend := 0, clearPend := 0 }, disarmed := [] }
  let s := (s.wr Reg.Batt.IX (cI c) 0 0).wr Reg.Batt.IY (cI c) 0 0
  let f := s.rd Reg.BattCtl.REGION_FORCE (cI c)
  let r := if f ≤ 15 then f else 0
  (s.wr Reg.Batt.REGION (cI c) 0 r).setCh c fun x => { x with regionTick := r }

/-- Every window opens (R108): an output that this lets through acts as an assertion, once the cuts have been cleared (R156). -/
def startWindows (c : Ch) (s : State) : State :=
  allCmp.foldl (fun s j => cmpChange c j (fun s => s.wrBit Reg.CmpStat.WIN_OPEN (cI c) 0 j.val true) s) s

/-- The PG enters RUNNING (Table 7.6, R160): cuts cleared, pairs at the start position. -/
def startPg (c : Ch) (s : State) : State :=
  let now := s.now
  let s := pgQuiet c s
  let s := (s.wr Reg.PgStat.STATE (cI c) 0 pgRunning).wr Reg.PgStat.CUT_NOW (cI c) 0 0
  let s := s.wr Reg.PgStat.PAT_NOW (cI c) 0 (activePairMask c s)
  let ang := angleCarrier c s
  let x := if ang then (s.ch c).angle else 0
  let s := s.setPg c fun p => { p with
    periodStart := now, periodEnd := now + s.rd Reg.PgStat.PERIOD_NOW (cI c), psTick := x == 0, cutTick := false,
    prs := Vector.replicate 6 ⟨false, false, 0⟩ }
  let s := s.setCh c fun x => { x with grid := { x.grid with ran := true } }
  let s := allPair.foldl (fun s k => if patMode c k s then startPattern c k s else carrierFire c k x now s) s
  if x = 0 then newPeriod c 0 now 0 s else s

/-- Sources asserted in the start tick, after the cuts have been cleared, cut as new assertions (R156). -/
def startCuts (c : Ch) (s : State) : State :=
  let s := (List.range 4).foldl (fun s f => fltCut c f s) s
  allCmp.foldl (fun s j => cmpCut c j s) s

/-- The channel starts in this tick. -/
def channelGo (c : Ch) (late : Bool) (s : State) : State :=
  let s := startAt c (startCommits c s)
  let s := if late then s.wr Reg.AtStat.START_LATE (cI c) 0 1 else s
  let s := { s with pair := { s.pair with chs := s.pair.chs.set c { s.pair.chs[c] with wrapNo := 0, hashes := [], bad := false } } }
  let s := thrEvalAll c (startPg c (startCe c s))
  gdiStart c (startCuts c (startWindows c s))

/-- A start command that has passed its checks: at once, or at START_TIME (R300). -/
def startAccepted (c : Ch) (w : Waiter) (s : State) : State :=
  let t := s.rd Reg.AtCtl.START_TIME (cI c)
  if t ≠ 0 ∧ s.time ≤ t then s.setCh c fun x => { x with startWait := some w }
  else
    let s := channelGo c (decide (t ≠ 0)) (s.setCh c fun x => { x with startWait := none })
    completeW w (.ok 0 (leBytes 8 s.time ++ leBytes 1 (s.rd Reg.AtStat.START_LATE (cI c)) ++ [0, 0, 0])) (settle c s)

/-- The checks of a start (Table 13.4), then its start or its refusal. -/
def startTry (c : Ch) (w : Waiter) (s : State) : State :=
  match startDenied c false s with
  | none => startAccepted c w s
  | some d => completeW w d s

/-- CH_START (R300): every start that finds a periodic start test running waits for it. -/
def startCommand (c : Ch) (w : Waiter) (s : State) : State :=
  if (s.sc c).afterTest then s.setCh c fun x => { x with testWait := x.testWait ++ [w] } else startTry c w s

/-- CHANNEL_START: the start tick of a waiting CH_START, with its checks again (R300). A start without a mailbox, as of the grid functions (R195), is ordered to the
standby in its tick. -/
def channelStartEff (c : Ch) (s : State) : State :=
  match (s.ch c).startWait with
  | some w =>
    let t := s.rd Reg.AtCtl.START_TIME (cI c)
    if s.time < t then s
    else
      let d := startDenied c true s
      let s := s.setCh c fun x => { x with startWait := none }
      match d with
      | none =>
        let s := channelGo c (decide (t < s.time)) s
        let s := if w.key = none then sendOrder c true s else s
        completeW w (.ok 0 (leBytes 8 s.time ++ leBytes 1 (s.rd Reg.AtStat.START_LATE (cI c)) ++ [0, 0, 0])) (settle c s)
      | some d => completeW w d s
  | none => s

/-- ENABLE_SETTLE_END (R166) also ends the wait of every start for a periodic start test (R250, R300). -/
def settleEndEff (c : Ch) (s : State) : State :=
  let s := enableSettleEff c s
  if (s.sc c).afterTest && (s.pg c).settled then
    let ws := (s.ch c).testWait
    let s := (s.setSc c fun x => { x with afterTest := false }).setCh c fun x => { x with testWait := [] }
    ws.foldl (fun s w => startTry c w s) s
  else s

/-- CH_STOP (R301): Squall request with cause 1; a STOPPED channel gives DETAIL 1 at once. -/
def stopCommand (c : Ch) (w : Waiter) (s : State) : State :=
  if s.rd Reg.PgStat.STATE (cI c) = pgStopped then completeW w (.ok 1) s
  else settle c (squallRequest c 1 (s.setCh c fun x => { x with stopWait := x.stopWait ++ [w] }))

/-- CHANNEL_START. -/
def execChannelStart (c : Ch) (s : State) : Out := fin s (channelStartEff c s)
/-- ENABLE_SETTLE_END. -/
def execEnableSettleEnd (c : Ch) (s : State) : Out := fin s (settleEndEff c s)

end Sys2Proof.Machine
end

