-- ==== Sys2Proof/Machine/Grid.lean ====
section
/-! DEFINITION. Grid functions and maximum-power-point tracking (09_grid_functions.md R184-R203). -/

namespace Sys2Proof.Machine

/-- Grid functions of a channel. -/
def State.grid (s : State) (c : Ch) : GridSt := (s.ch c).grid

/-- Change the grid functions of a channel. -/
def State.setGrid (s : State) (c : Ch) (f : GridSt → GridSt) : State := s.setCh c fun x => { x with grid := f x.grid }

/-- Grid states (Table 9.8). -/
def gsOff : Nat := 0
def gsWait : Nat := 1
def gsRamp : Nat := 2
def gsRun : Nat := 3
def gsSupport : Nat := 4
def gsCease : Nat := 5

/-- Grid state of a channel. -/
def gridState (c : Ch) (s : State) : Nat := s.rd Reg.GridStat.STATE (cI c)

/-- Enter a grid state. -/
def setGridState (c : Ch) (v : Nat) (s : State) : State := s.wr Reg.GridStat.STATE (cI c) 0 v

/-- EN of object 0x1nC0. -/
def gridOn (c : Ch) (s : State) : Bool := s.rdB Reg.GridCfg.EN (cI c)

/-- Members of a channel's GROUP on which the grid functions run (R193, R195, log entry 28). -/
def gridMembers (c : Ch) (s : State) : List Ch :=
  allCh.filter fun x => bit (s.rd Reg.GridCfg.GROUP (cI c)) x.val && gridOn x s

/-- Crown firmware runs. -/
def crownUp (s : State) : Bool := s.crown.run == .running

/-- Crown firmware coordinates the channel: it runs, and the channel is not in its Crown loss hold (R16, R17, R197). -/
def crownLeads (c : Ch) (s : State) : Bool := crownUp s && !(s.ch c).hold

/-- One millisecond in counts of the time base (R185). -/
def msCounts : Nat := 100000

/-! ### Measured quantities -/

/-- A ratio in Q2.14, saturating; for a zero divisor the spec states no value: a free value. -/
def perUnit (num den : Nat) (s : State) : Nat × State :=
  if den = 0 then (s.free 16, s.drew) else (satU 16 (rhu (num * 2 ^ 14) den), s)

/-- U_LOW and U_HIGH (R186, R187). -/
def gridVoltages (c : Ch) (s : State) : (Nat × Nat) × State :=
  let pos := perUnit (s.ch c).at_.amp (s.rd Reg.GridCfg.AMP_1PU (cI c) * 2 ^ 15) s
  let s := pos.2
  let upp := (List.range 3).map fun k => s.rd Reg.Cycle.U_PP_MV (cI c) k
  let vnom := s.rd Reg.GridCfg.VNOM_MV (cI c)
  let lo := perUnit (minL (upp.getD 0 0) upp) vnom s
  let s := lo.2
  let hi := perUnit (maxL 0 upp) vnom s
  let s := hi.2
  let umin := if s.rdB Reg.Cycle.NO_ZC (cI c) then 0 else lo.1
  ((min pos.1 umin, max pos.1 hi.1), s)

/-- ROCOF of the newest cycle, in mHz/s (R187), once W cycles lie before it. -/
def rocofOf (w : Nat) (cycles : List (Nat × Rat)) : Option Rat :=
  match cycles.head?, cycles[w]? with
  | some k, some j =>
    let len := ((cycles.take w).map Prod.snd).sum
    if len.num ≤ 0 then none else some (((k.1 : Int) - (j.1 : Int) : Int) * 8000 / len)
  | _, _ => none

/-- The newest cycle shifts by more than VS_LIM, in 0.01° (R187, R192). -/
def vsExceeds (lim : Nat) (cycles : List (Nat × Rat)) : Bool :=
  match cycles with
  | k :: j :: _ => decide (0 < lim) && decide ((lim : Rat) * j.2 < 36000 * |k.2 - j.2|)
  | _ => false

/-- What the cycles of one evaluation say (R187, R192): vector shift seen, a run of ROCOF_N cycles completed, newest ROCOF. -/
structure CycleJudge where
  g : GridSt
  vs : Bool
  run : Bool
  rocof : Option Rat
deriving DecidableEq, Repr

/-- Take one cycle: a cycle without zero crossings gives no frequency to judge, and ends the run of cycles (R187). A run of `n` cycles counts although it may
have ended since: the cycles of a pause are judged at the first evaluation after it (R197). -/
def takeCycle (w lim n vsLim : Nat) (j : CycleJudge) (r : CycleRec) : CycleJudge :=
  if r.noZc || r.f == 0 then { j with g := { j.g with cycles := [] } }
  else
    let cs := ((r.f, r.len) :: j.g.cycles).take 51
    let ro := rocofOf w cs
    let big := match ro with
      | some x => decide (0 < lim) && decide ((lim : Rat) < |x|)
      | none => false
    ⟨{ j.g with cycles := cs, rocofCnt := if big then j.g.rocofCnt + 1 else 0 }, j.vs || vsExceeds vsLim cs,
      j.run || (big && j.g.rocofCnt + 1 == n), ro.orElse fun _ => j.rocof⟩

/-! ### Timers -/

/-- A timer: it starts at 0 at the evaluation at which its condition begins to hold, and advances by the time elapsed (R192). -/
def runTimer (dt : Nat) (cond : Bool) (t : Option Nat) : Option Nat :=
  if cond then some ((t.map (· + dt)).getD 0) else none

/-- A timer has run a time in ms. -/
def timerDone (t : Option Nat) (ms : Nat) : Bool :=
  match t with
  | some x => decide (ms * msCounts ≤ x)
  | none => false

/-- The voltage elements' conditions: OV2, OV1, UV1, UV2 (R192). -/
def vCond (c : Ch) (lo hi : Nat) (s : State) (e : Nat) : Bool :=
  let l := s.rd Reg.GridVf.V_LEVEL (cI c) e
  if e < 2 then decide (l < hi) else decide (lo < l)

/-- The frequency elements' conditions: OF2, OF1, UF1, UF2 (R192). -/
def fCond (c : Ch) (f : Nat) (s : State) (e : Nat) : Bool :=
  let l := s.rd Reg.GridVf.F_LEVEL (cI c) e
  if e < 2 then decide (l < f) else decide (f < l)

/-- F_NOM in mHz. -/
def fNom (c : Ch) (s : State) : Nat := if s.rdB Reg.GridCfg.F_NOM (cI c) then 60000 else 50000

/-- |F − F_NOM| > ISL_DF (R192). -/
def islCond (c : Ch) (f : Nat) (s : State) : Bool :=
  let df := s.rd Reg.GridIsl.ISL_DF (cI c)
  decide (0 < df) && decide (df < ((f : Int) - (fNom c s : Int)).natAbs)

/-- Elements that stand expired after the timers have advanced, as a mask in the order of Table 9.8 (R192). -/
def standing (c : Ch) (g : GridSt) (vs : Bool) (s : State) : Nat :=
  let on (b : Bool) (k m : Nat) : Nat := setBit m k b
  let m := (List.range 4).foldl (fun m e =>
    let t := s.rd Reg.GridVf.V_TIME_MS (cI c) e
    on (decide (t ≠ 0) && timerDone (g.vTimers.getD e none) t) e m) 0
  let m := (List.range 4).foldl (fun m e =>
    let t := s.rd Reg.GridVf.F_TIME_MS (cI c) e
    on (decide (t ≠ 0) && timerDone (g.fTimers.getD e none) t) (4 + e) m) m
  let m := on (decide (0 < s.rd Reg.GridIsl.ROCOF_LIM (cI c)) && decide (s.rd Reg.GridIsl.ROCOF_N (cI c) ≤ g.rocofCnt)) 8 m
  let m := on vs 9 m
  on (decide (0 < s.rd Reg.GridIsl.ISL_DF (cI c)) && timerDone g.islTimer (s.rd Reg.GridIsl.ISL_T (cI c))) 10 m

/-- The reconnection conditions (R194). A STOPPED AT cannot be LOCKED and is not asked to be: Table 9.2 has them hold with the PG STOPPED (log entry 23). -/
def reconCond (c : Ch) (lo hi f : Nat) (s : State) : Bool :=
  let a := s.rd Reg.AtStat.STATE (cI c)
  decide (s.rd Reg.GridIsl.RECON_VMIN (cI c) ≤ lo) && decide (hi ≤ s.rd Reg.GridIsl.RECON_VMAX (cI c))
    && decide (s.rd Reg.GridIsl.RECON_FMIN (cI c) ≤ f) && decide (f ≤ s.rd Reg.GridIsl.RECON_FMAX (cI c))
    && !s.rdB Reg.Cycle.NO_ZC (cI c) && (a == atLocked || a == 0)

/-- The reconnection timer has run out (R194, R195). -/
def reconDone (c : Ch) (s : State) : Bool := timerDone (s.grid c).reconTimer (1000 * s.rd Reg.GridIsl.RECON_S (cI c))

/-- RECON_LEFT_S: the time still to run, in whole seconds, rounded half up (R8, R194). -/
def reconLeft (c : Ch) (s : State) : Nat :=
  let all := 1000 * msCounts * s.rd Reg.GridIsl.RECON_S (cI c)
  (all - (s.grid c).reconTimer.getD 0 + 500 * msCounts) / (1000 * msCounts)

/-! ### Currents -/

/-- Nearest root of a whole number, half up; 0 below 0. -/
def rootNear (x : Int) : Int := rootHalfUp x.toNat 1

/-- Limit of one current beside the other: sqrt(IM² − i²). -/
def otherLimit (im i : Int) : Int := rootNear (im * im - i * i)

/-- Apply a sign bit. -/
def signed (neg : Bool) (x : Int) : Int := if neg then -x else x

/-- The rate limit of R190. -/
def rateLimit (rate prev x : Int) : Int :=
  if x.natAbs ≤ prev.natAbs then x else clampI (-(prev.natAbs + rate)) (prev.natAbs + rate) x

/-- The current commands of an evaluation (R189), positive for power delivered and for over-excited current; products are rounded once (log entry 25). -/
def currents (c : Ch) (lo hi f : Nat) (s : State) : Int × Int :=
  let n := cI c
  let st := gridState c s
  let ir : Int := s.rd Reg.GridCfg.I_RATED n * 2 ^ 15
  let im : Int := s.rd Reg.GridCfg.I_MAX n * 2 ^ 15
  let idReq := signed (s.rdB Reg.GridCfg.ID_SIGN n) (s.rdS Reg.GridReq.ID_REQ n)
  let iqReq := signed (s.rdB Reg.GridCfg.IQ_SIGN n) (s.rdS Reg.GridReq.IQ_REQ n)
  let prev := signed (s.rdB Reg.GridCfg.ID_SIGN n) (s.rdS Reg.GridStat.ID_CMD n)
  let k : Int := s.rd Reg.GridVf.K_RCI n
  let t : Int × Int :=
    if st = gsOff ∨ st = gsWait ∨ st = gsCease then (0, 0)
    else if st = gsSupport then
      let iq := if lo < s.rd Reg.GridVf.SUP_LOW n then iqReq + rhu (k * (2 ^ 14 - (lo : Int)) * ir) (2 ^ 26)
        else iqReq - rhu (k * ((hi : Int) - 2 ^ 14) * ir) (2 ^ 26)
      let iq := clampI (-im) im iq
      (clampI (-(otherLimit im iq)) (otherLimit im iq) idReq, iq)
    else
      let f1 := s.rd Reg.GridVf.FD_F1 n
      let d := fNom c s * s.rd Reg.GridVf.FD_S n
      let idT := if f1 < f ∧ 0 < idReq then
          min idReq (rhu ((s.grid c).idF1.getD 0 * ((d : Int) - 1000 * ((f : Int) - (f1 : Int)))) d)
        else idReq
      let ramp := rhu (im * ((s.grid c).rampT : Int)) (1000 * msCounts * s.rd Reg.GridIsl.RAMP_S n)
      let idT := if st = gsRamp then clampI (-ramp) ramp idT else idT
      let idT := clampI (-im) im idT
      let lim := rhu ((s.rd Reg.GridIsl.AFD_MAX n : Int) * ir) (2 ^ 16)
      let afd := if s.rdB Reg.GridIsl.AFD_EN n then
          clampI (-lim) lim (rhu (s.rdS Reg.GridIsl.AFD_K n * ((f : Int) - (fNom c s : Int)) * ir) 4096000)
        else 0
      (idT, clampI (-(otherLimit im idT)) (otherLimit im idT) (iqReq + afd))
  (rateLimit (rhu ((s.rd Reg.GridVf.RECOV_RATE n : Int) * ir) 256000) prev t.1, t.2)

/-- Write the currents to H_ID and H_IQ and commit the host inputs (R185, R189); a channel in its Crown loss hold keeps its last ones (R197). -/
def writeCurrents (c : Ch) (id iq : Int) (s : State) : State :=
  if (s.ch c).hold then s else
  let n := cI c
  let id := sat32 (signed (s.rdB Reg.GridCfg.ID_SIGN n) id)
  let iq := sat32 (signed (s.rdB Reg.GridCfg.IQ_SIGN n) iq)
  let s := (s.wrS Reg.GridStat.ID_CMD n 0 id).wrS Reg.GridStat.IQ_CMD n 0 iq
  let s := s.wrS Reg.CeCtl.H n (s.rd Reg.GridCfg.H_ID n) id
  commitHostEff c (s.wrS Reg.CeCtl.H n (s.rd Reg.GridCfg.H_IQ n) iq)

/-- The droop's reference: the current in force when F first exceeded FD_F1, kept until F falls back (R189). -/
def droopRef (c : Ch) (f : Nat) (s : State) : State :=
  if s.rd Reg.GridVf.FD_F1 (cI c) < f then
    let now := signed (s.rdB Reg.GridCfg.ID_SIGN (cI c)) (s.rdS Reg.GridStat.ID_CMD (cI c))
    s.setGrid c fun g => { g with idF1 := some (g.idF1.getD now) }
  else s.setGrid c fun g => { g with idF1 := none }

/-! ### State machine -/

/-- Enter RAMP: the limit starts at 0 (Table 9.2). -/
def enterRamp (c : Ch) (s : State) : State :=
  let s := (setGridState c gsRamp s).wr Reg.GridStat.READY (cI c) 0 0
  s.setGrid c fun g => { g with rampT := 0, ran := pgIsRunning c s, asked := false, due := false, told := false }

/-- Enter WAIT with a cause: currents 0, reconnection timer from 0 (Table 9.2, R193). -/
def enterWait (c : Ch) (cause : Nat) (s : State) : State :=
  let s := ((setGridState c gsWait s).wr Reg.GridStat.TRIP_CAUSE (cI c) 0 cause).wr Reg.GridStat.READY (cI c) 0 0
  writeCurrents c 0 0 (s.setGrid c fun g => { g with reconTimer := none, due := false, told := false })

/-- A reconnection of a group is refused (R195): members that were started stop, a start still to come is withdrawn, every member stays in WAIT with its timer anew. -/
def reconFail (ms : List Ch) (s : State) : State :=
  ms.foldl (fun s x =>
    let s := if gridState x s = gsRamp then enterWait x (s.rd Reg.GridStat.TRIP_CAUSE (cI x)) s else s
    (s.count Reg.GridStat.RECON_FAIL_CNT (cI x)).setGrid x fun g => { g with reconTimer := none, due := false, told := false }) s

/-- Stop the members that a refused reconnection had started (R195). -/
def unstart (started : List Ch) (s : State) : State :=
  started.foldl (fun s x =>
    if (s.ch x).startWait.isSome then s.setCh x fun y => { y with startWait := none }
    else sendOrder x false (settle x (squallRequest x 1 s))) s

/-- One evaluation of Table 9.2, but for trips and reconnections, which have rows of their own. A start that waits for START_TIME has not left RUNNING; one that is
refused in its start tick is a refused reconnection (R195, R300). -/
def gridNext (c : Ch) (lo hi : Nat) (s : State) : State :=
  let n := cI c
  let st := gridState c s
  let cease := decide (lo < s.rd Reg.GridVf.CEASE_LOW n) || decide (s.rd Reg.GridVf.CEASE_HIGH n < hi)
    || s.rd Reg.AtStat.STATE n != atLocked
  let sup := decide (lo < s.rd Reg.GridVf.SUP_LOW n) || decide (s.rd Reg.GridVf.SUP_HIGH n < hi)
  if (s.grid c).expired ≠ 0 ∨ st = gsOff then s
  else if st = gsWait then
    let ready := reconDone c s && s.rd Reg.PgStat.STATE n == pgStopped
      && (!s.rdB Reg.GridCfg.AUTO_RECON n || s.rd Reg.GridStat.TRIP_CAUSE n == 13)
    (s.wrB Reg.GridStat.READY n 0 ready).setGrid c fun g => { g with asked := false, due := reconDone c s, told := ready && (g.asked || g.told) }
  else if !pgIsRunning c s && (s.grid c).ran then enterWait c 13 s
  else if !pgIsRunning c s && (s.ch c).startWait.isNone then
    let ms := gridMembers c s
    reconFail ms (unstart (ms.filter fun x => gridState x s == gsRamp && (pgIsRunning x s || (s.ch x).startWait.isSome)) s)
  else if cease then setGridState c gsCease s
  else if sup then setGridState c gsSupport s
  else if st = gsRamp then
    (if 1000 * msCounts * s.rd Reg.GridIsl.RAMP_S n ≤ (s.grid c).rampT then setGridState c gsRun s else s)
  else setGridState c gsRun s

/-- Advance the timers of an evaluation and note the elements that expire in it (R187, R192, log entry 30). -/
def gridTimers (c : Ch) (dt lo hi f : Nat) (s : State) : State :=
  let n := cI c
  let m := s.mf c
  let j := m.fifo.foldl (takeCycle (s.rd Reg.GridIsl.ROCOF_WIN n) (s.rd Reg.GridIsl.ROCOF_LIM n) (s.rd Reg.GridIsl.ROCOF_N n) (s.rd Reg.GridIsl.VS_LIM n)) ⟨s.grid c, false, false, none⟩
  let hold := s.rdB Reg.Cycle.NO_ZC n
  let g := j.g
  let g := { g with
    vTimers := (List.range 4).map fun e => runTimer dt (vCond c lo hi s e) (g.vTimers.getD e none)
    fTimers := if hold then g.fTimers else (List.range 4).map fun e => runTimer dt (fCond c f s e) (g.fTimers.getD e none)
    islTimer := if hold then g.islTimer else runTimer dt (islCond c f s) g.islTimer
    reconTimer := if gridState c s = gsWait then runTimer dt (reconCond c lo hi f s) g.reconTimer else none
    rampT := if gridState c s = gsRamp then g.rampT + dt else g.rampT
    lastEval := some s.time }
  let st := standing c g j.vs s
  let g := { g with expired := setBit (g.expired ||| (st ^^^ (st &&& g.done))) 8 (bit g.expired 8 || bit st 8 && !bit g.done 8 || j.run), done := setBit st 9 false }
  let s := match j.rocof with
    | some x => s.wrS Reg.GridStat.ROCOF n 0 (sat32 (ratRound x))
    | none => s
  (s.setGrid c fun _ => g).setMf c fun m => { m with fifo := [] }

/-- Evaluate one channel (R185-R190). -/
def gridChannel (c : Ch) (s : State) : State :=
  if !gridOn c s then s.setMf c fun m => { m with fifo := [] }
  else
    let n := cI c
    let u := gridVoltages c s
    let s := u.2
    let f := s.rd Reg.Cycle.F_MHZ n
    let s := ((s.wr Reg.GridStat.U_LOW n 0 u.1.1).wr Reg.GridStat.U_HIGH n 0 u.1.2).wr Reg.GridStat.F_MEAS n 0 f
    let dt := match (s.grid c).lastEval with
      | some t => s.time - t
      | none => 0
    let s := gridNext c u.1.1 u.1.2 (gridTimers c dt u.1.1 u.1.2 f s)
    let s := s.wr Reg.GridStat.RECON_LEFT_S n 0 (if gridState c s = gsWait then reconLeft c s else 0)
    let s := droopRef c f s
    let i := currents c u.1.1 u.1.2 f s
    writeCurrents c i.1 i.2 s

/-! ### MPPT -/

/-- MPPT of a channel. -/
def State.mppt (s : State) (c : Ch) : MpptSt := (s.ch c).mppt
/-- Change the MPPT of a channel. -/
def State.setMppt (s : State) (c : Ch) (f : MpptSt → MpptSt) : State := s.setCh c fun x => { x with mppt := f x.mppt }

/-- MPPT states (Table 9.10). -/
def mpOff : Nat := 0
def mpTrack : Nat := 1
def mpSweep : Nat := 2
def mpCurtail : Nat := 3
def mpHold : Nat := 4

/-- MPPT state of a channel. -/
def mpptState (c : Ch) (s : State) : Nat := s.rd Reg.MpptStat.STATE (cI c)
/-- Enter an MPPT state. -/
def setMpptState (c : Ch) (v : Nat) (s : State) : State := s.wr Reg.MpptStat.STATE (cI c) 0 v

/-- Net energy of a channel, import minus export, in 2^-32 µWh (R201). -/
def netEnergy (c : Ch) (s : State) : Int :=
  ((s.mf c).acc.getD impT 0 : Int) - ((s.mf c).acc.getD expT 0 : Int)

/-- Power in W of a net energy gained over a time in ms (R201). -/
def mpptPower (e : Int) (ms : Nat) : Nat := satU 32 (rhu ((sgn 96 (enc 96 e)).natAbs * 18) (5 * 2 ^ 32 * max ms 1))

/-- Put a reference in force: held between VMIN and VMAX, written to H_VREF and committed (R201). -/
def setVref (c : Ch) (v : Int) (s : State) : State :=
  let n := cI c
  let v := clampI (s.rdS Reg.MpptCfg.VMIN n) (s.rdS Reg.MpptCfg.VMAX n) v
  let s := s.wrS Reg.MpptStat.VREF n 0 v
  commitHostEff c (s.wrS Reg.CeCtl.H n (s.rd Reg.MpptCfg.H_VREF n) v)

/-- A channel of FREEZE_MASK rides through (R203). -/
def mpptFrozen (c : Ch) (s : State) : Bool :=
  allCh.any fun x => bit (s.rd Reg.MpptCfg.FREEZE_MASK (cI c)) x.val && gridOn x s
    && gridState x s != gsRamp && gridState x s != gsRun

/-- MPPT is in TRACK: a sweep that has fallen due starts (R202). -/
def sweepStart (c : Ch) (s : State) : State :=
  let n := cI c
  if (s.mppt c).due && mpptState c s == mpTrack then
    if s.rd Reg.MpptCfg.SWEEP_MIN n = 0 then s.setMppt c fun m => { m with due := false }
    else
      let v := s.rdS Reg.MpptStat.VREF n
      let e := netEnergy c s
      let s := s.setMppt c fun m => { m with before := v, sweepStep := 0, best := none, energy := e, due := false }
      setVref c (s.rdS Reg.MpptCfg.VMAX n) (setMpptState c mpSweep s)
  else s

/-- Enter and leave HOLD (R203): Crown firmware does it in the millisecond in which it sees the grid state. -/
def mpptHoldCheck (c : Ch) (s : State) : State :=
  if !crownLeads c s || !s.rdB Reg.MpptCfg.EN (cI c) then s
  else if mpptFrozen c s then
    if mpptState c s = mpHold then s
    else
      let s := if mpptState c s = mpSweep then setVref c (s.mppt c).before s else s
      setMpptState c mpHold s
  else if mpptState c s = mpHold then
    sweepStart c ((setMpptState c mpTrack s).setMppt c fun m => { m with pPrev := none })
  else s

/-- Every MPPT sees the grid states (R203). -/
def mpptHoldAll (s : State) : State := s.eachCh fun s c => mpptHoldCheck c s

/-- Where a step of MPPT goes (R201): state, direction upwards, and the move in steps of DV. -/
def mpptMove (c : Ch) (p : Nat) (s : State) : Nat × Bool × Int :=
  let m := s.mppt c
  let st := mpptState c s
  if s.rd Reg.MpptCfg.P_LIMIT (cI c) < p then (mpCurtail, m.up, 1)
  else if st = mpCurtail then
    (if p ≤ m.pPrev.getD p then (mpTrack, false, -1) else (mpCurtail, m.up, -1))
  else
    let flip := match m.pPrev with
      | some q => decide ((((p : Int) - (q : Int)) * 65536) ≤ (s.rd Reg.MpptCfg.DP_DEAD (cI c) : Int) * (q : Int))
      | none => false
    let up := if flip then !m.up else m.up
    (mpTrack, up, if up then 1 else -1)

/-- MPPT_STEP (R201): Crown firmware alone moves the reference (R16). -/
def mpptStepEff (c : Ch) (s : State) : State :=
  if !crownLeads c s then s else
  let s := mpptHoldCheck c s
  let st := mpptState c s
  if st = mpOff ∨ st = mpSweep then s
  else
    let n := cI c
    let e := netEnergy c s
    let p := mpptPower (e - (s.mppt c).energy) (s.rd Reg.MpptCfg.STEP_MS n)
    let s := s.wr Reg.MpptStat.P_LAST n 0 p
    if st = mpHold then s.setMppt c fun m => { m with energy := e, pPrev := some p }
    else
      let r := mpptMove c p s
      let s := setMpptState c r.1 (s.setMppt c fun m => { m with energy := e, pPrev := some p, up := r.2.1 })
      sweepStart c (setVref c (s.rdS Reg.MpptStat.VREF n + r.2.2 * s.rdS Reg.MpptCfg.DV n) s)

/-- MPPT_SWEEP (R202): a sweep falls due; it starts in TRACK, and otherwise waits until TRACK. -/
def mpptSweepEff (c : Ch) (s : State) : State :=
  let st := mpptState c s
  if s.rd Reg.MpptCfg.SWEEP_MIN (cI c) = 0 ∨ st = mpOff ∨ st = mpSweep then s
  else
    let s := s.setMppt c fun m => { m with due := true }
    if crownLeads c s then sweepStart c (mpptHoldCheck c s) else s

/-- Reference of sweep step k of N, from VMAX down to VMIN (R202, log entry 26). -/
def sweepRef (c : Ch) (k : Nat) (s : State) : Int :=
  let hi := s.rdS Reg.MpptCfg.VMAX (cI c)
  hi - rhu ((hi - s.rdS Reg.MpptCfg.VMIN (cI c)) * (k : Int)) (max 1 (s.rd Reg.MpptCfg.SWEEP_N (cI c) - 1))

/-- SWEEP_DWELL_END (R202); a port that must be frozen meanwhile abandons its sweep instead (R203). -/
def sweepDwellEff (c : Ch) (s : State) : State :=
  if !crownLeads c s then s else
  let n := cI c
  let s := mpptHoldCheck c s
  if mpptState c s = mpSweep then
    let e := netEnergy c s
    let m := s.mppt c
    let p := mpptPower (e - m.energy) (s.rd Reg.MpptCfg.SWEEP_MS n)
    let v := s.rdS Reg.MpptStat.VREF n
    let best : Nat × Int := match m.best with
      | some b => if b.1 < p then (p, v) else b
      | none => (p, v)
    let k := m.sweepStep + 1
    let s := (s.setMppt c fun m => { m with energy := e, best := some best, sweepStep := k }).wr Reg.MpptStat.P_LAST n 0 p
    if k < s.rd Reg.MpptCfg.SWEEP_N n then setVref c (sweepRef c k s) s
    else
      let s := (s.wrS Reg.MpptStat.V_BEST n 0 best.2).countMod Reg.MpptStat.SWEEP_CNT n
      let s := (setMpptState c mpTrack s).setMppt c fun m => { m with pPrev := none }
      setVref c best.2 s
  else s

/-- EN of object 0x1nC8 has been written (R201): tracking starts downwards from the reference that stands in H_VREF. -/
def mpptEnWritten (c : Ch) (was : Bool) (s : State) : State :=
  let n := cI c
  let on := s.rdB Reg.MpptCfg.EN n
  if on && !was then
    let s := setMpptState c mpTrack (s.setMppt c fun _ => ⟨false, none, netEnergy c s, 0, none, 0, false⟩)
    mpptHoldCheck c (setVref c (s.rdS Reg.CeCtl.H n (s.rd Reg.MpptCfg.H_VREF n)) s)
  else if was && !on then setMpptState c mpOff s
  else s

/-! ### Evaluation, trips and reconnection -/

/-- GRID_EVALUATION (R185): of every channel that Crown firmware coordinates (R197). -/
def gridEvalEff (s : State) : State :=
  mpptHoldAll (s.eachCh fun s c => if crownLeads c s then settle c (gridChannel c s) else s)

/-- TRIP_CAUSE of the lowest element in a mask (Table 9.8). -/
def lowestCause (m : Nat) : Nat := (((List.range 11).find? fun k => bit m k).map (· + 1)).getD 12

/-- Position of an element in the masks. -/
def elemIx : Elem → Nat
  | .ov2 => 0 | .ov1 => 1 | .uv1 => 2 | .uv2 => 3 | .of2 => 4 | .of1 => 5 | .uf1 => 6 | .uf2 => 7
  | .rocof => 8 | .vshift => 9 | .active => 10

/-- GRID_TRIP (R193): Crown firmware stops the group (R16, R197); on a standby only the states follow (R198). -/
def gridTripEff (c : Ch) (e : Elem) (s : State) : State :=
  if crownLeads c s && gridOn c s && bit (s.grid c).expired (elemIx e) then
    let grp := s.rd Reg.GridCfg.GROUP (cI c)
    let s := s.eachCh fun s x =>
      if bit grp x.val && pgIsRunning x s && !isStandby s then sendOrder x false (settle x (squallRequest x 1 s)) else s
    mpptHoldAll <| (gridMembers c s).foldl (fun s x =>
      let cause := if x = c then elemIx e + 1 else lowestCause (s.grid x).expired
      let s := enterWait x cause s
      let s := ((s.wr Reg.GridStat.TRIP_TIME (cI x) 0 s.time).count Reg.GridStat.TRIP_CNT (cI x)).setGrid x fun g => { g with expired := 0 }
      settle x s) s
  else s

/-- A member starts as on a channel start command, without a mailbox to answer; the answer is whether it was refused. -/
def memberStart (c : Ch) (s : State) : Bool × State :=
  if startCheck c false s = 0 then
    let t := s.rd Reg.AtCtl.START_TIME (cI c)
    if t ≠ 0 ∧ s.time ≤ t then (false, s.setCh c fun x => { x with startWait := some ⟨0, none⟩ })
    else (false, sendOrder c true (settle c (channelGo c (decide (t ≠ 0)) s)))
  else (true, s)

/-- Start every member whose PG is stopped; the list names those that started. -/
def startMembers : List Ch → State → Bool × List Ch × State
  | [], s => (false, [], s)
  | c :: cs, s =>
    let r := memberStart c s
    let q := startMembers cs r.2
    (r.1 || q.1, if r.1 then q.2.1 else c :: q.2.1, q.2.2)

/-- The group of a channel reconnects (R195): the last evaluation found all members waiting with their timers run out, and found RECONNECT written where
automatic reconnection is not to be (Table 9.2, R196). -/
def reconnectGroup (c : Ch) (s : State) : State :=
  let ms := gridMembers c s
  let stopped := ms.filter fun x => s.rd Reg.PgStat.STATE (cI x) == pgStopped
  let due := gridOn c s && ms.all fun x => gridState x s == gsWait && (s.grid x).due && (s.grid x).expired == 0
    && s.rd Reg.PgStat.STATE (cI x) != pgHalted
  let may := ms.any (fun x => (s.grid x).told) || stopped.all fun x => s.rdB Reg.GridCfg.AUTO_RECON (cI x) && s.rd Reg.GridStat.TRIP_CAUSE (cI x) != 13
  if !due || !may || (isStandby s && !stopped.isEmpty) || !(ms.all fun x => crownLeads x s) then s
  else
    let r := startMembers stopped s
    let s := r.2.2
    if r.1 then reconFail ms (unstart r.2.1 s) else mpptHoldAll (ms.foldl (fun s x => enterRamp x s) s)

/-- RECONNECT has been written 1: the next evaluation takes it (R200). -/
def reconnectAsk (c : Ch) (s : State) : State := s.setGrid c fun g => { g with asked := true }

/-- EN of object 0x1nC0 has been written (Table 9.2). -/
def gridEnWritten (c : Ch) (was : Bool) (s : State) : State :=
  let n := cI c
  let on := gridOn c s
  if on && !was then
    let s := s.setGrid c fun _ => ⟨List.replicate 4 none, List.replicate 4 none, none, 0, 0, 0, [], none, none, 0, none, false, false, false, false⟩
    mpptHoldAll <| enterWait c 0 s
  else if was && !on then
    mpptHoldAll (((setGridState c gsOff s).wr Reg.GridStat.READY n 0 0).wr Reg.GridStat.RECON_LEFT_S n 0 0)
  else s

/-- GRID_EVALUATION. -/
def execGridEvaluation (s : State) : Out := fin s (gridEvalEff s)
/-- GRID_TRIP. -/
def execGridTrip (c : Ch) (e : Elem) (s : State) : Out := fin s (gridTripEff c e s)
/-- GRID_RECONNECT. -/
def execGridReconnect (c : Ch) (s : State) : Out := fin s (reconnectGroup c s)
/-- MPPT_STEP. -/
def execMpptStep (c : Ch) (s : State) : Out := fin s (settle c (mpptStepEff c s))
/-- MPPT_SWEEP. -/
def execMpptSweep (c : Ch) (s : State) : Out := fin s (settle c (mpptSweepEff c s))
/-- SWEEP_DWELL_END. -/
def execSweepDwellEnd (c : Ch) (s : State) : Out := fin s (settle c (sweepDwellEff c s))

end Sys2Proof.Machine
end

