-- ==== Sys2Proof/Machine/EsFire.lean ====
section
/-! DEFINITION. The event scheduler (03_angle_timebase.md R59-R65, Table 3.8): firings and re-arming; and comparator filter changes with what they wake (05_sensing.md R106-R112). -/

namespace Sys2Proof.Machine

/-- The occurrence lies on the side of the wrap that the angle leaves in this tick (R64). -/
def leavingSide (c : Ch) (e : Nat) (s : State) : Bool :=
  let x := s.ch c
  wrapTick c s && (if crossesFwd c 0 s then decide (x.angle < e) else decide (e ≤ x.anglePrev))

/-- A direct ES entry of the shadow set (R65). -/
def shadowEs (c : Ch) (j : Nat) (s : State) : EsEntry :=
  let r := fun f => s.rd f (cI c) j
  ⟨r Reg.Es.ENTRY_ANGLE, r Reg.Es.ENTRY_STEP, r Reg.Es.ENTRY_MASK, r Reg.Es.ENTRY_REGION_MASK, r Reg.Es.ENTRY_DIR, r Reg.Es.ENTRY_ACTION,
   r Reg.Es.ENTRY_PARAM, r Reg.Es.ENTRY_EV_EN == 1, r Reg.Es.ENTRY_EV, r Reg.Es.ENTRY_REPEAT⟩

/-- The bank whose entries a wrap tick leaves and the bank whose entries it enters, once a swap has run in this tick or is about to; none without one (R64). -/
def swapSides (c : Ch) (s : State) : Option (Option Bool × Option Bool) :=
  match (s.batt c).swapTick with
  | some old => some (old, activeBank c s)
  | none => if wrapTick c s && swapAtWrap c s then some (activeBank c s, (s.batt c).swap.map SwapOut.bankB) else none

/-- The contents of entry `e` that occurrences of this tick may be tested against, with their numbers in the list of disarmed occurrences (R64, R65): those in
force, or, where a swap or a commit divides the tick, those that the wrap leaves and those that it enters. -/
def esSides (c : Ch) (e : Fin 136) (s : State) : List ((EsEntry × Nat) × Option Bool) :=
  if e.val < 128 then
    match swapSides c s with
    | some (old, new) =>
      let done := (s.batt c).swapTick.isSome
      (old.toList.map fun b => ((bankEs c b e.val s, if done then e.val + oldMark else e.val), some true))
        ++ new.toList.map fun b => ((bankEs c b e.val s, if done then e.val else e.val + enterMark), some false)
    | none => (activeBank c s).toList.map fun b => ((bankEs c b e.val s, e.val), none)
  else
    let j := e.val - 128
    match (s.ch c).esOld[j]? with
    | some o => [((o, e.val + oldMark), some true), ((directEs c j s, e.val), some false)]
    | none =>
      if wrapTick c s && (s.ch c).esWait == .waiting then
        [((directEs c j s, e.val), some true), ((shadowEs c j s, e.val + enterMark), some false)]
      else [((directEs c j s, e.val), none)]

/-- The entries that occurrence `i` of entry `e` exists under in this tick, each on its own side of the wrap (R64, R65). -/
def esEntries (c : Ch) (e : Fin 136) (i : Nat) (s : State) : List (EsEntry × Nat) :=
  ((esSides c e s).filter fun p => match p.2 with
    | some leaving => leavingSide c (p.1.1.occ i) s == leaving
    | none => true).map Prod.fst

/-- Disarm an occurrence that has fired (R62). -/
def esDisarm (c : Ch) (n i : Nat) (fwd : Bool) (s : State) : State :=
  s.setCh c fun x => { x with disarmed := ⟨n, i, fwd⟩ :: x.disarmed }

/-- What a firing does (Table 3.8). -/
def esAction (c : Ch) (x : EsEntry) (lag : Nat) (s : State) : State :=
  match x.action with
  | 1 => actOn c 8 lag s
  | 2 => actOn c 9 lag s
  | 3 => actOn c 9 lag (actOn c 8 lag s)
  | 4 => actOn c (x.param % 4) lag s
  | 5 =>
    if s.rd Reg.PgCfg.RELOAD_SRC (cI c) = 3 && pgIsRunning c s then
      let t := stampAt lag s + 32
      s.setPg c fun p => { p with esLoad := p.esLoad ++ [(t, lag)] }
    else s
  | 6 => allCmp.foldl (fun s j => if bit x.mask j.val then windowSet c j lag true s else s) s
  | 7 => allCmp.foldl (fun s j => if bit x.mask j.val then windowSet c j lag false s else s) s
  | 8 => actOn c (4 + x.param % 4) lag s
  | 9 => meterSnap c lag s
  | _ => s

/-- An occurrence is due under an entry (R60): it is crossed in an admitted direction, armed, and its region is in force at the start of the tick. -/
def esDue (c : Ch) (i : Nat) (s : State) (p : EsEntry × Nat) : Bool :=
  let a := p.1.occ i
  decide (i ≤ p.1.reps) && ((crossesFwd c a s && bit p.1.dir 0) || (crossesRev c a s && bit p.1.dir 1))
    && !((s.ch c).disarmed.any fun d => d.entry == p.2 && d.occ == i) && bit p.1.regions (s.ch c).regionTick

/-- An occurrence fires (R61, R62): it is disarmed, its event is raised and its action done, all with its stamp. -/
def esFire1 (c : Ch) (i : Nat) (p : EsEntry × Nat) (s : State) : State :=
  let a := p.1.occ i
  let lag := lagOf c a s
  let s := esDisarm c p.2 i (crossesFwd c a s) s
  let s := if p.1.evEn then fireLag c (evEs p.1.ev) lag s else s
  settle c (esAction c p.1 lag s)

/-- ES_FIRE (R60, R61): the occurrence that is due fires; where one is due on each side of a dividing wrap, that of the side left, and the other on a further
row. -/
def esFireEff (c : Ch) (e : Fin 136) (occ : Nat) (s : State) : State :=
  if atStopped c s then s
  else match (esEntries c e occ s).find? (esDue c occ s) with
    | some p => esFire1 c occ p s
    | none => s

/-- ES_HYST_DISTANCE (R62): the angle is ES_HYST counts away on the side it crossed to, and the occurrence re-arms. -/
def esHystEff (c : Ch) (e : Fin 136) (occ : Nat) (s : State) : State :=
  let h : Int := s.rd Reg.AtCtl.ES_HYST (cI c)
  (esEntries c e occ s).foldl (fun s p =>
    let d := angDiff (s.ch c).angle (p.1.occ occ)
    s.setCh c fun y => { y with disarmed := y.disarmed.filter fun q =>
      !(q.entry == p.2 && q.occ == occ && (if q.forward then decide (h ≤ d) else decide (d ≤ -h))) }) s

/-- ES_FIRE. -/
def execEsFire (c : Ch) (e : Fin 136) (occ : Byte) (s : State) : Out := fin s (esFireEff c e occ.toNat s)
/-- ES_HYST_DISTANCE. -/
def execEsHystDistance (c : Ch) (e : Fin 136) (occ : Byte) (s : State) : Out := fin s (esHystEff c e occ.toNat s)

end Sys2Proof.Machine
end

