-- ==== Sys2Proof/Machine/Can.lean ====
section
/-! DEFINITION. CAN FD controllers (14_can_and_hatband.md R307-R321): transmit selection, retries, error states, mirrors, collisions, reception and mailbox segments. -/

namespace Sys2Proof.Machine

/-- A CAN controller. -/
abbrev CanIx := Fin 4
/-- A transmit buffer. -/
abbrev BufIx := Fin 32

/-- The controllers and the buffers, in order. -/
def allCan : List CanIx := List.finRange 4
def allBuf : List BufIx := List.finRange 32

/-- A controller's hidden state. -/
def State.can (s : State) (c : CanIx) : CanSt := s.cans[c]
/-- Change a controller. -/
def State.setCan (s : State) (c : CanIx) (f : CanSt → CanSt) : State := { s with cans := s.cans.set c (f s.cans[c]) }
/-- Change a transmit buffer. -/
def State.setBuf (s : State) (c : CanIx) (b : BufIx) (f : List CanTx → List CanTx) : State :=
  s.setCan c fun x => { x with bufs := x.bufs.set b (f x.bufs[b]) }

/-- The units that Run supplies are powered (17_power_and_holdup.md): Run, and the brown-out sequence. -/
def unitsOn (s : State) : Bool := s.pow.st == .run || s.pow.st == .brownout

/-- Crown firmware pauses or restarts: a controller completes the frame it is sending and then behaves as in LISTEN (R309, R404, R20). -/
def canPaused (s : State) : Bool := s.crown.run == .pause || s.crown.run == .starting

/-- MODE in effect (R309). -/
def canMode (c : CanIx) (s : State) : Nat :=
  let m := s.rd Reg.CanCfg.MODE c.val
  if m ≠ 0 ∧ canPaused s = true then 2 else m

/-- Error states (Table 14.3). -/
def esActive : Nat := 0
def esPassive : Nat := 1
def esBusOff : Nat := 2

/-- ESTATE. -/
def canEstate (c : CanIx) (s : State) : Nat := s.rd Reg.CanStat.ESTATE c.val

/-- CAN0 sends the frames of a granted burst in Lull or in reset, from the reference (R320, R375). -/
def canBurst (c : CanIx) (s : State) : Bool := c == 0 && !unitsOn s && s.pow.burst

/-- The controller works: powered, kernel clock locked (R39), not OFF, integrated, not bus-off. -/
def canActive (c : CanIx) (s : State) : Bool :=
  unitsOn s && s.rd Reg.ClkStat.STATE == 1 && canMode c s != 0 && !(s.can c).integrating && canEstate c s != esBusOff

/-- The controller hears the bus: in LOOPBACK it hears itself alone (R309). -/
def canOnBus (c : CanIx) (s : State) : Bool := canBurst c s || canActive c s && canMode c s != 3

/-! ### Choice of the entry to send (R311, R313) -/

/-- The controller may offer an entry: MODE in effect NORMAL or LOOPBACK. -/
def canMayOffer (c : CanIx) (s : State) : Bool := canBurst c s || canActive c s && (canMode c s == 1 || canMode c s == 3)

/-- An attempt of the controller can end now: it may offer an entry, or it completes the one it was sending when a pause began (R309). -/
def canSends (c : CanIx) (s : State) : Bool :=
  canMayOffer c s || canActive c s && (s.rd Reg.CanCfg.MODE c.val == 1 || s.rd Reg.CanCfg.MODE c.val == 3) && (s.can c).sending.isSome

/-- Rank of an identifier in arbitration: the lower wins; a base identifier wins over an extended one that begins with it. -/
def arbKey (t : CanTx) : Nat :=
  if t.ide then t.ident % 2 ^ 29 / 2 ^ 18 * 2 ^ 19 + 2 ^ 18 + t.ident % 2 ^ 18 else t.ident % 2 ^ 11 * 2 ^ 19

/-- Heads of the buffers that are not held and whose copy is not out, in buffer order, then the head of the mirror queue. -/
def canHeads (c : CanIx) (s : State) : List (CanSrc × CanTx) :=
  let held := s.rd Reg.CanStat.HOLD c.val
  (allBuf.filterMap fun b =>
    if bit held b.val then none
    else ((s.can c).bufs[b].head?).bind fun t => match t.copy with
      | .out _ => none
      | _ => some (CanSrc.buf b, t))
    ++ ((s.can c).mirror.head?.map fun m => (CanSrc.mirror, m.tx)).toList

/-- The best head: highest priority, ties to the earlier. -/
def bestHead : List (CanSrc × CanTx) → Option (CanSrc × CanTx)
  | [] => none
  | h :: t => match bestHead t with
    | some b => if arbKey b.2 < arbKey h.2 then some b else some h
    | none => some h

/-- The entry the controller offers when the bus becomes idle: the retained one first after a recovery, else the best head (R311, R313). -/
def canPick (c : CanIx) (s : State) : Option (CanSrc × CanTx) :=
  let hs := canHeads c s
  match (s.can c).retained.bind fun b => hs.find? fun h => h.1 == CanSrc.buf b with
  | some h => some h
  | none => bestHead hs

/-- The entry that stands at a place. -/
def canHead (c : CanIx) (src : CanSrc) (s : State) : Option CanTx :=
  match src with
  | .buf b => (s.can c).bufs[b].head?
  | .mirror => (s.can c).mirror.head?.map MirTx.tx

/-- The entry whose attempt ends now: the one offered when the bus became idle; the best one where none has been (R311). -/
def canSent (c : CanIx) (s : State) : Option (CanSrc × CanTx) :=
  match (s.can c).sending.bind fun src => (canHead c src s).map fun t => (src, t) with
  | some x => some x
  | none => canPick c s

/-- The bus becomes idle for a controller: it offers the best entry, and keeps to it until its attempt ends (R311). -/
def canIdle (c : CanIx) (s : State) : State :=
  let p := if canMayOffer c s then (canPick c s).map Prod.fst else none
  s.setCan c fun x => { x with sending := p, busy := false }

/-- Controllers that send nothing while the bus is idle offer what they have now (log entry 77). -/
def canKick (s : State) : State :=
  allCan.foldl (fun s c => if (s.can c).sending.isSome || (s.can c).busy then s else canIdle c s) s

/-! ### Error counters -/

/-- Write the error counters, the warning and the state that follows from them; a change of state raises event 464 + c (R313). -/
def canErrors (c : CanIx) (tec rec : Nat) (s : State) : State :=
  let was := canEstate c s
  let st := if 256 ≤ tec then esBusOff else if 127 < tec ∨ 127 < rec then esPassive else esActive
  let s := ((s.wr Reg.CanStat.TEC c.val 0 (min tec 255)).wr Reg.CanStat.REC c.val 0 (min rec 255)).wrB Reg.CanStat.WARN c.val 0
    (decide (96 ≤ tec) || decide (96 ≤ rec))
  let s := s.wr Reg.CanStat.ESTATE c.val 0 st
  if was = st then s else s.raise (464 + c.val)

/-! ### Mirrors (R314) -/

/-- Mark the copy state of the first entry of a buffer that is in a given state. -/
def markCopy (from_ to_ : CopySt) : List CanTx → List CanTx
  | [] => []
  | t :: ts => if t.copy = from_ then { t with copy := to_ } :: ts else t :: markCopy from_ to_ ts

/-- Copy entries of one buffer into the mirror queue of controller k while there is room and k is not bus-off (log entry 122). -/
def mirrorBuf (c : CanIx) (b : BufIx) (k : CanIx) : Nat → State → State
  | 0, s => s
  | fuel + 1, s =>
    match (s.can c).bufs[b].find? fun t => t.copy == .none with
    | none => s
    | some t =>
      if canEstate k s = esBusOff ∨ 8 ≤ (s.can k).mirror.length then s
      else
        let s := (s.setBuf c b (markCopy .none (.out k))).setCan k fun x => { x with mirror := x.mirror ++ [⟨{ t with tries := 0 }, c, b⟩] }
        mirrorBuf c b k fuel s

/-- Mirror every mirrored buffer of a controller that is bus-off, the retained entry's buffer first. -/
def mirrorFill (c : CanIx) (s : State) : State :=
  if canEstate c s ≠ esBusOff then s
  else
    let order := ((s.can c).retained.toList ++ allBuf.filter fun b => some b != (s.can c).retained)
    order.foldl (fun s b =>
      let k := s.rd Reg.CanCfg.MIRROR c.val b.val
      if h : 1 ≤ k ∧ k ≤ 4 then
        let k : CanIx := ⟨k - 1, by omega⟩
        if k = c then s else mirrorBuf c b k 64 s
      else s) s

/-- Every controller mirrors what it can, and offers what has come to it. -/
def mirrorAll (s : State) : State := canKick (allCan.foldl (fun s c => mirrorFill c s) s)

/-- Discard the oldest copy of a buffer at controller k: its original stays and is sent after recovery. -/
def dropCopy (k : CanIx) (m : MirTx) (s : State) : State := s.setBuf m.src m.buf (markCopy (.out k) .discarded)

/-! ### Offering entries (R310) -/

/-- Depth of a transmit queue (R310). -/
def bufDepth (b : BufIx) : Nat := if b.val = 16 then 32 else 4

/-- Offer an entry to a buffer; a full queue drops it. The answer says whether it was taken. -/
def canOffer (c : CanIx) (b : BufIx) (t : CanTx) (s : State) : Bool × State :=
  if (s.can c).bufs[b].length < bufDepth b then (true, canKick (mirrorFill c (s.setBuf c b fun q => q ++ [t])))
  else (false, s.count Reg.CanStat.DROP_CNT c.val)

/-- The smallest FD data length that holds n bytes. -/
def fdLen (n : Nat) : Nat :=
  if n ≤ 8 then n else if n ≤ 12 then 12 else if n ≤ 16 then 16 else if n ≤ 20 then 20 else if n ≤ 24 then 24
  else if n ≤ 32 then 32 else if n ≤ 48 then 48 else 64

/-- Data length of a DLC. -/
def dlcLen (fdf : Bool) (dlc : Nat) : Nat :=
  if dlc ≤ 8 then dlc else if !fdf then 8
  else if dlc = 9 then 12 else if dlc = 10 then 16 else if dlc = 11 then 20 else if dlc = 12 then 24
  else if dlc = 13 then 32 else if dlc = 14 then 48 else 64

/-- Segments of a mailbox frame (R318). -/
def segments (n : Nat) : Nat → List Byte → List (Bool × List Byte)
  | 0, _ => []
  | fuel + 1, bs =>
    let last := decide (bs.length ≤ 63)
    let hd := leBytes 1 ((if n = 0 then 128 else 0) + (if last then 64 else 0) + n % 64)
    if last then [(true, padTo (fdLen (bs.length + 1)) (hd ++ bs))]
    else (false, hd ++ bs.take 63) :: segments (n + 1) fuel (bs.drop 63)

/-- Queue a mailbox reply on CAN (R318, R319). A reply that cannot be queued whole is not sent, so it delivers nothing. -/
def canReply (c : CanIx) (delivers : Option (Mbx × Nat × Nat)) (bs : List Byte) (s : State) : State :=
  let segs := segments 0 20 bs
  let rid := (s.can c).nextReply
  let s := s.setCan c fun x => { x with nextReply := x.nextReply + 1 }
  let whole := decide ((s.can c).bufs[(16 : BufIx)].length + segs.length ≤ 32)
  segs.foldl (fun s g =>
    (canOffer c 16 ⟨s.rd Reg.CanCfg.MBX_RESP_ID c.val, s.rdB Reg.CanCfg.MBX_IDE c.val, true, s.rdB Reg.CanCfg.MBX_BRS c.val, g.2, 0, .none,
      some ⟨rid, g.1, if whole then delivers else none⟩⟩ s).2) s

/-- Put a reply on its transport. Its response is delivered when it has been sent: on the host port at the end of the transaction (R265), on CAN with its last
segment (R319). -/
def replyOut (t : Transport) (r : Reply) (s : State) : State :=
  match t with
  | .host => { s with crown := { s.crown with reply := some r } }
  | .can c => canReply c r.delivers r.bytes s
  | .hb p => hbSend p 4 r.bytes (match r.delivers with
    | some (m, ep, sq) => deliver m ep sq s
    | none => s)

/-- The number of the JOURNAL message that the pair port has sent last. -/
def lastJournalMsg (s : State) : Nat := ((s.hb (pairPort s)).msgNo[(3 : Fin 8)] + 65535) % 65536

/-- A reply of a member of a pair waits until the peer has acknowledged the JOURNAL messages sent so far (R272, R339). -/
def holdReply (t : Transport) (what : HeldReply) (s : State) : State :=
  { s with crown := { s.crown with held := s.crown.held ++ [⟨t, what, some (lastJournalMsg s)⟩] } }

/-- Send a reply over a transport; in a pair one that delivers a response first sends a delivery mark, and waits for its acknowledgement (R339). -/
def sendReply (t : Transport) (r : Reply) (s : State) : State :=
  match r.delivers with
  | some (m, _, sq) => if booksFlow s then holdReply t (.formed r) (hbSend (pairPort s) 3 (markBytes m sq) s) else replyOut t r s
  | none => replyOut t r s

/-- Every JOURNAL message up to a number has been acknowledged. -/
def journalAcked (n : Nat) (s : State) : Bool :=
  let h := s.hb (pairPort s)
  let open_ := fun (typ msg : Nat) => typ == 3 && decide ((n + 65536 - msg) % 65536 < 32768)
  (h.out.all fun x => !open_ x.typ x.msg) && h.flight.all fun x => !open_ x.typ x.msg

/-- The ACCEPTED reply of a SUBMIT (R272). -/
def acceptedReply (m : Mbx) (seq code : Nat) (s : State) : Reply :=
  .plain (replyFrame 1 m.val seq code (baseFlags m 0 s) 0 (replyHead stAccepted 1 stAccepted 0))

/-- A reply held back can be sent: acknowledged, or without a peer to acknowledge it (R340); in a standby, the owner's record has made its command stand (R337). -/
def heldReady (h : Held) (s : State) : Bool :=
  match h.upTo, h.what with
  | some n, _ => !booksFlow s || journalAcked n s
  | none, .accepted m ep sq _ => (s.mb m).cmds.any fun c => c.epoch == ep && c.seq == sq
  | none, .formed _ => true

/-- Send the replies whose wait has ended; a standby without its owner answers nothing (R340). -/
def releaseHeld (s : State) : State :=
  let ready := s.crown.held.filter fun h => heldReady h s
  let rest := s.crown.held.filter fun h => !heldReady h s && (h.upTo.isSome || booksFlow s)
  ready.foldl (fun s h => replyOut h.t (match h.what with
    | .formed r => r
    | .accepted m _ seq code => acceptedReply m seq code s) s) { s with crown := { s.crown with held := rest } }

/-- The data of a status frame (Table 14.1). -/
def statusData (kind : Nat) (s : State) : List Byte :=
  let lvl := s.rd Reg.PowStat.LEVEL
  let flags := setBit (setBit (setBit 0 0 (bit lvl 1)) 1 (bit lvl 2)) 2 (s.rdB Reg.PowStat.TAMPER_SEEN)
  leBytes 1 kind ++ leBytes 1 flags ++ leBytes 2 (if kind = 3 then min s.pow.heldS 0xFFFF else 0) ++ leBytes 4 (s.rd Reg.Life.UNIT_ID)

/-- A status frame: a classical frame with STATUS_ID. -/
def statusTx (c : CanIx) (kind : Nat) (s : State) : CanTx :=
  let i := s.rd Reg.CanCfg.STATUS_ID c.val
  ⟨i % 2 ^ 29, bit i 31, false, false, statusData kind s, 0, .none, none⟩

/-- Queue a status frame (R320). -/
def sendStatus (c : CanIx) (kind : Nat) (s : State) : State := (canOffer c 17 (statusTx c kind s) s).2

/-! ### Reception -/

/-- A frame is valid in its format: data length, identifier, no remote frame in FD format (R307). -/
def canFrameOk (f : CanFrame) : Bool :=
  (f.data.length == if f.rtr then 0 else dlcLen f.fdf f.dlc.toNat) && !(f.rtr && f.fdf) && (f.ide || decide (f.ident.toNat < 2 ^ 11))
    && (f.fdf || (!f.brs && !f.esi))

/-- The identifier of a consumed Feide connection of this controller (R316). -/
def canFeideId (c : CanIx) (f : CanFrame) (s : State) : Bool :=
  allIx.any fun k => connConsumes k s && s.rd Reg.Feide.TRANSPORT 0 k.val == c.val
    && s.rd Reg.Feide.CAN_ID 0 k.val == f.ident.toNat && s.rdB Reg.Feide.IDE 0 k.val == f.ide

/-- A mailbox request segment (R316, R318). -/
def canIsRequest (c : CanIx) (f : CanFrame) (s : State) : Bool :=
  f.fdf && f.brs == s.rdB Reg.CanCfg.MBX_BRS c.val && s.rd Reg.CanCfg.MBX_REQ_ID c.val == f.ident.toNat && s.rdB Reg.CanCfg.MBX_IDE c.val == f.ide

/-- A classical remote frame with STATUS_ID (R316). -/
def canIsStatusReq (c : CanIx) (f : CanFrame) (s : State) : Bool :=
  let i := s.rd Reg.CanCfg.STATUS_ID c.val
  f.rtr && !f.fdf && i % 2 ^ 29 == f.ident.toNat && bit i 31 == f.ide

/-- Discard a partial request (R318). -/
def dropPartial (c : CanIx) (s : State) : State :=
  if (s.can c).partial_.isSome then (s.count Reg.CanStat.SEG_DROP_CNT c.val).setCan c fun x => { x with partial_ := none } else s

/-- Take a segment into the request being reassembled (R318). -/
def segTake (c : CanIx) (bs : List Byte) (s : State) : State :=
  let h := (bs.headD 0).toNat
  let n := h % 64
  let body := bs.drop 1
  let put := fun (acc : List Byte) (s : State) =>
    if bit h 6 then s.setCan c fun x => { x with partial_ := none, whole := x.whole ++ [acc] }
    else s.setCan c fun x => { x with partial_ := some (n + 1, acc) }
  if bit h 7 then
    let s := dropPartial c s
    if n = 0 then put body s else s
  else match (s.can c).partial_ with
    | some (k, acc) => if n = k then put (acc ++ body) s else dropPartial c s
    | none => s

/-- Crown firmware empties FIFO 1 once FIFO 0 is empty (R316, R318, R320): segments are reassembled, remote frames are answered. -/
def canService (c : CanIx) (s : State) : State :=
  if !crownUp s || !(s.can c).fifo0.isEmpty then s
  else
    let q := (s.can c).fifo1
    let s := s.setCan c fun x => { x with fifo1 := [] }
    q.foldl (fun s f => if f.rtr then sendStatus c 1 s else segTake c f.data s) s

/-- The receiver of a controller takes a valid frame (R315, R316). -/
def canHear (c : CanIx) (f : CanFrame) (s : State) : State :=
  let s := s.wr Reg.CanStat.LAST_RX_SOF c.val 0 f.sof.toNat
  let rec_ := s.rd Reg.CanStat.REC c.val
  let s := if rec_ ≤ 127 then canErrors c (s.rd Reg.CanStat.TEC c.val) (rec_ - 1) s
    else (canErrors c (s.rd Reg.CanStat.TEC c.val) (119 + s.free 8 % 9) s).drew
  if canFeideId c f s then
    (if (s.can c).fifo0.length < 64 then s.setCan c fun x => { x with fifo0 := x.fifo0 ++ [f] } else s.count Reg.CanStat.FIFO0_DROP c.val)
  else if canIsRequest c f s || canIsStatusReq c f s then
    (if (s.can c).fifo1.length < 64 then canService c (s.setCan c fun x => { x with fifo1 := x.fifo1 ++ [f] })
     else s.count Reg.CanStat.FIFO1_DROP c.val)
  else s

/-- CAN_FRAME_RECEIVE: a frame of another node; the bus is idle after it. -/
def canRxEff (c : CanIx) (f : CanFrame) (s : State) : State :=
  if !canOnBus c s || !canFrameOk f then s else canIdle c (canHear c f s)

/-- SEGMENT_TIMEOUT (R318). -/
def segTimeoutEff (c : CanIx) (s : State) : State := dropPartial c s

/-- STATUS_FRAME_PERIOD (R320): CAN0 in Run with STATUS_MS not 0. -/
def statusPeriodEff (s : State) : State :=
  if crownUp s ∧ s.pow.st = .run ∧ s.rd Reg.CanCfg.STATUS_MS ≠ 0 then sendStatus 0 1 s else s

/-! ### End of an attempt -/

/-- Remove the head of where an entry stands; an original whose copy has completed is the first entry with its copy out. -/
def canPop (c : CanIx) (src : CanSrc) (s : State) : State :=
  match src with
  | .buf b =>
    let s := s.setBuf c b List.tail
    if (s.can c).retained = some b then s.setCan c fun x => { x with retained := none } else s
  | .mirror =>
    match (s.can c).mirror with
    | [] => s
    | _ :: ms => s.setCan c fun x => { x with mirror := ms }

/-- Remove the original of the copy that controller k has completed (R314): copies of a buffer complete at one controller in queue order. -/
def popOriginal (k : CanIx) (m : MirTx) (s : State) : State :=
  let s := s.setBuf m.src m.buf fun q => q.eraseP fun t => t.copy == .out k
  let s := if (s.can m.src).retained = some m.buf then s.setCan m.src fun x => { x with retained := none } else s
  s.count Reg.CanStat.MIRROR_CNT m.src.val

/-- A reply whose last segment completes is sent: the response it carries is delivered (R319). -/
def replyDone (t : CanTx) (s : State) : State :=
  match t.reply with
  | some ⟨_, true, some (m, ep, sq)⟩ => deliver m ep sq s
  | _ => s

/-- A removed segment: the reply it belongs to is not sent (R319). -/
def replyLost (c : CanIx) (t : CanTx) (s : State) : State :=
  match t.reply with
  | some r => s.setBuf c 16 fun q => q.map fun x =>
      match x.reply with
      | some y => if y.rid = r.rid then { x with reply := some { y with delivers := none } } else x
      | none => x
  | none => s

/-- The original of the copy at the head of a mirror queue. -/
def mirrorHead (c : CanIx) (s : State) : Option MirTx := (s.can c).mirror.head?

/-- DLC of a data length. -/
def dlcOf (fdf : Bool) (n : Nat) : Nat := ((List.range 16).find? fun d => dlcLen fdf d == n).getD 15

/-- An entry as the own receiver hears it in LOOPBACK (R309). -/
def loopFrame (c : CanIx) (t : CanTx) (sof : Nat) (s : State) : CanFrame :=
  ⟨BitVec.ofNat 29 t.ident, t.ide, t.fdf, t.brs, t.fdf && canEstate c s == esPassive, false, BitVec.ofNat 4 (dlcOf t.fdf t.data.length), t.data, BitVec.ofNat 64 sof⟩

/-- CAN_TX_DONE (R312): the offered entry completes; in LOOPBACK the own receiver takes it. The bus is idle again. -/
def canTxDoneEff (c : CanIx) (sof : Nat) (s : State) : State :=
  if !canSends c s then s
  else match canSent c s with
    | none => s
    | some (src, t) =>
      let loop := canMode c s == 3 && !canBurst c s
      let s := s.wr Reg.CanStat.LAST_TX_SOF c.val 0 sof
      let s := canErrors c (s.rd Reg.CanStat.TEC c.val - 1) (s.rd Reg.CanStat.REC c.val) s
      let m := mirrorHead c s
      let s := canPop c src s
      let s := if src = .mirror then (match m with
        | some m => popOriginal c m s
        | none => s) else s
      let s := canIdle c (replyDone t s)
      mirrorAll (if loop then canHear c (loopFrame c t sof s) s else s)

/-- A controller goes bus-off (R313): the entry being sent stays, copies in its mirror queue are discarded, recovery starts with AUTO_REC. -/
def goBusOff (c : CanIx) (src : CanSrc) (s : State) : State :=
  let s := s.count Reg.CanStat.BUSOFF_CNT c.val
  let ms := (s.can c).mirror
  let s := ms.foldl (fun s m => dropCopy c m s) s
  let auto := s.rdB Reg.CanCfg.AUTO_REC c.val
  let s := s.setCan c fun x => { x with
    mirror := [], recovering := auto, sending := none, busy := false, retained := (match src with
      | .buf b => some b
      | .mirror => x.retained) }
  mirrorAll s

/-- A collision on a buffer: the third within 1 s holds it (R317). -/
def collision (c : CanIx) (src : CanSrc) (s : State) : State :=
  let s := s.count Reg.CanStat.ID_COLLIDE_CNT c.val
  match src with
  | .mirror => s
  | .buf b =>
    let ts := s.time :: ((s.can c).collide[b].filter fun t => decide (s.time < t + 100000000))
    let s := s.setCan c fun x => { x with collide := x.collide.set b ts }
    if 3 ≤ ts.length then (s.wrBit Reg.CanStat.HOLD c.val 0 b.val true).raise 495 else s

/-- An attempt counts against the retry limit (R312). -/
def retry (c : CanIx) (src : CanSrc) (s : State) : State :=
  match src with
  | .buf b =>
    match (s.can c).bufs[b] with
    | [] => s
    | t :: ts =>
      if !s.rdB Reg.CanCfg.UNLIM c.val b.val && decide (s.rd Reg.CanCfg.RETRY c.val b.val < t.tries + 1) then
        replyLost c t ((canPop c src s).count Reg.CanStat.DROP_CNT c.val)
      else s.setBuf c b fun _ => { t with tries := t.tries + 1 } :: ts
  | .mirror =>
    match (s.can c).mirror with
    | [] => s
    | m :: ms =>
      if !s.rdB Reg.CanCfg.UNLIM m.src.val m.buf.val && decide (s.rd Reg.CanCfg.RETRY m.src.val m.buf.val < m.tx.tries + 1) then
        dropCopy c m ((canPop c src s).count Reg.CanStat.DROP_CNT c.val)
      else s.setCan c fun x => { x with mirror := { m with tx := { m.tx with tries := m.tx.tries + 1 } } :: ms }

/-- What a failed attempt adds to the transmit error counter: 8, but for the two exceptions of ISO 11898-1, an ACK error that an error-passive sender meets alone and
a stuff error during arbitration (R313, log entry 121). -/
def txErrorWeight (why : TxFail) (c : CanIx) (s : State) : Nat :=
  match why with
  | .arbitrationLost => 0
  | .ackMissing => if canEstate c s = esPassive then 0 else 8
  | .arbitrationStuff => 0
  | .error => 8
  | .collision => 8

/-- CAN_TX_FAIL (R312, R313, R317). After lost arbitration another node has the bus; after an error frame it is idle again. -/
def canTxFailEff (c : CanIx) (why : TxFail) (s : State) : State :=
  if !canSends c s then s
  else match canSent c s with
    | none => s
    | some (src, _) =>
      if why = .arbitrationLost then mirrorAll ((retry c src s).setCan c fun x => { x with sending := none, busy := true })
      else
        let s := canErrors c (s.rd Reg.CanStat.TEC c.val + txErrorWeight why c s) (s.rd Reg.CanStat.REC c.val) s
        let s := if why = .collision then collision c src s else s
        if canEstate c s = esBusOff then goBusOff c src s else mirrorAll (canIdle c (retry c src s))

/-- CAN_RECEIVE_ERROR (R313): the receive error counter rises by the weight of the error, and the bus is idle after it. -/
def canRxErrorEff (c : CanIx) (w : Nat) (s : State) : State :=
  if !canOnBus c s then s
  else canIdle c (canErrors c (s.rd Reg.CanStat.TEC c.val) (min 255 (s.rd Reg.CanStat.REC c.val + w)) s)

/-- BUS_OFF_RECOVERY_DONE (R313): the discarded copies' originals can be sent, and other controllers can mirror here again (R314). -/
def busOffDoneEff (c : CanIx) (s : State) : State :=
  if canEstate c s = esBusOff ∧ (s.can c).recovering = true then
    let s := canErrors c 0 0 s
    mirrorAll (s.setCan c fun x => { x with
      recovering := false
      bufs := x.bufs.map fun q => q.map fun t => if t.copy = .discarded then { t with copy := .none } else t })
  else s

/-- RECOVER written (R313). -/
def recoverEff (c : CanIx) (s : State) : State :=
  if canEstate c s = esBusOff then s.setCan c fun x => { x with recovering := true } else s

/-- HOLD bits written 1 (R317): the buffers are released and their collision counts restart. -/
def holdReleaseEff (c : CanIx) (mask : Nat) (s : State) : State :=
  let h := s.rd Reg.CanStat.HOLD c.val
  let s := s.wr Reg.CanStat.HOLD c.val 0 (h ^^^ (h &&& mask))
  canKick (allBuf.foldl (fun s (b : BufIx) => if bit mask b.val then s.setCan c fun x => { x with collide := x.collide.set b [] } else s) s)

/-- MODE has been written (R309): a controller that leaves OFF integrates first. -/
def canModeWritten (c : CanIx) (was : Nat) (s : State) : State :=
  let m := s.rd Reg.CanCfg.MODE c.val
  let s := if was = 0 ∧ m ≠ 0 then s.setCan c fun x => { x with integrating := true }
    else if m = 0 then s.setCan c fun x => { x with integrating := false } else s
  canIdle c s

/-- MIRROR has been written: a buffer is mirrored from then on while its controller is bus-off (R314). -/
def mirrorWritten (s : State) : State := mirrorAll s

/-- The system clock leaves the PLL: every controller is off the bus, a frame in progress is abandoned and stays at the head of its buffer, and each integrates
after the return to LOCKED (R39). -/
def canClockLost (s : State) : State :=
  allCan.foldl (fun s c => s.setCan c fun x => { x with integrating := true, sending := none, busy := false }) s

/-- CAN_BUS_INTEGRATION (R309, R39): 11 recessive bits seen while the kernel clock is locked. -/
def canIntegrateEff (c : CanIx) (s : State) : State :=
  if s.rd Reg.ClkStat.STATE = 1 then canIdle c (s.setCan c fun x => { x with integrating := false }) else s

/-! ### Commands -/

/-- CAN_FRAME_RECEIVE. -/
def execCanFrameReceive (c : Fin 4) (f : CanFrame) (s : State) : Out := fin s (canRxEff c f s)
/-- SEGMENT_TIMEOUT. -/
def execSegmentTimeout (c : Fin 4) (s : State) : Out := fin s (segTimeoutEff c s)
/-- CAN_TX_DONE. -/
def execCanTxDone (c : Fin 4) (sof : W64) (s : State) : Out := fin s (canTxDoneEff c sof.toNat s)
/-- CAN_TX_FAIL. -/
def execCanTxFail (c : Fin 4) (why : TxFail) (s : State) : Out := fin s (canTxFailEff c why s)
/-- BUS_OFF_RECOVERY_DONE. -/
def execBusOffRecoveryDone (c : Fin 4) (s : State) : Out := fin s (busOffDoneEff c s)
/-- STATUS_FRAME_PERIOD. -/
def execStatusFramePeriod (s : State) : Out := fin s (statusPeriodEff s)
/-- CAN_BUS_INTEGRATION (R309, R39). -/
def execCanBusIntegration (c : Fin 4) (s : State) : Out := fin s (canIntegrateEff c s)
/-- CAN_RECEIVE_ERROR. -/
def execCanReceiveError (c : Fin 4) (weight : BitVec 4) (s : State) : Out := fin s (canRxErrorEff c weight.toNat s)

end Sys2Proof.Machine
end

