-- ==== Sys2Proof/Machine/Hatband.lean ====
section
/-! DEFINITION. Hatband ports (14_can_and_hatband.md R322-R333) and the roles of a redundant pair that follow from them (15_redundant_pair.md R335-R344). -/

namespace Sys2Proof.Machine

/-! ### Roles of a redundant pair -/

/-- The peer's LINK_INFO over the pair link. -/
def pairPeer (s : State) : Option LinkInfo := if pairUp s then (s.hb (pairPort s)).peer else none

/-- Set SYNC (Table 15.5); replies that wait for a peer go without it when journal traffic ends (R340). -/
def setSync (v : Nat) (s : State) : State :=
  let s := s.wr Reg.PairStat.SYNC 0 0 v
  if v = 1 ∨ v = 2 then s else releaseHeld { s with pair := { s.pair with offers := [] } }

/-- Outputs follow the role: PWM and GEN drive in a device outside a pair and in the owner (R161, R259). An output that begins to drive
active counts as a rise, which starts its blanking interval, and feedback is ignored until both enables have read high for 200 µs (R166, R169, R343). -/
def outputsFollow (s : State) : State :=
  let hiz := pairRole s = 1 ∨ pairRole s = 3
  let s := s.eachCh fun s c =>
    let was := s.rdB Reg.PgStat.HIZ (cI c)
    let s := s.wrB Reg.PgStat.HIZ (cI c) 0 (decide hiz)
    if was && !decide hiz then
      let s := s.setPg c fun p => { p with settled := false }
      allOut.foldl (fun s j => if (s.out c j).act then pinRise c j ((blankEnd c j s).setOut c j fun o => { o with roseAt := s.now }) else s) s
    else s
  safeEvalAll (s.eachCh fun s c => settle c s)

/-- Change the role (R341): event 470, ROLE_TIME, outputs. -/
def setRole (r : Nat) (s : State) : State :=
  if pairRole s = r then s
  else outputsFollow (((s.wr Reg.PairStat.ROLE 0 0 r).wr Reg.PairStat.ROLE_TIME 0 0 s.time).raise 470)

/-- The peer is known to take a role that answers this device's (Table 15.3). -/
def peerTakes (r : BitVec 3) (s : State) : State :=
  s.setHb (pairPort s) fun x => { x with peer := x.peer.map fun i => { i with peerRole := r } }

/-- SYNC leaves NONE when the peer holds the other role (Table 15.5, R352). -/
def syncStart (s : State) : State :=
  match pairPeer s with
  | some i =>
    let other := (pairRole s = 2 ∧ i.peerRole = 3) ∨ (pairRole s = 3 ∧ i.peerRole = 2)
    if s.rd Reg.PairStat.SYNC = 0 ∧ other then
      (if i.scope.toNat ≠ s.rd Reg.PairCfg.MBX_SCOPE then s.wr Reg.PairStat.SCOPE_CLASH 0 0 1
       else setSync (if i.sameRelease then 1 else 3) (s.wr Reg.PairStat.SCOPE_CLASH 0 0 0))
    else s
  | none => s

/-- Every PG goes to STOPPED (Table 15.3: two owners met). -/
def stopAllPg (s : State) : State :=
  s.eachCh fun s c => if s.rd Reg.PgStat.STATE (cI c) = pgStopped then s else settle c (channelHalt c pgStopped (setGdi c 0 s))

/-- The role follows the pair link (Table 15.3). -/
def pairEval (s : State) : State :=
  match pairPeer s with
  | none => s
  | some i =>
    let r := pairRole s
    let own := s.rdB Reg.PairStat.PAIR_ID
    let s :=
      if r = 1 then
        (if i.pairId = own then s.wr Reg.PairStat.PAIR_ID_CLASH 0 0 1
         else
          let s := s.wr Reg.PairStat.PAIR_ID_CLASH 0 0 0
          if i.peerRole = 2 then setRole 3 s
          else if i.peerRole = 1 then (if own then peerTakes 2 (setRole 3 s) else peerTakes 3 (setRole 2 s))
          else s)
      else if r = 2 ∧ i.peerRole = 2 then
        setSync 0 (setRole 1 (stopAllPg (s.count Reg.PairStat.SPLIT_CNT)))
      else s
    syncStart s

/-- The pair link leaves UP: SYNC is NONE (Table 15.5). -/
def pairLinkLost (s : State) : State := setSync 0 s

/-- An owner releases (R343): PAIR_ALIVE_OUT low and the heartbeat stopped until the next Thaw, outputs at high impedance. -/
def ownerRelease (s : State) : State :=
  if pairRole s = 2 then
    setSync 0 (setRole 1 { s with pair := { s.pair with aliveOut := false, released := true, handover := none } })
  else s

/-! ### Link states (R331) -/

/-- Descriptor of an IMAGE message (Table 18.9). -/
def imgHead (op kind slot hops id blk n crc unit ver : Nat) : List Byte :=
  leBytes 1 op ++ leBytes 1 kind ++ leBytes 1 slot ++ leBytes 1 hops ++ leBytes 4 id ++ leBytes 2 blk ++ leBytes 2 n ++ leBytes 4 crc
    ++ leBytes 8 unit ++ leBytes 4 ver ++ List.replicate 36 0

/-- The other port. -/
def otherPort (p : HbIx) : HbIx := if p = 0 then 1 else 0

/-- A transfer that comes in over a port is abandoned (R399, R401): ABANDON goes onward, and an inactive bank that was receiving it is REJECTED. -/
def xferAbandon (x : XferIn) (s : State) : State :=
  let s := s.count Reg.Dist.XFER_ABANDON_CNT
  let s := { s with life := { s.life with xin := s.life.xin.filter fun y => y.id != x.id } }
  let s := hbSend (otherPort x.port) 6 (imgHead 3 x.kind x.slot 0 x.id x.next x.nBlocks 0 0 0) s
  if x.stored then
    let s := s.wr Reg.Dist.XFER_STATE 0 0 4
    if x.kind = 0 then (s.wr Reg.Fw.INACT_STATE 0 0 4).wr Reg.Fw.LAST_REJECT 0 0 4 else s
  else s

/-- A port goes down under a transfer that this device originates: it sends no more there, and ends the transfer when no other port sends (R401, log entry 42). -/
def xoutPortDown (p : HbIx) (s : State) : State :=
  match s.life.xout with
  | none => s
  | some o =>
    let nx := if p = 0 then (o.nBlocks, o.next.2) else (o.next.1, o.nBlocks)
    let other := if p = 0 then o.next.2 else o.next.1
    if other < o.nBlocks then { s with life := { s.life with xout := some { o with next := nx } } }
    else { s with life := { s.life with xout := none } }.wr Reg.Dist.XFER_STATE 0 0 4

/-- Every transfer over a port ends when it leaves UP (R401). -/
def xferPortDown (p : HbIx) (s : State) : State :=
  xoutPortDown p ((s.life.xin.filter fun x => x.port == p).foldl (fun s x => xferAbandon x s) s)

/-- A port leaves its state for OFF or TRAINING: partial messages are discarded, messages not delivered are given up, credits return to 16 (R329, Table 14.6). -/
def hbDown (p : HbIx) (to_ : Nat) (s : State) : State :=
  let up := hbUp p s
  let pairWas := pairUp s
  let n := (s.hb p).parts.length
  let s := if up then (List.range n).foldl (fun s _ => s.count Reg.HbStat.MSG_DISCARD_CNT p.val) s else s
  let s := s.setHb p fun x => { x with
    out := [], flight := [], nextF := 0, expF := 0, parts := [], held := [], peer := none }
  let s := ((s.wr Reg.HbStat.LINK p.val 0 to_).wr Reg.HbStat.CREDITS p.val 0 16)
  let s := if up then xferPortDown p (s.raise (468 + p.val)) else s
  if pairWas && !pairUp s then pairLinkLost s else s

/-- Roles at the two ends are compatible (R331). -/
def rolesFit (own peer : Nat) : Bool := (own == 1 && peer == 1) || (own == 2 && peer == 3) || (own == 3 && peer == 2)

/-- Two LINK_INFO carry the same content. -/
def sameInfo (a b : LinkInfo) : Bool := a.hwType == b.hwType && a.role == b.role && a.pairId == b.pairId && a.unitId == b.unitId

/-- Record a peer's LINK_INFO (Table 14.8). -/
def notePeer (p : HbIx) (i : LinkInfo) (s : State) : State :=
  let s := s.setHb p fun x => { x with peer := some i }
  ((s.wr Reg.HbStat.PEER_UNIT_ID p.val 0 i.unitId.toNat).wr Reg.HbStat.PEER_ROLE p.val 0 i.role.toNat).wr Reg.HbStat.PEER_PAIR_ID p.val 0 i.pairId.toNat

/-- LINK_TRAINING_DONE (R331, Table 14.6). -/
def trainingDoneEff (p : HbIx) (i : LinkInfo) (s : State) : State :=
  let l := hbLink p s
  if !unitsOn s || !s.rdB Reg.ClkStat.REF_OK || l == 0 || !i.deskewed then s
  else if l = 3 then
    (match (s.hb p).peer with
     | some q => if sameInfo q i then pairEval (notePeer p i s) else hbDown p 1 s
     | none => s)
  else
    let s := notePeer p i s
    if i.hwType = 0x4860 ∧ rolesFit (hbRole p s) i.role.toNat = true then
      let s := (s.wr Reg.HbStat.LINK p.val 0 3).count Reg.HbStat.LINK_UP_CNT p.val
      let s := (s.wr Reg.HbStat.CREDITS p.val 0 16).wr Reg.HbStat.HB_MISS p.val 0 0
      pairEval (s.raise (468 + p.val))
    else s.wr Reg.HbStat.LINK p.val 0 2

/-- LANE_LOCK_LOSS (Table 14.6). -/
def laneLossEff (p : HbIx) (s : State) : State := if hbUp p s then hbDown p 1 s else s

/-- The reference is lost: both ports wait in TRAINING for it (R322, Table 14.6); a port whose role is off stays OFF. -/
def hbRefLost (s : State) : State := allHb.foldl (fun s p => if hbRole p s = 0 then s else hbDown p 1 s) s

/-- The reference is present again: a port whose role is not off trains (Table 14.6). -/
def hbRefBack (s : State) : State := allHb.foldl (fun s p => if hbRole p s ≠ 0 ∧ hbLink p s = 0 then hbDown p 1 s else s) s

/-- What a write of object 0x4F30 can change of a port: role and lane inversions. -/
def hbCfgOf (p : HbIx) (s : State) : Nat × Nat × Nat :=
  (hbRole p s, s.rd Reg.HbCfg.TX_INV / 4 ^ p.val % 4, s.rd Reg.HbCfg.RX_INV / 4 ^ p.val % 4)

/-- Object 0x4F30 has been written (R333): a port whose role or inversion changed goes to OFF, and to TRAINING when its role is not off. -/
def hbCfgWritten (old : State) (s : State) : State :=
  allHb.foldl (fun s p =>
    if hbCfgOf p old = hbCfgOf p s then s
    else if hbRole p s = 0 ∨ s.rdB Reg.ClkStat.REF_OK = false then hbDown p 0 s else hbDown p 1 s) s

/-! ### Receiving (R326) -/

/-- The bytes a frame's CRC covers. -/
def hbFrameBytes (f : HbFrame) : List Byte :=
  [f.fseq, f.b1] ++ leBytes 2 f.msg.toNat ++ leBytes 2 f.part.toNat ++ [f.b6, f.nbytes] ++ f.payload

/-- Every check of R326 but that of FSEQ. -/
def hbFrameOk (f : HbFrame) : Bool :=
  let ty := f.b1.toNat
  let n := f.nbytes.toNat
  let last := bit f.b6.toNat 1
  f.payload.length == 64 && f.crc.toNat == crc32c (hbFrameBytes f) && decide (1 ≤ ty) && decide (ty ≤ 6)
    && decide (f.b6.toNat < 4) && decide (1 ≤ n) && decide (n ≤ 64) && (n == 64 || last)

/-- Add a frame to the message of its TYPE; a whole message goes to its consumer (R328). -/
def hbTake (p : HbIx) (f : HbFrame) (s : State) : State :=
  let ty := f.b1.toNat
  let first := bit f.b6.toNat 0
  let body := f.payload.take f.nbytes.toNat
  let old := (s.hb p).parts.find? fun q => q.typ == ty
  let s := s.setHb p fun x => { x with parts := x.parts.filter fun q => q.typ != ty }
  let acc : Option (List Byte) :=
    if first then (if f.part = 0 then some body else none)
    else match old with
      | some q => if q.msg = f.msg.toNat ∧ q.part = f.part.toNat then some (q.bytes ++ body) else none
      | none => none
  match acc with
  | none => s
  | some bs =>
    if bit f.b6.toNat 1 then s.setHb p fun x => { x with inbox := x.inbox ++ [(ty, bs)] }
    else s.setHb p fun x => { x with parts := x.parts ++ [⟨ty, f.msg.toNat, f.part.toNat + 1, bs⟩] }

/-- Answer a frame with a CR set. -/
def hbAnswer (p : HbIx) (fseq code : Nat) (s : State) : State := s.setHb p fun x => { x with lastCr := some (fseq, code) }

/-- A standby passes on the owner's reply to the oldest frame that it forwarded (R337). -/
def takeForwarded (p : HbIx) (s : State) : State :=
  match (s.hb p).inbox.find? fun x => x.1 == tyMailbox with
  | some msg =>
    if isStandby s ∧ p = pairPort s then
      match s.pair.fwd with
      | t :: rest =>
        let s := { s.setHb p fun x => { x with inbox := x.inbox.eraseP fun q => q.1 == tyMailbox } with pair := { s.pair with fwd := rest } }
        match t with
        | .host => { s with crown := { s.crown with reply := some (.plain msg.2) } }
        | .can c => canReply c none msg.2 s
        | .hb q => hbSend q 4 msg.2 s
      | [] => s
    else s
  | none => s

/-- HB_FRAME_RECEIVE (R326). In the Crown pause accepted frames wait in their buffers (R331). -/
def hbReceiveEff (p : HbIx) (f : HbFrame) (s : State) : State :=
  if !hbUp p s then s
  else
    let e := (s.hb p).expF
    let n := f.fseq.toNat
    if !hbFrameOk f then hbAnswer p n 1 s
    else if n = e then
      let s := s.setHb p fun x => { x with expF := (e + 1) % 256 }
      if crownUp s then takeForwarded p (hbAnswer p n 0 (hbTake p f s)) else s.setHb p fun x => { x with held := (x.held ++ [f]).take 16 }
    else if (e + 256 - n) % 256 ≤ 16 then hbAnswer p n 0 s
    else hbAnswer p e 2 (s.count Reg.HbStat.SKIP_CNT p.val)

/-- The Crown runs again: frames held in their buffers are consumed and answered (R331). -/
def hbService (s : State) : State :=
  allHb.foldl (fun s p =>
    let q := (s.hb p).held
    q.foldl (fun s f => takeForwarded p (hbAnswer p f.fseq.toNat 0 (hbTake p f s))) (s.setHb p fun x => { x with held := [] })) s

/-- A consumer takes the oldest message of a TYPE off a port. -/
def hbConsume (p : HbIx) (typ : Nat) (s : State) : State := s.setHb p fun x => { x with inbox := x.inbox.eraseP fun m => m.1 == typ }

/-! ### Answers (R325-R327) -/

/-- A failed attempt on a frame: resent, or lasting at the second (R326, R327). -/
def hbAttempt (p : HbIx) (fseq : Nat) (s : State) : State :=
  match (s.hb p).flight.find? fun o => o.fseq == fseq with
  | none => s
  | some o =>
    if 1 ≤ o.tries then hbDown p 1 (s.count Reg.HbStat.LASTING_CNT p.val)
    else s.setHb p fun x => { x with flight := x.flight.map fun q => if q.fseq = fseq then { q with tries := q.tries + 1 } else q }

/-- HB_CREDIT_RETURN (R324-R326): an acknowledged JOURNAL message ends the wait of a reply (R272, R339). -/
def hbCreditEff (p : HbIx) (fseq code check : Nat) (s : State) : State :=
  if !hbUp p s || check != 255 - (fseq ^^^ code) then s
  else if code = 0 then
    match (s.hb p).flight.find? fun o => o.fseq == fseq with
    | none => s
    | some o =>
      let s := s.setHb p fun x => { x with flight := x.flight.filter fun q => q.fseq != fseq }
      let s := s.wr Reg.HbStat.CREDITS p.val 0 (min 16 (s.rd Reg.HbStat.CREDITS p.val + 1))
      let s := if o.tries = 1 then s.count Reg.HbStat.TRANSIENT_CNT p.val else s
      releaseHeld (hbPump p 16 s)
  else if code = 1 ∨ code = 2 then hbAttempt p fseq s
  else s

/-- CR_TIMEOUT (R326): the oldest unanswered frame is resent. -/
def crTimeoutEff (p : HbIx) (s : State) : State :=
  if !hbUp p s then s
  else match (s.hb p).flight with
    | [] => s
    | o :: _ => hbAttempt p o.fseq (s.count Reg.HbStat.CR_TIMEOUT_CNT p.val)

/-! ### Heartbeat (R330) -/

/-- HB_HEARTBEAT_SEND: a port in the pair role that is UP sends its count. -/
def hbBeatEff (p : HbIx) (s : State) : State :=
  if hbUp p s && hbRole p s == 1 && !s.pair.released && s.pow.nrst then s.setHb p fun x => { x with hbCount := (x.hbCount + 1) % 256 } else s

/-- HB_MISS: one more miss; the first raises event 471; at 5 with PAIR_ALIVE_IN asserted a standby counts HB_ONLY_CNT (R330, R342). -/
def hbMissEff (p : HbIx) (s : State) : State :=
  if hbUp p s && hbRole p s == 1 then
    let n := s.rd Reg.HbStat.HB_MISS p.val
    let s := s.count Reg.HbStat.HB_MISS p.val
    let s := if n = 0 then s.raise 471 else s
    if n = 4 ∧ isStandby s = true ∧ s.rdB Reg.PairStat.PA_IN = true then s.count Reg.PairStat.HB_ONLY_CNT else s
  else s

/-- HEARTBEAT_RECEIVE (R330, R345): a standby takes a sample of the time-base offset, a free value. -/
def hbSeenEff (p : HbIx) (s : State) : State :=
  if hbUp p s && hbRole p s == 1 then
    let s := s.wr Reg.HbStat.HB_MISS p.val 0 0
    if isStandby s then (s.wr Reg.PairStat.TB_OFFSET 0 0 (s.free 32)).drew else s
  else s

/-! ### Feide frames over the links (R252, R255) -/

/-- FEIDE_FRAME_RECEIVE: Crown firmware hands a frame that has arrived to the safety processor (R252, R256). -/
def feideArriveEff (t : Transport) (ident : BitVec 29) (ide : Bool) (bs : List Byte) (s : State) : State :=
  if !crownUp s then s
  else
    let s := match t with
      | .can c => s.setCan c fun x => { x with fifo0 := x.fifo0.eraseP fun f => f.ident == ident && f.ide == ide && f.data == bs }
      | .hb p => hbConsume p tyFeide s
      | .host => s
    let s := feideReceive t ident ide bs s
    match t with
    | .can c => canService c s
    | _ => s

/-- FEIDE_PRODUCE (R255): a produced connection forms one frame, which Crown firmware sends on its transport while it runs (R256). -/
def feideProduceEff (c : Fin 16) (s : State) : State :=
  if !s.safe.on || s.rd Reg.Feide.DIR 0 c.val != 2 then s
  else
    let f := feideFrame c s
    let s := s.setConn c fun x => { x with txSeq := (x.txSeq + 1) % 65536, frame := some f }
    let t := s.rd Reg.Feide.TRANSPORT 0 c.val
    if !crownUp s then s
    else if h : t < 4 then
      let k : CanIx := ⟨t, h⟩
      (canOffer k ⟨c.val, by omega⟩ ⟨s.rd Reg.Feide.CAN_ID 0 c.val, s.rdB Reg.Feide.IDE 0 c.val, true, true,
        padTo (fdLen f.length) f, 0, .none, none⟩ s).2
    else if t = 4 then hbSend 0 1 f s
    else if t = 5 then hbSend 1 1 f s
    else s

/-! ### Commands -/

/-- HB_FRAME_RECEIVE. -/
def execHbFrameReceive (p : Fin 2) (f : HbFrame) (s : State) : Out := fin s (hbReceiveEff p f s)
/-- CR_TIMEOUT. -/
def execCrTimeout (p : Fin 2) (s : State) : Out := fin s (crTimeoutEff p s)
/-- HB_HEARTBEAT_SEND. -/
def execHbHeartbeatSend (p : Fin 2) (s : State) : Out := fin s (hbBeatEff p s)
/-- HB_MISS. -/
def execHbMiss (p : Fin 2) (s : State) : Out := fin s (hbMissEff p s)
/-- HEARTBEAT_RECEIVE. -/
def execHeartbeatReceive (p : Fin 2) (_count : Byte) (s : State) : Out := fin s (hbSeenEff p s)
/-- LINK_TRAINING_DONE. -/
def execLinkTrainingDone (p : Fin 2) (info : LinkInfo) (s : State) : Out := fin s (trainingDoneEff p info s)
/-- LANE_LOCK_LOSS. -/
def execLaneLockLoss (p : Fin 2) (s : State) : Out := fin s (laneLossEff p s)
/-- FEIDE_FRAME_RECEIVE. -/
def execFeideFrameReceive (t : Transport) (ident : BitVec 29) (ide : Bool) (bytes : List Byte) (s : State) : Out :=
  fin s (feideArriveEff t ident ide bytes s)
/-- FEIDE_PRODUCE. -/
def execFeideProduce (c : Fin 16) (s : State) : Out := fin s (feideProduceEff c s)

end Sys2Proof.Machine
end

