-- ==== Sys2Proof/Machine/Clock.lean ====
section
/-! DEFINITION. Clock synthesis and reference (02_clock_synthesis.md R30-R45) and what leaving the PLL does to the channels (R35-R39). -/

namespace Sys2Proof.Machine

/-- Clock states (Table 2.4). -/
def ckStart : Nat := 0
def ckLocked : Nat := 1
def ckRelock : Nat := 2
def ckBypassRef : Nat := 3
def ckBypassRc : Nat := 4
def ckLockFail : Nat := 5

/-- Clock state. -/
def ckState (s : State) : Nat := s.rd Reg.ClkStat.STATE
/-- Enter a clock state. -/
def setCk (v : Nat) (s : State) : State := s.wr Reg.ClkStat.STATE 0 0 v
/-- Change the hidden state of clock synthesis. -/
def State.setClk (s : State) (f : ClkSt → ClkSt) : State := { s with clk := f s.clk }

/-- The clock branch of a channel stops (R35, R36): outputs to their safe level, AT, CE, SA and SB stop, the MF is suspended.
`trips`: the clock monitor sees it; the monitor of an Idle channel is disarmed (R380). -/
def branchStop (c : Ch) (s : State) : State :=
  let s := if (s.ch c).idle then s else s.wrBit Reg.ClkStat.CH_TRIP 0 0 c.val true
  let s := ceStop c (atStop c (pgHalt c s))
  let s := sarStop c true (sarStop c false s)
  let s := mfSuspend c s
  let s := s.setCh c fun x => { x with branch := false }
  settle c (safeEval c s)

/-- The clock branch of a channel runs again: a HALTED PG goes to STOPPED, SA and SB start at entry 0 (R102), comparators are unresolved (R107),
the MF returns from SUSPENDED (R38). -/
def branchRun (c : Ch) (s : State) : State :=
  if (s.ch c).branch then s
  else
    let s := s.setCh c fun x => { x with branch := true }
    let s := if (s.pg c).dbgHalt then s else haltEnd c s
    let s := sarStart c true (sarStart c false s)
    let s := allCmp.foldl (fun s j => cmpChange c j (cmpUnresolve c j) s) s
    settle c (mfTryStart c (mfResume c s))

/-- Change one CLKOUT. -/
def State.setOutClk (s : State) (k : Fin 2) (f : ClkOutSt → ClkOutSt) : State :=
  s.setClk fun x => { x with outs := x.outs.set k (f x.outs[k]) }

/-- Reference period in 1/8 VCO periods (R30): the crystal and REF_FREQ 0 are 25 MHz. -/
def refUnits (s : State) : Nat :=
  if s.rd Reg.ClkRef.REF_SEL = 0 ∨ s.rd Reg.ClkRef.REF_FREQ = 0 then 960 else if s.rd Reg.ClkRef.REF_FREQ = 1 then 1200 else 2400

/-- Period of the bypass clock in the same unit; the RC oscillator at its nominal 100 MHz (R33). -/
def bypassUnits (s : State) : Nat := if s.clk.bypass = .ref then refUnits s else 240

/-- Period of a CLKOUT before phase steps (R41, R44, R45): DIV of its source, no shorter than FMAX_DIV VCO periods; off the PLL the bypass clock
divided by the smallest integer that keeps the programmed frequency or less. -/
def clkoutPeriod (k : Fin 2) (s : State) : Nat :=
  let lim := 8 * s.rd Reg.ClkOut.FMAX_DIV k.val
  let mult := fun (u want : Nat) => u * ((want + u - 1) / u)
  if s.rdB Reg.ClkOut.SRC k.val then mult (refUnits s) (max (refUnits s * s.rdL Reg.ClkOut.DIV k.val) lim)
  else
    let want := max (8 * s.rdL Reg.ClkOut.DIV k.val) lim
    if ckState s = ckLocked then want else mult (bypassUnits s) want

/-- The step of the committed phase count that a period beginning now makes (R43): positive lengthens it; none that would break FMAX_DIV (R44). -/
def clkoutStep (k : Fin 2) (s : State) : Int :=
  let d := s.clk.outs[k].unspent.sign
  if ckState s ≠ ckLocked ∨ s.rdB Reg.ClkOut.SRC k.val ∨ (clkoutPeriod k s : Int) + d < 8 * (s.rd Reg.ClkOut.FMAX_DIV k.val : Int) then 0 else d

/-- A CLKOUT begins a high phase: half of the period, the longer half where it is odd. -/
def clkoutRise (k : Fin 2) (late : Nat) (s : State) : State :=
  let d := clkoutStep k s
  let h := (((clkoutPeriod k s : Int) + d + 1) / 2).toNat
  s.setOutClk k fun x => { x with unspent := x.unspent - d, step := d, clocks := true, level := true, len := h, left := h - late, highLen := h }

/-- Length of the low phase that follows the running high phase: the rest of the period as it now is, and no less than FMAX_DIV asks of the period and of
the phase (R44). -/
def clkoutLow (k : Fin 2) (s : State) : Nat :=
  let x := s.clk.outs[k]
  let lim := 8 * s.rd Reg.ClkOut.FMAX_DIV k.val
  let p := ((clkoutPeriod k s : Int) + x.step).toNat
  max (p / 2) (max ((lim + 1) / 2) (lim - x.highLen))

/-- What an enabled CLKOUT needs to clock (R45): SRC = 0 that it is not muted, SRC = 1 that the reference is present. -/
def clkoutGo (k : Fin 2) (s : State) : Bool :=
  s.rdB Reg.ClkOut.EN k.val && (if s.rdB Reg.ClkOut.SRC k.val then s.rdB Reg.ClkStat.REF_OK else !s.clk.outs[k].muted)

/-- Off the PLL an output with SRC = 0 follows its MODE (R45). -/
def clkoutMode (s : State) : State :=
  if ckState s = ckLocked then s
  else (List.finRange 2).foldl (fun s k =>
    if s.rdB Reg.ClkOut.SRC k.val then s else s.setOutClk k fun x => { x with muted := s.rdB Reg.ClkOut.MODE k.val }) s

/-- One tick is 120 units of 1/8 VCO period (R30), so that at most one phase of an output ends in it: a high phase that ends goes low, and a low phase
that ends goes high again while the output may clock. An output that may not clock finishes its high phase and stays low. -/
def clkoutTick (k : Fin 2) (s : State) : State :=
  let x := s.clk.outs[k]
  if !x.clocks then (if clkoutGo k s then clkoutRise k 0 s else s)
  else if 120 < x.left then s.setOutClk k fun x => { x with left := x.left - 120 }
  else
    let late := 120 - x.left
    if x.level then
      if clkoutGo k s then
        let l := clkoutLow k s
        s.setOutClk k fun x => { x with level := false, len := l, left := l - late }
      else s.setOutClk k fun x => { x with level := false, clocks := false, left := 0 }
    else if clkoutGo k s then clkoutRise k late s
    else s.setOutClk k fun x => { x with clocks := false, left := 0 }

/-- The system clock leaves the PLL (R33, R35, R38, R39, R343, R45). -/
def leavePll (s : State) : State :=
  let s := s.eachCh fun s c => if (s.ch c).branch then branchStop c s else s
  let s := canClockLost s
  ownerRelease ((clkoutMode s).raise 492)

/-- An acquisition starts (R32). -/
def acquire (s : State) : State := (setCk ckRelock s).setClk fun x => { x with attempt := 1, settling := false, bypass := .ref }

/-- RC bypass (Table 2.2). -/
def toRc (s : State) : State :=
  (((setCk ckBypassRc s).wr Reg.ClkStat.TIME_COARSE 0 0 1).wr Reg.ClkStat.REF_OK 0 0 0).setClk fun x =>
    { x with attempt := 0, settling := false, bypass := .rc }

/-- LOCK_LOSS (R33, Table 2.2): BYPASS_REF, and at once RELOCK. -/
def lockLossEff (s : State) : State :=
  if ckState s = ckLocked ∧ s.rdB Reg.ClkStat.REF_OK = true then
    acquire (leavePll ((setCk ckBypassRef s).count Reg.ClkStat.LOCK_LOSS_CNT))
  else s

/-- REFERENCE_LOSS (R31, Table 2.2). -/
def refLossEff (s : State) : State :=
  if s.rdB Reg.ClkStat.REF_OK then
    let was := ckState s
    let s := toRc s
    let s := if was = ckLocked then leavePll (s.count Reg.ClkStat.REF_LOSS_CNT) else s
    hbRefLost s
  else s

/-- REFERENCE_PRESENT (R31, Table 2.2). -/
def refPresentEff (s : State) : State :=
  if s.rdB Reg.ClkStat.REF_OK then s
  else
    let s := (s.wr Reg.ClkStat.REF_OK 0 0 1).wr Reg.ClkStat.TIME_COARSE 0 0 0
    hbRefBack (if ckState s = ckStart ∨ ckState s = ckBypassRc then acquire s else s)

/-- PLL_ACQUISITION_TIMEOUT (R32): a second attempt, then LOCK_FAIL. -/
def pllTimeoutEff (s : State) : State :=
  if ckState s = ckRelock ∧ s.clk.settling = false then
    (if s.clk.attempt = 1 then s.setClk fun x => { x with attempt := 2 }
     else if s.clk.attempt = 2 then (setCk ckLockFail s).setClk fun x => { x with attempt := 0 }
     else s)
  else s

/-- PLL_LOCK (R32): the settle time starts; a second attempt that locks is transient. -/
def pllLockEff (s : State) : State :=
  if ckState s = ckRelock ∧ s.clk.settling = false ∧ s.clk.attempt ≠ 0 then
    let s := if s.clk.attempt = 2 then s.count Reg.ClkStat.LOCK_TRANSIENT_CNT else s
    s.setClk fun x => { x with settling := true }
  else s

/-- PLL_SETTLED (R32, Table 2.2): LOCKED, CLK_LOCK, and the channel branches run again. -/
def pllSettledEff (s : State) : State :=
  if ckState s = ckRelock ∧ s.clk.settling = true then
    let s := (setCk ckLocked s).setClk fun x => { x with attempt := 0, settling := false }
    (s.raise 493).eachCh fun s c => branchRun c s
  else s

/-- RELOCK written (Table 2.3). -/
def relockEff (s : State) : State := if ckState s = ckLockFail then acquire s else s

/-- REF_SEL or REF_FREQ changed by an accepted write (R40). -/
def refChangedEff (s : State) : State :=
  let was := ckState s
  let s := toRc s
  hbRefLost (if was = ckLocked then leavePll s else s)

/-- CLOCK_MONITOR_TRIP (R36): one channel. -/
def monitorTripEff (c : Ch) (s : State) : State :=
  if (s.ch c).branch && !(s.ch c).idle then branchStop c s else s

/-- CLOCK_BRANCH_RUNS_AGAIN: a branch whose monitor tripped alone. -/
def branchAgainEff (c : Ch) (s : State) : State := if ckState s = ckLocked then branchRun c s else s

/-- COMMIT of a CLKOUT (R42). -/
def clkoutCommitEff (k : Fin 2) (s : State) : State := s.wr Reg.ClkOut.PEND k.val 0 1

/-- CLKOUT_SET_APPLY (R42, R43): the set comes into force; a phase count not yet spent is replaced. The row is the falling edge: a low phase that runs
takes its length from the new set, and an output without edges (not enabled, or muted) takes the set when the row comes (log entry 32). -/
def clkoutApplyEff (k : Fin 2) (s : State) : State :=
  if s.rdB Reg.ClkOut.PEND k.val then
    let s := (s.commitAll [Reg.ClkOut.DIV, Reg.ClkOut.PHASE_STEP] k.val).wr Reg.ClkOut.PEND k.val 0 0
    let s := s.setOutClk k fun x => { x with unspent := s.rdLS Reg.ClkOut.PHASE_STEP k.val }
    let x := s.clk.outs[k]
    if x.clocks && !x.level then
      let l := clkoutLow k s
      s.setOutClk k fun x => { x with len := l, left := l - (x.len - x.left) }
    else s
  else s

/-- CLKOUT_UNMUTE (R45): 100 µs after the return to LOCKED. -/
def clkoutUnmuteEff (k : Fin 2) (s : State) : State :=
  if ckState s = ckLocked then s.setOutClk k fun x => { x with muted := false } else s

/-- REFERENCE_LOSS. -/
def execReferenceLoss (s : State) : Out := fin s (refLossEff s)
/-- REFERENCE_PRESENT. -/
def execReferencePresent (s : State) : Out := fin s (refPresentEff s)
/-- PLL_ACQUISITION_TIMEOUT. -/
def execPllAcquisitionTimeout (s : State) : Out := fin s (pllTimeoutEff s)
/-- PLL_LOCK. -/
def execPllLock (s : State) : Out := fin s (pllLockEff s)
/-- PLL_SETTLED. -/
def execPllSettled (s : State) : Out := fin s (pllSettledEff s)
/-- LOCK_LOSS. -/
def execLockLoss (s : State) : Out := fin s (lockLossEff s)
/-- CLOCK_MONITOR_TRIP. -/
def execClockMonitorTrip (c : Ch) (s : State) : Out := fin s (monitorTripEff c s)
/-- CLOCK_BRANCH_RUNS_AGAIN. -/
def execClockBranchRunsAgain (c : Ch) (s : State) : Out := fin s (branchAgainEff c s)
/-- CLKOUT_SET_APPLY. -/
def execClkoutSetApply (k : Fin 2) (s : State) : Out := fin s (clkoutApplyEff k s)
/-- CLKOUT_UNMUTE. -/
def execClkoutUnmute (k : Fin 2) (s : State) : Out := fin s (clkoutUnmuteEff k s)

end Sys2Proof.Machine
end

