-- ==== Sys2Proof/Machine/Mem.lean ====
section
/-! DEFINITION. MRAM and Crown SRAM (16_fabric_and_memory.md R353-R367): block reads and writes that complete, retirement to spares, the scrubbers, the arbitration after a transfer. -/

namespace Sys2Proof.Machine

/-- Blocks of MRAM (R367). -/
def mramBlocks : Nat := 524288
/-- A lost block lies in n bytes from an offset of a partition whose first block is b0. -/
def spanLost (b0 off n : Nat) (s : State) : Bool :=
  decide (0 < n) && s.mem.lost.any fun b => decide (b0 + off / 64 ≤ b) && decide (b ≤ b0 + (off + n - 1) / 64)

/-- A block that can no longer be written lies in those bytes (R366). -/
def spanDead (b0 off n : Nat) (s : State) : Bool :=
  decide (0 < n) && s.mem.lost.any fun b => decide (b0 + off / 64 ≤ b) && decide (b ≤ b0 + (off + n - 1) / 64) && blockDead b s

/-- A command whose transfer fails (R366): INTERNAL, with an internal code that is a free value (log entry 102). -/
def internalFail (s : State) : Done × State := (.fail stInternal (s.free 16), s.drew)

/-- A transient failure (R364, R365). -/
def mramTransient (s : State) : State := (s.count Reg.MemStat.MRAM_TRANSIENT_CNT).raise 480

/-- Retire a block to the next spare; with the pool empty it stays in place (R366). -/
def mramRetire (blk : Nat) (s : State) : State :=
  let n := s.rd Reg.MemStat.SPARES_LEFT
  if n = 0 then s.wr Reg.MemStat.POOL_EMPTY 0 0 1
  else
    let s := s.setMem fun m => { m with remap := (m.remap.filter fun r => r.1 != blk) ++ [(blk, m.nextSpare)], nextSpare := m.nextSpare + 1 }
    let s := (s.wr Reg.MemStat.SPARES_LEFT 0 0 (n - 1)).count Reg.MemStat.RETIRE_CNT
    (s.wr Reg.MemStat.LAST_RETIRED 0 0 blk).raise 481

/-- A journal record that stands in a lost block is VOID (R279). -/
def voidIf (blk : Nat) (r : JRec) : JRec := if journalBlock r.jseq = blk then ⟨false, 0x0A, 0xFF, 0, r.jseq, List.replicate 52 0⟩ else r

/-- A load whose image has the block cannot copy it (R74). -/
def loadLoses (blk : Nat) (s : State) (l : RunningLoad) : RunningLoad :=
  match imageBlockOf l.slot blk s with
  | some i => if l.badCode = 0 then { l with badCode := blockCode i } else l
  | none => l

/-- What a consumer loses with a block that cannot be read: the load that copies it fails (R74), a journal record becomes VOID (R279, R364). -/
def loseBlock (blk : Nat) (s : State) : State :=
  let s := s.setMem fun m => { m with lost := if m.lost.contains blk then m.lost else blk :: m.lost }
  let s := s.eachCh fun s c => s.setBatt c fun b => { b with load := b.load.map (loadLoses blk s) }
  { s with crown := { s.crown with journal := s.crown.journal.map (voidIf blk) } }

/-- A read failed once and passed at the second while a loader copies the image block that it belongs to: that image block is read once more, and counted
once (R74). -/
def loadTransient (blk : Nat) (s : State) : State :=
  s.eachCh fun s c => match (s.batt c).load with
    | some l =>
      match imageBlockOf l.slot blk s with
      | some i =>
        if l.again.contains i then s
        else (s.setBatt c fun b => { b with load := some { l with again := i :: l.again } }).count Reg.Batt.BLK_TRANSIENT_CNT (cI c)
      | none => s
    | none => s

/-- A block read by the scrubber or a consumer (R364): `bad1`, `bad2`: the first and the second read fail their CRC. -/
def blockRead (blk : Nat) (bad1 bad2 : Bool) (s : State) : State :=
  if !bad1 then s
  else if !bad2 then mramTransient s
  else loseBlock blk (mramRetire blk s)

/-- MRAM_READ_COMPLETE (R364): a consumer's read, a table loader's or an image verification's among them (R74, R395). -/
def mramReadEff (blk : Nat) (bad1 bad2 : Bool) (s : State) : State :=
  let s := blockRead blk bad1 bad2 s
  if bad1 && !bad2 then loadTransient blk s else s

/-- MRAM_WRITE_COMPLETE (R365): the written block can be read again; a lasting failure moves it to its spare, or loses it when there is none. -/
def mramWriteEff (blk : Nat) (bad1 bad2 : Bool) (s : State) : State :=
  let good := blockWritten blk
  if !bad1 then (if blockDead blk s then s else good s)
  else if !bad2 then good (mramTransient s)
  else if s.rd Reg.MemStat.SPARES_LEFT = 0 then loseBlock blk (mramRetire blk s)
  else good (mramRetire blk s)

/-- 365 days of RTC. -/
def scrubLimit : Nat := 365 * 86400 * 32768

/-- MRAM_SCRUB (R367): the next block is read and rewritten, in Run. -/
def mramScrubEff (bad1 bad2 : Bool) (s : State) : State :=
  if s.pow.st = .run ∧ s.crown.run = .running then
    let pos := s.rd Reg.MemStat.SCRUB_POS
    let s := if pos = 0 then s.wr Reg.MemStat.PASS_START_RTC 0 0 (rtcNow s) else s
    let s := blockRead pos bad1 bad2 s
    let s := s.wr Reg.MemStat.SCRUB_POS 0 0 ((pos + 1) % mramBlocks)
    if scrubLimit < rtcNow s - s.rd Reg.MemStat.PASS_START_RTC then s.wr Reg.MemStat.SCRUB_LATE 0 0 1 else s
  else s

/-- SRAM_SCRUB (R363, R367): what one pass over Crown SRAM found. -/
def sramScrubEff (corrected uncorrectable : Bool) (s : State) : State :=
  let s := if corrected then s.count Reg.MemStat.SRAM_CORR_CNT else s
  if uncorrectable then s.count Reg.MemStat.SRAM_UNCORR_CNT else s

/-! ### Arbitration (R353, R355, R357, R358) -/

/-- Targets SRAM0-SRAM3, MRAM0 and MRAM1, by number (R353). -/
abbrev Target := Fin 6

/-- The macro that holds a block: 16 MiB each (R353). -/
def macroOf (blk : Nat) : Target := if blk < 262144 then 4 else 5

/-- A requester reaches a target (Table 16.1). -/
def reaches (t : Target) (r : Nat) : Bool :=
  if r = 0 ∨ r = 1 ∨ r = 11 ∨ r = 14 then true
  else if r = 10 then t != 4
  else if r = 12 then decide (t.val < 4)
  else t == 5

/-- The requesters that ask a target, in number order. -/
def asking (t : Target) (reqs : Nat) : List Nat := (List.range 15).filter fun r => bit reqs r && reaches t r

/-- The first of some requesters after one in number order, round to the start. -/
def nextAfter (last : Nat) (rs : List Nat) : Option Nat := (rs.find? fun r => decide (last < r)).or rs.head?

/-- The requester that a target grants: of those of the highest class that ask, the first after the one it granted last in that class (R355). -/
def fabricGrant (t : Target) (reqs : Nat) (s : State) : Option Nat :=
  let rs := asking t reqs
  let top := (rs.map fun r => s.rd Reg.Fabric.CLASS 0 r).foldl max 0
  nextAfter (s.mem.lastGrant[t][Fin.ofNat 4 top]) (rs.filter fun r => s.rd Reg.Fabric.CLASS 0 r == top)

/-- The round-robin position of a target in the class of a requester moves to it (R355). -/
def moveGrant (t : Target) (r : Nat) (s : State) : State :=
  s.setMem fun m => { m with lastGrant := m.lastGrant.set t (m.lastGrant[t].set (Fin.ofNat 4 (s.rd Reg.Fabric.CLASS 0 r)) r) }

/-- A target that has become free arbitrates: a requester that withdraws after its grant moves the position as if it had been served, is counted, and the target
arbitrates again (R358). -/
def arbitrate (t : Target) (wd : Nat) : Nat → Nat → State → State
  | 0, _, s => s
  | fuel + 1, reqs, s =>
    match fabricGrant t reqs s with
    | none => s
    | some r =>
      let s := moveGrant t r s
      if bit wd r then arbitrate t wd fuel (setBit reqs r false) (s.count Reg.MemStat.WITHDRAW_CNT) else s

/-- The arbitration that follows a transfer: `reqs` ask the target, and `wd` are those that withdraw when they are granted. Every requester is granted once at most. -/
def arbitrateAll (t : Target) (reqs wd : BitVec 15) (s : State) : State := arbitrate t wd.toNat 15 reqs.toNat s

/-- MRAM_READ_COMPLETE. -/
def execMramReadComplete (blk : BitVec 19) (bad1 bad2 : Bool) (reqs wd : BitVec 15) (s : State) : Out :=
  fin s (arbitrateAll (macroOf blk.toNat) reqs wd (mramReadEff blk.toNat bad1 bad2 s))
/-- MRAM_WRITE_COMPLETE. -/
def execMramWriteComplete (blk : BitVec 19) (bad1 bad2 : Bool) (reqs wd : BitVec 15) (s : State) : Out :=
  fin s (arbitrateAll (macroOf blk.toNat) reqs wd (mramWriteEff blk.toNat bad1 bad2 s))
/-- MRAM_SCRUB. -/
def execMramScrub (bad1 bad2 : Bool) (s : State) : Out := fin s (mramScrubEff bad1 bad2 s)
/-- SRAM_SCRUB: of the bank that the scrubber has just read, the next arbitration too. -/
def execSramScrub (corrected uncorrectable : Bool) (bank : Fin 4) (reqs wd : BitVec 15) (s : State) : Out :=
  fin s (arbitrateAll ⟨bank.val, by omega⟩ reqs wd (sramScrubEff corrected uncorrectable s))

end Sys2Proof.Machine
end

