-- ==== Sys2Proof/Machine/Images.lean ====
section
/-! DEFINITION. Firmware images and their checks, the inactive bank, and image transfers along the Hatband chain (18_lifecycle_and_update.md R394-R402). -/

namespace Sys2Proof.Machine

/-! ### The firmware banks -/

/-- Bytes of a firmware bank. -/
def fwSize : Nat := 8388608

/-- RUN_BANK: true when bank B runs. -/
def runIsB (s : State) : Bool := s.rdB Reg.Fw.RUN_BANK

/-- The inactive bank: true for bank B. -/
def inactIsB (s : State) : Bool := !runIsB s

/-- Bytes of a firmware bank. -/
def LifeSt.fw (l : LifeSt) (isB : Bool) : SMap Byte := if isB then l.fwB else l.fwA
/-- Half blocks written since a bank was last EMPTY. -/
def LifeSt.written (l : LifeSt) (isB : Bool) : SMap Bool := if isB then l.writtenB else l.writtenA

/-- Change the life-cycle and firmware state. -/
def State.setLife (s : State) (f : LifeSt → LifeSt) : State := { s with life := f s.life }

/-- Write bytes at an offset, a multiple of 512, of a firmware bank. -/
def fwPut (isB : Bool) (off : Nat) (bs : List Byte) (s : State) : State :=
  s.setLife fun l =>
    let d := SMap.setRun 0 (l.fw isB) off bs
    let w := SMap.setRun false (l.written isB) (off / 512) (List.replicate (bs.length / 512) true)
    if isB then { l with fwB := d, writtenB := w } else { l with fwA := d, writtenA := w }

/-- States of the inactive bank (Table 18.8). -/
def inEmpty : Nat := 0
def inWriting : Nat := 1
def inReceiving : Nat := 2
def inVerified : Nat := 3
def inRejected : Nat := 4

/-- State of the inactive bank. -/
def inactState (s : State) : Nat := s.rd Reg.Fw.INACT_STATE

/-- The inactive bank becomes unverified (Table 18.8). -/
def inactOpen (v : Nat) (s : State) : State :=
  ((s.wr Reg.Fw.INACT_STATE 0 0 v).wr Reg.Fw.INACT_VERSION 0 0 0).wr Reg.Fw.INACT_SEC 0 0 0

/-! ### Image checks (Table 18.7) -/

/-- A little-endian field of a firmware bank. -/
def fwLe (isB : Bool) (o n : Nat) (s : State) : Nat := leVal (SMap.scan 0 (s.life.fw isB) o n)

/-- N_BLOCKS of the header. -/
def fwBlocks (isB : Bool) (s : State) : Nat := fwLe isB 12 2 s

/-- Check 1: identity and size. -/
def fwChk1 (isB : Bool) (s : State) : Bool :=
  fwLe isB 0 4 s == 0x4E575243 && fwLe isB 4 1 s == 1 && decide (3 ≤ fwBlocks isB s) && decide (fwBlocks isB s ≤ 8192)
/-- Check 2: hardware. -/
def fwChk2 (isB : Bool) (s : State) : Bool := fwLe isB 6 2 s == 0x4860 && fwLe isB 14 1 s == 0xB1
/-- Check 14: reserved fields of the header and of the signature block. -/
def fwChk14 (isB : Bool) (s : State) : Bool :=
  let sigAt := 1024 * (fwBlocks isB s - 1)
  decide (fwLe isB 15 1 s < 2) && (SMap.scan 0 (s.life.fw isB) 25 995).all (· == 0) && (SMap.scan 0 (s.life.fw isB) (sigAt + 384) 636).all (· == 0)
/-- MRAM block with the first byte of a firmware bank (Table 16.2). -/
def fwBlock0 (isB : Bool) : Nat := if isB then 131072 else 0
/-- Check 3: every block against its CRC. The second read of a block that failed its CRC once is part of its MRAM_READ_COMPLETE (R364, R395): a transient
failure changes no byte and is counted there, and a lasting one leaves the content lost, which fails this check. -/
def fwChk3 (isB : Bool) (s : State) : Bool :=
  let n := fwBlocks isB s
  (s.mem.lost.all fun b => decide (b < fwBlock0 isB) || decide (fwBlock0 isB + 16 * n ≤ b))
    && (List.range n).all fun i => crc32c (SMap.scan 0 (s.life.fw isB) (1024 * i) 1020) == fwLe isB (1024 * i + 1020) 4 s
/-- Check 4: every block written since the bank was last EMPTY. -/
def fwChk4 (isB : Bool) (s : State) : Bool := (SMap.scan false (s.life.written isB) 0 (2 * fwBlocks isB s)).all id
/-- Image hash (R394). -/
def fwHash (isB : Bool) (s : State) : List Byte := sha384 (SMap.scan 0 (s.life.fw isB) 0 (1024 * (fwBlocks isB s - 1)))
/-- A key and signature of the signature block match a key hash. -/
def fwSigned (isB : Bool) (o : Nat) (keyHash : List Byte) (s : State) : Bool :=
  let pub := SMap.scan 0 (s.life.fw isB) (1024 * (fwBlocks isB s - 1) + o) 96
  let sig := SMap.scan 0 (s.life.fw isB) (1024 * (fwBlocks isB s - 1) + o + 96) 96
  sha384 pub == keyHash && Config.ecdsaP384 pub sig (fwHash isB s)
/-- Check 5: vendor signature. -/
def fwChk5 (isB : Bool) (s : State) : Bool := fwSigned isB 0 s.life.vendorHash s
/-- Check 6: OEM signature once the OEM key is burned. -/
def fwChk6 (isB : Bool) (s : State) : Bool :=
  match s.life.oemHash with
  | none => true
  | some h => fwSigned isB 192 h s
/-- UNIT_BOUND of the header. -/
def fwBound (isB : Bool) (s : State) : Bool := bit (fwLe isB 15 1 s) 0
/-- Check 7: bound to no unit or to this one. -/
def fwChk7 (isB : Bool) (s : State) : Bool := !fwBound isB s || fwLe isB 16 8 s == s.rd Reg.Life.UNIT_ID
/-- Check 8: bound images only, once BIND_REQUIRED is burned. -/
def fwChk8 (isB : Bool) (s : State) : Bool := !s.rdB Reg.Life.BIND_REQUIRED || fwBound isB s
/-- Check 9: security version. -/
def fwChk9 (isB : Bool) (s : State) : Bool := decide (s.rd Reg.Life.SEC_FLOOR ≤ fwLe isB 5 1 s)

/-- Code of the first image check that fails, 0 when all pass (R395): 1, 2, 14, then 3 to 9. -/
def fwCheck (isB : Bool) (s : State) : Nat :=
  if !fwChk1 isB s then 1 else if !fwChk2 isB s then 2 else if !fwChk14 isB s then 14 else if !fwChk3 isB s then 3
  else if !fwChk4 isB s then 4 else if !fwChk5 isB s then 5 else if !fwChk6 isB s then 6 else if !fwChk7 isB s then 7
  else if !fwChk8 isB s then 8 else if !fwChk9 isB s then 9 else 0

/-- Bank A holds the image the device was delivered with, whose bytes the spec does not give (log entry 54). -/
def isDelivered (isB : Bool) (s : State) : Bool := !isB && s.life.writtenA == []

/-- Code of the first check of Table 18.7 that a bank fails, 0 when it passes. The delivered image passes while its blocks can be read (log entry 54). -/
def bankCode (isB : Bool) (s : State) : Nat :=
  if isDelivered isB s then (if s.mem.lost.all fun b => decide (131072 ≤ b) then 0 else 3) else fwCheck isB s

/-- IMAGE_VERSION and SEC_VERSION of a bank; those of the delivered image are its delivered values (Table 18.11). -/
def bankVersion (isB : Bool) (s : State) : Nat × Nat :=
  if isDelivered isB s then (Reg.Fw.RUN_VERSION.reset 0 0, Reg.Fw.RUN_SEC.reset 0 0) else (fwLe isB 8 4 s, fwLe isB 5 1 s)

/-- The inactive bank is VERIFIED with its versions (Table 18.8). -/
def inactVerified (isB : Bool) (s : State) : State :=
  let v := bankVersion isB s
  ((s.wr Reg.Fw.INACT_STATE 0 0 inVerified).wr Reg.Fw.INACT_VERSION 0 0 v.1).wr Reg.Fw.INACT_SEC 0 0 v.2

/-- The inactive bank is verified (Table 18.8): VERIFIED with its versions, or REJECTED with IMAGE_VERIFY_FAIL. Answers the code. -/
def inactVerify (s : State) : Nat × State :=
  let b := inactIsB s
  let code := bankCode b s
  if code = 0 then
    (0, inactVerified b s)
  else
    (code, ((inactOpen inRejected s).wr Reg.Fw.LAST_REJECT 0 0 code).raise 497)

/-! ### Sending a transfer (R397, R400) -/

/-- Write bytes into a store slot. -/
def storePut (slot off : Nat) (bs : List Byte) (s : State) : State := { s with store := SMap.setRun 0 s.store (bankSize * slot + off) bs }

/-- A block of what a transfer of this kind carries: the inactive bank or a store slot. -/
def xferBlock (kind slot blk : Nat) (s : State) : List Byte :=
  if kind = 0 then SMap.scan 0 (s.life.fw (inactIsB s)) (1024 * blk) 1024 else SMap.scan 0 s.store (bankSize * slot + 1024 * blk) 1024

/-- The descriptor that goes with a block of a transfer that stands in this device. -/
def xferDesc (kind slot hops id blk n : Nat) (s : State) : ImgDesc :=
  let b := inactIsB s
  let unit := if kind = 0 then (if fwBound b s then fwLe b 16 8 s else 0) else 0
  let ver := if kind = 0 then fwLe b 8 4 s else leVal (SMap.scan 0 s.store (bankSize * slot + 8) 4)
  ⟨BitVec.ofNat 8 kind, BitVec.ofNat 8 slot, BitVec.ofNat 8 hops, BitVec.ofNat 32 id, BitVec.ofNat 16 blk, BitVec.ofNat 16 n,
   BitVec.ofNat 32 (crc32c (xferBlock kind slot blk s)), BitVec.ofNat 64 unit, BitVec.ofNat 32 ver⟩

/-- The bytes of a descriptor under an OP. -/
def imgBytes (op : Nat) (d : ImgDesc) : List Byte :=
  imgHead op d.kind.toNat d.slot.toNat d.hops.toNat d.xferId.toNat d.blockNo.toNat d.nBlocks.toNat d.blockCrc.toNat d.unitId.toNat d.version.toNat

/-- A port that carries transfers: UP in a pair or chain role (R397, R400). -/
def xferPort (p : HbIx) (s : State) : Bool := hbUp p s && hbRole p s != 0

/-- Send one BLOCK message on a port and keep it for a RESEND (R399). -/
def sendBlock (p : HbIx) (d : ImgDesc) (data : List Byte) (s : State) : State :=
  let s := hbSend p 6 (imgBytes 1 d ++ data) s
  s.setLife fun l => { l with lastSent := l.lastSent.set p (some (d, data)) }

/-- Next block of an outgoing transfer on a port. -/
def XferOut.at_ (o : XferOut) (p : HbIx) : Nat := if p = 0 then o.next.1 else o.next.2
/-- One more block sent on a port. -/
def XferOut.sent (o : XferOut) (p : HbIx) : XferOut := if p = 0 then { o with next := (o.next.1 + 1, o.next.2) } else { o with next := (o.next.1, o.next.2 + 1) }

/-- A port has no IMAGE message waiting. -/
def imgIdle (p : HbIx) (s : State) : Bool := (s.hb p).out.all fun m => m.typ != tyImage

/-- The origin's next block on a port: queued when the one before has left the queue. -/
def xoutPort (p : HbIx) (s : State) : State :=
  match s.life.xout with
  | none => s
  | some o =>
    if o.at_ p < o.nBlocks ∧ xferPort p s ∧ imgIdle p s ∧ crownUp s then
      let d := xferDesc o.kind o.slot 0 o.id (o.at_ p) o.nBlocks s
      let s := sendBlock p d (xferBlock o.kind o.slot (o.at_ p) s) s
      let s := s.setLife fun l => { l with xout := some (o.sent p) }
      s.wr Reg.Dist.XFER_BLOCKS 0 0 (max (s.rd Reg.Dist.XFER_BLOCKS) (o.at_ p + 1))
    else s

/-- The origin sends on; its transfer is complete when every block has left (R397). -/
def xoutPump (s : State) : State :=
  let s := xoutPort 1 (xoutPort 0 s)
  match s.life.xout with
  | some o =>
    if o.nBlocks ≤ o.next.1 ∧ o.nBlocks ≤ o.next.2 ∧ imgIdle 0 s ∧ imgIdle 1 s then
      (s.setLife fun l => { l with xout := none }).wr Reg.Dist.XFER_STATE 0 0 3
    else s
  | none => s

/-- Blocks of what START would send, if R397 allows it. -/
def xferSource (kind slot : Nat) (s : State) : Option Nat :=
  if s.life.xout.isSome ∨ s.life.xin ≠ [] then none
  else if kind = 0 then (if inactState s = inVerified then some (fwBlocks (inactIsB s) s) else none)
  else
    let n := leVal (SMap.scan 0 s.store (bankSize * slot + 14) 2)
    if leVal (SMap.scan 0 s.store (bankSize * slot) 4) = 0x54544142 ∧ 23 ≤ n ∧ n ≤ 151 then some n else none

/-- The device becomes the origin of a transfer (R397); XFER_ID is a free value. -/
def transferEff (s : State) : State :=
  let kind := s.rd Reg.Dist.SEND_KIND
  let slot := s.rd Reg.Dist.SEND_SLOT
  match xferSource kind slot s with
  | none => s
  | some n =>
    let id := s.free 32
    let s := s.drew
    let nx := fun p => if xferPort p s then 0 else n
    let s := s.setLife fun l => { l with xout := some ⟨id, kind, if kind = 0 then 0 else slot, n, (nx 0, nx 1)⟩, seen := id :: l.seen }
    let s := ((s.wr Reg.Dist.XFER_STATE 0 0 2).wr Reg.Dist.XFER_BLOCKS 0 0 0).wr Reg.Dist.XFER_ID 0 0 id
    xoutPump s

/-! ### Receiving a transfer (R398-R402) -/

/-- The device stores a transfer that starts (R398, R70). -/
def storesXfer (d : ImgDesc) (s : State) : Bool :=
  if d.kind = 0 then
    s.rdB Reg.Dist.ACCEPT_FW && s.rd Reg.Life.LIFECYCLE != 3 && inactState s != inWriting && inactState s != inReceiving
      && (d.unitId == 0 || d.unitId.toNat == s.rd Reg.Life.UNIT_ID) && decide (d.nBlocks.toNat ≤ 8192)
  else
    s.rdB Reg.Dist.ACCEPT_BATT && decide (d.slot.toNat < 32) && decide (d.nBlocks.toNat ≤ 256)
      && allCh.all fun c => s.rd Reg.Batt.ACTIVE_SLOT (cI c) != d.slot.toNat

/-- Replace the record of an incoming transfer. -/
def setXin (x : XferIn) (s : State) : State :=
  s.setLife fun l => { l with xin := (l.xin.filter fun y => y.id != x.id) ++ [x] }

/-- Ask the neighbour for a block once more (R399). -/
def askResend (p : HbIx) (d : ImgDesc) (s : State) : State := hbSend p 6 (imgBytes 2 d) s

/-- Forward a block (R400). -/
def forwardBlock (p : HbIx) (d : ImgDesc) (data : List Byte) (s : State) : State :=
  let q := otherPort p
  if d.hops.toNat < 15 ∧ xferPort q s then sendBlock q { d with hops := d.hops + 1 } data s else s

/-- The last block of a stored transfer is stored (R402, Table 18.8). -/
def xferDone (x : XferIn) (s : State) : State :=
  let s := s.wr Reg.Dist.XFER_STATE 0 0 3
  if x.kind = 0 then (inactVerify (s.raise 496)).2
  else cAdd ⟨5 + x.port.val, 0xFF, 0, 0, false⟩ 3 0xFFFF x.slot x.oldCrc (slotCrc x.slot s) true s

/-- A store slot that has become an ACTIVE_SLOT since its transfer began takes no more of it (R70): the rest passes through, and the transfer has failed here. -/
def stillStored (x : XferIn) (s : State) : XferIn × State :=
  if x.stored && x.kind != 0 && allCh.any fun c => s.rd Reg.Batt.ACTIVE_SLOT (cI c) == x.slot then
    ({ x with stored := false }, s.wr Reg.Dist.XFER_STATE 0 0 4)
  else (x, s)

/-- A block that passed its check: stored or passed, and forwarded (R398-R400). -/
def takeBlock (x : XferIn) (d : ImgDesc) (data : List Byte) (s : State) : State :=
  let s := if x.resent then s.count Reg.Dist.XFER_TRANSIENT_CNT else s
  let r := stillStored x s
  let x := r.1
  let s := r.2
  let s :=
    if x.stored then
      let s := if x.kind = 0 then fwPut (inactIsB s) (1024 * x.next) data s else storePut x.slot (1024 * x.next) data s
      ((s.wr Reg.Dist.XFER_STATE 0 0 1).wr Reg.Dist.XFER_BLOCKS 0 0 (x.next + 1)).wr Reg.Dist.XFER_ID 0 0 x.id
    else s
  let s := forwardBlock x.port d data s
  if x.next + 1 = x.nBlocks then
    let s := s.setLife fun l => { l with xin := l.xin.filter fun y => y.id != x.id }
    if x.stored then xferDone x s else s
  else setXin { x with next := x.next + 1, resent := false } s

/-- Block 0 of a transfer not seen before (R398). -/
def startXfer (p : HbIx) (d : ImgDesc) (data : List Byte) (resent : Bool) (s : State) : State :=
  let st := storesXfer d s
  let old := if st ∧ d.kind ≠ 0 then slotCrc d.slot.toNat s else 0
  let x : XferIn := ⟨d.xferId.toNat, p, d.kind.toNat, d.slot.toNat, d.nBlocks.toNat, 0, st, resent, old⟩
  let s := s.setLife fun l => { l with seen := x.id :: l.seen }
  let s := if st then (if d.kind = 0 then inactOpen inReceiving s else s) else s.count Reg.Dist.PASS_CNT
  takeBlock x d data (setXin x s)

/-- IMAGE_BLOCK_RECEIVE (R398-R402). -/
def imageBlockEff (p : HbIx) (d : ImgDesc) (data : List Byte) (s : State) : State :=
  if !(hbUp p s && crownUp s) || decide (1 < d.kind.toNat) || d.nBlocks == 0 then s
  else
    let s := hbConsume p tyImage s
    let ok := data.length == 1024 && crc32c data == d.blockCrc.toNat
    match s.life.xin.find? fun x => x.id == d.xferId.toNat && x.port == p with
    | none =>
      if d.blockNo ≠ 0 ∨ s.life.seen.contains d.xferId.toNat then s
      else if ok then startXfer p d data false s
      else askResend p d (setXin ⟨d.xferId.toNat, p, d.kind.toNat, d.slot.toNat, d.nBlocks.toNat, 0, false, true, 0⟩ s)
    | some x =>
      if x.next ≠ 0 ∧ d.blockNo = 0 then s
      else if d.blockNo.toNat ≠ x.next then xferAbandon x s
      else if !ok then (if x.resent then xferAbandon x s else askResend p d (setXin { x with resent := true } s))
      else if x.next = 0 then startXfer p d data true s
      else takeBlock x d data s

/-- IMAGE_RESEND (R399): the named block goes once more, from the image that stands here, or from the block passed on last. -/
def imageResendEff (p : HbIx) (d : ImgDesc) (s : State) : State :=
  if !(hbUp p s && crownUp s) then s
  else
    let s := hbConsume p tyImage s
    let blk := d.blockNo.toNat
    match s.life.xout.filter fun o => o.id == d.xferId.toNat with
    | some o => if blk < o.at_ p then sendBlock p (xferDesc o.kind o.slot 0 o.id blk o.nBlocks s) (xferBlock o.kind o.slot blk s) s else s
    | none =>
      match s.life.lastSent[p] with
      | some (e, data) => if e.xferId = d.xferId ∧ e.blockNo = d.blockNo then sendBlock p e data s else s
      | none => s

/-- IMAGE_ABANDON (R399): the transfer is abandoned here too, and ABANDON goes onward. -/
def imageAbandonEff (p : HbIx) (d : ImgDesc) (s : State) : State :=
  if !(hbUp p s && crownUp s) then s
  else
    let s := hbConsume p tyImage s
    match s.life.xin.find? fun x => x.id == d.xferId.toNat && x.port == p with
    | some x => xferAbandon x s
    | none => s

/-- IMAGE_BLOCK_RECEIVE. -/
def execImageBlockReceive (p : Fin 2) (d : ImgDesc) (data : List Byte) (s : State) : Out := fin s (imageBlockEff p d data s)
/-- IMAGE_RESEND. -/
def execImageResend (p : Fin 2) (d : ImgDesc) (s : State) : Out := fin s (imageResendEff p d s)
/-- IMAGE_ABANDON. -/
def execImageAbandon (p : Fin 2) (d : ImgDesc) (s : State) : Out := fin s (imageAbandonEff p d s)
/-- HB_CREDIT_RETURN. An origin's next block follows when its queue is empty. -/
def execHbCreditReturn (p : Fin 2) (fseq code check : Byte) (s : State) : Out :=
  fin s (xoutPump (hbCreditEff p fseq.toNat code.toNat check.toNat s))

end Sys2Proof.Machine
end

