-- ==== Sys2Proof/Machine/ObjTable.lean ====
section
/-! DEFINITION. The table of the objects: id of the first instance, whether each channel has one, how many consecutive ids it takes, its length in bytes and its fields. -/

namespace Sys2Proof.Machine

/-- Objects, part 1. -/
def objTable1 : List Obj :=
  [⟨0x0F20, false, 1, 5, Reg.CrownSup.fields⟩,
   ⟨0x10E0, true, 1, 114, Reg.Route.fields⟩,
   ⟨0x0F30, false, 1, 4, Reg.ClkRef.fields⟩,
   ⟨0x0F31, false, 1, 10, Reg.ClkStat.fields⟩,
   ⟨0x0F32, false, 2, 9, Reg.ClkOut.fields⟩,
   ⟨0x1030, true, 1, 41, Reg.AtCtl.fields⟩,
   ⟨0x1031, true, 1, 32, Reg.Pll.fields⟩,
   ⟨0x1032, true, 1, 18, Reg.Enc.fields⟩,
   ⟨0x1033, true, 1, 28, Reg.AtStat.fields⟩,
   ⟨0x1034, true, 1, 132, Reg.Es.fields⟩,
   ⟨0x1035, true, 1, 68, Reg.Cap.fields⟩,
   ⟨0x1040, true, 1, 4, Reg.BattCtl.fields⟩,
   ⟨0x1041, true, 1, 40, Reg.Batt.fields⟩,
   ⟨0x1050, true, 2, 84, Reg.Seq.fields⟩,
   ⟨0x1052, true, 2, 164, Reg.Res.fields⟩,
   ⟨0x1054, true, 1, 12, Reg.Conv.fields⟩,
   ⟨0x1060, true, 1, 132, Reg.CmpCfg.fields⟩,
   ⟨0x1061, true, 1, 132, Reg.CmpTh.fields⟩,
   ⟨0x1062, true, 1, 44, Reg.CmpStat.fields⟩,
   ⟨0x1070, true, 4, 520, Reg.Prog.fields⟩]

/-- Objects, part 2. -/
def objTable2 : List Obj :=
  [⟨0x1074, true, 1, 72, Reg.CeCtl.fields⟩,
   ⟨0x1075, true, 1, 40, Reg.CeStat.fields⟩,
   ⟨0x1076, true, 1, 296, Reg.CeVar.fields⟩,
   ⟨0x1080, true, 32, 520, Reg.Coef.fields⟩,
   ⟨0x10A0, true, 1, 8, Reg.PgCfg.fields⟩,
   ⟨0x10A1, true, 1, 36, Reg.PgSet.fields⟩,
   ⟨0x10A2, true, 1, 220, Reg.PgOut.fields⟩,
   ⟨0x10A3, true, 1, 52, Reg.PgCut.fields⟩,
   ⟨0x10A4, true, 1, 68, Reg.PgStat.fields⟩,
   ⟨0x10B0, true, 1, 56, Reg.GdiCfg.fields⟩,
   ⟨0x10B1, true, 1, 48, Reg.GdiStat.fields⟩,
   ⟨0x10B2, true, 1, 14, Reg.Hb.fields⟩,
   ⟨0x10C0, true, 1, 16, Reg.GridCfg.fields⟩,
   ⟨0x10C1, true, 1, 12, Reg.GridReq.fields⟩,
   ⟨0x10C2, true, 1, 88, Reg.GridVf.fields⟩,
   ⟨0x10C3, true, 1, 36, Reg.GridIsl.fields⟩,
   ⟨0x10C4, true, 1, 40, Reg.GridStat.fields⟩,
   ⟨0x10C8, true, 1, 28, Reg.MpptCfg.fields⟩,
   ⟨0x10C9, true, 1, 16, Reg.MpptStat.fields⟩,
   ⟨0x2000, true, 1, 16, Reg.MeterCfg.fields⟩,
   ⟨0x2001, true, 1, 76, Reg.MeterCal.fields⟩,
   ⟨0x2002, true, 1, 128, Reg.Cycle.fields⟩,
   ⟨0x2003, true, 1, 232, Reg.Energy.fields⟩,
   ⟨0x2004, true, 1, 32, Reg.MeterStat.fields⟩]

/-- Objects, part 3. -/
def objTable3 : List Obj :=
  [⟨0x2005, true, 1, 64, Reg.Aggr.fields⟩,
   ⟨0x2006, true, 1, 240, Reg.Snap.fields⟩,
   ⟨0x2F00, false, 1, 84, Reg.Bill.fields⟩,
   ⟨0x3F00, false, 1, 136, Reg.SafeIn.fields⟩,
   ⟨0x3F01, false, 1, 260, Reg.Feide.fields⟩,
   ⟨0x3F02, false, 1, 168, Reg.Safe.fields⟩,
   ⟨0x4F10, false, 1, 20, Reg.MbxCfg.fields⟩,
   ⟨0x4F11, false, 1, 152, Reg.HostStat.fields⟩,
   ⟨0x4F20, false, 4, 160, Reg.CanCfg.fields⟩,
   ⟨0x4F28, false, 4, 40, Reg.CanStat.fields⟩,
   ⟨0x4F30, false, 1, 4, Reg.HbCfg.fields⟩,
   ⟨0x4F31, false, 2, 28, Reg.HbStat.fields⟩,
   ⟨0x4F40, false, 1, 8, Reg.PairCfg.fields⟩,
   ⟨0x4F41, false, 1, 40, Reg.PairStat.fields⟩,
   ⟨0x5F00, false, 1, 36, Reg.PowCfg.fields⟩,
   ⟨0x5F01, false, 1, 56, Reg.PowStat.fields⟩,
   ⟨0x5F02, false, 1, 12, Reg.StoreFuse.fields⟩,
   ⟨0x5F03, false, 1, 32, Reg.Rtc.fields⟩,
   ⟨0x6F00, false, 1, 24, Reg.Life.fields⟩,
   ⟨0x6F01, false, 1, 24, Reg.Fw.fields⟩,
   ⟨0x6F02, false, 1, 20, Reg.Dist.fields⟩,
   ⟨0x7F10, false, 1, 18, Reg.Fabric.fields⟩,
   ⟨0x7F11, false, 1, 36, Reg.MemStat.fields⟩,
   ⟨0x7F12, false, 1, 16, Reg.Package.fields⟩]

/-- Every object of the device. -/
def objTable : List Obj := objTable1 ++ objTable2 ++ objTable3

/-- The object that an id names, with its instance offset from the base id; none names no object (00_scope.md R10). -/
def objAt (oid : Nat) : Option (Obj × Nat) :=
  (objTable.find? fun o => (o.instOf oid).isSome).bind fun o => (o.instOf oid).map fun n => (o, n)

end Sys2Proof.Machine
end

