-- ==== Sys2Proof/Machine/ObjImage.lean ====
section
/-! DEFINITION. Object images (00_scope.md R4-R7, 13_command_reference.md R291-R294): reading an object whole, the content a write is merged with, and the fields a write covers. -/

namespace Sys2Proof.Machine

/-- Value of index `i` of a field in an image held as one little-endian number. -/
def Fld.from (f : Fld) (i img : Nat) : Nat := img / 2 ^ f.pos i % 2 ^ f.w

/-- Byte offset of index `i`. -/
def Fld.at_ (f : Fld) (i : Nat) : Nat := f.off + f.stride * i

/-- Index `i` shares a byte with bytes `lo … hi − 1` (R294). -/
def Fld.covered (f : Fld) (i lo hi : Nat) : Bool :=
  decide (f.pos i / 8 < hi) && decide (lo ≤ (f.pos i + f.w - 1) / 8)

/-- The field is stored by a write: RW or RWS. -/
def Fld.stored (f : Fld) : Bool := f.acc == .rw || f.acc == .rws

/-- A write can act on the field. -/
def Fld.writable (f : Fld) : Bool := f.stored || f.acc == .wo || f.acc == .w1c

/-- Channel of an instance offset of a channel object. -/
def chOfI (n : Nat) : Ch := Fin.ofNat 8 (n / 256)

/-- Replace `k` bytes at `off` of an image by a value. -/
def imgPut (img off k v : Nat) : Nat :=
  img / 2 ^ (8 * (off + k)) * 2 ^ (8 * (off + k)) + v % 2 ^ (8 * k) * 2 ^ (8 * off) + img % 2 ^ (8 * off)

/-- An image built from the fields of an object. -/
def imgBuild (fs : List Fld) (v : Fld → Nat → Nat) : Nat :=
  fs.foldl (fun acc f => (List.range f.cnt).foldl (fun acc i => acc + v f i * 2 ^ f.pos i) acc) 0

/-- Mailbox fields that a read forms (Table 12.12). -/
def mbxField (f : Fld) (i : Nat) (s : State) : Option Nat :=
  let b := s.mb (Fin.ofNat 16 i)
  if f = Reg.HostStat.QUEUED then some b.queued
  else if f = Reg.HostStat.PENDING then some b.pendingResp
  else if f = Reg.HostStat.LOCKED then some b.lock.isSome.toNat
  else if f = Reg.HostStat.NGROUPS then some ((b.lock.map fun l => l.groups.length).getD 0)
  else none

/-- A field as a read sees it: those that follow the machine are formed at the read, the others are stored. -/
def fieldRead (f : Fld) (n i : Nat) (s : State) : Nat :=
  let c := chOfI n
  let v :=
    if f = Reg.AtCtl.FW_SX then (if s.rdS Reg.AtCtl.FW n < 0 then 65535 else 0)
    else if f = Reg.AtStat.ANGLE then (s.ch c).angle
    else if f = Reg.AtStat.FW_NOW then enc 64 (s.ch c).at_.fw
    else if f = Reg.PgStat.POS then carrierPos c s
    else if f = Reg.Energy.REG then (s.mf c).acc.getD i 0 / 2 ^ 32
    else match mbxField f i s with
      | some v => v
      | none => s.rd f n i
  v % 2 ^ f.w

/-- Staged writes of the lock of a mailbox on one object, oldest first (R283). -/
def stagedOf (m : Mbx) (oid : Nat) (s : State) : List Staged :=
  ((s.mb m).lock.toList.flatMap fun l => l.staged).filter fun w => w.oid == oid

/-- Lay staged writes over an image. -/
def overlay (ws : List Staged) (img : Nat) : Nat := ws.foldl (fun img w => imgPut img w.off w.bytes.length (leVal w.bytes)) img

/-- The stored part of an object: RW and RWS fields as they stand, every other bit 0. -/
def storedImg (o : Obj) (n : Nat) (s : State) : Nat := imgBuild o.flds fun f i => if f.stored then s.rd f n i else 0

/-- The stored part that a write of this mailbox is merged with: the content in force, or the staged content (R294). -/
def writeBase (o : Obj) (n oid : Nat) (ws : List Staged) (s : State) : Nat :=
  let mask := imgBuild o.flds fun f _ => if f.stored then 2 ^ f.w - 1 else 0
  overlay (ws.filter fun w => w.oid == oid) (storedImg o n s) &&& mask

/-- What a write composes its fields from: the stored part, and RO and RC fields as they stand (R292, R294). WO fields read 0; bits of a W1C field outside the
write are 0, which keeps them. -/
def composeBase (o : Obj) (n oid : Nat) (ws : List Staged) (s : State) : Nat :=
  writeBase o n oid ws s + imgBuild o.flds fun f i => if f.acc = .ro ∨ f.acc = .rc then fieldRead f n i s else 0

/-- The object as a read returns it (R6, R283): WO fields read 0; the lock owner sees its staged writes. -/
def readImg (o : Obj) (n oid : Nat) (ws : List Staged) (s : State) : Nat :=
  let base := writeBase o n oid ws s
  imgBuild o.flds fun f i => if f.acc = .wo then 0 else if f.stored then f.from i base else fieldRead f n i s

/-- LAYOUT of an object: byte 0 of each (R11). -/
def layoutFld (o : Obj) : Fld := ⟨o.base, 0, 0, 1, 0, 8, .ro, 1, [], 0, false⟩

/-- The layout version that the running firmware reports for an object (R11). -/
def layoutOf (o : Obj) (n : Nat) (s : State) : Nat := s.rd (layoutFld o) n

/-- CRC-32C of a whole object (R287). -/
def objCrc (o : Obj) (n oid : Nat) (s : State) : Nat := crc32c (leBytes o.len (readImg o n oid [] s))

/-- What a read changes: RC fields are cleared (R6), and captures count as read (03_angle_timebase.md R66). -/
def readClears (o : Obj) (n : Nat) (s : State) : State :=
  let s := o.flds.foldl (fun s f => if f.acc = .rc then (List.range f.cnt).foldl (fun s i => s.wr f n i 0) s else s) s
  if o.base = 0x1035 then s.setCh (chOfI n) fun x => { x with capUnread := 0 } else s

/-- A write being made: the object and its instance, the bytes it carries, and the whole image it would leave (R294). -/
structure ObjW where
  o : Obj
  n : Nat
  lo : Nat
  hi : Nat
  img : Nat

/-- A field of the object as the write would leave it; for WO, W1C, RO and RC fields the value written. -/
def ObjW.g (w : ObjW) (f : Fld) (i : Nat := 0) : Nat := f.from i w.img
/-- The write covers index `i` of a field. -/
def ObjW.cov (w : ObjW) (f : Fld) (i : Nat := 0) : Bool := f.covered i w.lo w.hi
/-- A signed field. -/
def ObjW.gs (w : ObjW) (f : Fld) (i : Nat := 0) : Int := sgn f.w (w.g f i)
/-- The write changes a stored field. -/
def ObjW.chg (w : ObjW) (f : Fld) (i : Nat) (s : State) : Bool := w.g f i != s.rd f w.n i

/-- The write of bytes at an offset, over a base image. -/
def mkObjW (o : Obj) (n base lo : Nat) (data : List Byte) : ObjW := ⟨o, n, lo, lo + data.length, imgPut base lo data.length (leVal data)⟩

/-- Offsets of the stored fields that a write changes. -/
def ObjW.changed (w : ObjW) (s : State) : List Nat :=
  w.o.flds.flatMap fun f => if f.stored then ((List.range f.cnt).filter fun i => w.chg f i s).map f.at_ else []

/-- Offset of the first writable field that a write covers. -/
def ObjW.first (w : ObjW) : Nat :=
  let l := w.o.flds.flatMap fun f => if f.writable then ((List.range f.cnt).filter fun i => w.cov f i).map f.at_ else []
  minL (l.headD w.lo) l

end Sys2Proof.Machine
end

