-- ==== Sys2Proof/Machine/ObjCheck.lean ====
section
/-! DEFINITION. The checks of an object write (13_command_reference.md R293): reserved and read-only fields, encodings and ranges (check 6), and compatibility with the state in force (check 7). A check answers the byte offsets of the fields concerned. -/

namespace Sys2Proof.Machine

/-- An offset, if a condition is bad. -/
def badAt (b : Bool) (off : Nat) : List Nat := if b then [off] else []

/-- Offsets found for every index below `n`. -/
def forIx (n : Nat) (p : Nat → List Nat) : List Nat := (List.range n).flatMap p

/-! ### Reserved bits (00_scope.md R5) -/

/-- Offsets of the fields that have bits in a byte. -/
def occupants (o : Obj) (b : Nat) : List Nat :=
  o.flds.flatMap fun f => ((List.range f.cnt).filter fun i => f.covered i b (b + 1)).map f.at_

/-- First byte of the run of wholly reserved bytes that a byte stands in. -/
def runStart (o : Obj) : Nat → Nat
  | 0 => 0
  | b + 1 => if occupants o b = [] then runStart o b else b + 1

/-- Offset of the reserved field in a byte, as the field maps list it: log entry 44. -/
def reservedAt (o : Obj) (b : Nat) : Nat :=
  let l := occupants o b
  if l ≠ [] then minL b l
  else if o.base = 0x10A2 ∨ (o.base = 0x10A3 ∧ b < 20) ∨ (o.base = 0x4F20 ∧ 32 ≤ b) then (if b < 4 then runStart o b else b / 4 * 4)
  else if o.base = 0x2001 ∨ o.base = 0x3F00 ∨ o.base = 0x3F01 then (if b < 4 then b else runStart o b)
  else runStart o b

/-- Reserved bits written with 1. -/
def reservedBad (w : ObjW) : List Nat :=
  let mask := imgBuild w.o.flds fun f _ => 2 ^ f.w - 1
  let r := (w.img &&& mask) ^^^ w.img
  if r = 0 then []
  else forIx (w.hi - w.lo) fun k =>
    let b := w.lo + k
    badAt (r / 2 ^ (8 * b) % 256 != 0) (reservedAt w.o b)

/-- RO and RC fields other than LAYOUT written with a value other than 0 (R292). -/
def readOnlyBad (w : ObjW) : List Nat :=
  w.o.flds.flatMap fun f =>
    if (f.acc = .ro ∧ f.off ≠ 0) ∨ f.acc = .rc then
      forIx f.cnt fun i => badAt (w.cov f i && w.g f i != 0) (f.at_ i)
    else []

/-! ### Encodings and ranges -/

/-- A value outside a range. -/
def outside (lo hi v : Nat) : Bool := decide (v < lo) || decide (hi < v)

/-- Clock and CLKOUT (02_clock_synthesis.md). -/
def rangeClk (w : ObjW) (s : State) : List Nat :=
  if w.o.base = 0x0F30 then badAt (w.g Reg.ClkRef.REF_FREQ == 3) 1
  else
    let ref := w.g Reg.ClkOut.SRC == 1
    let d := w.g Reg.ClkOut.DIV
    let per := if s.rd Reg.ClkRef.REF_SEL = 0 ∨ s.rd Reg.ClkRef.REF_FREQ = 0 then 120 else if s.rd Reg.ClkRef.REF_FREQ = 1 then 150 else 300
    badAt (decide (d < if ref then 1 else 30)) 2 ++ badAt (decide (w.g Reg.ClkOut.FMAX_DIV < 30)) 4
      ++ badAt (decide ((if ref then d * per else d) < w.g Reg.ClkOut.FMAX_DIV)) 2
      ++ badAt (ref && w.g Reg.ClkOut.PHASE_STEP != 0) 6

/-- Angle timebase and encoder (03_angle_timebase.md). -/
def rangeAngle (w : ObjW) : List Nat :=
  if w.o.base = 0x1030 then
    let fw := w.gs Reg.AtCtl.FW
    badAt (w.g Reg.AtCtl.SRC == 3) 1 ++ badAt (decide (500 < w.g Reg.AtCtl.COAST_MS)) 4
      ++ badAt (outside 0x100 0x10000000 (w.g Reg.AtCtl.ES_HYST)) 8
      ++ badAt (decide (fwMax < fw) || decide (fw < -fwMax) || (w.g Reg.AtCtl.SRC == 0 && decide (fw < 0))) 24
  else if w.o.base = 0x1031 then
    badAt (decide (31 < w.g Reg.Pll.VA_SEL)) 2 ++ badAt (decide (31 < w.g Reg.Pll.VB_SEL)) 3 ++ badAt (decide (31 < w.g Reg.Pll.VC_SEL)) 4
      ++ badAt (w.g Reg.Pll.LOCK_N == 0) 6 ++ badAt (w.g Reg.Pll.LOSS_N == 0) 30
  else if w.o.base = 0x1032 then
    badAt (decide (1 < w.g Reg.Enc.MODE)) 1 ++ badAt (w.g Reg.Enc.LINES == 0) 2 ++ badAt (outside 1 32 (w.g Reg.Enc.POLE_PAIRS)) 4
      ++ badAt (decide (31 < w.g Reg.Enc.SIN_SEL)) 12 ++ badAt (decide (31 < w.g Reg.Enc.COS_SEL)) 13
  else
    forIx 8 fun j =>
      let st := w.g Reg.Es.ENTRY_STEP j
      let rp := w.g Reg.Es.ENTRY_REPEAT j
      let ac := w.g Reg.Es.ENTRY_ACTION j
      badAt (decide (2 ^ 32 < st * (rp + 1)) || (st == 0 && decide (0 < rp))) (8 + 16 * j)
        ++ badAt (decide (9 < ac)) (16 + 16 * j)
        ++ badAt ((ac == 4 || ac == 8) && decide (3 < w.g Reg.Es.ENTRY_PARAM j)) (17 + 16 * j)

/-- Sequences and comparators (05_sensing.md). -/
def rangeSense (w : ObjW) : List Nat :=
  if w.o.base = 0x1050 then
    let entry := fun (inp avg sh : Fld) (n : Nat) =>
      forIx n fun e => badAt (w.g inp e == 15) (inp.at_ e) ++ badAt (decide (8 < w.g avg e) || decide (8 < w.g sh e)) (avg.at_ e)
    badAt (decide (16 < w.g Reg.Seq.REG_LEN)) 1 ++ badAt (decide (4 < w.g Reg.Seq.INJ_LEN)) 2
      ++ entry Reg.Seq.REG_INPUT Reg.Seq.REG_AVG Reg.Seq.REG_SHIFT 16 ++ entry Reg.Seq.INJ_INPUT Reg.Seq.INJ_AVG Reg.Seq.INJ_SHIFT 4
  else if w.o.base = 0x1060 then
    forIx 16 fun j =>
      let m := w.g Reg.CmpCfg.M j
      let n := w.g Reg.CmpCfg.N j
      let smp := w.g Reg.CmpCfg.SAMPLED j == 1
      badAt (decide (11 < w.g Reg.CmpCfg.INPUT j)) (4 + 8 * j)
        ++ badAt (m == 0 || decide (2 * n ≤ m) || decide (m < n)) (5 + 8 * j)
        ++ badAt (smp && (w.g Reg.CmpCfg.CUT_RAW j == 1 || w.g Reg.CmpCfg.GDI_OC j == 1)) (6 + 8 * j)
        ++ badAt (smp && outside 20 200000 (w.g Reg.CmpCfg.SPER j)) (8 + 8 * j)
  else
    forIx 16 fun j => badAt (!thrOk (w.g Reg.CmpTh.TH_A j) (w.g Reg.CmpTh.TH_B j)) (4 + 8 * j)

/-- An operand index that Table 6.1 names. -/
def opReadable (i : Nat) : Bool := decide (i ≤ 0x92) || (decide (0xA0 ≤ i) && decide (i ≤ 0xA8))

/-- `k` outputs from an index lie in one writable range (R126). -/
def opWritable (i k : Nat) : Bool :=
  (decide (0x40 ≤ i) && decide (i + k ≤ 0x80)) || (decide (0xA0 ≤ i) && decide (i + k ≤ 0xA9))

/-- Control engine (06_control_engine.md R126, Table 6.5). -/
def rangeCe (w : ObjW) : List Nat :=
  if w.o.base = 0x1070 then
    let n := w.g Reg.Prog.PROG_LEN
    badAt (decide (64 < n)) 1 ++ forIx (min n 64) fun i =>
      let b := 8 + 8 * i
      let op := w.g Reg.Prog.OP_OP i
      let d := w.g Reg.Prog.OP_DST i
      match opShape op with
      | none => [b]
      | some (outs, coefs, _) =>
        badAt (if op = 18 then d != 0x92 else !opWritable d outs) (b + 1)
          ++ badAt (!opReadable (w.g Reg.Prog.OP_SRC_A i)) (b + 2) ++ badAt (!opReadable (w.g Reg.Prog.OP_SRC_B i)) (b + 3)
          ++ badAt (decide (32 < w.g Reg.Prog.OP_COEF i + coefs)) (b + 4)
          ++ badAt (op != 12 && w.g Reg.Prog.OP_AUX i == 1) (b + 5)
  else
    badAt ((List.range 6).any fun k => w.g Reg.CeCtl.DUTY_MODE / 4 ^ k % 4 == 3) 4

/-- A time field with its reserved bits 0 (Table 7.5). -/
def timeBad (v : Nat) : Bool := decide (2 ^ 21 ≤ v)

/-- Pulse generation and gate drive (07_pulse_generation.md, 08_gate_drive.md). -/
def rangePg (w : ObjW) : List Nat :=
  if w.o.base = 0x10A0 then
    let r := w.g Reg.PgCfg.RELOAD_SRC
    badAt ((r == 1 || r == 2) && w.g Reg.PgCfg.SHAPE == 0) 1
  else if w.o.base = 0x10A1 then badAt (decide (w.g Reg.PgSet.PERIOD < 0x800)) 4
  else if w.o.base = 0x10A2 then
    (forIx 12 fun j => badAt (timeBad (w.g Reg.PgOut.RISE_DLY j)) (8 + 16 * j) ++ badAt (timeBad (w.g Reg.PgOut.FALL_DLY j)) (12 + 16 * j)
        ++ badAt (timeBad (w.g Reg.PgOut.MINPULSE j)) (16 + 16 * j))
      ++ (forIx 6 fun k => badAt (timeBad (w.g Reg.PgOut.ILK_GAP k)) (196 + 4 * k)
        ++ badAt (w.g Reg.PgOut.SAFE_LVL (2 * k) != w.g Reg.PgOut.POL (2 * k) && w.g Reg.PgOut.SAFE_LVL (2 * k + 1) != w.g Reg.PgOut.POL (2 * k + 1)) (4 + 32 * k))
  else if w.o.base = 0x10B0 then
    (forIx 6 fun k => badAt (w.g Reg.GdiCfg.MODE k == 3) (4 + 2 * k)) ++ badAt (outside 100 1600 (w.g Reg.GdiCfg.DESAT_BLANK)) 16
      ++ badAt (outside 400 10000 (w.g Reg.GdiCfg.SQ_DELAY)) 18 ++ badAt (outside 1 1000 (w.g Reg.GdiCfg.RECOV_MS)) 22
  else
    badAt (decide (5 < w.g Reg.Hb.PAIR)) 1 ++ badAt (outside 10 2000 (w.g Reg.Hb.REFRESH_MAX)) 2
      ++ badAt (outside (40 * 32) (65535 * 32) (w.g Reg.Hb.HB_DT / 32 * 32)) 4

/-- Grid functions and MPPT (09_grid_functions.md R199, R200, Tables 9.4-9.9). -/
def rangeGrid (w : ObjW) : List Nat :=
  let g := fun f => w.g f
  if w.o.base = 0x10C0 then
    let on := g Reg.GridCfg.EN == 1
    badAt (g Reg.GridCfg.H_ID == g Reg.GridCfg.H_IQ) 3 ++ badAt (g Reg.GridCfg.I_RATED == 0) 4 ++ badAt (g Reg.GridCfg.I_MAX == 0) 6
      ++ badAt ((on || w.cov Reg.GridCfg.GROUP) && !bit (g Reg.GridCfg.GROUP) (chOfI w.n).val) 2
  else if w.o.base = 0x10C2 then
    badAt (decide (g Reg.GridVf.SUP_LOW ≤ g Reg.GridVf.CEASE_LOW)) 4 ++ badAt (decide (0x4000 ≤ g Reg.GridVf.SUP_LOW)) 6
      ++ badAt (decide (g Reg.GridVf.SUP_HIGH ≤ 0x4000)) 8 ++ badAt (decide (g Reg.GridVf.CEASE_HIGH < g Reg.GridVf.SUP_HIGH)) 8
      ++ badAt (g Reg.GridVf.RECOV_RATE == 0) 78 ++ badAt (outside 20 120 (g Reg.GridVf.FD_S)) 84
  else if w.o.base = 0x10C3 then
    badAt (outside 2 50 (g Reg.GridIsl.ROCOF_WIN)) 2 ++ badAt (outside 1 50 (g Reg.GridIsl.ROCOF_N)) 3
      ++ badAt (decide (g Reg.GridIsl.RECON_VMAX ≤ g Reg.GridIsl.RECON_VMIN)) 20
      ++ badAt (decide (g Reg.GridIsl.RECON_FMAX ≤ g Reg.GridIsl.RECON_FMIN)) 24
      ++ badAt (decide (3600 < g Reg.GridIsl.RECON_S)) 32 ++ badAt (outside 1 1000 (g Reg.GridIsl.RAMP_S)) 34
  else
    let rel := g Reg.MpptCfg.EN == 1 || w.cov Reg.MpptCfg.VMIN || w.cov Reg.MpptCfg.VMAX || w.cov Reg.MpptCfg.DV
    let lo := w.gs Reg.MpptCfg.VMIN
    let hi := w.gs Reg.MpptCfg.VMAX
    let dv := w.gs Reg.MpptCfg.DV
    badAt (outside 4 64 (g Reg.MpptCfg.SWEEP_N)) 3 ++ badAt (rel && decide (hi ≤ lo)) 4
      ++ badAt (rel && (decide (dv ≤ 0) || decide (hi - lo < 4 * dv))) 4
      ++ badAt (outside 10 10000 (g Reg.MpptCfg.STEP_MS)) 16 ++ badAt (outside 10 10000 (g Reg.MpptCfg.SWEEP_MS)) 18
      ++ badAt (decide (1440 < g Reg.MpptCfg.SWEEP_MIN)) 20

/-- Metering (10_metering.md Tables 10.6, 10.7). -/
def rangeMeter (w : ObjW) (s : State) : List Nat :=
  if w.o.base = 0x2000 then
    let v := w.g Reg.MeterCfg.V_FS_MV
    let i := w.g Reg.MeterCfg.I_FS_MA
    badAt (w.g Reg.MeterCfg.KIND == 1 && (s.rd Reg.MeterCal.PHASE w.n 0 != 0 || s.rd Reg.MeterCal.PHASE w.n 3 != 0)) 1
      ++ badAt (v == 0) 4 ++ badAt (i == 0) 8 ++ badAt (decide (2 ^ 50 < v * i)) 4
  else
    let dc := s.rdB Reg.MeterCfg.KIND w.n
    badAt (dc && w.g Reg.MeterCal.PHASE 0 != 0) 12 ++ badAt (dc && w.g Reg.MeterCal.PHASE 3 != 0) 48

/-- A pair of safety inputs (R258). -/
def rangeSinPair (w : ObjW) (p : Nat) : List Nat :=
  let e := 2 * p
  let o := 2 * p + 1
  let te := w.g Reg.SafeIn.TYPE e
  let paired := decide (2 ≤ te) || decide (2 ≤ w.g Reg.SafeIn.TYPE o)
  let differ := fun (f : Fld) => w.g f e != w.g f o
  let tp := w.g Reg.SafeIn.TP_SRC e
  let single := fun i => badAt (w.g Reg.SafeIn.TYPE i == 1 && w.g Reg.SafeIn.DISC_MS i != 0) (12 + 8 * i)
  (if paired then
    badAt (differ Reg.SafeIn.TYPE) (8 + 8 * o) ++ badAt (differ Reg.SafeIn.CH_MASK) (9 + 8 * o)
      ++ badAt (differ Reg.SafeIn.DEBOUNCE_US) (10 + 8 * o) ++ badAt (differ Reg.SafeIn.DISC_MS) (12 + 8 * o)
      ++ badAt (te == 2 && tp != 15 && tp == w.g Reg.SafeIn.TP_SRC o) (8 + 8 * o)
      ++ badAt (outside 10 500 (w.g Reg.SafeIn.DISC_MS e)) (12 + 8 * e)
  else []) ++ single e ++ single o

/-- Two Feide connections clash: one transport and one CONN_ID, both consumed; or one CAN controller and one CAN_ID, whatever their IDE (R258). -/
def connClash (w : ObjW) (a b : Nat) : Bool :=
  let g := fun f (i : Nat) => w.g f i
  let dir := fun i => g Reg.Feide.DIR i
  let tr := fun i => g Reg.Feide.TRANSPORT i
  tr a == tr b && dir a != 0 && dir b != 0 &&
    ((dir a == 1 && dir b == 1 && g Reg.Feide.CONN_ID a == g Reg.Feide.CONN_ID b)
      || (decide (tr a ≤ 3) && g Reg.Feide.CAN_ID a == g Reg.Feide.CAN_ID b))

/-- Safety configuration (11_safety.md R258, Tables 11.8, 11.9). -/
def rangeSafe (w : ObjW) : List Nat :=
  if w.o.base = 0x3F00 then
    (forIx 16 fun i => badAt (outside 0 7 (w.g Reg.SafeIn.TP_SRC i) && w.g Reg.SafeIn.TP_SRC i != 15) (8 + 8 * i)
        ++ badAt (decide (5000 < w.g Reg.SafeIn.DEBOUNCE_US i)) (10 + 8 * i))
      ++ forIx 8 (rangeSinPair w)
  else
    forIx 16 fun c =>
      let g := fun f => w.g f c
      let prod := g Reg.Feide.DIR == 2
      badAt (g Reg.Feide.DIR == 3 || g Reg.Feide.TRANSPORT == 7) (4 + 16 * c)
        ++ badAt (prod && g Reg.Feide.CH_MASK != 0) (5 + 16 * c) ++ badAt (outside 5 1000 (g Reg.Feide.WD_MS)) (6 + 16 * c)
        ++ badAt (g Reg.Feide.DIR != 0 && g Reg.Feide.CONN_ID == 0) (8 + 16 * c)
        ++ badAt (g Reg.Feide.IDE == 0 && decide (2048 ≤ g Reg.Feide.CAN_ID)) (12 + 16 * c)
        ++ badAt (prod && (outside 2 500 (g Reg.Feide.PERIOD_MS) || decide (g Reg.Feide.WD_MS < 2 * g Reg.Feide.PERIOD_MS))) (16 + 16 * c)
        ++ badAt ((List.range c).any fun a => connClash w a c) (4 + 16 * c)

/-- CAN configuration (14_can_and_hatband.md R308, Table 14.2). -/
def rangeCan (w : ObjW) : List Nat :=
  let g := fun f => w.g f
  let own := w.n
  let nq := g Reg.CanCfg.NBRP * (1 + g Reg.CanCfg.NTSEG1 + g Reg.CanCfg.NTSEG2)
  let dq := g Reg.CanCfg.DBRP * (1 + g Reg.CanCfg.DTSEG1 + g Reg.CanCfg.DTSEG2)
  badAt (own != 0 && g Reg.CanCfg.STATUS_MS != 0) 2
    ++ badAt (outside 1 32 (g Reg.CanCfg.NBRP)) 4 ++ badAt (outside 1 128 (g Reg.CanCfg.NSJW)) 5 ++ badAt (outside 2 256 (g Reg.CanCfg.NTSEG1)) 6
    ++ badAt (outside 2 128 (g Reg.CanCfg.NTSEG2)) 8 ++ badAt (outside 1 32 (g Reg.CanCfg.DBRP)) 9 ++ badAt (outside 1 32 (g Reg.CanCfg.DTSEG1)) 10
    ++ badAt (outside 1 16 (g Reg.CanCfg.DTSEG2)) 11 ++ badAt (outside 1 16 (g Reg.CanCfg.DSJW)) 12 ++ badAt (decide (127 < g Reg.CanCfg.TDCO)) 13
    ++ badAt (decide (nq < 120)) 4 ++ badAt (decide (dq < 15)) 9 ++ badAt (decide (nq < dq)) 4
    ++ badAt (decide (g Reg.CanCfg.NTSEG2 < g Reg.CanCfg.NSJW)) 5 ++ badAt (decide (g Reg.CanCfg.DTSEG2 < g Reg.CanCfg.DSJW)) 11
    ++ badAt (decide (2 ^ 29 ≤ g Reg.CanCfg.MBX_REQ_ID)) 16 ++ badAt (decide (2 ^ 29 ≤ g Reg.CanCfg.MBX_RESP_ID)) 20
    ++ badAt (g Reg.CanCfg.STATUS_ID / 2 ^ 29 % 4 != 0) 24
    ++ forIx 32 fun b =>
      let m := w.g Reg.CanCfg.MIRROR b
      badAt (decide (4 < m) || (decide (18 ≤ b) && m != 0) || m == own + 1) (32 + 4 * b)

/-- Mailboxes, Hatband, pair, power and distribution. -/
def rangeSys (w : ObjW) : List Nat :=
  let g := fun f => w.g f
  if w.o.base = 0x0F20 then badAt (outside 160 1000 (g Reg.CrownSup.HOLD_MS)) 2
  else if w.o.base = 0x4F10 then forIx 16 fun m => badAt (w.g Reg.MbxCfg.TRANSPORT m == 7) (4 + m)
  else if w.o.base = 0x4F30 then badAt (g Reg.HbCfg.ROLE_A != 0 && g Reg.HbCfg.ROLE_A == g Reg.HbCfg.ROLE_B) 1
  else if w.o.base = 0x4F40 then badAt ((List.range 16).any fun m => g Reg.PairCfg.MBX_SCOPE / 4 ^ m % 4 == 3) 4
  else if w.o.base = 0x5F00 then
    badAt (g Reg.PowCfg.WAKE3_TAMPER == 1 && bit (g Reg.PowCfg.WAKE_EN) 3) 1 ++ badAt (outside 20 1000 (g Reg.PowCfg.CHG_MA)) 2
      ++ (forIx 4 fun k => badAt (w.g Reg.PowCfg.DEB k == 0) (10 + 4 * k))
      ++ badAt (g Reg.PowCfg.WAKE_IDE == 0 && decide (2048 ≤ g Reg.PowCfg.WAKE_ID)) 24
  else if w.o.base = 0x6F02 then badAt (decide (31 < g Reg.Dist.SEND_SLOT)) 3
  else if w.o.base = 0x7F10 then badAt (w.cov Reg.Fabric.CLASS 13 && w.g Reg.Fabric.CLASS 13 != 0) 15 ++ badAt (w.cov Reg.Fabric.CLASS 14 && w.g Reg.Fabric.CLASS 14 != 0) 16
  else if w.o.base = 0x1040 then badAt (decide (15 < g Reg.BattCtl.REGION_FORCE) && g Reg.BattCtl.REGION_FORCE != 0xFF) 2
  else []

/-- Encodings and ranges of the object written. -/
def rangeBad (w : ObjW) (s : State) : List Nat :=
  let b := w.o.base
  if b = 0x0F30 ∨ b = 0x0F32 then rangeClk w s
  else if b = 0x1030 ∨ b = 0x1031 ∨ b = 0x1032 ∨ b = 0x1034 then rangeAngle w
  else if b = 0x1050 ∨ b = 0x1060 ∨ b = 0x1061 then rangeSense w
  else if b = 0x1070 ∨ b = 0x1074 then rangeCe w
  else if b = 0x10A0 ∨ b = 0x10A1 ∨ b = 0x10A2 ∨ b = 0x10B0 ∨ b = 0x10B2 then rangePg w
  else if b = 0x10C0 ∨ b = 0x10C2 ∨ b = 0x10C3 ∨ b = 0x10C8 then rangeGrid w
  else if b = 0x2000 ∨ b = 0x2001 then rangeMeter w s
  else if b = 0x3F00 ∨ b = 0x3F01 then rangeSafe w
  else if b = 0x4F20 then rangeCan w
  else rangeSys w

/-- Check 6 (R293): offset of the first field concerned. -/
def check6 (w : ObjW) (s : State) : Option Nat :=
  match reservedBad w ++ readOnlyBad w ++ rangeBad w s with
  | [] => none
  | x :: xs => some (minL x xs)

/-! ### The state in force -/

/-- A PG is RUNNING or HALTED. -/
def pgBusy (c : Ch) (s : State) : Bool := s.rd Reg.PgStat.STATE (cI c) != pgStopped
/-- Some PG is RUNNING or HALTED. -/
def anyPgBusy (s : State) : Bool := allCh.any fun c => pgBusy c s

/-- Regular entries that the angle source of a channel uses: converter and entry (R101). -/
def usedEntries (c : Ch) (s : State) : List Nat :=
  let n := cI c
  let src := s.rd Reg.AtCtl.SRC n
  if src = 1 then
    [s.rd Reg.Pll.VA_SEL n, s.rd Reg.Pll.VB_SEL n] ++ (if s.rd Reg.Pll.INPUT n = 0 then [s.rd Reg.Pll.VC_SEL n] else [])
  else if src = 2 ∧ s.rd Reg.Enc.MODE n = 1 then [s.rd Reg.Enc.SIN_SEL n, s.rd Reg.Enc.COS_SEL n] else []

/-- Fields of a regular entry. -/
def entryFlds : List Fld := [Reg.Seq.REG_POL, Reg.Seq.REG_INPUT, Reg.Seq.REG_SHIFT, Reg.Seq.REG_AVG, Reg.Seq.REG_OFFSET]

/-- R101: entries in use that the write changes, in the shadow, or in force by a COMMIT_REG of a shadow that differs there. -/
def usedChanged (w : ObjW) (s : State) : List Nat :=
  let c := chOfI w.n
  if atState c s = 0 then []
  else
    let used := ((usedEntries c s).filter fun e => bit e 4 == (w.n % 256 == 1)).map fun e => e % 16
    let commits := w.cov Reg.Seq.COMMIT_REG && w.g Reg.Seq.COMMIT_REG == 1
    (used.flatMap fun i => entryFlds.flatMap fun f => badAt (w.chg f i s) (f.at_ i))
      ++ badAt (commits && used.any fun i => entryFlds.any fun f => w.g f i != s.rdL f w.n i) 3

/-- A slot delivers to the PG set: SLOT_EN and PG_COMMIT both 1 (R134). -/
def setTaken (c : Ch) (s : State) : Bool :=
  (List.range 4).any fun j => bit (s.rd Reg.CeCtl.SLOT_EN (cI c)) j && s.rdL Reg.Prog.PG_COMMIT (cI c + j) == 1

/-- Host inputs that belong to the grid functions and to the MPPT (R191, R201). -/
def ownedH (c : Ch) (s : State) : List Nat :=
  let n := cI c
  (if s.rdB Reg.GridCfg.EN n then [s.rd Reg.GridCfg.H_ID n, s.rd Reg.GridCfg.H_IQ n] else [])
    ++ (if s.rdB Reg.MpptCfg.EN n then [s.rd Reg.MpptCfg.H_VREF n] else [])

/-- GROUP names another channel whose GROUP differs while its EN is 1, or one whose SRC is not GRID (R199). -/
def groupBad (w : ObjW) (s : State) : Bool :=
  let me := chOfI w.n
  let gr := w.g Reg.GridCfg.GROUP
  (w.cov Reg.GridCfg.GROUP || w.g Reg.GridCfg.EN == 1) && allCh.any fun x => bit gr x.val &&
    (s.rd Reg.AtCtl.SRC (cI x) != 1 || (x != me && s.rdB Reg.GridCfg.EN (cI x) && s.rd Reg.GridCfg.GROUP (cI x) != gr))

/-- A mailbox holds a lock, or a command that is not final other than the one named (R269 names none; under R352 the write that asks is not counted, log entry 100). -/
def mbxBusy (x : Mbx) (self : Option (Mbx × Nat × Nat)) (s : State) : Bool :=
  (s.mb x).lock.isSome || (s.mb x).cmds.any fun c => c.live && !(self == some (x, c.epoch, c.seq))

/-- Channel objects: check 7. -/
def stateBadCh (w : ObjW) (s : State) : List Nat :=
  let c := chOfI w.n
  let b := w.o.base
  if b = 0x1030 then badAt (w.chg Reg.AtCtl.SRC 0 s && atState c s != 0) 1
  else if b = 0x1031 ∨ b = 0x1032 then badAt (atState c s != 0) w.first
  else if b = 0x1050 then usedChanged w s
  else if b = 0x1074 then (ownedH c s).flatMap fun k => badAt (w.chg Reg.CeCtl.H k s) (8 + 4 * k)
  else if b = 0x10A0 ∨ b = 0x10A2 ∨ b = 0x10A3 ∨ b = 0x10B2 then badAt (pgBusy c s) w.first
  else if b = 0x10A1 then
    if setTaken c s then (forIx 6 fun k => badAt (w.cov Reg.PgSet.DUTY k) (8 + 4 * k)) ++ badAt (w.cov Reg.PgSet.M) 32 else []
  else if b = 0x10B0 then
    if pgBusy c s then (w.changed s).filter fun o => o != 1 else []
  else if b = 0x10C0 then
    badAt (pgBusy c s) w.first ++ badAt (w.cov Reg.GridCfg.EN && w.g Reg.GridCfg.EN == 1 && s.rd Reg.AtCtl.SRC w.n != 1) 1 ++ badAt (groupBad w s) 2
  else if b = 0x10C1 then badAt (w.cov Reg.GridReq.RECONNECT && w.g Reg.GridReq.RECONNECT == 1 && !s.rdB Reg.GridStat.READY w.n) 1
  else if b = 0x10C8 then badAt (w.cov Reg.MpptCfg.EN && w.g Reg.MpptCfg.EN == 1 && s.rd Reg.AtCtl.SRC w.n != 0) 1
  else if b = 0x2000 then
    if s.rdB Reg.MeterCfg.EN w.n then
      let evOnly := w.changed s == [1] && (w.o.flds.all fun f => !f.stored || f.off != 1 || f == Reg.MeterCfg.COMMIT_EV || !w.chg f 0 s)
      let enOnly := w.changed s == [1] && (w.o.flds.all fun f => !f.stored || f.off != 1 || f == Reg.MeterCfg.EN || !w.chg f 0 s)
      if w.changed s = [] ∨ evOnly ∨ enOnly then [] else w.changed s
    else []
  else if b = 0x2001 then badAt (s.rdB Reg.MeterCfg.EN w.n) w.first
  else []

/-- Device objects: check 7. `self` is the command that makes the write. -/
def stateBadDev (self : Option (Mbx × Nat × Nat)) (w : ObjW) (s : State) : List Nat :=
  let b := w.o.base
  if b = 0x0F30 then
    if allCh.any fun c => pgIsRunning c s then badAt (w.chg Reg.ClkRef.REF_FREQ 0 s) 1 ++ badAt (w.chg Reg.ClkRef.REF_SEL 0 s) 2 else []
  else if b = 0x3F00 ∨ b = 0x3F01 then badAt (anyGenHigh s) w.first
  else if b = 0x4F10 then forIx 16 fun m => badAt (w.chg Reg.MbxCfg.TRANSPORT m s && mbxBusy (Fin.ofNat 16 m) none s) (4 + m)
  else if b = 0x4F20 then
    let moded := w.chg Reg.CanCfg.MODE 0 s
    let free := fun (f : Fld) => f == Reg.CanCfg.MODE || f == Reg.CanCfg.AUTO_REC || f == Reg.CanCfg.STATUS_MS || f == Reg.CanCfg.MIRROR || f == Reg.CanCfg.UNLIM || f == Reg.CanCfg.RETRY
    let others := w.o.flds.flatMap fun f => if f.stored && f != Reg.CanCfg.MODE then forIx f.cnt fun i => badAt (w.chg f i s) (f.at_ i) else []
    let held := w.o.flds.flatMap fun f => if f.stored && !free f then forIx f.cnt fun i => badAt (w.chg f i s) (f.at_ i) else []
    (if s.rd Reg.CanCfg.MODE w.n ≠ 0 then held else []) ++ (if moded ∧ others ≠ [] then [1] else [])
  else if b = 0x4F40 then
    let ho := w.cov Reg.PairCfg.HANDOVER && w.g Reg.PairCfg.HANDOVER == 1
    let sync := s.rd Reg.PairStat.SYNC
    badAt (ho && !(pairRole s == 2 && pairUp s && (sync == 2 || sync == 3))) 0
      ++ badAt ((w.chg Reg.PairCfg.EN 0 s || w.chg Reg.PairCfg.PAIR_PORT 0 s) && anyPgBusy s) 1
      ++ badAt (w.chg Reg.PairCfg.MBX_SCOPE 0 s && allMbx.any fun x => mbxBusy x self s) 4
  else if b = 0x5F00 then
    badAt (w.g Reg.PowCfg.MEAS_S != 0 && !s.rdB Reg.MeterCfg.EN (256 * w.g Reg.PowCfg.MEAS_CH)) 6
  else if b = 0x5F01 then badAt (w.cov Reg.PowStat.TAMPER_ACK && w.g Reg.PowStat.TAMPER_ACK != s.rd Reg.PowStat.TAMPER_CNT) 36
  else if b = 0x5F03 then badAt (w.cov Reg.Rtc.RTC_SET && allCh.any fun c => s.rdB Reg.MeterStat.SESSION_OPEN (cI c)) 24
  else if b = 0x6F02 then
    badAt (w.cov Reg.Dist.START && w.g Reg.Dist.START == 1 && (xferSource (w.g Reg.Dist.SEND_KIND) (w.g Reg.Dist.SEND_SLOT) s).isNone) 0
  else []

/-- A write that fails with BANK_ACTIVE, whatever fields it covers (R76, R113): offset of the first field concerned. -/
def bankActive (w : ObjW) (s : State) : Option Nat :=
  let c := chOfI w.n
  if w.o.base = 0x1080 ∧ (coefInBank c s).isSome then some w.first
  else if w.o.base = 0x1061 ∧ (thrInBank c s).isSome then
    some w.first
  else none

/-- Check 7 (R293): status and offset of the first field concerned. -/
def check7 (self : Option (Mbx × Nat × Nat)) (w : ObjW) (s : State) : Option (Nat × Nat) :=
  match bankActive w s with
  | some o => some (stBankActive, o)
  | none =>
    match (if w.o.perCh then stateBadCh w s else stateBadDev self w s) with
    | [] => none
    | x :: xs => some (stStateRefused, minL x xs)

end Sys2Proof.Machine
end

