-- ==== Sys2Proof/Machine/ObjWrite.lean ====
section
/-! DEFINITION. Object reads and writes at work (12_crown_mailboxes.md R282-R287, 13_command_reference.md R290-R294): what a write does beyond storing, staging under a lock, the change record, and the rows that write one register. -/

namespace Sys2Proof.Machine

/-! ### Storing -/

/-- Index `i` of the field can never be written though its object lists it as RW: the fixed classes (Table 16.3). -/
def fixedField (f : Fld) (i : Nat) : Bool := f == Reg.Fabric.CLASS && decide (13 ≤ i)

/-- Store one field a write covers (R6). -/
def putField (w : ObjW) (f : Fld) (i : Nat) (s : State) : State :=
  if !w.cov f i || fixedField f i then s
  else if f.stored then s.wr f w.n i (w.g f i)
  else if f.acc = .w1c then s.wr f w.n i ((s.rd f w.n i) ^^^ ((s.rd f w.n i) &&& w.g f i))
  else s

/-- Store every field a write covers. -/
def putFields (w : ObjW) (s : State) : State :=
  w.o.flds.foldl (fun s f => (List.range f.cnt).foldl (fun s i => putField w f i s) s) s

/-! ### What a write starts -/

/-- A WO bit is written 1. -/
def ObjW.hit (w : ObjW) (f : Fld) : Bool := w.cov f && w.g f == 1

/-- Run an effect if a condition holds. -/
def whenS (b : Bool) (f : State → State) (s : State) : State := if b then f s else s

/-- RTC_SET (17_power_and_holdup.md R386): the offset makes RTC read the value from now on. -/
def rtcSetEff (v : Nat) (s : State) : State :=
  let now := s.rd Reg.Rtc.RTC
  let s := s.wr Reg.Rtc.RTC_OFFSET 0 0 (s.rd Reg.Rtc.RTC_OFFSET + 2 ^ 64 + v - now)
  (s.wr Reg.Rtc.RTC 0 0 v).wr Reg.Rtc.RTC_INVALID 0 0 0

/-- EN or PAIR_PORT of object 0x4F40 written (Table 15.3): SOLO to WAITING, or any role to SOLO. -/
def pairCfgWritten (wasEn : Bool) (wasPort : Nat) (s : State) : State :=
  let en := s.rdB Reg.PairCfg.EN
  if en && !wasEn then pairEval (setRole 1 s)
  else if wasEn && !en then setRole 0 (setSync 0 s)
  else if en && s.rd Reg.PairCfg.PAIR_PORT != wasPort then pairEval (setSync 0 s)
  else syncStart s

/-- First multiple of 500 counts at least 100 µs ahead (R344). -/
def handoverTime (s : State) : Nat := (s.time + 10000 + 499) / 500 * 500

/-- HANDOVER written 1 (R344): the owner chooses T and tells the peer in an ALIGN message. -/
def handoverAsk (wt : Waiter) (s : State) : State :=
  let t := handoverTime s
  sendAlign 6 (leBytes 8 t) { s with pair := { s.pair with handover := some (t, some wt) } }

/-- Every comparator of a channel after a change of its configuration: outputs that assert act, and those enabled, or with another MODE or INPUT, start UNRESOLVED (R107). -/
def cmpCfgWritten (old : State) (c : Ch) (put : State → State) (s : State) : State :=
  let n := cI c
  let fresh := fun (s : State) (j : Fin 16) =>
    if cmpOn c j.val s && !cmpOn c j.val old then cmpEnable c j s
    else if (!cmpOn c j.val s && cmpOn c j.val old)
        || s.rd Reg.CmpCfg.MODE n j.val != old.rd Reg.CmpCfg.MODE n j.val || s.rd Reg.CmpCfg.INPUT n j.val != old.rd Reg.CmpCfg.INPUT n j.val
    then cmpUnresolve c j s else s
  (allCmp.foldl (fun f j => cmpChange c j f) fun s => allCmp.foldl fresh (put s)) s

/-- What a write to a channel object starts, once its fields are stored. -/
def hookCh (old : State) (w : ObjW) (s : State) : State :=
  let c := chOfI w.n
  let n := cI c
  let b := w.o.base
  if b = 0x1030 then whenS (w.hit Reg.AtCtl.COMMIT) (fwCommitEff c) s
  else if b = 0x1034 then whenS (w.hit Reg.Es.COMMIT) (esCommitEff c) s
  else if b = 0x1050 then
    let sb := w.n % 256 == 1
    let was := old.rdB Reg.Seq.RUN w.n
    let s := whenS (s.rdB Reg.Seq.RUN w.n != was) (runWriteEff c sb was) s
    whenS (w.hit Reg.Seq.COMMIT_INJ) (commitInjEff c sb) (whenS (w.hit Reg.Seq.COMMIT_REG) (commitRegEff c sb) s)
  else if b = 0x1061 then whenS (w.hit Reg.CmpTh.COMMIT) (thrCommitEff c) s
  else if b = 0x1074 then
    let bits := fun (f : Fld) (eff : Nat → State → State) (s : State) =>
      if w.cov f then (List.range 4).foldl (fun s j => whenS (bit (w.g f) j) (eff j) s) s else s
    let s := (List.range 4).foldl (fun s j => whenS (bit (old.rd Reg.CeCtl.SLOT_EN n) j && !bit (s.rd Reg.CeCtl.SLOT_EN n) j) (slotDisableEff c j) s) s
    let s := bits Reg.CeCtl.CLEAR_STATE (fun j s => clearStateEff c j s)
      (bits Reg.CeCtl.COMMIT_PROG (fun j s => commitProgEff c j s) (bits Reg.CeCtl.COMMIT_COEF (fun j s => commitCoefEff c j s) s))
    whenS (w.hit Reg.CeCtl.COMMIT_HOST) (commitHostEff c) s
  else if b = 0x10A1 then whenS (w.hit Reg.PgSet.COMMIT) (pgCommitSet c) s
  else if b = 0x10B0 then whenS (w.cov Reg.GdiCfg.SERVICE) (fun s => s.setPg c fun p => { p with servicePend := true }) s
  else if b = 0x10C0 then whenS (w.cov Reg.GridCfg.EN) (gridEnWritten c (old.rdB Reg.GridCfg.EN n)) s
  else if b = 0x10C1 then whenS (w.hit Reg.GridReq.RECONNECT) (reconnectAsk c) s
  else if b = 0x10C8 then mpptHoldAll (whenS (w.cov Reg.MpptCfg.EN) (mpptEnWritten c (old.rdB Reg.MpptCfg.EN n)) s)
  else if b = 0x2000 then whenS (w.cov Reg.MeterCfg.EN) (meterEnWritten c (old.rdB Reg.MeterCfg.EN n)) s
  else s

/-- What a write to a device object starts, once its fields are stored. -/
def hookDev (wt : Waiter) (old : State) (w : ObjW) (s : State) : State :=
  let b := w.o.base
  if b = 0x0F30 then
    let s := whenS (s.rd Reg.ClkRef.REF_SEL != old.rd Reg.ClkRef.REF_SEL || s.rd Reg.ClkRef.REF_FREQ != old.rd Reg.ClkRef.REF_FREQ) refChangedEff s
    whenS (w.hit Reg.ClkRef.RELOCK) relockEff s
  else if b = 0x0F32 then whenS (w.hit Reg.ClkOut.COMMIT) (clkoutCommitEff (Fin.ofNat 2 w.n)) (clkoutMode s)
  else if b = 0x3F00 ∨ b = 0x3F01 then safetyWritten s
  else if b = 0x4F20 then
    let was := old.rd Reg.CanCfg.MODE w.n
    mirrorWritten (whenS (s.rd Reg.CanCfg.MODE w.n != was) (canModeWritten (Fin.ofNat 4 w.n) was) s)
  else if b = 0x4F28 then
    let s := whenS (w.hit Reg.CanStat.RECOVER) (recoverEff (Fin.ofNat 4 w.n)) s
    whenS (w.cov Reg.CanStat.HOLD) (holdReleaseEff (Fin.ofNat 4 w.n) (w.g Reg.CanStat.HOLD)) s
  else if b = 0x4F30 then pairEval (hbCfgWritten old s)
  else if b = 0x4F40 then
    let s := pairCfgWritten (old.rdB Reg.PairCfg.EN) (old.rd Reg.PairCfg.PAIR_PORT) s
    whenS (w.hit Reg.PairCfg.HANDOVER) (handoverAsk wt) s
  else if b = 0x5F00 then { s with pow := { s.pow with copiesLost := false } }
  else if b = 0x5F01 then
    s.wrB Reg.PowStat.TAMPER_SEEN 0 0 (s.rd Reg.PowStat.TAMPER_CNT != s.rd Reg.PowStat.TAMPER_ACK)
  else if b = 0x5F03 then whenS (w.cov Reg.Rtc.RTC_SET) (rtcSetEff (w.g Reg.Rtc.RTC_SET)) s
  else if b = 0x6F02 then whenS (w.hit Reg.Dist.START) transferEff s
  else s

/-- The effect of an accepted write. W1C bits of HOLD release their buffers through the controller (R317). -/
def applyW (wt : Waiter) (w : ObjW) (s : State) : State :=
  if w.o.perCh then
    let c := chOfI w.n
    let t := if w.o.base = 0x1060 then cmpCfgWritten s c (putFields w) s else hookCh s w (putFields w s)
    settle c t
  else if w.o.base = 0x4F28 then hookDev wt s w s
  else hookDev wt s w (putFields w s)

/-- The object has a field whose Reset column reads MRAM: its writes are recorded (R287). -/
def recorded (o : Obj) : Bool := o.flds.any fun f => f.mram

/-- An accepted write with its change-record entry, which stands before the write takes effect (R287) and is not written twice (R281). -/
def recordApply (a : Author) (kind : Nat) (last : Bool) (oid : Nat) (wt : Waiter) (w : ObjW) (s : State) : State :=
  let old := objCrc w.o w.n oid s
  let new := objCrc w.o w.n oid (putFields w s)
  let s := if recorded w.o && !cHas a oid s then cAdd a kind oid 0 old new last s else s
  applyW wt w s

/-! ### The checks in order (R293) -/

/-- Device-local objects (Table 15.2). -/
def localObj (oid : Nat) : Bool :=
  (decide (0x0F30 ≤ oid) && decide (oid ≤ 0x0F33)) || oid == 0x2F00 || (decide (0x3F00 ≤ oid) && decide (oid ≤ 0x3F02))
    || oid == 0x4F10 || oid == 0x4F11 || (decide (0x4F20 ≤ oid) && decide (oid ≤ 0x4F2B)) || (decide (0x4F30 ≤ oid) && decide (oid ≤ 0x4F32))
    || oid == 0x4F40 || oid == 0x4F41
    || (oid / 0x1000 == 2 && decide (oid / 256 % 16 < 8) && (oid % 256 == 1 || (decide (3 ≤ oid % 256) && decide (oid % 256 ≤ 6))))

/-- A mailbox may carry a device-local (or a paired) write or command (R336). -/
def scopeOk (m : Mbx) (loc : Bool) (s : State) : Bool :=
  if !s.rdB Reg.PairCfg.EN then true
  else if mbxScope m s = 0 then !loc
  else loc || s.rd Reg.PairStat.SYNC == 3

/-- Largest number of staged writes of a lock (R283). -/
def stagedMax : Nat := 64

/-- Stage a write under the lock of its mailbox (R283). -/
def stageWrite (m : Mbx) (a : Author) (oid lo : Nat) (data : List Byte) (s : State) : Done × State :=
  if stagedMax ≤ (((s.mb m).lock.map fun l => l.staged.length).getD 0) then (.fail stLockFull stagedMax, s)
  else (.ok 1, s.setMb m fun b => { b with lock := b.lock.map fun l => { l with staged := l.staged ++ [⟨oid, lo, data, a.epoch, a.seq⟩] } })

/-- The staged writes of a mailbox's own lock on an object (R283). -/
def ownStaged (m : Mbx) (oid : Nat) (s : State) : List Staged := if holdsGroup m (groupOf oid) s then stagedOf m oid s else []

/-- The content that a write of a mailbox to an object is merged with (R294). -/
def mergeBase (m : Mbx) (oid : Nat) (o : Obj) (n : Nat) (s : State) : Nat := composeBase o n oid (ownStaged m oid s) s

/-- A write of bytes at an offset of an object that exists, its length checked: checks 3 to 7 and the effect. `bad`: offset of a field of the request itself
that check 6 refuses (R299). `none`: accepted, and it completes later (HANDOVER). -/
def objWriteAt (m : Mbx) (wt : Waiter) (a : Author) (oid : Nat) (o : Obj) (n lo : Nat) (data : List Byte) (layout : Nat) (bad : Option Nat) (s : State) :
    Option Done × State :=
  let g := groupOf oid
  if s.rd Reg.Life.LIFECYCLE = 3 then (some (.fail stLifecycleDenied 3), s)
  else if lockedByOther m g s then (some (.fail stLockedByOther g), s)
  else if layout ≠ layoutOf o n s then (some (.fail stLayoutMismatch (layoutOf o n s)), s)
  else
    let held := holdsGroup m g s
    let w := mkObjW o n (mergeBase m oid o n s) lo data
    match bad.or (check6 w s) with
    | some off => (some (.fail stFieldInvalid off), s)
    | none =>
      if !scopeOk m (localObj oid) s then (some (.fail stStateRefused 0), s)
      else if held then
        let r := stageWrite m a oid lo data s
        (some r.1, r.2)
      else match check7 (wt.key.map fun k => (wt.mbx, k.1, k.2)) w s with
        | some (st, off) => (some (.fail st off), s)
        | none =>
          let t := recordApply a 1 true oid wt w s
          (if w.hit Reg.PairCfg.HANDOVER && o.base == 0x4F40 then none else some (.ok 0), t)

/-- A whole-image write (R292). -/
def objWriteWhole (m : Mbx) (wt : Waiter) (a : Author) (oid : Nat) (data : List Byte) (s : State) : Option Done × State :=
  match objAt oid with
  | none => (some (.fail stUnknownObject 0), s)
  | some (o, n) =>
    if data.length ≠ o.len then (some (.fail stBadLength o.len), s)
    else objWriteAt m wt a oid o n 0 data (data.headD 0).toNat none s

/-- A partial write (R294). An OFFSET outside its range is a field of the request that check 6 refuses, at offset 2 of the payload (R299). -/
def objWritePart (m : Mbx) (wt : Waiter) (a : Author) (oid off layout : Nat) (data : List Byte) (rsv : Option Nat) (s : State) : Option Done × State :=
  match objAt oid with
  | none => (some (.fail stUnknownObject 0), s)
  | some (o, n) => objWriteAt m wt a oid o n off data layout (if off = 0 ∨ o.len < off + data.length then some 2 else rsv) s

/-- End a command if it ends now. -/
def endOf (wt : Waiter) (r : Option Done × State) : State :=
  match r.1 with
  | some d => completeW wt d r.2
  | none => r.2

/-! ### Commands -/

/-- OBJECT_READ (R291). -/
def objectReadEff (m : Mbx) (oid : Nat) (s : State) : Done × State :=
  match objAt oid with
  | none => (.fail stUnknownObject 0, s)
  | some (o, n) =>
    let ws := if holdsGroup m (groupOf oid) s then stagedOf m oid s else []
    (.ok o.len (leBytes o.len (readImg o n oid ws s)), readClears o n s)

/-- A host command runs only while the Crown runs. -/
def hostCmd (m : Mbx) (code : Nat) (p : List Byte) (f : State → Done × State) (s : State) : State :=
  if crownUp s && rowMay m code p s then
    let r := f s
    complete m code r.1 r.2
  else s

/-- A whole-image write as a command (R292). -/
def objWriteRow (m : Mbx) (oid : Nat) (image : List Byte) (s : State) : State :=
  if crownUp s && rowMay m oid image s then
    processed m (endOf (waiterOf m oid s) (objWriteWhole m (waiterOf m oid s) (authorOf m oid s) oid image s))
  else s

/-- Code of OBJ_WRITE_PART. -/
def codePart : Nat := 0x8002

/-- OBJ_WRITE_PART: the checks of R293 in order; reserved bytes of the request fall under check 6 (R299, Table 13.3). -/
def writePartEff (m : Mbx) (p : List Byte) (s : State) : State :=
  if !crownUp s || !rowMay m codePart p s then s
  else
    let wt := waiterOf m codePart s
    let a := authorOf m codePart s
    let rsv := [5, 6, 7].find? fun k => p.getD k 0 != 0
    processed m (if (objAt (leAt p 0 2)).isSome && decide (p.length < 9) then completeW wt (.fail stBadLength 9) s
      else endOf wt (objWritePart m wt a (leAt p 0 2) (leAt p 2 2) (leAt p 4 1) (p.drop 8) rsv s))

/-- Code of the command that a register row executes for a mailbox: a write of the object, or else a partial write. -/
def rowCode (m : Mbx) (oid : Nat) (s : State) : Nat := if (executing m oid s).isSome then oid else codePart

/-- Put a value into one field of an image. -/
def editField (img : Nat) (e : Fld × Nat × Nat) : Nat :=
  img - e.1.from e.2.1 img * 2 ^ e.1.pos e.2.1 + e.2.2 % 2 ^ e.1.w * 2 ^ e.1.pos e.2.1

/-- The bytes a register row writes: those that stand, with its fields edited. -/
def rowBytes (m : Mbx) (oid : Nat) (o : Obj) (n lo len : Nat) (edits : List (Fld × Nat × Nat)) (s : State) : List Byte :=
  leBytes len (edits.foldl editField (writeBase o n oid (ownStaged m oid s) s) / 2 ^ (8 * lo))

/-- The command that a register row can be: a partial write of its bytes, or a write of the object with its fields edited. -/
def regMay (m : Mbx) (oid lo len : Nat) (o : Obj) (n : Nat) (edits : List (Fld × Nat × Nat)) (s : State) : Bool :=
  rowMay m codePart (leBytes 2 oid ++ leBytes 2 lo ++ leBytes 1 (layoutOf o n s) ++ [0, 0, 0] ++ rowBytes m oid o n lo len edits s) s
    || rowMay m oid (rowBytes m oid o n 0 o.len edits s) s

/-- A row that writes one or a few registers: a partial write of the bytes that hold them, the other bits of those bytes as they stand.
It answers the command executing on the mailbox that makes this write: a write of the object, or a partial write. -/
def regWrite (m : Mbx) (oid lo len : Nat) (edits : List (Fld × Nat × Nat)) (s : State) : State :=
  if !crownUp s then s
  else
    let code := rowCode m oid s
    let wt := waiterOf m code s
    let a := authorOf m code s
    match objAt oid with
    | none => completeW wt (.fail stUnknownObject 0) s
    | some (o, n) =>
      if regMay m oid lo len o n edits s then
        processed m (endOf wt (objWritePart m wt a oid lo (layoutOf o n s) (rowBytes m oid o n lo len edits s) none s))
      else s

/-- OBJECT_READ. -/
def execObjectRead (m : Mbx) (oid : W16) (s : State) : Out := fin s (hostCmd m oid.toNat [] (objectReadEff m oid.toNat) s)
/-- OBJECT_WRITE. -/
def execObjectWrite (m : Mbx) (oid : W16) (image : List Byte) (s : State) : Out :=
  fin s (objWriteRow m oid.toNat image s)
/-- OBJ_WRITE_PART. -/
def execObjWritePart (m : Mbx) (p : List Byte) (s : State) : Out := fin s (writePartEff m p s)
/-- RELOCK. -/
def execRelock (m : Mbx) (s : State) : Out := fin s (regWrite m 0x0F30 3 1 [(Reg.ClkRef.RELOCK, 0, 1)] s)
/-- REFERENCE_CHANGE (R40). -/
def execReferenceChange (m : Mbx) (sel : Bool) (freq : BitVec 2) (s : State) : Out :=
  fin s (regWrite m 0x0F30 1 2 [(Reg.ClkRef.REF_FREQ, 0, freq.toNat), (Reg.ClkRef.REF_SEL, 0, sel.toNat)] s)
/-- CLKOUT_COMMIT (R42). -/
def execClkoutCommit (m : Mbx) (k : Fin 2) (s : State) : Out := fin s (regWrite m (0x0F32 + k.val) 8 1 [(Reg.ClkOut.COMMIT, 0, 1)] s)
/-- FW_COMMIT (R49). -/
def execFwCommit (m : Mbx) (c : Ch) (s : State) : Out := fin s (regWrite m (0x1030 + cI c) 40 1 [(Reg.AtCtl.COMMIT, 0, 1)] s)
/-- ES_DIRECT_COMMIT (R65). -/
def execEsDirectCommit (m : Mbx) (c : Ch) (s : State) : Out := fin s (regWrite m (0x1034 + cI c) 2 1 [(Reg.Es.COMMIT, 0, 1)] s)
/-- COMMIT_REG (R100). -/
def execCommitReg (m : Mbx) (c : Ch) (sb : Bool) (s : State) : Out := fin s (regWrite m (0x1050 + sarI c sb) 3 1 [(Reg.Seq.COMMIT_REG, 0, 1)] s)
/-- COMMIT_INJ (R100). -/
def execCommitInj (m : Mbx) (c : Ch) (sb : Bool) (s : State) : Out := fin s (regWrite m (0x1050 + sarI c sb) 3 1 [(Reg.Seq.COMMIT_INJ, 0, 1)] s)
/-- CONVERTER_STOP (R102). -/
def execConverterStop (m : Mbx) (c : Ch) (sb : Bool) (s : State) : Out := fin s (regWrite m (0x1050 + sarI c sb) 3 1 [(Reg.Seq.RUN, 0, 0)] s)
/-- THRESHOLD_COMMIT (R113). -/
def execThresholdCommit (m : Mbx) (c : Ch) (s : State) : Out := fin s (regWrite m (0x1061 + cI c) 1 1 [(Reg.CmpTh.COMMIT, 0, 1)] s)
/-- COMMIT_COEF (R130). -/
def execCommitCoef (m : Mbx) (c : Ch) (slot : Fin 4) (s : State) : Out := fin s (regWrite m (0x1074 + cI c) 2 1 [(Reg.CeCtl.COMMIT_COEF, 0, 2 ^ slot.val)] s)
/-- COMMIT_PROG (R130). -/
def execCommitProg (m : Mbx) (c : Ch) (slot : Fin 4) (s : State) : Out := fin s (regWrite m (0x1074 + cI c) 2 1 [(Reg.CeCtl.COMMIT_PROG, 0, 2 ^ slot.val)] s)
/-- COMMIT_HOST (R130). -/
def execCommitHost (m : Mbx) (c : Ch) (s : State) : Out := fin s (regWrite m (0x1074 + cI c) 3 1 [(Reg.CeCtl.COMMIT_HOST, 0, 1)] s)
/-- CLEAR_STATE (R125). -/
def execClearState (m : Mbx) (c : Ch) (slot : Fin 4) (s : State) : Out := fin s (regWrite m (0x1074 + cI c) 3 1 [(Reg.CeCtl.CLEAR_STATE, 0, 2 ^ slot.val)] s)
/-- SLOT_DISABLE (R128). -/
def execSlotDisable (m : Mbx) (c : Ch) (slot : Fin 4) (s : State) : Out :=
  fin s (regWrite m (0x1074 + cI c) 1 1 [(Reg.CeCtl.SLOT_EN, 0, setBit (s.rd Reg.CeCtl.SLOT_EN (cI c)) slot.val false)] s)
/-- PG_COMMIT (R145). -/
def execPgCommit (m : Mbx) (c : Ch) (s : State) : Out := fin s (regWrite m (0x10A1 + cI c) 1 1 [(Reg.PgSet.COMMIT, 0, 1)] s)
/-- SERVICE (R179). -/
def execService (m : Mbx) (c : Ch) (on : Bool) (s : State) : Out := fin s (regWrite m (0x10B0 + cI c) 1 1 [(Reg.GdiCfg.SERVICE, 0, on.toNat)] s)
/-- GRID_ENABLE (R184). -/
def execGridEnable (m : Mbx) (c : Ch) (s : State) : Out := fin s (regWrite m (0x10C0 + cI c) 1 1 [(Reg.GridCfg.EN, 0, 1)] s)
/-- GRID_DISABLE (R184). -/
def execGridDisable (m : Mbx) (c : Ch) (s : State) : Out := fin s (regWrite m (0x10C0 + cI c) 1 1 [(Reg.GridCfg.EN, 0, 0)] s)
/-- RECONNECT (R195). -/
def execReconnect (m : Mbx) (c : Ch) (s : State) : Out := fin s (regWrite m (0x10C1 + cI c) 1 1 [(Reg.GridReq.RECONNECT, 0, 1)] s)
/-- MPPT_ENABLE (R201). -/
def execMpptEnable (m : Mbx) (c : Ch) (s : State) : Out := fin s (regWrite m (0x10C8 + cI c) 1 1 [(Reg.MpptCfg.EN, 0, 1)] s)
/-- METER_ENABLE (Table 10.2). -/
def execMeterEnable (m : Mbx) (c : Ch) (s : State) : Out := fin s (regWrite m (0x2000 + cI c) 1 1 [(Reg.MeterCfg.EN, 0, 1)] s)
/-- METER_DISABLE (Table 10.2). -/
def execMeterDisable (m : Mbx) (c : Ch) (s : State) : Out := fin s (regWrite m (0x2000 + cI c) 1 1 [(Reg.MeterCfg.EN, 0, 0)] s)
/-- SAFETY_CONFIG_WRITE (R258): a whole-image write of object 0x3F00 or 0x3F01. -/
def execSafetyConfigWrite (m : Mbx) (feide : Bool) (image : List Byte) (s : State) : Out :=
  let oid := if feide then 0x3F01 else 0x3F00
  fin s (objWriteRow m oid image s)
/-- RECOVER (R313). -/
def execRecover (m : Mbx) (c : Fin 4) (s : State) : Out := fin s (regWrite m (0x4F28 + c.val) 1 1 [(Reg.CanStat.RECOVER, 0, 1)] s)
/-- HOLD_RELEASE (R317). -/
def execHoldRelease (m : Mbx) (c : Fin 4) (b : Fin 32) (s : State) : Out :=
  fin s (regWrite m (0x4F28 + c.val) (4 + b.val / 8) 1 [(Reg.CanStat.HOLD, 0, 2 ^ b.val)] s)
/-- CAN_MODE_CHANGE (R309). -/
def execCanModeChange (m : Mbx) (c : Fin 4) (mode : BitVec 2) (s : State) : Out := fin s (regWrite m (0x4F20 + c.val) 1 1 [(Reg.CanCfg.MODE, 0, mode.toNat)] s)
/-- HATBAND_ROLE_WRITE (R333). -/
def execHatbandRoleWrite (m : Mbx) (roleA roleB : BitVec 2) (txInv rxInv : BitVec 4) (s : State) : Out :=
  fin s (regWrite m 0x4F30 1 2 [(Reg.HbCfg.ROLE_A, 0, roleA.toNat), (Reg.HbCfg.ROLE_B, 0, roleB.toNat), (Reg.HbCfg.TX_INV, 0, txInv.toNat), (Reg.HbCfg.RX_INV, 0, rxInv.toNat)] s)
/-- PAIR_ENABLE (Table 15.3). -/
def execPairEnable (m : Mbx) (en : Bool) (s : State) : Out := fin s (regWrite m 0x4F40 1 1 [(Reg.PairCfg.EN, 0, en.toNat)] s)
/-- HANDOVER (R344). -/
def execHandover (m : Mbx) (s : State) : Out := fin s (regWrite m 0x4F40 1 1 [(Reg.PairCfg.HANDOVER, 0, 1)] s)
/-- FABRIC_CLASS_WRITE (R360). -/
def execFabricClassWrite (m : Mbx) (r : Fin 15) (cls : BitVec 2) (s : State) : Out :=
  fin s (regWrite m 0x7F10 (2 + r.val) 1 [(Reg.Fabric.CLASS, r.val, cls.toNat)] s)
/-- TAMPER_ACK (R383). -/
def execTamperAck (m : Mbx) (v : W16) (s : State) : Out := fin s (regWrite m 0x5F01 36 2 [(Reg.PowStat.TAMPER_ACK, 0, v.toNat)] s)
/-- RTC_SET (R386). -/
def execRtcSet (m : Mbx) (v : W64) (s : State) : Out := fin s (regWrite m 0x5F03 24 8 [(Reg.Rtc.RTC_SET, 0, v.toNat)] s)
/-- TRANSFER_START (R397). -/
def execTransferStart (m : Mbx) (kind : Bool) (slot : Byte) (s : State) : Out :=
  fin s (regWrite m 0x6F02 2 3 [(Reg.Dist.SEND_KIND, 0, kind.toNat), (Reg.Dist.SEND_SLOT, 0, slot.toNat), (Reg.Dist.START, 0, 1)] s)

end Sys2Proof.Machine
end

