-- ==== Sys2Proof/Machine/Idle.lean ====
section
/-! DEFINITION. Idle of a channel (17_power_and_holdup.md R380, 05_sensing.md R112). -/

namespace Sys2Proof.Machine

/-- The MF of a channel runs again after a brown-out or Idle: CLOSED or OFF to RUN with a RESUMED record while EN = 1 (Table 10.2); one whose clock branch
stands follows when it runs. -/
def mfReopen (c : Ch) (s : State) : State :=
  if mfState c s = mfClosed ∧ s.rdB Reg.MeterCfg.EN (cI c) = false then setMfState c mfOff s else mfTryStart c s

/-- A channel enters Idle (R380): MF closed with CLOSE_CAUSE 3, AT stopped, SA and SB stopped, clock monitor disarmed, branch gated but for the comparators'. -/
def idleEnter (c : Ch) (s : State) : State :=
  if (s.ch c).idle then s
  else
    let s := mfClose c 3 mfOff s
    let s := sarStop c true (sarStop c false (atStop c s))
    settle c (s.setCh c fun x => { x with idle := true })

/-- A channel leaves Idle (R380): the branch runs again, SA and SB start at entry 0, the MF restarts with RESUMED, the PG stays STOPPED. -/
def idleLeave (c : Ch) (s : State) : State :=
  if (s.ch c).idle then
    let s := s.setCh c fun x => { x with idle := false }
    let s := sarStart c true (sarStart c false s)
    settle c (mfReopen c s)
  else s

/-- WAKE of comparator j has just become asserted in Idle (R112): the channel leaves Idle and IDLE_WAKE sets its bit (R380). -/
def idleWake (c : Ch) (j : Fin 16) (was : Bool) (s : State) : State :=
  if (s.ch c).idle && !was && ((s.cmp c j).filt == some true) && s.rdB Reg.CmpCfg.WAKE_EN (cI c) j.val then
    idleLeave c (s.wrBit Reg.PowStat.IDLE_WAKE 0 0 c.val true)
  else s

/-- CMP_FILTER_CHANGE (R106, R112): the filtered output changes, and in Idle it may wake the channel. -/
def cmpFilterChangeEff (c : Ch) (j : Fin 16) (s : State) : State :=
  idleWake c j ((s.cmp c j).filt == some true) (cmpFilterEff c j s)

/-- CMP_FILTER_CHANGE. -/
def execCmpFilterChange (c : Ch) (j : Fin 16) (s : State) : Out := fin s (cmpFilterChangeEff c j s)

end Sys2Proof.Machine
end

