-- ==== Sys2Proof/Machine/Commands.lean ====
section
/-! DEFINITION. The commands of Table 13.3 but those of power and life cycle (13_command_reference.md R297-R305, 12_crown_mailboxes.md R282-R285): locks, channels, Batt store and banks, sessions, records, safety. -/

namespace Sys2Proof.Machine

/-! ### Codes -/

def codeLock : Nat := 0x8003
def codeUnlock : Nat := 0x8004
def codeStart : Nat := 0x8101
def codeStop : Nat := 0x8102
def codeIdle : Nat := 0x8103
def codeStoreWrite : Nat := 0x8201
def codeStoreRead : Nat := 0x8202
def codeLoad : Nat := 0x8203
def codeSwap : Nat := 0x8204
def codeCancel : Nat := 0x8205
def codeErase : Nat := 0x8206
def codeSessStart : Nat := 0x8301
def codeSessStop : Nat := 0x8302
def codeBillRead : Nat := 0x8303
def codeBillAck : Nat := 0x8304
def codeMeterClear : Nat := 0x8305
def codeSafetyAck : Nat := 0x8401
def codeFeide : Nat := 0x8402
def codeJournal : Nat := 0x8501
def codeChange : Nat := 0x8502

/-! ### What every command checks first -/

/-- Lengths a command takes: exactly `n`, or from `n` on (Table 13.3). -/
inductive LenRule where
  | exactly (n : Nat)
  | least (n : Nat)
deriving DecidableEq, Repr

/-- The length expected, when the payload has another (R299). -/
def LenRule.bad (r : LenRule) (k : Nat) : Option Nat :=
  match r with
  | .exactly n => if k = n then none else some n
  | .least n => if n ≤ k then none else some n

/-- What a row of Table 13.3 says of a request: code, length, the life-cycle states that refuse it (Table 18.1), whether it is device-local (Table 15.2),
its group, and the offset of its first reserved byte that is not 0 or value out of range (R299). -/
structure Req where
  code : Nat
  len : LenRule
  denied : List Nat
  loc : Bool
  group : Option Nat
  bad : Option Nat
deriving DecidableEq, Repr

/-- The checks of a request in the model's order: length, life cycle, scope, lock, fields (log entry 47). -/
def Req.check (r : Req) (m : Mbx) (p : List Byte) (s : State) : Option Done :=
  match r.len.bad p.length with
  | some n => some (.fail stBadLength n)
  | none =>
    if r.denied.contains (s.rd Reg.Life.LIFECYCLE) then some (.fail stLifecycleDenied (s.rd Reg.Life.LIFECYCLE))
    else if !scopeOk m r.loc s then some (.fail stStateRefused 0)
    else match r.group.filter fun g => lockedByOther m g s with
      | some g => some (.fail stLockedByOther g)
      | none => r.bad.map fun off => .fail stFieldInvalid off

/-- Run a request that the Crown executes: refused by its checks, or on with its waiter. -/
def runReq (m : Mbx) (r : Req) (p : List Byte) (body : Waiter → State → State) (s : State) : State :=
  if !crownUp s || !rowMay m r.code p s then s
  else
    let w := waiterOf m r.code s
    processed m (match r.check m p s with
      | some d => completeW w d s
      | none => body w s)

/-- A request that ends at once. -/
def runNow (m : Mbx) (r : Req) (p : List Byte) (body : State → Done × State) (s : State) : State :=
  runReq m r p (fun w s =>
    let d := body s
    completeW w d.1 d.2) s

/-- A byte of a payload. -/
def pb (p : List Byte) (i : Nat) : Nat := (p.getD i 0).toNat

/-- Offset of the first byte in `lo … hi − 1` that is not 0. -/
def firstNonZero (p : List Byte) (lo hi : Nat) : Option Nat :=
  ((List.range (hi - lo)).map (lo + ·)).find? fun i => pb p i != 0

/-- The first of several findings, by offset. -/
def firstBad (l : List (Option Nat)) : Option Nat :=
  match l.filterMap id with
  | [] => none
  | x :: xs => some (xs.foldl min x)

/-- A byte above its largest value. -/
def aboveAt (p : List Byte) (i hi : Nat) : Option Nat := if hi < pb p i then some i else none

/-- The channel that byte 0 names. -/
def chOf (p : List Byte) : Ch := Fin.ofNat 8 (pb p 0)

/-- Group of a domain of the channel that byte 0 names. -/
def chGroup (dom : Nat) (p : List Byte) : Option Nat := if pb p 0 < 8 then some (dom + pb p 0) else none

/-- A request of four bytes that names a channel, and nothing after byte `k`. -/
def chReq (code : Nat) (denied : List Nat) (loc : Bool) (dom k : Nat) (p : List Byte) (extra : List (Option Nat)) : Req :=
  ⟨code, .exactly 4, denied, loc, chGroup dom p, firstBad (aboveAt p 0 7 :: extra ++ [firstNonZero p k 4])⟩

/-! ### LOCK and UNLOCK -/

/-- Groups without repeats, in order. -/
def addGroups (held new : List Nat) : List Nat := new.foldl (fun acc g => if acc.contains g then acc else acc ++ [g]) held

/-- LOCK (R282). -/
def lockEff (m : Mbx) (p : List Byte) (s : State) : Done × State :=
  let n := pb p 0
  let gs := (p.drop 2).map BitVec.toNat
  if n = 0 ∨ 16 < n then (.fail stFieldInvalid 0, s)
  else if p.length ≠ 2 + n then (.fail stBadLength (2 + n), s)
  else if pb p 1 ≠ 0 then (.fail stFieldInvalid 1, s)
  else match gs.find? fun g => lockedByOther m g s with
    | some g => (.fail stLockedByOther g, s)
    | none =>
      let held := addGroups (((s.mb m).lock.map fun l => l.groups).getD []) gs
      if 16 < held.length then (.fail stFieldInvalid 0, s)
      else
        let a := authorOf m codeLock s
        let s := jLock 7 m a.epoch a.seq gs s
        let s := s.setMb m fun b => { b with lock := some (match b.lock with
          | some l => { l with groups := held, epoch := a.epoch }
          | none => ⟨a.epoch, held, [], 0⟩) }
        (.ok 0 (leBytes 2 500 ++ leBytes 1 held.length ++ [0]), renewLease m s)

/-- The write that a staged write makes on the content in force, with earlier staged writes laid over it. -/
def stagedW (before : List Staged) (x : Staged) (s : State) : Option ObjW :=
  (objAt x.oid).map fun (o, n) => mkObjW o n (composeBase o n x.oid before s) x.off x.bytes

/-- Status of the first staged write that the state in force refuses, with its position (R284). -/
def stagedRefused (wt : Waiter) (s : State) : List Staged → List Staged → Option (Nat × Nat)
  | _, [] => none
  | before, x :: rest =>
    let bad := match stagedW before x s with
      | none => some stUnknownObject
      | some w =>
        if s.rd Reg.Life.LIFECYCLE = 3 then some stLifecycleDenied
        else if (check6 w s).isSome then some stFieldInvalid
        else (check7 (wt.key.map fun k => (wt.mbx, k.1, k.2)) w s).map (·.1)
    match bad with
    | some st => some (st, before.length)
    | none => stagedRefused wt s (before ++ [x]) rest

/-- The content after every staged write, without what the writes start. -/
def stagedAfter (ws : List Staged) (s : State) : State :=
  ws.foldl (fun s x => match stagedW [] x s with
    | some w => putFields w s
    | none => s) s

/-- The change-record entries of a lock commit: one for each object with an MRAM field (R287). -/
def commitRecords (a : Author) (ws : List Staged) (s : State) : State :=
  let after := stagedAfter ws s
  let oids := (ws.map (·.oid)).foldl (fun acc o => if acc.contains o then acc else acc ++ [o]) []
  let due := oids.filter fun oid => ((objAt oid).map fun on => recorded on.1).getD false && !cHas a oid s
  due.foldl (fun s oid => match objAt oid with
    | some (o, n) => cAdd a 2 oid 0 (objCrc o n oid s) (objCrc o n oid after) (some oid == due.getLast?) s
    | none => s) s

/-- UNLOCK (R283, R284). -/
def unlockEff (m : Mbx) (w : Waiter) (p : List Byte) (s : State) : Done × State :=
  match (s.mb m).lock with
  | none => (.fail stNotLocked 0, s)
  | some l =>
    let a := authorOf m codeUnlock s
    let release := fun (s : State) => (jLock 8 m a.epoch a.seq l.groups s).setMb m fun b => { b with lock := none }
    if pb p 0 = 0 then (.ok 0 [0, 0, 0, 0], release s)
    else match stagedRefused w s [] l.staged with
      | some (st, k) => (.fail st k, release s)
      | none =>
        let s := commitRecords a l.staged s
        let s := l.staged.foldl (fun s x => match stagedW [] x s with
          | some ow => applyW w ow s
          | none => s) s
        (.ok 0 (leBytes 1 l.staged.length ++ [0, 0, 0]), release s)

/-! ### Batt store and banks -/

/-- The slot is recorded as ACTIVE_SLOT of a channel (R70). -/
def slotActive (slot : Nat) (s : State) : Bool := allCh.any fun c => s.rd Reg.Batt.ACTIVE_SLOT (cI c) == slot

/-- STORE_WRITE (R302). -/
def storeWriteEff (m : Mbx) (p : List Byte) (s : State) : Done × State :=
  let slot := pb p 0
  let off := leAt p 4 4
  let data := p.drop 8
  if bankSize < off + data.length then (.fail stFieldInvalid 4, s)
  else if slotActive slot s then (.fail stBankActive 0, s)
  else if spanDead (storeBlock0 + 4096 * slot) off data.length s then internalFail s
  else
    let old := slotCrc slot s
    let a := authorOf m codeStoreWrite s
    let t := storePut slot off data s
    let new := slotCrc slot t
    (.ok 0 (leBytes 4 new), cAdd a 3 0xFFFF slot old new true t)

/-- STORE_READ (R302). -/
def storeReadEff (p : List Byte) (s : State) : Done × State :=
  let off := leAt p 4 4
  let n := leAt p 8 2
  if bankSize < off + n then (.fail stFieldInvalid 4, s)
  else if spanLost (storeBlock0 + 4096 * pb p 0) off n s then internalFail s
  else (.ok 0 (SMap.scan 0 s.store (bankSize * pb p 0 + off) n), s)

/-- BANK_LOAD (R74, R76). -/
def bankLoadEff (c : Ch) (w : Waiter) (isB : Bool) (slot : Nat) (s : State) : State :=
  if bankBusy c isB s then completeW w (.fail stBankActive 0) s
  else loaderRun c loaderFuel (s.setBatt c fun b => { b with queue := b.queue ++ [.load w isB slot] })

/-- A bank is LOADING (Table 4.9). -/
def bankLoading (c : Ch) (isB : Bool) (s : State) : Bool := bankState c isB s == bkLoading

/-- BANK_SWAP (R431, Table 4.9): an outstanding swap is withdrawn first. The spec does not say whether a swap command that names the active bank has taken
effect when a cancel asks (R79): the model takes it that it has not (log entry 116). -/
def bankSwapEff (c : Ch) (w : Waiter) (isB : Bool) (s : State) : State :=
  let s := swapWithdraw c (.fail stSwapWithdrawn 0) s
  let s := s.setBatt c fun b => { b with swapUnreported := false }
  if bankLoading c isB s then
    s.setBatt c fun b => { b with swap := some ⟨w, isB⟩, queue := b.queue ++ [.swap w isB] }
  else settle c (swapProceed c w isB s)

/-- SWAP_CANCEL (R79). -/
def swapCancelEff (c : Ch) (s : State) : Done × State :=
  let out := fun (n : Nat) => Done.ok 0 (leBytes 1 n ++ [0, 0, 0])
  if (s.batt c).swap.isSome then (out 1, swapWithdraw c (.fail stSwapWithdrawn 0) s)
  else if (s.batt c).swapUnreported then (out 2, s.setBatt c fun b => { b with swapUnreported := false })
  else (out 0, s)

/-- BANK_ERASE (Table 4.9). -/
def bankEraseEff (c : Ch) (w : Waiter) (isB : Bool) (s : State) : State :=
  if bankLoading c isB s then s.setBatt c fun b => { b with queue := b.queue ++ [.erase w isB] }
  else eraseNow c w isB s

/-! ### Sessions and billing -/

/-- A session of the channel is open or about to open or close. -/
def sessOpen (c : Ch) (s : State) : Bool :=
  match (s.mf c).sess with
  | .none => false
  | _ => true

/-- DETAIL of the first cause of Table 13.5 that refuses a session start, 0 when none does. -/
def sessRefused (c : Ch) (s : State) : Nat :=
  if !s.rdB Reg.MeterCfg.BILL (cI c) then 1
  else if mfState c s ≠ mfRun then 2
  else if s.rdB Reg.MeterStat.LOST (cI c) then 3
  else if sessOpen c s then 4
  else if !bit (s.rd Reg.PowStat.LEVEL) 0 then 5
  else if 4096 ≤ billsHeld s then 6
  else 0

/-- SESSION_START (R225, R303). -/
def sessStartEff (c : Ch) (id : Nat) (w : Waiter) (s : State) : State :=
  let d := sessRefused c s
  if d ≠ 0 then completeW w (.fail stSessionRefused d) s
  else s.setMf c fun m => { m with sess := .starting w id }

/-- SESSION_STOP (R225, R226). -/
def sessStopEff (c : Ch) (w : Waiter) (s : State) : State :=
  match (s.mf c).sess with
  | .opened i => s.setMf c fun m => { m with sess := .stopping w i }
  | _ => completeW w (.fail stSessionRefused 7) s

/-- BILL_READ (R303). -/
def billReadEff (p : List Byte) (s : State) : Done × State :=
  match s.bills.find? fun r => r.1 == leAt p 0 4 with
  | some r => (.ok 0 r.2, s)
  | none => (.fail stNoSuchRecord 0, s)

/-- BILL_ACK (R303): OLDEST_UNACK becomes the record after UP_TO. -/
def billAckEff (p : List Byte) (s : State) : Done × State :=
  let up := leAt p 0 4
  if s.rd Reg.Bill.NEXT_RECORD ≤ up then (.fail stNoSuchRecord 0, s)
  else
    let s := if up < s.rd Reg.Bill.OLDEST_UNACK then s else s.wr Reg.Bill.OLDEST_UNACK 0 0 (up + 1)
    (.ok 0 (leBytes 4 (s.rd Reg.Bill.OLDEST_UNACK)), s)

/-- A change-record entry of a kind for which the spec does not say what its CRCs cover: they are free values (log entry 56). -/
def cAddFree (a : Author) (kind : Nat) (s : State) : State :=
  cAdd a kind 0xFFFF 0 (s.free 32) (s.drew.free 32) true s.drew.drew

/-- METER_CLEAR (R219): registers and residues 0, LOST cleared, and a record with RESUMED. -/
def meterClearEff (c : Ch) (m : Mbx) (w : Waiter) (s : State) : State :=
  if sessOpen c s then completeW w (.fail stSessionRefused 4) s
  else
    let s := cAddFree (authorOf m codeMeterClear s) 8 s
    let s := s.setMf c fun x => { x with acc := List.replicate 28 0, first := some (false, rtcNow s), firstEnd := some (rtcNow s) }
    latchRec c false false 0 (.clear w) (s.wr Reg.MeterStat.LOST (cI c) 0 0)

/-! ### Safety and records -/

/-- FEIDE (R304): the frame goes to the safety processor; the newest uncollected frame of every TRANSPORT 6 connection comes back. -/
def feideCmdEff (p : List Byte) (s : State) : Done × State :=
  let s := feideReceive .host 0 false p s
  let mine := allIx.filter fun k => s.rd Reg.Feide.DIR 0 k.val == 2 && s.rd Reg.Feide.TRANSPORT 0 k.val == 6
  let fs := mine.filterMap fun k => (s.conn k).frame
  let s := mine.foldl (fun s k => s.setConn k fun x => { x with frame := none }) s
  (.ok 0 (leBytes 1 fs.length ++ [0, 0, 0] ++ fs.flatten), s)

/-- Records from a sequence number onward, up to a count, stopping at the newest (R305). -/
def recordsFrom (oldest first count : Nat) (recs : List (List Byte)) : Option (List (List Byte)) :=
  let d := (first + 2 ^ 32 - oldest) % 2 ^ 32
  if recs.length ≤ d then none else some ((recs.reverse.drop d).take count)

/-- JOURNAL_READ (R305). -/
def journalReadEff (p : List Byte) (s : State) : Done × State :=
  let j := s.crown.journal
  match recordsFrom (s.rd Reg.HostStat.OLDEST_JSEQ) (leAt p 0 4) (pb p 4) (j.map JRec.bytes) with
  | some rs => (.ok 0 (leBytes 1 rs.length ++ List.replicate 7 0 ++ rs.flatten), s)
  | none => (.fail stNoSuchRecord 0, s)

/-- The block of one of the change-record entries that a CHANGE_READ returns is lost (R364). -/
def changeLost (p : List Byte) (s : State) : Bool :=
  let d := (leAt p 0 4 + 2 ^ 32 - s.rd Reg.HostStat.OLDEST_CSEQ) % 2 ^ 32
  ((s.crown.changes.reverse.drop d).take (pb p 4)).any fun x => blockLost (changeBlock x.cseq) s

/-- CHANGE_READ (R305). -/
def changeReadEff (p : List Byte) (s : State) : Done × State :=
  let r := s.crown.changes
  match recordsFrom (s.rd Reg.HostStat.OLDEST_CSEQ) (leAt p 0 4) (pb p 4) (r.map CRec.bytes) with
  | some rs => if changeLost p s then internalFail s else (.ok 0 (leBytes 1 rs.length ++ List.replicate 7 0 ++ rs.flatten), s)
  | none => (.fail stNoSuchRecord 0, s)

/-! ### Rows -/

/-- A request that reads records: count 1 to 15. -/
def readReq (code : Nat) (loc : Bool) (p : List Byte) : Req :=
  ⟨code, .exactly 8, [], loc, none, firstBad [if pb p 4 = 0 then some 4 else aboveAt p 4 15, firstNonZero p 5 8]⟩

/-- LOCK (R282). -/
def execLock (m : Mbx) (p : List Byte) (s : State) : Out :=
  fin s (runNow m ⟨codeLock, .least 3, [], false, none, none⟩ p (lockEff m p) s)
/-- What Table 13.3 says of an UNLOCK. -/
def unlockReq (p : List Byte) : Req := ⟨codeUnlock, .exactly 4, [], false, none, firstBad [aboveAt p 0 1, firstNonZero p 1 4]⟩
/-- An UNLOCK with its checks. -/
def unlockRun (m : Mbx) (w : Waiter) (p : List Byte) (s : State) : State :=
  match (unlockReq p).check m p s with
  | some d => completeW w d s
  | none =>
    let r := unlockEff m w p s
    completeW w r.1 r.2
/-- UNLOCK (R283, R284). -/
def execUnlock (m : Mbx) (p : List Byte) (s : State) : Out :=
  fin s (runReq m (unlockReq p) p (fun w s => let r := unlockEff m w p s; completeW w r.1 r.2) s)
/-- CH_START (R300). -/
def execChStart (m : Mbx) (p : List Byte) (s : State) : Out :=
  fin s (runReq m (chReq codeStart [3] false 0x10 1 p []) p (startCommand (chOf p)) s)
/-- CH_STOP (R301). -/
def execChStop (m : Mbx) (p : List Byte) (s : State) : Out :=
  fin s (runReq m (chReq codeStop [3] false 0x10 1 p []) p (stopCommand (chOf p)) s)
/-- CH_IDLE: its ENTER byte says whether the channel enters Idle or leaves it (R299, R301, R380). -/
def idleCommand (m : Mbx) (p : List Byte) (s : State) : State :=
  runNow m (chReq codeIdle [3] false 0x10 2 p [aboveAt p 1 1]) p (fun s =>
    if pb p 1 = 0 then (.ok, idleLeave (chOf p) s)
    else if pgBusy (chOf p) s then (.fail stStateRefused 0, s)
    else (.ok, idleEnter (chOf p) s)) s
/-- CH_IDLE with ENTER = 1 (R301, R380), or with an ENTER out of range (R299). -/
def execChIdleEnter (m : Mbx) (p : List Byte) (s : State) : Out := fin s (idleCommand m p s)
/-- CH_IDLE with ENTER = 0 (R380). -/
def execChIdleLeave (m : Mbx) (p : List Byte) (s : State) : Out := fin s (idleCommand m p s)
/-- STORE_WRITE (R302, R70). -/
def execStoreWrite (m : Mbx) (p : List Byte) (s : State) : Out :=
  fin s (runNow m ⟨codeStoreWrite, .least 9, [3], false, some 0x1F, firstBad [aboveAt p 0 31, firstNonZero p 1 4]⟩ p (storeWriteEff m p) s)
/-- STORE_READ (R302). -/
def execStoreRead (m : Mbx) (p : List Byte) (s : State) : Out :=
  fin s (runNow m ⟨codeStoreRead, .exactly 12, [], false, none, firstBad [aboveAt p 0 31, firstNonZero p 1 4,
    if leAt p 8 2 = 0 ∨ 1016 < leAt p 8 2 then some 8 else none, firstNonZero p 10 12]⟩ p (storeReadEff p) s)
/-- BANK_LOAD (R74). -/
def execBankLoad (m : Mbx) (p : List Byte) (s : State) : Out :=
  fin s (runReq m (chReq codeLoad [3] false 0x10 3 p [aboveAt p 1 1, aboveAt p 2 31]) p
    (fun w s => bankLoadEff (chOf p) w (pb p 1 == 1) (pb p 2) s) s)
/-- BANK_SWAP (R431). -/
def execBankSwap (m : Mbx) (p : List Byte) (s : State) : Out :=
  fin s (runReq m (chReq codeSwap [3] false 0x10 2 p [aboveAt p 1 1]) p (fun w s => bankSwapEff (chOf p) w (pb p 1 == 1) s) s)
/-- SWAP_CANCEL (R79). -/
def execSwapCancel (m : Mbx) (p : List Byte) (s : State) : Out :=
  fin s (runNow m (chReq codeCancel [3] false 0x10 1 p []) p (swapCancelEff (chOf p)) s)
/-- BANK_ERASE (Table 4.9). -/
def execBankErase (m : Mbx) (p : List Byte) (s : State) : Out :=
  fin s (runReq m (chReq codeErase [3] false 0x10 2 p [aboveAt p 1 1]) p (fun w s => bankEraseEff (chOf p) w (pb p 1 == 1) s) s)
/-- SESSION_START (R225, R303). -/
def execSessionStart (m : Mbx) (p : List Byte) (s : State) : Out :=
  fin s (runReq m ⟨codeSessStart, .exactly 16, [3], false, chGroup 0x20 p, firstBad [aboveAt p 0 7, firstNonZero p 1 8]⟩ p
    (fun w s => sessStartEff (chOf p) (leAt p 8 8) w s) s)
/-- SESSION_STOP (R226, R303). -/
def execSessionStop (m : Mbx) (p : List Byte) (s : State) : Out :=
  fin s (runReq m (chReq codeSessStop [3] false 0x20 1 p []) p (sessStopEff (chOf p)) s)
/-- BILL_READ (R303). -/
def execBillRead (m : Mbx) (p : List Byte) (s : State) : Out :=
  fin s (runNow m ⟨codeBillRead, .exactly 4, [], true, none, none⟩ p (billReadEff p) s)
/-- BILL_ACK (R303). -/
def execBillAck (m : Mbx) (p : List Byte) (s : State) : Out :=
  fin s (runNow m ⟨codeBillAck, .exactly 4, [], true, some 0x2F, none⟩ p (billAckEff p) s)
/-- METER_CLEAR (R219, R303). -/
def execMeterClear (m : Mbx) (p : List Byte) (s : State) : Out :=
  fin s (runReq m (chReq codeMeterClear [0, 2, 3] true 0x20 1 p []) p (fun w s => meterClearEff (chOf p) m w s) s)
/-- SAFETY_ACK (R249). -/
def execSafetyAck (m : Mbx) (p : List Byte) (s : State) : Out :=
  fin s (runNow m ⟨codeSafetyAck, .exactly 4, [], true, none, none⟩ p (safetyAckEff (leAt p 0 4)) s)
/-- FEIDE (R304): always DONE once its request has a valid length on a mailbox that may carry it. -/
def execFeide (m : Mbx) (p : List Byte) (s : State) : Out :=
  fin s (runNow m ⟨codeFeide, .exactly 17, [], true, none, none⟩ p (feideCmdEff p) s)
/-- JOURNAL_READ (R305). -/
def execJournalRead (m : Mbx) (p : List Byte) (s : State) : Out :=
  fin s (runNow m (readReq codeJournal false p) p (journalReadEff p) s)
/-- CHANGE_READ (R305). -/
def execChangeRead (m : Mbx) (p : List Byte) (s : State) : Out :=
  fin s (runNow m (readReq codeChange true p) p (changeReadEff p) s)

end Sys2Proof.Machine
end

