-- ==== Sys2Proof/Machine/Migrate.lean ====
section
/-! DEFINITION. Settings migration at the first start of a firmware (18_lifecycle_and_update.md R407, R408, 15_redundant_pair.md R351). -/

namespace Sys2Proof.Machine

/-- Layout version that the firmware of a bank uses for an object: 1 in the delivered one (release line 1); SAFETY_LAYOUT of the image for objects 0x3F00 and
0x3F01; for every other object and image the spec gives no table, and the value is free (log entry 123). -/
def fwLayout (isB : Bool) (oid : Nat) (s : State) : Nat :=
  if isDelivered isB s then 1
  else if oid = 0x3F00 ∨ oid = 0x3F01 then fwLe isB 24 1 s
  else Config.fwLayout (fwLe isB 8 4 s) oid % 256

/-- Instance offsets of an object: every channel's, and every one of its consecutive ids (Table 0.4). -/
def Obj.insts (o : Obj) : List Nat :=
  (List.range (if o.perCh then 8 else 1)).flatMap fun c => (List.range o.subs).map fun k => 256 * c + k

/-- The field holds a setting: it is kept in MRAM and can be written. Records and counters that the device keeps for itself are none (log entry 123). -/
def Fld.setting (f : Fld) : Bool := f.mram && f.acc != .ro

/-- The settings of an object at their delivered values (R407). -/
def setDelivered (o : Obj) (n : Nat) (s : State) : State :=
  o.flds.foldl (fun s f => if f.setting then (List.range f.cnt).foldl (fun s i => s.wr f n i (f.reset n i)) s else s) s

/-- The new firmware converts this stored object, rather than set it to its delivered values: its layout is older, and in a pair it is device-local (R407, R408). -/
def converts (o : Obj) (n new : Nat) (s : State) : Bool :=
  decide (layoutOf o n s < new) && (!s.rdB Reg.PairCfg.EN || localObj (o.base + n))

/-- One object under the firmware that starts: an object with settings of another layout is converted, every field keeping the value of its meaning, or set to its delivered
values, with its change-record entry and its count (R407, R408). -/
def migrateObj (isB : Bool) (o : Obj) (n : Nat) (s : State) : State :=
  let new := fwLayout isB (o.base + n) s
  if layoutOf o n s = new then s
  else if !(o.flds.any Fld.setting) then s.wr (layoutFld o) n 0 new
  else
    let conv := converts o n new s
    let t := (if conv then s else setDelivered o n s).wr (layoutFld o) n 0 new
    let t := t.count (if conv then Reg.Fw.MIGRATE_CNT else Reg.Fw.DEFAULTED_CNT)
    cAdd ⟨7, 0xFF, 0, 0, false⟩ 7 0xFFFF 0 (objCrc o n (o.base + n) s) (objCrc o n (o.base + n) t) true t

/-- Every object under the firmware that starts. -/
def migrateAll (isB : Bool) (s : State) : State :=
  objTable.foldl (fun s o => o.insts.foldl (fun s n => migrateObj isB o n s) s) s

/-- The versions that run (Table 18.11). -/
def runVersions (isB : Bool) (s : State) : State :=
  let v := bankVersion isB s
  (s.wr Reg.Fw.RUN_VERSION 0 0 v.1).wr Reg.Fw.RUN_SEC 0 0 v.2

/-- The firmware of a bank starts: its versions, the counts of this start, its settings; a safety configuration that has migrated is taken anew by an island that
runs (R408). -/
def firmwareStart (isB : Bool) (s : State) : State :=
  let s := ((runVersions isB s).wr Reg.Fw.MIGRATE_CNT 0 0 0).wr Reg.Fw.DEFAULTED_CNT 0 0 0
  let t := migrateAll isB s
  if t.safe.on && safetyCrc t != safetyCrc s then safetyWritten t else t

end Sys2Proof.Machine
end

