-- ==== Sys2Proof/Machine/Crown.lean ====
section
/-! DEFINITION. The Crown goes away and comes back: ROM checks, ROM recovery, restore of the journal and of unfinished commands, keep-alive and Crown loss hold (01_device_architecture.md R17-R20, 12_crown_mailboxes.md R281, 13_command_reference.md R298, 18_lifecycle_and_update.md R405, R409). -/

namespace Sys2Proof.Machine

/-! ### Units that lose their supply or their Crown -/

/-- Change the power state. -/
def State.setPow (s : State) (f : PowSt → PowSt) : State := { s with pow := f s.pow }

/-- Every unit but the Crown and its memories loses its supply: PGs stopped, PWM at high impedance, enables low, MFs off, CAN and Hatband off,
PAIR_ALIVE_OUT low (17_power_and_holdup.md Lull, R384, R382). -/
def unitsDown (s : State) : State :=
  let s := stopAllPg s
  let s := s.eachCh fun s c =>
    let s := s.wr Reg.PgStat.HIZ (cI c) 0 1
    let s := (setMfState c mfOff s).setMf c fun m => { m.cutOff.dropCycle with lull := none, closing := false }
    settle c (s.setCh c fun x => { x with hold := false, idle := false, startWait := none, testWait := [], stopWait := [] })
  let s := islandStop s
  let s := allHb.foldl (fun s p => s.wr Reg.HbStat.LINK p.val 0 0) s
  setSync 0 { s with clk := { s.clk with outs := Vector.replicate 2 ClkOutSt.reset }, cans := Vector.replicate 4 CanSt.reset, hbs := Vector.replicate 2 HbSt.reset, pair := { s.pair with aliveOut := false, handover := none } }

/-- Crown firmware stops running; nothing is served on the host port (R264). -/
def crownTo (r : CrownRun) (s : State) : State := { s with crown := { s.crown with run := r, reply := none, held := [] } }

/-- ROM recovery (R382, R409): the channels, MFs, CAN and Hatband are off, PWM at high impedance, GEN low. -/
def enterRecovery (s : State) : State :=
  (crownTo .recovery (unitsDown s)).setPow fun p => { p with st := .thaw }

/-! ### The ROM starts a bank -/

/-- Code of the check that a bank fails at its start, 0 when it passes: all of Table 18.7, or the block CRCs alone from Lull and at a restart (R381, R20). -/
def romCode (full isB : Bool) (s : State) : Nat :=
  if full then bankCode isB s else if isDelivered isB s then bankCode isB s else if fwChk3 isB s then 0 else 3

/-- The inactive bank is REJECTED for a reason (Table 18.8). -/
def inactReject (code : Nat) (s : State) : State := (inactOpen inRejected s).wr Reg.Fw.LAST_REJECT 0 0 code

/-- The ROM starts the selected bank, or the other one when that passes (R405), or enters recovery (R409). Answers whether firmware runs. -/
def romStart (full : Bool) (s : State) : Bool × State :=
  let b := runIsB s
  let code := romCode full b s
  if code = 0 then (true, firmwareStart b s)
  else
    let s := s.wr Reg.Fw.BOOT_FAIL 0 0 code
    if inactState s ≠ inEmpty ∧ romCode true (!b) s = 0 then
      let s := (s.wrB Reg.Fw.RUN_BANK 0 0 (!b)).count Reg.Fw.FALLBACK_CNT
      (true, inactReject code (firmwareStart (!b) s))
    else (false, enterRecovery s)

/-! ### Unfinished commands (R281, R298, the Thaw column of Table 13.3) -/

/-- What becomes of an unfinished command: it is executed again, it waits for an event that still comes, or it ends. -/
inductive Replay where
  | again
  | keep
  | ends (d : Done)
deriving DecidableEq, Repr

/-- INTERRUPTED with its DETAIL. -/
def interrupted (b : Bool) : Replay := .ends (.fail stInterrupted b.toNat)

/-- The fuses hold the value of a FUSE_PROGRAM request (Table 13.3). -/
def fuseHolds (p : List Byte) (s : State) : Bool :=
  let v := p.drop 4
  match pb p 0 with
  | 1 => s.life.oemHash == some v
  | 2 => s.life.debugHash == some v
  | 3 => s.rdB Reg.Life.STORE && s.rd Reg.StoreFuse.C_MIN_MF == leAt v 0 2 && s.rd Reg.StoreFuse.C_MAX_MF == leAt v 2 2
      && s.rd Reg.StoreFuse.E_CEIL_MJ == leAt v 4 4
  | 4 => s.life.billBurned
  | 5 => s.rdB Reg.Life.BIND_REQUIRED
  | _ => false

/-- A command has this key. -/
def Waiter.is (w : Waiter) (m : Mbx) (k : Cmd) : Bool := w.mbx == m && w.key == some (k.epoch, k.seq)

/-- What becomes of one unfinished command, judged on the state before anything is restored. -/
def replayOf (m : Mbx) (k : Cmd) (s : State) : Replay :=
  let p := k.payload
  let c := chOf p
  let run := k.st == .executing
  if k.code = codeLock ∨ k.code = codeStart ∨ k.code = codeFeide then interrupted false
  else if k.code = codeUnlock then (if run && pb p 0 == 1 then .again else interrupted false)
  else if k.code = codeSwap then
    let slot := if pb p 1 = 1 then (s.batt c).slotB else (s.batt c).slotA
    interrupted (s.rd Reg.Batt.ACTIVE_SLOT (cI c) == slot && slot != noSlot)
  else if k.code = codeSessStart then
    interrupted (match (s.mf c).sess with
      | .opened i => i.id == leAt p 8 8
      | _ => false)
  else if k.code = codeSessStop then
    (if (s.mf c).signing.any fun x => x.1.is m k then .keep else .again)
  else if k.code = codeMeterClear then
    interrupted (match (s.mf c).newest with
      | some r => (match r.purpose with
        | .clear w => w.is m k
        | _ => false)
      | none => false)
  else if k.code = codeSafetyAck then interrupted (allCh.all fun c => !(safeState c s == sfLocked && s.rd Reg.Safe.TOKEN 0 c.val == leAt p 0 4))
  else if k.code = 0x8604 then interrupted (s.crown.changes.any fun r => r.kind == 6 && r.mbx == m.val && r.epoch == k.epoch && r.seq == k.seq)
  else if k.code = 0x8605 then interrupted (fuseHolds p s)
  else if k.code = 0x8603 ∧ run then (if s.life.activating.isSome then .keep else .ends (.fail stImageRejected 11))
  else if k.code = 0x8701 ∧ run then .ends (.ok)
  else .again

/-- Waiters on hardware that Crown firmware no longer follows: starts, loads, swaps and session marks that have not come (log entry 53). -/
def dropWaits (s : State) : State :=
  s.eachCh fun s c =>
    let s := match (s.batt c).load with
      | some l => emptyBank c l.bankB s
      | none => s
    let s := match (s.batt c).swap with
      | some o => if bankState c o.bankB s = bkArmed then setBank c o.bankB bkValid s else s
      | none => s
    let s := s.setBatt c fun b => { b with load := none, queue := [], swap := none }
    let s := s.setCh c fun x => { x with startWait := none, testWait := [], stopWait := [] }
    s.setMf c fun m => { m with
      recQ := m.recQ.map fun r => { r with purpose := .mark }
      sess := match m.sess with
        | .starting _ _ => .none
        | .stopping _ i => .opened i
        | x => x }

/-- An UNLOCK with COMMIT = 1 whose EXEC record stands is executed again before the locks are broken, and completes as it would have (R298). -/
def replayUnlock (m : Mbx) (s : State) : State :=
  match (s.mb m).cmds.find? fun k => k.st == .executing && k.code == codeUnlock && pb k.payload 0 == 1 with
  | some k => unlockRun m ⟨m, some (k.epoch, k.seq)⟩ k.payload s
  | none => s

/-- A pending response restored from the journal holds the first 24 bytes of its result (R276). -/
def Cmd.shorten (k : Cmd) : Cmd :=
  if k.live then k else { k with result := k.result.take 24, part := k.part || decide (24 < k.result.length) }

/-- The ACCEPT record of a command stands before that of another: JSEQ in serial order (R273). -/
def Cmd.earlier (a b : Cmd) : Bool := decide (sgn 32 (a.acceptJ + 2 ^ 32 - b.acceptJ) < 0)

/-! ### The journal at Thaw (R279, R281) -/

/-- VOID records over every JSEQ whose record cannot be read; a block that could be written can be read again (R279). -/
def voidPass (s : State) : State :=
  let bad := s.mem.lost.filter fun b => decide (journalBlock0 ≤ b) && decide (b < journalBlock0 + journalSize)
  let dead := bad.filter fun b => blockDead b s
  let s := { s with crown := { s.crown with journal := s.crown.journal.map fun r => if bad.contains (journalBlock r.jseq) then voidIf (journalBlock r.jseq) r else r } }
  if bad = [] then s else s.setMem fun x => { x with lost := x.lost.filter fun b => !bad.contains b || dead.contains b }

/-- The accepted commands of a mailbox without a FINAL record: those of whole ACCEPT entries, in the order of their entries, EXECUTING when an EXEC record stands
(R281). What Crown SRAM held of a broken lock is kept with the command (R285). -/
def journalLives (m : Mbx) (s : State) : List Cmd :=
  (s.crown.journal.reverse.filter fun r => r.typ == 1 && r.mbx == m.val).filterMap fun a =>
    let ep := leAt a.body 0 4
    let sq := leAt a.body 4 4
    if jHas 4 m ep sq s then none
    else (entryPayload a s).map fun p =>
      let c := { cmdOf a p with broken := (s.mb m).cmds.any fun k => k.epoch == ep && k.seq == sq && k.broken }
      if jHas 3 m ep sq s then { c with st := .executing, status := stExecuting } else c

/-- One command of each key: a carried copy stands in for its original (R280). -/
def lastOfKey : List Cmd → List Cmd
  | [] => []
  | c :: cs => if cs.any fun k => k.epoch == c.epoch && k.seq == c.seq then lastOfKey cs else c :: lastOfKey cs

/-- The mailbox as the journal has it: pending responses whose FINAL record stands, and the commands that have none (R281). -/
def restoreMb (m : Mbx) (s : State) : State :=
  let lives := lastOfKey (journalLives m s)
  s.setMb m fun b => { b with cmds := (b.cmds.filter fun k => !k.live && jHas 4 m k.epoch k.seq s).map Cmd.shorten ++ lives }

/-- NEXT of a mailbox as the journal has it: after the newest command of the epoch, else START_SEQ of its HELLO; the stored value where the ring holds neither
(R275, R281). -/
def restoreNext (m : Mbx) (s : State) : State :=
  match s.crown.journal.find? fun r => r.typ == 1 && r.mbx == m.val && leAt r.body 0 4 == s.epoch && (entryPayload r s).isSome with
  | some r => s.wr Reg.HostStat.NEXT 0 m.val (leAt r.body 4 4 + 1)
  | none => match s.crown.journal.find? fun r => r.typ == 6 && leAt r.body 0 4 == s.epoch with
    | some r => s.wr Reg.HostStat.NEXT 0 m.val (leAt r.body 8 4)
    | none => s

/-- Crown firmware reads the journal: EPOCH, NEXT, pending responses, credits and unfinished commands (R281). -/
def journalRestore (s : State) : State :=
  let s := voidPass s
  let s := match s.crown.journal.find? fun r => r.typ == 6 with
    | some r => s.wr Reg.HostStat.EPOCH 0 0 (leAt r.body 0 4)
    | none => s
  allMbx.foldl (fun s m => restoreNext m (restoreMb m s)) s

/-- What a journal says of a command that an ABORT_REQ without an EXEC record names: it never takes effect (R286). -/
def abortedFirst (m : Mbx) (k : Cmd) (s : State) : Bool := k.st == .accepted && jHas 5 m k.epoch k.seq s

/-- The unfinished commands of every mailbox with what becomes of them, in the order of acceptance (R273). -/
def replayPlan (s : State) : List (Mbx × Cmd × Replay) :=
  let s := journalRestore s
  let all := (allMbx.filter fun m => mbxMine m s).flatMap fun m => ((s.mb m).cmds.filter Cmd.live).map fun k => (m, k, if abortedFirst m k s then .ends ⟨stAborted, 0, []⟩ else replayOf m k s)
  all.mergeSort fun a b => !b.2.1.earlier a.2.1

/-- A command is ACCEPTED again. -/
def acceptAgain (m : Mbx) (k : Cmd) (s : State) : State :=
  s.setMb m fun b => { b with cmds := b.cmds.map fun x => if x.epoch == k.epoch && x.seq == k.seq && x.live then { x with st := .accepted, status := stAccepted, ran := false } else x }

/-- A command goes on waiting for its device event (R433). -/
def waitOn (m : Mbx) (k : Cmd) (s : State) : State :=
  s.setMb m fun b => { b with cmds := b.cmds.map fun x => if x.epoch == k.epoch && x.seq == k.seq && x.live then { x with ran := true } else x }

/-- Crown firmware restores journal, pending responses and credits, and takes up unfinished commands (R281). -/
def crownRestore (plan : List (Mbx × Cmd × Replay)) (s : State) : State :=
  let s := journalRestore s
  let s := allMbx.foldl (fun s m => replayUnlock m s) s
  let s := allMbx.foldl (fun s m => breakLock m s) s
  plan.foldl (fun s x => match x.2.2 with
    | .again => acceptAgain x.1 x.2.1 s
    | .keep => waitOn x.1 x.2.1 s
    | .ends d => completeW ⟨x.1, some (x.2.1.epoch, x.2.1.seq)⟩ d s) s

/-! ### Keep-alive and hold (R17) -/

/-- Crown firmware sends the keep-alive to every channel: a hold ends. -/
def keepAliveEff (s : State) : State :=
  if crownUp s then s.eachCh fun s c => s.setCh c fun x => { x with hold := false } else s

/-- No keep-alive has reached the channel for 2 ms: its hold starts, whatever the Crown does (R17). -/
def holdStartEff (c : Ch) (s : State) : State :=
  if unitsOn s then s.setCh c fun x => { x with hold := true } else s

/-- The hold expires: Squall shutdown with SQ_CAUSE 2 (R17, R177). -/
def holdExpireEff (c : Ch) (s : State) : State :=
  if (s.ch c).hold then settle c (squallRequest c 2 (s.setCh c fun x => { x with hold := false })) else s

/-! ### Crown restarts (R20) -/

/-- The Crown alone restarts: RESET_CAUSE, and an owner releases (R343). -/
def crownRestart (cause : Nat) (s : State) : State :=
  let s := crownTo .starting s
  ownerRelease { s with crown := { s.crown with resetCause := cause, restarting := true } }

/-- A lockstep mismatch (R17, R19, R20): LOCKSTEP_SEEN, release at once, and the holds start at once. -/
def lockstepEff (s : State) : State :=
  let s := crownRestart 5 (s.wr Reg.CrownSup.LOCKSTEP_SEEN 0 0 1)
  let s := { s with pair := { s.pair with released := true } }
  s.eachCh fun s c => s.setCh c fun x => { x with hold := true }

/-- A Crown that executes code can fail: in firmware, in ROM, in a restart and in an activation pause (R20). -/
def crownAwake (s : State) : Bool := unitsOn s && s.crown.run != .recovery

/-- CAN and Hatband are served again after a restart or a pause, a controller on an idle bus begins to send, and the keep-alive goes out. -/
def crownBack (s : State) : State :=
  let s := canKick (allCan.foldl (fun s c => canService c s) s)
  keepAliveEff (hbService s)

/-- CROWN_RESTART_DONE (R20): the ROM starts the running bank, firmware restores its state and sends the keep-alive. An activation that the restart cut off has
failed (R305). -/
def restartDoneEff (s : State) : State :=
  if !s.crown.restarting then s
  else
    let s := { s with life := { s.life with activating := none } }
    let plan := replayPlan s
    let s := { s with crown := { s.crown with restarting := false } }
    let r := romStart false s
    if r.1 then
      crownBack (crownRestore plan (dropWaits (crownTo .running r.2)))
    else r.2

/-- SAFETY_STOP_ORDER (R245): Crown firmware stops a channel that has left PERMIT; a standby takes its orders from the owner. -/
def stopOrderEff (c : Ch) (s : State) : State :=
  if crownUp s && (s.sc c).stopDue && !isStandby s then
    sendOrder c false (settle c (squallRequest c 1 (s.setSc c fun x => { x with stopDue := false })))
  else s

/-- KEEP_ALIVE. -/
def execKeepAlive (s : State) : Out := fin s (keepAliveEff s)
/-- CROWN_LOSS_HOLD_START. -/
def execCrownLossHoldStart (c : Ch) (s : State) : Out := fin s (holdStartEff c s)
/-- CROWN_LOSS_HOLD_EXPIRE. -/
def execCrownLossHoldExpire (c : Ch) (s : State) : Out := fin s (holdExpireEff c s)
/-- CROWN_LOCKSTEP_MISMATCH (R19). -/
def execCrownLockstepMismatch (s : State) : Out := fin s (if crownAwake s then lockstepEff s else s)
/-- CROWN_WATCHDOG_EXPIRE (R20). -/
def execCrownWatchdogExpire (s : State) : Out := fin s (if crownAwake s then crownRestart 4 s else s)
/-- CROWN_SRAM_UNCORRECTABLE (R363): handled as a lockstep mismatch. -/
def execCrownSramUncorrectable (s : State) : Out := fin s (if crownAwake s then lockstepEff (s.count Reg.MemStat.SRAM_UNCORR_CNT) else s)
/-- CROWN_RESTART_DONE. -/
def execCrownRestartDone (s : State) : Out := fin s (restartDoneEff s)
/-- SAFETY_STOP_ORDER. -/
def execSafetyStopOrder (c : Ch) (s : State) : Out := fin s (stopOrderEff c s)

end Sys2Proof.Machine
end

