-- ==== Sys2Proof/Machine/Life.lean ====
section
/-! DEFINITION. Life cycle, fuses, debug port, firmware commands and activation (18_lifecycle_and_update.md R387-R409, 07_pulse_generation.md R159). -/

namespace Sys2Proof.Machine

def codeFwWrite : Nat := 0x8601
def codeFwVerify : Nat := 0x8602
def codeActivate : Nat := 0x8603
def codeLcRequest : Nat := 0x8604
def codeFuse : Nat := 0x8605

/-- Life-cycle states (Table 18.1). -/
def lcMaker : Nat := 0
def lcOem : Nat := 1
def lcField : Nat := 2
def lcReturn : Nat := 3

/-- LIFECYCLE. -/
def lifeState (s : State) : Nat := s.rd Reg.Life.LIFECYCLE

/-! ### Firmware bank (R396) -/

/-- FW_WRITE. -/
def fwWriteEff (p : List Byte) (s : State) : Done × State :=
  let off := leAt p 0 4
  if off % 512 ≠ 0 ∨ fwSize < off + 512 then (.fail stFieldInvalid 0, s)
  else if inactState s = inReceiving then (.fail stStateRefused 0, s)
  else if spanDead (fwBlock0 (inactIsB s)) off 512 s then internalFail s
  else (.ok, fwPut (inactIsB s) off (p.drop 4) (if inactState s = inWriting then s else inactOpen inWriting s))

/-- FW_VERIFY. -/
def fwVerifyEff (s : State) : Done × State :=
  if inactState s = inReceiving then (.fail stStateRefused 0, s)
  else
    let b := inactIsB s
    let r := inactVerify s
    if r.1 = 0 then (.ok 0 (leBytes 4 (bankVersion b s).1 ++ leBytes 1 (fwBound b s).toNat ++ [0, 0, 0]), r.2)
    else (.fail stImageRejected r.1, r.2)

/-! ### Activation (R403-R406) -/

/-- What refuses ACTIVATE (R403). -/
def activateRefused (s : State) : Option Done :=
  if inactState s ≠ inVerified then some (.fail stImageRejected 10)
  else if s.rdB Reg.PairCfg.EN && pairRole s == 2 then some (.fail stStateRefused 1)
  else if fwLayout (inactIsB s) 0x3F00 s != s.rd Reg.SafeIn.LAYOUT && anyGenHigh s then some (.fail stStateRefused 2)
  else none

/-- Every running channel performs Squall shutdown with SQ_CAUSE 1, to its end. -/
def squallAll (s : State) : State :=
  s.eachCh fun s c =>
    let s := squallRequest c 1 s
    settle c (if gdiState c s = 4 then squallFinish c s else s)

/-- ACTIVATE (R403, R404): the change-record entry, and the Crown restarts into the activation pause. -/
def activateEff (m : Mbx) (w : Waiter) (s : State) : State :=
  match activateRefused s with
  | some d => completeW w d s
  | none =>
    let s := if s.rdB Reg.PairCfg.EN && (pairRole s == 1 || pairRole s == 3) then squallAll s else s
    let a := authorOf m codeActivate s
    let s := cAddFree ⟨7, m.val, a.epoch, a.seq, true⟩ 9 s
    let s := crownTo .pause (s.setLife fun l => { l with activating := some ⟨w, a.epoch, a.seq⟩ })
    { s with crown := { s.crown with resetCause := 6 } }

/-- Crown firmware runs again after a pause: it restores its state, serves what has waited, and sends the keep-alive. -/
def crownResume (plan : List (Mbx × Cmd × Replay)) (s : State) : State :=
  crownBack (crownRestore plan (dropWaits (crownTo .running s)))

/-- The banks change places at a confirm (Table 18.8, R406): SEC_FLOOR rises, and the former bank is VERIFIED, or REJECTED below the floor. -/
def swapFirmware (s : State) : State :=
  let new := inactIsB s
  let s := (firmwareStart new (s.wrB Reg.Fw.RUN_BANK 0 0 new)).count Reg.Fw.ACTIVATE_CNT
  let s := s.wr Reg.Life.SEC_FLOOR 0 0 (max (s.rd Reg.Life.SEC_FLOOR) (s.rd Reg.Fw.RUN_SEC))
  if (bankVersion (!new) s).2 < s.rd Reg.Life.SEC_FLOOR then inactReject 9 s else inactVerified (!new) s

/-- ACTIVATION_CONFIRM (R404, R406): the new firmware runs, and ACTIVATE is DONE with its bank. -/
def confirmEff (s : State) : State :=
  match s.life.activating with
  | none => s
  | some a =>
    if s.crown.run ≠ .pause ∨ bankCode (inactIsB s) s ≠ 0 then s
    else
      let plan := replayPlan s
      let s := swapFirmware (s.setLife fun l => { l with activating := none })
      completeW a.w (.ok 0 (leBytes 1 (runIsB s).toNat ++ [0, 0, 0])) (crownResume plan s)

/-- ACTIVATION_CONFIRM_TIMEOUT (R405): the former bank runs again, and ACTIVATE fails with reason 11. -/
def confirmTimeoutEff (s : State) : State :=
  match s.life.activating with
  | none => s
  | some a =>
    if s.crown.run ≠ .pause then s
    else
      let plan := replayPlan s
      let s := (s.count Reg.Fw.FALLBACK_CNT).setLife fun l => { l with activating := none }
      let s := inactReject 11 s
      let code := romCode true (runIsB s) s
      if code = 0 then
        completeW a.w (.fail stImageRejected 11) (crownResume plan (firmwareStart (runIsB s) (s.wr Reg.Fw.BOOT_FAIL 0 0 11)))
      else enterRecovery (s.wr Reg.Fw.BOOT_FAIL 0 0 code)

/-! ### Life-cycle requests (R388-R391) -/

/-- The request exists from the present state (Table 18.2). -/
def lcExists (target : Nat) (s : State) : Bool :=
  (target == lcField && lifeState s == lcOem) || (target == lcReturn && (lifeState s == lcOem || lifeState s == lcField))
    || (target == lcMaker && lifeState s == lcReturn)

/-- Reason code of a signed request that fails a check of R390, 0 when it passes. -/
def lcSigned (target : Nat) (r : List Byte) (s : State) : Nat :=
  let key := if target = lcMaker then some s.life.vendorHash else s.life.oemHash
  let pub := slice r 24 96
  if leAt r 0 4 ≠ 0x5152434C ∨ leAt r 4 1 ≠ target ∨ (firstNonZero r 5 8).isSome then 14
  else if leAt r 8 8 ≠ s.rd Reg.Life.UNIT_ID ∨ leAt r 16 8 ≠ s.rd Reg.Life.LC_NONCE then 13
  else if key ≠ some (sha384 pub) ∨ Config.ecdsaP384 pub (slice r 120 96) (sha384 (r.take 24)) = false then 12
  else 0

/-- Entry to FIELD (Table 18.2): the debug-disable fuse, then the life-cycle fuse. -/
def enterField (s : State) : State :=
  ((s.setLife fun l => { l with debugFused := true }).wr Reg.Life.LIFECYCLE 0 0 lcField).wr Reg.Life.DEBUG_OPEN 0 0 0

/-- Entry to RETURN (R389): every channel stopped first, billing key and OEM debug key destroyed. -/
def enterReturn (s : State) : State :=
  let s := (squallAll s).setLife fun l => { l with debugHash := none, billBurned := true }
  let s := ((s.wr Reg.Life.BILL_KEY 0 0 0).wr Reg.Life.DEBUG_KEY 0 0 0).wr Reg.Life.DEBUG_OPEN 0 0 0
  s.wr Reg.Life.LIFECYCLE 0 0 lcReturn

/-- Entry to MAKER (Table 18.2): every OEM fuse item unusable; the store values and the binding are those of unburned items (log entry 55); the debug port is open. -/
def enterMaker (s : State) : State :=
  let s := s.setLife fun l => { l with oemHash := none, debugHash := none, billBurned := true }
  let s := ((s.wr Reg.Life.OEM_KEY 0 0 0).wr Reg.Life.STORE 0 0 0).wr Reg.Life.BIND_REQUIRED 0 0 0
  let s := [Reg.StoreFuse.FUSED, Reg.StoreFuse.C_MIN_MF, Reg.StoreFuse.C_MAX_MF, Reg.StoreFuse.V_CEIL_MV, Reg.StoreFuse.E_CEIL_MJ].foldl
    (fun s f => s.wr f 0 0 (f.reset 0 0)) s
  (s.wr Reg.Life.DEBUG_OPEN 0 0 1).wr Reg.Life.LIFECYCLE 0 0 lcMaker

/-- An accepted transition: its change-record entry first, then its fuses, LIFECYCLE_CHANGE (498). -/
def lcMove (a : Author) (target : Nat) (s : State) : State :=
  let s := cAddFree a 6 s
  let s := if target = lcField then enterField s else if target = lcReturn then enterReturn s else enterMaker s
  s.raise 498

/-- The checks of LC_REQUEST after its length (R388, R390). -/
def lcRefused (target : Nat) (p : List Byte) (s : State) : Option Done :=
  if !lcExists target s then some (.fail stLifecycleDenied (lifeState s))
  else if target = lcField then
    (if s.life.oemHash = none then some (.fail stStateRefused 1)
     else if !s.rdB Reg.Life.BILL_KEY then some (.fail stStateRefused 4) else none)
  else
    let r := lcSigned target (p.drop 4) s
    if r = 0 then none else some (.fail stImageRejected r)

/-- LC_REQUEST after its first checks. -/
def lcRequestEff (m : Mbx) (p : List Byte) (s : State) : Done × State :=
  let target := pb p 0
  let len := if target = lcField then 4 else 220
  if p.length ≠ len then (.fail stBadLength len, s)
  else match lcRefused target p s with
    | some d => (d, s)
    | none =>
      let t := lcMove (authorOf m codeLcRequest s) target s
      (.ok 0 (leBytes 1 (lifeState t)), t)

/-- LC_NONCE takes a new value (R390). -/
def lcNonce (s : State) : State := (s.wr Reg.Life.LC_NONCE 0 0 (s.free 64)).drew

/-! ### FUSE_PROGRAM (R392) -/

/-- Length of the value of an item (Table 18.3). -/
def fuseLen (item : Nat) : Nat := if item = 1 ∨ item = 2 then 48 else if item = 3 then 8 else 1

/-- The item is burned. -/
def fuseBurned (item : Nat) (s : State) : Bool :=
  s.life.fuseFailed.contains item || match item with
  | 1 => s.life.oemHash.isSome
  | 2 => s.life.debugHash.isSome
  | 3 => s.rdB Reg.Life.STORE
  | 4 => s.life.billBurned
  | _ => s.rdB Reg.Life.BIND_REQUIRED

/-- Offset of the first value out of its range (Tables 17.8, 18.3). -/
def fuseBad (item : Nat) (p : List Byte) : Option Nat :=
  if item = 3 then
    let lo := leAt p 4 2
    let hi := leAt p 6 2
    let e := leAt p 8 4
    if lo < 10 ∨ 20000 < lo then some 4 else if hi < lo ∨ 20000 < hi then some 6 else if e < 500 ∨ 200000 < e then some 8 else none
  else if 4 ≤ item ∧ pb p 4 ≠ 1 then some 4 else none

/-- V_CEIL in mV, rounded down (R371). -/
def ceilingMv (cMax eCeil : Nat) : Nat := min 5400 (Nat.sqrt (2 * eCeil * 1000000 / cMax))

/-- Burn an item. -/
def fuseBurn (item : Nat) (p : List Byte) (s : State) : State :=
  let v := p.drop 4
  match item with
  | 1 => (s.setLife fun l => { l with oemHash := some v }).wr Reg.Life.OEM_KEY 0 0 1
  | 2 => (s.setLife fun l => { l with debugHash := some v }).wr Reg.Life.DEBUG_KEY 0 0 1
  | 3 =>
    let s := ((s.wr Reg.StoreFuse.FUSED 0 0 1).wr Reg.StoreFuse.C_MIN_MF 0 0 (leAt v 0 2)).wr Reg.StoreFuse.C_MAX_MF 0 0 (leAt v 2 2)
    let s := (s.wr Reg.StoreFuse.E_CEIL_MJ 0 0 (leAt v 4 4)).wr Reg.StoreFuse.V_CEIL_MV 0 0 (ceilingMv (leAt v 2 2) (leAt v 4 4))
    s.wr Reg.Life.STORE 0 0 1
  | 4 =>
    let s := (s.setLife fun l => { l with billBurned := true }).wr Reg.Life.BILL_KEY 0 0 1
    (s.wr Reg.Bill.PUBKEY 0 0 (s.free 512)).drew
  | _ => s.wr Reg.Life.BIND_REQUIRED 0 0 1

/-- FUSE_PROGRAM (R392): a burn that succeeds at its second attempt is transient and counted; one that fails lastingly completes INTERNAL with the item,
which stays unusable. -/
def fuseEff (m : Mbx) (p : List Byte) (bad1 bad2 : Bool) (s : State) : Done × State :=
  let item := pb p 0
  if p.length ≠ 4 + fuseLen item then (.fail stBadLength (4 + fuseLen item), s)
  else match fuseBad item p with
    | some off => (.fail stFieldInvalid off, s)
    | none =>
      if fuseBurned item s then (.fail stStateRefused item, s)
      else
        let s := cAddFree (authorOf m codeFuse s) 6 s
        if bad1 && bad2 then (.fail stInternal item, s.setLife fun l => { l with fuseFailed := item :: l.fuseFailed })
        else (.ok, fuseBurn item p (if bad1 then s.setLife fun l => { l with fuseTransient := l.fuseTransient + 1 } else s))

/-! ### Debug port (R393, R159) -/

/-- The debug port is open. -/
def debugOpen (s : State) : Bool := lifeState s == lcMaker || s.rdB Reg.Life.DEBUG_OPEN

/-- DEBUG_AUTH: the debugger answers a fresh challenge, a free value. -/
def debugAuthEff (pub sig : List Byte) (s : State) : State :=
  let challenge := leBytes 48 (s.free 384)
  let s := s.drew
  let key := if lifeState s = lcOem then (if s.life.debugFused then none else s.life.debugHash)
    else if lifeState s = lcReturn then some s.life.vendorDebugHash else none
  if key = some (sha384 pub) ∧ Config.ecdsaP384 pub sig (sha384 challenge) = true then s.wr Reg.Life.DEBUG_OPEN 0 0 1 else s

/-- A halt of one channel's PG. -/
def channelDebugHalt (c : Ch) (s : State) : State :=
  settle c (safeEval c ((pgHalt c s).setPg c fun p => { p with dbgHalt := true }))

/-- DEBUG_HALT. -/
def debugHaltEff (t : HaltTarget) (s : State) : State :=
  if !debugOpen s || !unitsOn s then s
  else match t with
    | .channel c => channelDebugHalt c s
    | .crown => if crownUp s then crownTo .halted (s.eachCh fun s c => channelDebugHalt c s) else s

/-- A channel's halt is released: HALTED to STOPPED (Table 7.6), unless its clock branch stands. -/
def channelRelease (c : Ch) (s : State) : State :=
  let s := s.setPg c fun p => { p with dbgHalt := false }
  if (s.ch c).branch then settle c (haltEnd c s) else s

/-- HALT_RELEASE. -/
def haltReleaseEff (t : HaltTarget) (s : State) : State :=
  match t with
  | .channel c => if (s.pg c).dbgHalt then channelRelease c s else s
  | .crown => if s.crown.run = .halted then crownTo .running (s.eachCh fun s c => channelRelease c s) else s

/-! ### Rows -/

/-- FW_WRITE (R396). -/
def execFwWrite (m : Mbx) (p : List Byte) (s : State) : Out :=
  fin s (runNow m ⟨codeFwWrite, .exactly 516, [3], true, some 0x6F, none⟩ p (fwWriteEff p) s)
/-- FW_VERIFY (R396). -/
def execFwVerify (m : Mbx) (p : List Byte) (s : State) : Out :=
  fin s (runNow m ⟨codeFwVerify, .exactly 0, [3], true, some 0x6F, none⟩ p fwVerifyEff s)
/-- ACTIVATE (R403, R404). -/
def execActivate (m : Mbx) (p : List Byte) (s : State) : Out :=
  fin s (runReq m ⟨codeActivate, .exactly 4, [3], true, some 0x6F, firstNonZero p 0 4⟩ p (activateEff m) s)
/-- LC_REQUEST (R388-R391). -/
def execLcRequest (m : Mbx) (p : List Byte) (s : State) : Out :=
  let t := runNow m ⟨codeLcRequest, .least 4, [], true, some 0x6F,
    firstBad [if pb p 0 = 1 ∨ 3 < pb p 0 then some 0 else none, firstNonZero p 1 4]⟩ p (lcRequestEff m p) s
  fin s (if crownUp s && rowMay m codeLcRequest p s then lcNonce t else s)
/-- FUSE_PROGRAM (R392). -/
def execFuseProgram (m : Mbx) (p : List Byte) (bad1 bad2 : Bool) (s : State) : Out :=
  fin s (runNow m ⟨codeFuse, .least 5, [0, 2, 3], true, some 0x6F,
    firstBad [if pb p 0 = 0 ∨ 5 < pb p 0 then some 0 else none, firstNonZero p 1 4]⟩ p (fuseEff m p bad1 bad2) s)
/-- ACTIVATION_CONFIRM. -/
def execActivationConfirm (s : State) : Out := fin s (confirmEff s)
/-- ACTIVATION_CONFIRM_TIMEOUT. -/
def execActivationConfirmTimeout (s : State) : Out := fin s (confirmTimeoutEff s)
/-- DEBUG_AUTH. -/
def execDebugAuth (pub sig : List Byte) (s : State) : Out := fin s (debugAuthEff pub sig s)
/-- DEBUG_HALT. -/
def execDebugHalt (t : HaltTarget) (s : State) : Out := fin s (debugHaltEff t s)
/-- HALT_RELEASE. -/
def execHaltRelease (t : HaltTarget) (s : State) : Out := fin s (haltReleaseEff t s)

end Sys2Proof.Machine
end

