-- ==== Sys2Proof/Machine/Power.lean ====
section
/-! DEFINITION. Supplies, the store, brown-out, Lull, Frost, nRST and temperatures (17_power_and_holdup.md R368-R386, 19_pins_and_electrical.md R427, R428, 14_can_and_hatband.md R320). -/

namespace Sys2Proof.Machine

/-! ### The store (R370-R374) -/

/-- E in units of 0.5 nJ: C_MIN in mF times VSTORE squared less 1 V squared, in mV squared (R370). A mJ is 2 000 000 units. -/
def storeUnits (s : State) : Nat :=
  let v := s.pow.vstore
  if v ≤ 1000 then 0 else s.rd Reg.StoreFuse.C_MIN_MF * (v * v - 1000000)

/-- Units of a level in mJ. -/
def mjUnits (mj : Nat) : Nat := mj * 2000000

/-- A field of object 0x5F00 as the always-on island holds it: the value of the last accepted write, or the delivered one once the island has lost all supply
(R373, R383, R386). -/
def islandCopy (f : Fld) (s : State) : Nat := if s.pow.islandLost || s.pow.copiesLost then f.rst else s.rd f
/-- The same for a flag. -/
def islandCopyB (f : Fld) (s : State) : Bool := islandCopy f s != 0

/-- E_KEEP in units (Table 17.3). -/
def keepUnits (s : State) : Nat :=
  if islandCopyB Reg.PowCfg.HARV_EN s && islandCopyB Reg.PowCfg.HARV_KEEP s then s.rd Reg.StoreFuse.C_MIN_MF * 2240000 else 0

/-- Levels of Table 17.3 in mJ: COMMIT_RES, MEAS, TX. -/
def levelMj : List Nat := [20, 60, 120]

/-- E stands at LULL_HOLD. -/
def atLullHold (s : State) : Bool := decide (mjUnits 20 + keepUnits s ≤ storeUnits s)

/-- E stands at THAW_STORE. -/
def atThawStore (s : State) : Bool := decide (mjUnits 420 + keepUnits s ≤ storeUnits s)

/-- VIN_AUX is at AUX_OK: certain at RUN_OK; below it no row gives the level, and it is a free value (log entry 57). -/
def auxOk (s : State) : Bool × State :=
  if s.pow.runOk then (true, s) else (s.free 1 == 1, s.drew)

/-- HV_HARV is at HARV_OK: a free value (log entry 57). -/
def harvOk (s : State) : Bool × State := (s.free 1 == 1, s.drew)

/-- A Lull source (R376). -/
def lullSource (s : State) : Bool × State := if atLullHold s then (true, s) else auxOk s

/-- A Frost source (R376). -/
def frostSource (s : State) : Bool × State :=
  let a := auxOk s
  if a.1 then a
  else if islandCopyB Reg.PowCfg.HARV_EN s && atThawStore s then harvOk a.2 else (false, a.2)

/-- A measurement or a burst is granted (R375). -/
def granted (mj : Nat) (s : State) : Bool × State :=
  if mjUnits mj + keepUnits s ≤ storeUnits s then (true, s) else auxOk s

/-- Events 485-487: E passes a level upward at the level, downward at the level less 1 mJ (R374). -/
def levelEvents (s : State) : State :=
  let e := storeUnits s
  (List.range 3).foldl (fun s k =>
    let l := levelMj.getD k 0
    if bit s.pow.lvlUp k then
      (if e < mjUnits (l - 1) then (s.setPow fun p => { p with lvlUp := setBit p.lvlUp k false }).raise (485 + k) else s)
    else if mjUnits l ≤ e then (s.setPow fun p => { p with lvlUp := setBit p.lvlUp k true }).raise (485 + k) else s) s

/-- CHARGER (R373). -/
def chargerUpdate (s : State) : State :=
  let v := s.pow.vstore
  let a := auxOk s
  let h := harvOk a.2
  let c := if s.rd Reg.StoreFuse.V_CEIL_MV ≤ v then 4
    else if a.1 then (if v < 1800 then 1 else 2)
    else if islandCopyB Reg.PowCfg.HARV_EN s && h.1 && decide (1800 ≤ v) then 3 else 0
  h.2.wr Reg.PowStat.CHARGER 0 0 c

/-! ### Meter records before the supply goes -/

/-- The records that wait for the commit engine are written. -/
def flushRecs (c : Ch) (s : State) : State := (s.mf c).recQ.foldl (fun s _ => meterCommitEff c s) s

/-- A Lull measurement that runs ends at once with its closing record (R375, Table 10.2). -/
def lullMeasClose (s : State) : State :=
  s.eachCh fun s c =>
    if (s.mf c).lull.isSome then (flushRecs c (mfClose c 3 mfOff s)).setMf c fun m => { m with lull := none } else s

/-! ### Lull and Frost (R376, R379) -/

/-- Entry to Lull: every MF in RUN closes with CLOSE_CAUSE 3, units off, the Crown in retention. `cause`: LULL_CAUSE. -/
def enterLull (cause : Nat) (s : State) : State :=
  let s := s.eachCh fun s c => flushRecs c (mfClose c 3 mfOff s)
  let s := (crownTo .rom (unitsDown s)).wr Reg.PowStat.LULL_CAUSE 0 0 cause
  s.setPow fun p => { p with
    st := .lull, burst := false, sinceLull := p.sinceLull || cause == 1, sinceSupply := p.sinceSupply || cause == 2 }

/-- Entry to Frost: every output returns to its RESET state, queued frames are discarded (Table 17.4). -/
def enterFrost (s : State) : State :=
  (crownTo .rom (unitsDown s)).setPow fun p => { p with st := .frost, burst := false, sinceSupply := true, fromLull := false }

/-- LULL_ENTER (R305): refused while a PG is RUNNING or HALTED. It completes on the return from Lull. -/
def lullEnterEff (w : Waiter) (s : State) : State :=
  if anyPgBusy s then completeW w (.fail stStateRefused 0) s else enterLull 1 s

/-- LULL_SOURCE_LOST (Table 17.4). -/
def lullLostEff (s : State) : State :=
  if (s.pow.st = .lull ∨ s.pow.st = .thaw) ∧ s.pow.runOk = false then enterFrost (lullMeasClose s) else s

/-- WAKE_SRC of a source, and whether the source is enabled (R379). -/
def wakeOf (src : WakeSrc) (s : State) : Nat × Bool :=
  match src with
  | .wake k => (1 + k.val, bit (islandCopy Reg.PowCfg.WAKE_EN s) k.val)
  | .can => (5, islandCopyB Reg.PowCfg.WAKE_CAN s)
  | .rtc => 
    let alarm := islandCopy Reg.PowCfg.RTC_ALARM s
    (6, islandCopyB Reg.PowCfg.WAKE_RTC s && alarm != 0 && rtcNow s == alarm)
  | .supply => (7, s.rd Reg.PowStat.LULL_CAUSE == 2 && s.pow.runOk)

/-- WAKE_EVENT (Table 17.4): to Thaw at RUN_OK, counted below it. -/
def wakeEff (src : WakeSrc) (s : State) : State :=
  let w := wakeOf src s
  if s.pow.st ≠ .lull ∨ w.2 = false then s
  else if s.pow.runOk then
    ((lullMeasClose s).wr Reg.PowStat.WAKE_SRC 0 0 w.1).setPow fun p => { p with st := .thaw, fromLull := true, burst := false }
  else s.count Reg.PowStat.WAKE_DENY_CNT

/-- LULL_MEASUREMENT (R375, R379): one MF awake for 200 ms, which are 1600 samples. -/
def lullMeasEff (s : State) : State :=
  if s.pow.st ≠ .lull ∨ s.rd Reg.PowCfg.MEAS_S = 0 then s
  else
    let g := granted 60 s
    let s := g.2
    if !g.1 then s.count Reg.PowStat.MEAS_DENY_CNT
    else
      let c : Ch := Fin.ofNat 8 (s.rd Reg.PowCfg.MEAS_CH)
      let s := s.count Reg.PowStat.MEAS_GRANT_CNT
      if s.rdB Reg.MeterCfg.EN (cI c) then (mfStart c s).setMf c fun m => { m with lull := some (m.sample + 1600) } else s

/-- A burst of CAN0 with a status frame of this KIND, granted or denied (R375, R320). -/
def burstAsk (kind : Nat) (s : State) : State :=
  let g := granted 120 s
  let s := g.2
  if g.1 then (sendStatus 0 kind (s.setPow fun p => { p with burst := true })).count Reg.PowStat.TX_GRANT_CNT
  else s.count Reg.PowStat.TX_DENY_CNT

/-- LULL_BURST (R375). -/
def lullBurstEff (s : State) : State := if s.pow.st = .lull then burstAsk 2 s else s

/-- CAN0 has frames of a burst left. -/
def burstLeft (s : State) : Bool := s.pow.burst && !(canHeads 0 s).isEmpty

/-- In Lull, E below LULL_HOLD without VIN_AUX cuts a burst and ends a measurement (R375). -/
def sagCheck (s : State) : State :=
  if s.pow.st ≠ .lull ∨ atLullHold s = true then s
  else
    let a := auxOk s
    if a.1 then a.2
    else
      let s := a.2
      let s := if burstLeft s then (s.count Reg.PowStat.TX_CUT_CNT).setPow fun p => { p with burst := false } else s
      lullMeasClose s

/-- STORE_MEASURE (R370): VSTORE, E, LEVEL and its events, CHARGER, RUN_OK. VIN_AUX_MV and HV_HARV_MV, measured with it, are free values (log entry 57). -/
def storeMeasureEff (mv : Nat) (s : State) : State :=
  if !(unitsOn s || s.pow.st == .lull) then s
  else
    let s := (s.wr Reg.PowStat.VIN_AUX_MV 0 0 (s.free 16)).drew
    let s := (s.wr Reg.PowStat.HV_HARV_MV 0 0 (s.free 16)).drew
    let s := (s.wr Reg.PowStat.VSTORE_MV 0 0 mv).setPow fun p => { p with vstore := mv }
    let s := s.wrB Reg.PowStat.RUN_OK 0 0 s.pow.runOk
    let e := storeUnits s
    let s := s.wr Reg.PowStat.STORE_MJ 0 0 (rhu e 2000000).toNat
    let s := (List.range 3).foldl (fun s k => s.wrBit Reg.PowStat.LEVEL 0 0 k (decide (mjUnits (levelMj.getD k 0) ≤ e))) s
    sagCheck (chargerUpdate (levelEvents s))

/-! ### Brown-out (R223, R377, R378) -/

/-- Some peer can take over: STANDBY with the link UP (R343). -/
def eligibleStandby (s : State) : Bool :=
  match pairPeer s with
  | some i => i.peerRole == 3
  | none => false

/-- The brown-out sequence starts: closing records, and every channel stops, or the owner of a pair releases (R223, R343, R377). -/
def brownStart (s : State) : State :=
  let s := (s.count Reg.PowStat.BROWNOUT_CNT).eachCh fun s c => mfBrownout c s
  let s := s.setPow fun p => { p with sinceSupply := true }
  if pairRole s == 2 && eligibleStandby s then ownerRelease s
  else s.eachCh fun s c => settle c (squallRequest c 5 s)

/-- Every channel has stopped, with its Squall steps done (Table 10.4, Table 17.4). -/
def brownStopped (s : State) : State :=
  stopAllPg (s.eachCh fun s c => settle c (if gdiState c s = 4 then squallFinish c s else s))

/-- The closing records are written; without the reserve of R224 and below RUN_OK they may be lost: a free value. -/
def brownRecords (s : State) : State :=
  if decide (mjUnits 20 ≤ storeUnits s) || s.pow.runOk then s.eachCh fun s c => flushRecs c s
  else
    let lost := s.free 1 == 1
    let s := s.drew
    if lost then s.eachCh fun s c => s.setMf c MfSt.cutOff else s.eachCh fun s c => flushRecs c s

/-- VIN_AUX passes RUN_OK or BROWNOUT (Table 17.2). -/
def setRunOk (b : Bool) (s : State) : State := (s.wrB Reg.PowStat.RUN_OK 0 0 b).setPow fun p => { p with runOk := b }

/-- BROWNOUT (R377): in Run the sequence; elsewhere VIN_AUX is below RUN_OK. -/
def brownoutEff (s : State) : State :=
  let s := setRunOk false s
  if s.pow.st = .run then brownStart (((s.raise 484)).setPow fun p => { p with st := .brownout }) else s

/-- BROWNOUT_END (Table 17.4): Run, Lull or Frost. -/
def brownoutEndEff (s : State) : State :=
  if s.pow.st ≠ .brownout then s
  else
    let s := brownRecords (brownStopped s)
    if s.pow.runOk then (s.setPow fun p => { p with st := .run }).eachCh fun s c => mfReopen c s
    else
      let l := lullSource s
      if l.1 then enterLull 2 l.2 else enterFrost l.2

/-- RUN_OK_RISE (Table 17.2). -/
def runOkEff (s : State) : State := setRunOk true s

/-! ### nRST, the backup cell and tamper (R383-R385) -/

/-- Entry to RESET without the brown-out sequence: units off, MFs not closed (R384). -/
def enterReset (s : State) : State :=
  (crownTo .rom (unitsDown s)).setPow fun p => { p with st := .reset, burst := false, fromLull := false }

/-- NRST_LOW (R384): the owner of a pair releases (R343). -/
def nrstLowEff (s : State) : State :=
  (enterReset (ownerRelease s)).setPow fun p => { p with nrst := false, heldS := 0, sinceNrst := true, lowAt := rtcNow s }

/-- RESET ends: to THAW with a Frost source, or to FROST (Table 17.4). -/
def leaveReset (s : State) : State :=
  let f := frostSource s
  f.2.setPow fun p => { p with st := if f.1 then .thaw else .frost, burst := false }

/-- NRST_HIGH; a thermal trip holds RESET (R427). -/
def nrstHighEff (s : State) : State :=
  let s := s.setPow fun p => { p with nrst := true, heldS := if p.nrst then p.heldS else max p.heldS ((rtcNow s - p.lowAt) / 32768) }
  if s.pow.st = .reset ∧ s.pow.thermal = false then leaveReset s else s

/-- RESET_HELD (R385): the low period measured so far. -/
def resetHeldEff (seconds : Nat) (s : State) : State :=
  if s.pow.nrst then s else s.setPow fun p => { p with heldS := max p.heldS seconds }

/-- RESET_HELD_FRAME (R320, R379): CAN0 sends KIND 3; on the store it is a burst. -/
def heldFrameEff (s : State) : State :=
  if s.pow.nrst ∨ s.pow.heldS < 10 then s
  else
    let a := auxOk s
    if a.1 then sendStatus 0 3 (a.2.setPow fun p => { p with burst := true }) else burstAsk 3 a.2

/-- BAT_LOW_CHECK (Table 17.2). -/
def batLowEff (mv : Nat) (s : State) : State :=
  if s.pow.st = .run then (s.wr Reg.PowStat.VBAT_MV 0 0 mv).wrB Reg.PowStat.BAT_LOW 0 0 (decide (mv < 2400)) else s

/-- VBAT_LOSS (Table 17.4, R383): the always-on island is lost with its tamper and held-reset records. -/
def vbatLossEff (s : State) : State :=
  if s.pow.st = .frost then
    s.setPow fun p => { p with st := .off, islandLost := true, sinceOff := true, heldS := 0, tamperDue := false }
  else s

/-- TAMPER (R383): raised in Run, or at the end of the next Thaw. -/
def tamperEff (s : State) : State :=
  if s.pow.st = .off then s
  else
    let s := (s.count Reg.PowStat.TAMPER_CNT).wr Reg.PowStat.TAMPER_RTC 0 0 (rtcNow s)
    let s := s.wrB Reg.PowStat.TAMPER_SEEN 0 0 (s.rd Reg.PowStat.TAMPER_CNT != s.rd Reg.PowStat.TAMPER_ACK)
    if s.pow.st = .run then s.raise 499 else s.setPow fun p => { p with tamperDue := true }

/-! ### Temperatures (R427, R428) -/

/-- THERMAL_TRIP (R427): the brown-out sequence, then RESET until both dies are cool. -/
def thermalTripEff (s : State) : State :=
  if !unitsOn s then s
  else
    let s := if s.pow.st = .run then brownStart s else s
    let s := (brownRecords (brownStopped s)).count Reg.Package.THERM_CNT
    (enterReset s).setPow fun p => { p with thermal := true, sinceSupply := true }

/-- THERMAL_RECOVERY (R427): Thaw follows unless nRST is low. -/
def thermalBackEff (s : State) : State :=
  if s.pow.thermal then
    s.setPow fun p => { p with thermal := false, st := if p.nrst then .thaw else p.st }
  else s

/-- TEMPERATURE_READ (R428): TJ_CTRL and TJ_BCD from one measurement, TJ_PEAK the highest of either. -/
def temperatureEff (ctrl bcd : Nat) (s : State) : State :=
  if s.pow.st ≠ .run ∨ crownUp s = false then s
  else
    let s := (s.wr Reg.Package.TJ_CTRL 0 0 ctrl).wr Reg.Package.TJ_BCD 0 0 bcd
    let peak := max (s.rdS Reg.Package.TJ_PEAK) (max (sgn 16 ctrl) (sgn 16 bcd))
    (s.wrS Reg.Package.TJ_PEAK 0 0 peak).setPow fun p => { p with tjSum := p.tjSum + sgn 16 ctrl, tjCnt := p.tjCnt + 1 }

/-- RUN_HOUR (R428): the mean of the hourly means over all Run hours. The mean of an hour without a reading is a free value. -/
def runHourEff (s : State) : State :=
  if s.pow.st ≠ .run ∨ crownUp s = false then s
  else
    let s := s.count Reg.Package.RUN_HOURS
    let d := s.drawS 16
    let none_ := decide (s.pow.tjCnt = 0)
    let s := if none_ then d.2 else s
    let mean : Rat := if none_ then (d.1 : Rat) else (s.pow.tjSum : Rat) / (s.pow.tjCnt : Rat)
    let s := s.setPow fun p => { p with tjLife := p.tjLife + mean, tjSum := 0, tjCnt := 0 }
    s.wrS Reg.Package.TJ_LIFE_AVG 0 0 (ratRound (s.pow.tjLife / (s.rd Reg.Package.RUN_HOURS : Rat)))

/-! ### Rows -/

/-- LULL_ENTER. -/
def execLullEnter (m : Mbx) (p : List Byte) (s : State) : Out :=
  fin s (runReq m ⟨0x8701, .exactly 4, [], true, some 0x5F, firstNonZero p 0 4⟩ p lullEnterEff s)
/-- LULL_SOURCE_LOST. -/
def execLullSourceLost (s : State) : Out := fin s (lullLostEff s)
/-- WAKE_EVENT. -/
def execWakeEvent (src : WakeSrc) (s : State) : Out := fin s (wakeEff src s)
/-- LULL_MEASUREMENT. -/
def execLullMeasurement (s : State) : Out := fin s (lullMeasEff s)
/-- LULL_BURST. -/
def execLullBurst (s : State) : Out := fin s (lullBurstEff s)
/-- STORE_MEASURE. -/
def execStoreMeasure (mv : W16) (s : State) : Out := fin s (storeMeasureEff mv.toNat s)
/-- BROWNOUT. -/
def execBrownout (s : State) : Out := fin s (brownoutEff s)
/-- BROWNOUT_END. -/
def execBrownoutEnd (s : State) : Out := fin s (brownoutEndEff s)
/-- RUN_OK_RISE. -/
def execRunOkRise (s : State) : Out := fin s (runOkEff s)
/-- NRST_LOW. -/
def execNrstLow (s : State) : Out := fin s (nrstLowEff s)
/-- NRST_HIGH. -/
def execNrstHigh (s : State) : Out := fin s (nrstHighEff s)
/-- RESET_HELD. -/
def execResetHeld (seconds : W32) (s : State) : Out := fin s (resetHeldEff seconds.toNat s)
/-- RESET_HELD_FRAME. -/
def execResetHeldFrame (s : State) : Out := fin s (heldFrameEff s)
/-- BAT_LOW_CHECK. -/
def execBatLowCheck (mv : W16) (s : State) : Out := fin s (batLowEff mv.toNat s)
/-- VBAT_LOSS. -/
def execVbatLoss (s : State) : Out := fin s (vbatLossEff s)
/-- TAMPER. -/
def execTamper (s : State) : Out := fin s (tamperEff s)
/-- THERMAL_TRIP. -/
def execThermalTrip (s : State) : Out := fin s (thermalTripEff s)
/-- THERMAL_RECOVERY. -/
def execThermalRecovery (s : State) : Out := fin s (thermalBackEff s)
/-- TEMPERATURE_READ. -/
def execTemperatureRead (ctrl bcd : W16) (s : State) : Out := fin s (temperatureEff ctrl.toNat bcd.toNat s)
/-- RUN_HOUR. -/
def execRunHour (s : State) : Out := fin s (runHourEff s)

end Sys2Proof.Machine
end

