-- ==== Sys2Proof/Machine/Thaw.lean ====
section
/-! DEFINITION. The Thaw sequence (17_power_and_holdup.md R381, R382, R432, Table 17.5): settings restored, meter registers continued (R222), Batt banks restored (R89), safety island started (R242, R247), unfinished commands replayed (R281). -/

namespace Sys2Proof.Machine

/-! ### What the objects hold after Thaw (R7) -/

/-- Fields that are not MRAM settings and yet keep their value: LAYOUT of the firmware that has stored the settings, fuses, keys and identity, the RTC of the
always-on island, pins latched. -/
def keptField (f : Fld) : Bool :=
  f.pos 0 == 0 || (f.base == 0x6F00 && f != Reg.Life.DEBUG_OPEN && f != Reg.Life.LC_NONCE) || f.base == 0x5F02
    || [Reg.Bill.UNIT_ID, Reg.Bill.PUBKEY, Reg.Fw.RUN_VERSION, Reg.Fw.RUN_SEC, Reg.Rtc.RTC, Reg.PairStat.PAIR_ID, Reg.Package.PAIR_ID,
        Reg.Package.NID].contains f

/-- The field at a key of the objects. -/
def fieldAt (key : Nat) : Option Fld :=
  match objAt (key / 65536) with
  | none => none
  | some (o, _) => o.flds.find? fun f => (List.range f.cnt).any fun i => f.pos i == key % 65536

/-- Keys of the objects lie below this one; those of the sets in force at and above it. -/
def planeSize : Nat := 65536 * 65536

/-- The sets in force are the restored shadows (R430). -/
def setsInForce (m : SMap Nat) : SMap Nat :=
  let kept := m.filter fun e => decide (e.1 < planeSize)
  let sets := kept.filter fun e => match fieldAt e.1 with
    | some f => f.acc == .rws
    | none => false
  kept ++ sets.map fun e => (e.1 + planeSize, e.2)

/-- The settings partition restored: MRAM fields keep their value, all others take their reset value (R7). -/
def thawRegs (m : SMap Nat) : SMap Nat :=
  setsInForce (m.filter fun e => decide (e.1 < planeSize) && match fieldAt e.1 with
    | some f => f.mram || keptField f
    | none => false)

/-! ### Channels -/

/-- A session after a restart: one that was open stays open, spanned (R226). -/
def SessSt.restart : SessSt → SessSt
  | .none => .none
  | .starting _ _ => .none
  | .opened i => .opened { i with spanned := true }
  | .stopping _ i => .opened { i with spanned := true }

/-- First MRAM block of the meter partition (Table 16.2); the two slots of a channel stand there one after the other, six blocks each (log entry 117). -/
def meterBlock0 : Nat := 425984

/-- The blocks of a record slot can be read (R222, R364). -/
def slotReads (c : Ch) (isB : Bool) (s : State) : Bool := !spanLost (meterBlock0 + 12 * c.val + 6 * isB.toNat) 0 384 s

/-- The slots as the Thaw reads them: one with a block that cannot be read holds no valid record. -/
def MfSt.readSlots (m : MfSt) (okA okB : Bool) : MfSt := { m with slotA := if okA then m.slotA else none, slotB := if okB then m.slotB else none }

/-- A MF continues from its newest record (R222): RESUMED after a closed one, GAP otherwise; with no valid slot the registers start at 0. -/
def MfSt.thaw (m : MfSt) : MfSt :=
  let r := m.newest
  { MfSt.reset with
    slotA := m.slotA, slotB := m.slotB, signing := m.signing, sess := m.sess.restart
    acc := (r.map MRec.regs).getD MfSt.reset.acc, seq := (r.map MRec.seq).getD 0, lastRtc := (r.map MRec.rtc).getD 0
    first := r.map fun x => (!x.closed, x.rtc) }

/-- A channel after Thaw, before its MF and its bank. -/
def Chan.thaw (x : Chan) : Chan := { Chan.reset with mf := x.mf.thaw }

/-- A gap that was not counted before: the newest record is not closed, and no earlier Thaw has seen it. -/
def newGap (m : MfSt) : Bool := (m.newest.map fun x => !x.closed).getD false && (m.first.map Prod.fst).getD false == false

/-- Both slots of every meter are read; a channel with no valid one has lost its totals (R222). -/
def readMeters (s : State) : State :=
  s.eachCh fun s c =>
    let s := s.setMf c fun m => m.readSlots (slotReads c false s) (slotReads c true s)
    if (s.mf c).newest.isNone then s.wr Reg.MeterStat.LOST (cI c) 0 1 else s

/-- Bank A is reloaded from ACTIVE_SLOT under the checks of a load, a failed check counted (R75, R89). -/
def battRestore (c : Ch) (s : State) : State :=
  let slot := s.rd Reg.Batt.ACTIVE_SLOT (cI c)
  if 32 ≤ slot then s
  else
    let img := slotImage slot s
    let chk := imageCheck c (SMap.scan 0 img 0 154624).toArray
    let bad := lostCode slot s
    let code := if bad ≠ 0 ∧ (chk = 0 ∨ bad ≤ chk) then bad else chk
    let id := leVal (SMap.scan 0 img 8 4)
    let fails := code
    let code := if code = 0 ∧ id ≠ s.rd Reg.Batt.ACTIVE_ID (cI c) then 2 else code
    if code = 0 then
      pairsFollow c (setBank c false bkActive ((fillBank c false slot img s).wr Reg.Batt.IMAGE_ID_A (cI c) 0 id))
    else
      let s := (s.wr Reg.Batt.ACTIVE_SLOT (cI c) 0 0xFF).wr Reg.Batt.LAST_FAIL (cI c) 0 code
      if fails = 0 then s else s.count Reg.Batt.CHECK_FAIL_CNT (cI c)

/-- The branch of a channel runs: comparators UNRESOLVED (R107), SA and SB at entry 0 (R102), MF, grid and MPPT functions that are enabled. -/
def channelThaw (c : Ch) (s : State) : State :=
  let s := allCmp.foldl (fun s j => cmpEnable c j s) s
  let s := sarStart c true (sarStart c false s)
  battRestore c (mpptEnWritten c false (gridEnWritten c false (mfTryStart c s)))

/-! ### The sequence -/

/-- RESET_CAUSE of a Thaw (R432). -/
def thawCause (s : State) : Nat :=
  if s.pow.sinceOff then 1 else if s.pow.sinceNrst then 2 else if s.pow.sinceSupply then 3 else if s.pow.sinceLull then 7
  else s.crown.resetCause

/-- Steps 1 to 3, but for the values drawn at each Thaw: power-on reset with clock and time base as after power-up, and the settings restored. -/
def thawFields (s : State) : State :=
  let s := readMeters s
  let gaps := fun (c : Ch) => newGap (s.mf c)
  let cause := thawCause s
  let s := { s with
    regs := thawRegs s.regs
    chans := s.chans.map Chan.thaw
    clk := ⟨0, false, .ref, Vector.replicate 2 ClkOutSt.reset⟩
    crown := { s.crown with run := .starting, reply := none, held := [], direct := [], restarting := false, resetCause := cause }
    cans := Vector.replicate 4 CanSt.reset, hbs := Vector.replicate 2 HbSt.reset, pair := PairDev.reset
    pow := { s.pow with st := .thaw, sinceOff := false, sinceNrst := false, sinceSupply := false, sinceLull := false, islandLost := false, copiesLost := s.pow.copiesLost || s.pow.islandLost
                        fromLull := false, burst := false }
    life := { s.life with activating := none, xin := [], xout := none, seen := [], lastSent := Vector.replicate 2 none }
    time := 0, odd := false }
  let s := s.eachCh fun s c => if gaps c then s.count Reg.MeterStat.GAP_CNT (cI c) else s
  if lifeState s = lcMaker then s.wr Reg.Life.DEBUG_OPEN 0 0 1 else s

/-- The values drawn at a Thaw: the nonce (Table 18.10) and, after a loss of the Island supply, the calendar (R383). -/
def thawDraws (lost : Bool) (s : State) : State :=
  let s := (s.wr Reg.Life.LC_NONCE 0 0 (s.free 64)).drew
  if lost then ((s.wr Reg.Rtc.RTC_INVALID 0 0 1).wr Reg.Rtc.RTC 0 0 (s.free 64)).drew else s

/-- Steps 1 to 3. -/
def thawBase (s : State) : State := thawDraws s.pow.islandLost (thawFields s)

/-- RESET_HELD and TAMPER, raised if due at the end of Thaw (R383, R385). -/
def thawDue (afterReset : Bool) (s : State) : State :=
  let s := if afterReset then s.wr Reg.PowStat.HELD_S 0 0 (min s.pow.heldS 0xFFFFFFFF) else s
  let s := if afterReset && decide (10 ≤ s.pow.heldS) then s.raise 494 else s
  let s := if s.pow.tamperDue then s.raise 499 else s
  s.setPow fun p => { p with tamperDue := false, heldS := 0 }

/-- Links and buses at the end of Thaw: CAN controllers to MODE, Hatband ports to TRAINING (Table 17.5). -/
def linksThaw (s : State) : State :=
  let s := allCan.foldl (fun s c => s.setCan c fun x => { x with integrating := s.rd Reg.CanCfg.MODE c.val != 0 }) s
  allHb.foldl (fun s p => s.wr Reg.HbStat.LINK p.val 0 (if hbRole p s = 0 then 0 else 1)) s

/-- Steps 5 to 10: firmware runs, meters, banks, safety, outputs, links, and the unfinished commands. -/
def thawUp (afterReset : Bool) (plan : List (Mbx × Cmd × Replay)) (s : State) : State :=
  let s := { s with crown := { s.crown with run := .running }, regs := setsInForce s.regs }
  let s := if inactState s = inReceiving then inactReject 4 s else s
  let s := s.setPow fun p => { p with st := .run }
  let s := s.eachCh fun s c => channelThaw c s
  let s := islandStart s
  let s := outputsFollow (if s.rdB Reg.PairCfg.EN then setRole 1 s else s)
  let s := thawDue afterReset (linksThaw s)
  let s := crownRestore plan s
  if s.pow.runOk then s else enterLull 2 s

/-- A Thaw can run: nRST high, no thermal hold, and the device in OFF, FROST or THAW, not in ROM recovery. -/
def canThaw (s : State) : Bool :=
  s.pow.nrst && !s.pow.thermal && (s.pow.st == .off || s.pow.st == .frost || s.pow.st == .thaw) && s.crown.run != .recovery

/-- In MAKER and OEM a level on TESTMODE0-2 at step 1 holds the device in RESET; in FIELD and RETURN the pins are ignored (R415). -/
def testHeld (testmode : Nat) (s : State) : Bool := testmode != 0 && (lifeState s == lcMaker || lifeState s == lcOem)

/-- The levels of NID0-NID3 and PAIR_ID, latched at step 1 (R412). -/
def latchPins (nid : Nat) (pairId : Bool) (s : State) : State :=
  ((s.wr Reg.Package.NID 0 0 nid).wrB Reg.Package.PAIR_ID 0 0 pairId).wrB Reg.PairStat.PAIR_ID 0 0 pairId

/-- THAW (R381): the whole sequence, or RESET under TESTMODE0-2 (R415), or ROM recovery when no bank passes in step 4 (R382). -/
def thawEff (testmode nid : Nat) (pairId : Bool) (s : State) : State :=
  if !canThaw s then s
  else if testHeld testmode s then enterReset s
  else
    let s := latchPins nid pairId s
    let plan := replayPlan (s.setLife fun l => { l with activating := none })
    let full := !s.pow.fromLull
    let afterReset := s.pow.sinceNrst
    let r := romStart full (thawBase s)
    if r.1 then thawUp afterReset plan r.2 else r.2

/-- THAW. -/
def execThaw (testmode : BitVec 3) (nid : BitVec 4) (pairId : Bool) (s : State) : Out := fin s (thawEff testmode.toNat nid.toNat pairId s)

end Sys2Proof.Machine
end

