-- ==== Sys2Proof/Machine/HostPort.lean ====
section
/-! DEFINITION. Frames of the host port and of the other transports (12_crown_mailboxes.md R264-R278, R285, R286, 13_command_reference.md R296), commands that enter EXECUTING (R273, R433), the direct window (R289), and ROM recovery on the host port (18_lifecycle_and_update.md R409). -/

namespace Sys2Proof.Machine

def opSubmit : Nat := 1
def opPoll : Nat := 2
def opAbort : Nat := 3
def opHello : Nat := 4
def opCredit : Nat := 5

/-! ### Frames off the transports -/

/-- Payload of a frame: its first LEN bytes. -/
def hfBody (f : HostFrame) : List Byte := f.payload.take f.len.toNat

/-- OP as received. -/
def hfOp (f : HostFrame) (row : Nat) : Nat := (f.op.map BitVec.toNat).getD row

/-- Header and payload of a host frame. -/
def hfBytes (f : HostFrame) (op : Nat) : List Byte :=
  leBytes 1 op ++ [f.mbx] ++ leBytes 4 f.seq.toNat ++ leBytes 2 f.len.toNat ++ leBytes 2 f.code.toNat ++ [f.flags, f.credits] ++ (hfBody f)

/-- The frame in the bytes of a reassembled CAN request or of a MAILBOX message (R318, R325); bytes after its CRC are ignored (R267). -/
def frameOf (bs : List Byte) : HostFrame :=
  let n := leAt bs 6 2
  { mbx := bs.getD 1 0, seq := BitVec.ofNat 32 (leAt bs 2 4), len := BitVec.ofNat 16 n, code := BitVec.ofNat 16 (leAt bs 8 2),
    flags := bs.getD 10 0, credits := bs.getD 11 0, payload := (bs.drop 12).take n,
    crc := if 16 + n ≤ bs.length then some (BitVec.ofNat 32 (leAt bs (12 + n) 4)) else none,
    op := some (bs.getD 0 0), cut := decide (bs.length < 12) }

/-- The reply on the host port has been clocked to its end: the response it carries is delivered (R265, R278). -/
def replySent (s : State) : State :=
  let s' := match s.crown.reply.bind Reply.delivers with
    | some (m, ep, sq) => deliver m ep sq s
    | none => s
  { s' with crown := { s'.crown with reply := none } }

/-- The frame that a row serves: on the host port the row's own, once a frame before it has been answered (R264); on CAN and Hatband the oldest one that has
arrived there whole (R318, R325). -/
def takeFrame (t : Transport) (f : HostFrame) (s : State) : Option (HostFrame × State) :=
  match t with
  | .host => if s.crown.held.any fun h => h.t == .host then none else some (f, replySent s)
  | .can c => match (s.can c).whole with
    | [] => none
    | bs :: rest => some (frameOf bs, s.setCan c fun x => { x with whole := rest })
  | .hb p => ((s.hb p).inbox.find? fun q => q.1 == tyMailbox).map fun q => (frameOf q.2, hbConsume p tyMailbox s)

/-! ### Frame checks (R267) -/

/-- The mailbox that a frame names. -/
def hfMbx (f : HostFrame) : Mbx := Fin.ofNat 16 f.mbx.toNat

/-- The frame arrived to its end. -/
def hfComplete (f : HostFrame) : Bool := decide (f.len.toNat ≤ f.payload.length) && f.crc.isSome

/-- Check 2 of R267: OP, reserved bits, the lengths of R296 and the values of R277. -/
def hfValid (f : HostFrame) (op : Nat) : Bool :=
  decide (1 ≤ op) && decide (op ≤ 5) && f.flags == 0 && f.credits == 0 && decide (f.mbx.toNat < 16)
    && (op == opSubmit || (op == opHello && f.len.toNat == 12) || (op != opHello && f.len.toNat == 0))
    && (op != opHello || (f.mbx == 0 && f.seq == 0 && decide (pb (hfBody f) 8 ≤ 1) && (firstNonZero (hfBody f) 9 12).isNone))

/-- The owner's end of the pair link, over which the standby forwards frames (R337). -/
def ownerLine (t : Transport) (s : State) : Bool :=
  match t with
  | .hb p => pairRole s == 2 && p == pairPort s
  | _ => false

/-- A mailbox is assigned to a transport (R269). The other device's local mailboxes count as unassigned (R336);
an owner also serves the paired frames, and the HELLO, that the standby forwards over the pair link (R337). -/
def assigned (t : Transport) (op : Nat) (m : Mbx) (s : State) : Bool :=
  (mbxMine m s && s.rd Reg.MbxCfg.TRANSPORT 0 m.val == Transport.code t) || (ownerLine t s && (mbxPaired m s || op == opHello))

/-- DETAIL of the first check that fails, in the order of R267; of a header that cannot be read, LEN cannot be judged, and the frame is not complete. -/
def frameBad (op : Nat) (t : Transport) (f : HostFrame) (s : State) : Option Nat :=
  if f.cut then some 4
  else if 1024 < f.len.toNat then some 2
  else if !hfComplete f then some 4
  else if f.crc ≠ some (BitVec.ofNat 32 (crc32c (hfBytes f op))) then some 1
  else if !hfValid f op then some 2
  else if assigned t op (hfMbx f) s = false then some 3
  else none

/-! ### Replies -/

/-- A reply with nothing but its head and a result. -/
def headReply (op : Nat) (f : HostFrame) (flags status detail : Nat) (result : List Byte) : Reply :=
  .plain (replyFrame op f.mbx.toNat f.seq.toNat f.code.toNat flags 0 (replyHead status 0 status detail ++ result))

/-- A frame refused with FRAME_ERROR (R267): OP, MBX and SEQ as received, or OP 0 when the header cannot be read. -/
def frameRefuse (op : Nat) (t : Transport) (f : HostFrame) (d : Nat) (s : State) : State :=
  let r := if f.cut then .plain (replyFrame 0 0 0 0 0 0 (replyHead stFrameError 0 stFrameError d)) else headReply op f 0 stFrameError d []
  sendReply t r (s.count Reg.HostStat.FRAME_ERR_CNT)

/-! ### SUBMIT (R270, R275, R276) -/

/-- S less NEXT of the mailbox, read as signed (R275). -/
def seqDiff (f : HostFrame) (s : State) : Int := sgn 32 (f.seq.toNat + 2 ^ 32 - s.rd Reg.HostStat.NEXT 0 (hfMbx f).val)

/-- The command that a SUBMIT carries. -/
def submitted (t : Transport) (f : HostFrame) (s : State) : Cmd :=
  ⟨s.epoch, f.seq.toNat, f.code.toNat, hfBody f, Transport.code t, s.time, 0, .accepted, stAccepted, 0, [], false, (s.mb (hfMbx f)).lockBroken, none, false⟩

/-- A new command: its ACCEPT entry, its credit, NEXT (R272). -/
def acceptCmd (t : Transport) (f : HostFrame) (s : State) : State :=
  let m := hfMbx f
  let c := submitted t f s
  let s := jAccept m c s
  let c := { c with acceptJ := (s.rd Reg.HostStat.JSEQ_NEXT + 2 ^ 32 - acceptParts c) % 2 ^ 32 }
  let s := s.setMb m fun b => { b with cmds := b.cmds ++ [c], lockBroken := false }
  s.wr Reg.HostStat.NEXT 0 m.val (f.seq.toNat + 1)

/-- A SUBMIT on a local mailbox of a standby: the owner is asked to journal its ACCEPT entry, once, and the reply waits for it (R337). -/
def askAccept (t : Transport) (f : HostFrame) (s : State) : State :=
  let m := hfMbx f
  let h : Held := ⟨t, .accepted m s.epoch f.seq.toNat f.code.toNat, none⟩
  let s := if s.crown.held.contains h then s else jAccept m (submitted t f s) s
  { s with crown := { s.crown with held := s.crown.held ++ [h] } }

/-- SUBMIT of a frame that passed its checks. In a pair the reply waits until both copies of the ACCEPT entry stand (R272, R337). -/
def submitServe (t : Transport) (f : HostFrame) (s : State) : State :=
  let m := (hfMbx f)
  let d := seqDiff f s
  if d = 0 then
    if 8 ≤ (s.mb m).queued then sendReply t (headReply opSubmit f (baseFlags m 0 s) stNoCredit 0 []) s
    else if standbyBooks s then askAccept t f s
    else
      let e := s.epoch
      let s := acceptCmd t f s
      if booksFlow s then holdReply t (.accepted m e f.seq.toNat f.code.toNat) s else replyOut t (acceptedReply m f.seq.toNat f.code.toNat s) s
  else if 0 < d then sendReply t (headReply opSubmit f (baseFlags m 0 s) stSeqGap 0 []) s
  else sendReply t (reportCmd opSubmit m f.seq.toNat f.code.toNat (fun _ => stDuplicate) (findCmd m f.seq.toNat s) s) s

/-! ### POLL, CREDIT, HELLO (R271, R277, R278) -/

/-- POLL. -/
def pollServe (t : Transport) (f : HostFrame) (s : State) : State :=
  let m := (hfMbx f)
  if f.seq = 0 then
    match (s.mb m).cmds.find? fun c => !c.live with
    | some c => sendReply t (reportCmd opPoll m 0 f.code.toNat id (.queued c) s) s
    | none => sendReply t (.plain (replyFrame opPoll m.val 0 f.code.toNat (baseFlags m 0 s) 0 [])) s
  else if 0 ≤ seqDiff f s then sendReply t (headReply opPoll f (baseFlags m 0 s) stSeqGap 0 []) s
  else sendReply t (reportCmd opPoll m f.seq.toNat f.code.toNat id (findCmd m f.seq.toNat s) s) s

/-- CREDIT. -/
def creditServe (t : Transport) (f : HostFrame) (s : State) : State :=
  sendReply t (headReply opCredit f (baseFlags (hfMbx f) 0 s) stDone 0 (leBytes 1 (s.mb (hfMbx f)).queued ++ [0, 0, 0])) s

/-- The result of HELLO (Table 13.1). -/
def helloResult (s : State) : List Byte :=
  leBytes 4 s.epoch ++ allMbx.flatMap fun m =>
    leBytes 1 (s.mb m).queued ++ leBytes 1 (s.mb m).pendingResp ++ leBytes 1 (s.mb m).lockBroken.toNat ++ [0]

/-- The lane mode that a HELLO sets on the host port (R262). -/
def setLanes (t : Transport) (f : HostFrame) (s : State) : State :=
  if t = .host then s.wr Reg.HostStat.LANES 0 0 (pb (hfBody f) 8) else s

/-- HELLO: a new epoch (R277). ROM recovery keeps no journal. -/
def helloServe (journal : Bool) (t : Transport) (f : HostFrame) (s : State) : State :=
  let start := leAt (hfBody f) 4 4
  let s := s.countMod Reg.HostStat.EPOCH
  let s := allMbx.foldl (fun s m => s.wr Reg.HostStat.NEXT 0 m.val start) s
  let s := if journal then allMbx.foldl (fun s m => breakLock m s) s else s
  let s := { s with crown := { s.crown with hostId := leAt (hfBody f) 0 4 } }
  let s := if journal then jAdd 6 0xFF 0 (leBytes 4 s.epoch ++ leBytes 4 s.crown.hostId ++ leBytes 4 start ++ leBytes 8 s.time) s else s
  sendReply t (headReply opHello f 0 stDone 0 (helloResult s)) (setLanes t f s)

/-! ### ABORT (R286) -/

/-- The effect of an executing command is withdrawn, where its row of Table 13.3 allows it; none: it is not abortable now. -/
def abortEffect (m : Mbx) (k : Cmd) (s : State) : Option State :=
  let c := chOf k.payload
  if k.code = codeStart then
    (if (s.ch c).startWait.any (fun w => w.is m k) then some (s.setCh c fun x => { x with startWait := none })
     else if (s.ch c).testWait.any (fun w => w.is m k) then some (s.setCh c fun x => { x with testWait := x.testWait.filter fun w => !w.is m k })
     else none)
  else if k.code = codeLoad then
    (match (s.batt c).load with
     | some l =>
       if l.w.is m k then some (loaderRun c loaderFuel ((emptyBank c l.bankB s).setBatt c fun b => { b with load := none }))
       else if (s.batt c).queue.any (fun i => match i with
         | .load w _ _ => w.is m k
         | _ => false) then
         some (s.setBatt c fun b => { b with queue := b.queue.filter fun i => match i with
           | .load w _ _ => !w.is m k
           | _ => true })
       else none
     | none => none)
  else if k.code = codeSwap then
    (match (s.batt c).swap with
     | some o => if o.w.is m k then some (swapWithdraw c ⟨stAborted, 0, []⟩ s) else none
     | none => none)
  else if k.code = codeSessStart then
    (match (s.mf c).sess with
     | .starting w _ =>
       if w.is m k ∧ (s.mf c).recQ.all (fun r => match r.purpose with
         | .sessionStart _ _ => false
         | _ => true) = true then some (s.setMf c fun x => { x with sess := .none }) else none
     | _ => none)
  else none

/-- ABORT of a frame that passed its checks. -/
def abortServe (t : Transport) (f : HostFrame) (s : State) : State :=
  let m := (hfMbx f)
  let sq := f.seq.toNat
  if 0 ≤ seqDiff f s then sendReply t (headReply opAbort f (baseFlags m 0 s) stSeqGap 0 []) s
  else
    let s := jMark 5 m s.epoch sq s
    let report := fun (status : Nat → Nat) (s : State) => sendReply t (reportCmd opAbort m sq f.code.toNat status (findCmd m sq s) s) s
    match findCmd m sq s with
    | .queued c =>
      if !c.live then report (fun _ => stAbortTooLate) s
      else if c.st = .accepted then report id (completeW ⟨m, some (c.epoch, c.seq)⟩ ⟨stAborted, 0, []⟩ s)
      else match abortEffect m c s with
        | some s => report id (completeW ⟨m, some (c.epoch, c.seq)⟩ ⟨stAborted, 0, []⟩ s)
        | none => report id s
    | _ => report (fun _ => stAbortTooLate) s

/-! ### ROM recovery (R409) -/

/-- ACTIVATE in recovery: the new bank starts as a Thaw from step 4, with a change-record entry of KIND 9 and SOURCE 8. -/
def recoveryActivate (m : Mbx) (sq : Nat) (s : State) : Done × State :=
  match activateRefused s with
  | some d => (d, s)
  | none =>
    let s := cAddFree ⟨8, m.val, s.epoch, sq, true⟩ 9 s
    let new := inactIsB s
    let plan := replayPlan s
    let s := (firmwareStart new (s.wrB Reg.Fw.RUN_BANK 0 0 new)).count Reg.Fw.ACTIVATE_CNT
    let s := s.wr Reg.Life.SEC_FLOOR 0 0 (max (s.rd Reg.Life.SEC_FLOOR) (s.rd Reg.Fw.RUN_SEC))
    let s := inactReject (s.rd Reg.Fw.BOOT_FAIL) s
    (.ok 0 (leBytes 1 new.toNat ++ [0, 0, 0]), thawUp (decide (0 < s.pow.heldS)) plan s)

/-- Run a request in recovery: its checks, then its effect. -/
def recoveryReq (r : Req) (m : Mbx) (p : List Byte) (body : State → Done × State) (s : State) : Done × State :=
  match r.check m p s with
  | some d => (d, s)
  | none => body s

/-- What the ROM does with a SUBMIT: firmware commands and reads of objects 0x6F00 and 0x6F01; every other one fails. -/
def recoverySubmit (f : HostFrame) (s : State) : Done × State :=
  let m := (hfMbx f)
  let p := (hfBody f)
  let code := f.code.toNat
  if code = codeFwWrite then recoveryReq ⟨code, .exactly 516, [3], true, some 0x6F, none⟩ m p (fwWriteEff p) s
  else if code = codeFwVerify then recoveryReq ⟨code, .exactly 0, [3], true, some 0x6F, none⟩ m p fwVerifyEff s
  else if code = codeActivate then
    recoveryReq ⟨code, .exactly 4, [3], true, some 0x6F, firstNonZero p 0 4⟩ m p (recoveryActivate m f.seq.toNat) s
  else if (code = 0x6F00 ∨ code = 0x6F01) ∧ p = [] then objectReadEff m code s
  else (.fail stStateRefused 0, s)

/-- A frame in recovery. ABORT is not accepted and has no answer (log entry 58). -/
def recoveryServe (op : Nat) (f : HostFrame) (s : State) : State :=
  if op = opSubmit then
    let r := recoverySubmit f s
    let d := r.1
    sendReply .host (.plain (replyFrame opSubmit (hfMbx f).val f.seq.toNat f.code.toNat 0 0
      (replyHead d.status (finalState d.status).code d.status d.detail ++ d.result))) r.2
  else if op = opHello then helloServe false .host f s
  else if op = opCredit then creditServe .host f s
  else if op = opPoll then
    (if f.seq = 0 then sendReply .host (.plain (replyFrame opPoll (hfMbx f).val 0 f.code.toNat 0 0 [])) s
     else sendReply .host (reportCmd opPoll (hfMbx f) f.seq.toNat f.code.toNat id .gone s) s)
  else s

/-! ### A frame arrives -/

/-- The standby forwards the frames of paired mailboxes, and a HELLO, to the owner (R337). -/
def forwards (op : Nat) (f : HostFrame) (s : State) : Bool :=
  isStandby s && s.rd Reg.PairStat.SYNC != 3 && (op == opHello || mbxPaired (hfMbx f) s)

/-- Forward a frame whole. -/
def forwardFrame (op : Nat) (t : Transport) (f : HostFrame) (s : State) : State :=
  let b := hfBytes f op
  let s := if op = opHello then setLanes t f s else s
  hbSend (pairPort s) 4 (b ++ leBytes 4 (crc32c b)) { s with pair := { s.pair with fwd := s.pair.fwd ++ [t] } }

/-- Serve a frame that passed its checks; SUBMIT, POLL and CREDIT renew the lease of their mailbox's lock (R285). -/
def frameServe (op : Nat) (t : Transport) (f : HostFrame) (s : State) : State :=
  if forwards op f s then forwardFrame op t f s
  else if op = opSubmit then submitServe t f (renewLease (hfMbx f) s)
  else if op = opPoll then pollServe t f (renewLease (hfMbx f) s)
  else if op = opAbort then abortServe t f s
  else if op = opHello then helloServe true t f s
  else creditServe t f (renewLease (hfMbx f) s)

/-- The transport can carry a frame now: HP_nRDY low; a standby whose link is not UP can be reached through the direct window only (R264, R340). -/
def canServe (s : State) : Bool := crownUp s && unitsOn s && !(isStandby s && !pairUp s)

/-- Refuse a frame by its checks, or serve it. -/
def frameAnswer (serve : Nat → HostFrame → State → State) (row : Nat) (t : Transport) (f : HostFrame) (s : State) : State :=
  let op := hfOp f row
  match frameBad op t f s with
  | some d => frameRefuse op t f d s
  | none => serve op f s

/-- A frame arrives over a transport. -/
def frameEff (row : Nat) (t : Transport) (f : HostFrame) (s : State) : State :=
  if canServe s then
    match takeFrame t f s with
    | some x => frameAnswer (fun op f s => frameServe op t f s) row t x.1 x.2
    | none => s
  else if s.crown.run = .recovery ∧ t = .host then frameAnswer recoveryServe row t f (replySent s)
  else s

/-- HP_nIRQ is low: a host-port mailbox holds a pending response (R278). -/
def hpIrqLow (s : State) : Bool := allMbx.any fun m => mbxMine m s && s.rd Reg.MbxCfg.TRANSPORT 0 m.val == 0 && decide (0 < (s.mb m).pendingResp)

/-! ### EXECUTING, and leases -/

/-- Command codes of Table 13.3. -/
def knownCodes : List Nat :=
  [codePart, codeLock, codeUnlock, codeStart, codeStop, codeIdle, codeStoreWrite, codeStoreRead, codeLoad, codeSwap, codeCancel, codeErase,
   codeSessStart, codeSessStop, codeBillRead, codeBillAck, codeMeterClear, codeSafetyAck, codeFeide, codeJournal, codeChange,
   codeFwWrite, codeFwVerify, codeActivate, codeLcRequest, codeFuse, 0x8701]

/-- The command of a mailbox whose turn has come: the oldest that is not final, and ACCEPTED (R273); in a pair, not before both copies of its ACCEPT entry
stand (R272). -/
def turnOf (m : Mbx) (s : State) : Option Cmd :=
  ((s.mb m).cmds.find? Cmd.live).filter fun c => c.st == .accepted && !s.crown.held.any fun h => h.what == .accepted m c.epoch c.seq c.code

/-- Some other mailbox has a command whose turn has come and whose ACCEPT entry stands before (R273). -/
def othersFirst (m : Mbx) (c : Cmd) (s : State) : Bool :=
  allMbx.any fun x => x != m && actsFor x s && ((turnOf x s).toList.any fun k => k.earlier c)

/-- A command enters EXECUTING. -/
def setExecuting (m : Mbx) (c : Cmd) (s : State) : State :=
  s.setMb m fun b => { b with cmds := b.cmds.map fun x =>
    if x.live && x.epoch == c.epoch && x.seq == c.seq then { x with st := .executing, status := stExecuting, ran := false } else x }

/-- The EXEC record of a command stands: it is EXECUTING (R338). An unassigned code fails with UNKNOWN_COMMAND (R290). -/
def enterExec (m : Mbx) (c : Cmd) (s : State) : State :=
  let s := setExecuting m c s
  if 0x8000 ≤ c.code ∧ knownCodes.contains c.code = false then completeW ⟨m, some (c.epoch, c.seq)⟩ (.fail stUnknownCommand 0) s else s

/-- COMMAND_EXEC_START (R433): with the Crown free, EXEC record and EXECUTING; a standby's own waits for the owner's record (R337, R338). A command after a broken
lock fails without executing (R285). -/
def execStartEff (m : Mbx) (s : State) : State :=
  if !crownUp s || crownBusy s || !actsFor m s then s
  else match turnOf m s with
    | none => s
    | some c =>
      if othersFirst m c s then s
      else
        let w : Waiter := ⟨m, some (c.epoch, c.seq)⟩
        if c.broken then completeW w (.fail stLockBroken 0) s
        else
          let s := jMark 3 m c.epoch c.seq s
          if standbyBooks s then s else enterExec m c s

/-- LEASE_EXPIRE (R285): a lease whose 500 ms have passed ends. The lease of a paired mailbox runs in the owner. -/
def leaseEff (m : Mbx) (s : State) : State :=
  if crownUp s && actsFor m s && (s.mb m).lock.any (fun l => decide (l.lease ≤ s.time)) then breakLock m s else s

/-! ### Direct window (R289) -/

/-- CROWN of Table 12.10. -/
def CrownRun.code : CrownRun → Nat
  | .rom => 0 | .starting => 1 | .running => 2 | .pause => 3 | .recovery => 4 | .halted => 5

/-- A register of the direct window (Table 12.10). -/
def directReg (addr : Nat) (s : State) : Nat :=
  match addr with
  | 0 => 0x486000B1
  | 1 => lifeState s
  | 2 => s.crown.run.code + 16 * s.rd Reg.Fw.RUN_BANK + 256 * s.rd Reg.Fw.BOOT_FAIL
  | 3 => s.crown.resetCause
  | 4 => s.rd Reg.HostStat.LANES + 65536 * s.rd Reg.HostStat.FRAME_ERR_CNT
  | 5 => s.rd Reg.ClkStat.STATE
  | 6 => s.rd Reg.Life.UNIT_ID % 2 ^ 32
  | 7 => s.rd Reg.Life.UNIT_ID / 2 ^ 32
  | 8 => s.rd Reg.Safe.SSTAT
  | _ => 0

/-- The host port is powered: Run, the brown-out sequence, Thaw and ROM recovery. -/
def portOn (s : State) : Bool := unitsOn s || s.pow.st == .thaw

/-- DIRECT_READ: four data bytes and the CRC of address and data. -/
def directReadEff (addr : Byte) (s : State) : State :=
  if portOn s then
    let v := leBytes 4 (directReg addr.toNat s)
    { s with crown := { s.crown with direct := v ++ leBytes 4 (crc32c (addr :: v)) } }
  else s

/-- FORCE_SINGLE: a direct write of register 0x0F with a matching CRC (R289). -/
def forceSingleEff (addr : Byte) (data crc : Nat) (s : State) : State :=
  if portOn s ∧ addr = 0x0F ∧ crc = crc32c (addr :: leBytes 4 data) ∧ bit data 0 = true then s.wr Reg.HostStat.LANES 0 0 0 else s

/-- HP_NCS_RISE (R265): the transaction ends. A reply clocked to its end has been sent; one that is cut off delivers nothing, and its response stays pending (R278). -/
def ncsRiseEff (clocked : Bool) (s : State) : State :=
  let s := if clocked then replySent s else s
  { s with crown := { s.crown with reply := none, direct := [] } }

/-! ### Rows -/

/-- SUBMIT. -/
def execSubmit (t : Transport) (f : HostFrame) (s : State) : Out := fin s (frameEff opSubmit t f s)
/-- POLL. -/
def execPoll (t : Transport) (f : HostFrame) (s : State) : Out := fin s (frameEff opPoll t f s)
/-- ABORT. -/
def execAbort (t : Transport) (f : HostFrame) (s : State) : Out := fin s (frameEff opAbort t f s)
/-- HELLO. -/
def execHello (t : Transport) (f : HostFrame) (s : State) : Out := fin s (frameEff opHello t f s)
/-- CREDIT. -/
def execCredit (t : Transport) (f : HostFrame) (s : State) : Out := fin s (frameEff opCredit t f s)
/-- DIRECT_READ. -/
def execDirectRead (addr : Byte) (s : State) : Out := fin s (directReadEff addr s)
/-- FORCE_SINGLE. -/
def execForceSingle (addr : Byte) (data crc : W32) (s : State) : Out := fin s (forceSingleEff addr data.toNat crc.toNat s)
/-- COMMAND_EXEC_START. -/
def execCommandExecStart (m : Mbx) (s : State) : Out := fin s (execStartEff m s)
/-- LEASE_EXPIRE. -/
def execLeaseExpire (m : Mbx) (s : State) : Out := fin s (leaseEff m s)
/-- HP_NCS_RISE. -/
def execHpNcsRise (clocked : Bool) (s : State) : Out := fin s (ncsRiseEff clocked s)

end Sys2Proof.Machine
end

