-- ==== Sys2Proof/Machine/Pair.lean ====
section
/-! DEFINITION. A redundant pair at work (15_redundant_pair.md R335-R349): PAIR_ALIVE, takeover and handover, alignment, state hashes, the standby's journal. ANGLE_WRAP stands here for what it adds in a pair. -/

namespace Sys2Proof.Machine

/-- Change the pair's hidden state. -/
def State.setPair (s : State) (f : PairDev → PairDev) : State := { s with pair := f s.pair }
/-- Change what a channel keeps for the pair. -/
def State.setPc (s : State) (c : Ch) (f : PairCh → PairCh) : State := s.setPair fun p => { p with chs := p.chs.set c (f p.chs[c]) }

/-! ### PAIR_ALIVE (R335, R342) -/

/-- PAIR_ALIVE_LOST: with heartbeats arriving, a standby counts PA_ONLY_CNT. -/
def aliveLostEff (s : State) : State :=
  if !unitsOn s || !s.rdB Reg.PairStat.PA_IN then s
  else
    let s := s.wr Reg.PairStat.PA_IN 0 0 0
    if isStandby s && decide (s.rd Reg.HbStat.HB_MISS (pairPort s).val < 5) then s.count Reg.PairStat.PA_ONLY_CNT else s

/-- PAIR_ALIVE_RETURN. -/
def aliveBackEff (s : State) : State := if unitsOn s then s.wr Reg.PairStat.PA_IN 0 0 1 else s

/-! ### Roles (R341, R342, R344) -/

/-- A standby becomes owner: it completes what it has executed with its own FINAL records, its pending responses are those of the journal, and every lease starts
anew (R276, R349). -/
def becomeOwner (s : State) : State :=
  let s := setRole 2 s
  let s := allMbx.foldl (fun s m => renewLease m (s.setMb m fun b => { b with cmds := b.cmds.map Cmd.shorten })) s
  allMbx.foldl (fun s m => (s.mb m).cmds.foldl (fun s c => match c.own with
    | some st => if c.live then finalise m c.epoch c.seq ⟨st, c.detail, c.result⟩ s else s
    | none => s) s) s

/-- TAKEOVER (R342): both signs of a failed owner stand. -/
def takeoverEff (s : State) : State :=
  if unitsOn s && isStandby s && decide (5 ≤ s.rd Reg.HbStat.HB_MISS (pairPort s).val) && !s.rdB Reg.PairStat.PA_IN then
    becomeOwner (setSync 0 (s.count Reg.PairStat.TAKEOVER_CNT))
  else s

/-- WAITING_ALONE_TIMEOUT (Table 15.3). -/
def aloneEff (s : State) : State :=
  if unitsOn s && pairRole s == 1 && !pairUp s && !s.rdB Reg.PairStat.PA_IN then setSync 0 (setRole 2 s) else s

/-- HANDOVER_INSTANT (R344): the roles change, the HANDOVER write completes, and SYNC starts anew because the peer leaves its role (Table 15.5). -/
def handoverEff (s : State) : State :=
  match s.pair.handover with
  | none => s
  | some (_, w) =>
    let s := s.setPair fun p => { p with handover := none }
    if pairRole s = 2 then
      let s := setSync 0 (setRole 3 (s.count Reg.PairStat.HANDOVER_CNT))
      completeO w (.ok) (syncStart (peerTakes 2 s))
    else if pairRole s = 3 then
      let s := becomeOwner (setSync 0 (s.count Reg.PairStat.HANDOVER_CNT))
      completeO w (.ok) (syncStart (peerTakes 3 s))
    else s

/-! ### State hash (R346, R347) -/

/-- The state hash of a channel: CRC-32C over its fields in order, each in whole bytes (log entry 59). -/
def stateHash (c : Ch) (s : State) : Nat :=
  let n := cI c
  crc32c (leBytes 4 s.pair.chs[c].wrapNo ++ leBytes 1 (s.rd Reg.Batt.REGION n) ++ leBytes 4 (s.rd Reg.Batt.ACTIVE_ID n)
    ++ leBytes 1 (s.rd Reg.PgStat.PAT_NOW n) ++ leBytes 1 (s.rd Reg.PgStat.STATE n) ++ leBytes 1 (s.rd Reg.GdiStat.STATE n)
    ++ leBytes 2 (s.rd Reg.GdiStat.OFF_LATCH n) ++ leBytes 1 (s.rd Reg.GridStat.STATE n) ++ leBytes 1 (s.rd Reg.Safe.STATE 0 c.val))

/-- Hashes kept for comparison. -/
def hashesKept : Nat := 8

/-- A wrap has been counted: the hash is formed, and the owner sends it. -/
def hashAtWrap (c : Ch) (s : State) : State :=
  let s := s.setPc c fun x => { x with wrapNo := (x.wrapNo + 1) % 2 ^ 32 }
  let h := stateHash c s
  let no := s.pair.chs[c].wrapNo
  let s := s.setPc c fun x => { x with hashes := ((no, h) :: x.hashes).take hashesKept }
  sendAlign 5 (leBytes 1 c.val ++ leBytes 4 no ++ leBytes 4 h) s

/-- ANGLE_WRAP with its state hash. -/
def wrapRowEff (c : Ch) (s : State) : State := if wrapTick c s then hashAtWrap c (angleWrapEff c s) else s

/-- The standby compares an owner's hash with its own of the same wrap (R347). -/
def hashCompare (c : Ch) (no h : Nat) (s : State) : State :=
  match s.pair.chs[c].hashes.find? fun x => x.1 == no with
  | none => s
  | some own =>
    if own.2 = h then s.setPc c fun x => { x with bad := false }
    else if s.pair.chs[c].bad then
      let s := s.count Reg.PairStat.HASH_LASTING_CNT
      if s.rd Reg.PairStat.SYNC = 2 then setSync 1 s else s
    else (s.setPc c fun x => { x with bad := true }).count Reg.PairStat.HASH_TRANSIENT_CNT

/-! ### Alignment (R345, R346) -/

/-- A timer as an alignment item carries it: 0 not running, else its counts plus 1. -/
def timerCode (t : Option Nat) : Nat := (t.map (· + 1)).getD 0

/-- The grid timers of a channel in the order of the item: voltage, frequency, islanding and reconnection timers, the time in RAMP, the run of ROCOF cycles (R198). -/
def gridTimerCodes (g : GridSt) : List Nat :=
  (g.vTimers ++ g.fTimers ++ [g.islTimer, g.reconTimer]).map timerCode ++ [g.rampT, g.rocofCnt]

/-- ALIGN_SEND: the owner sends accumulators with FW_NOW and its time, CE states and variables of every running channel, and grid states with their timers and
commands and MPPT states of every channel, running or not (Table 15.4, R198). -/
def alignSendEff (s : State) : State :=
  if !(unitsOn s && crownUp s && pairRole s == 2 && pairUp s) then s
  else s.eachCh fun s c =>
    let n := cI c
    let id := leBytes 1 c.val
    let x := s.ch c
    let s := if atStopped c s then s
      else
        let s := sendAlign 1 (id ++ leBytes 6 x.at_.acc ++ leBytes 6 (enc 48 x.at_.fw) ++ leBytes 8 s.time) s
        sendAlign 2 (id ++ leBytes 2 x.ce.states.length ++ (x.ce.states.flatMap fun e => leBytes 2 e.1 ++ leBytes 8 (enc 64 e.2))
          ++ (List.range 64).flatMap fun w => leBytes 4 (s.rd Reg.CeVar.W n w)) s
    let s := if gridOn c s then sendAlign 3 (id ++ leBytes 1 (gridState c s) ++ leBytes 1 (s.rd Reg.GridStat.TRIP_CAUSE n)
      ++ (gridTimerCodes x.grid).flatMap (leBytes 6) ++ leBytes 4 (s.rd Reg.GridStat.ID_CMD n) ++ leBytes 4 (s.rd Reg.GridStat.IQ_CMD n)) s else s
    if s.rdB Reg.MpptCfg.EN n then sendAlign 4 (id ++ leBytes 1 (mpptState c s) ++ leBytes 4 (s.rd Reg.MpptStat.VREF n)) s else s

/-- An owner's time as a count of this device's time base (R345). -/
def ownTime (t : Nat) (s : State) : Int := (t : Int) - s.rdS Reg.PairStat.TB_OFFSET

/-- The accumulator takes the owner's, carried on to now with the frequency in force: at most ±2^40 at once (R346). -/
def alignAcc (c : Ch) (acc ownerTime : Nat) (s : State) : State :=
  if atStopped c s then s
  else
    let x := (s.ch c).at_
    let due := (acc : Int) + x.fw * (s.tick - 2 * ownTime ownerTime s)
    let d := clampI (-(2 ^ 40)) (2 ^ 40) (sgn 48 (enc 48 (due - x.acc)))
    let s := s.setAt c fun x => { x with acc := enc 48 (x.acc + d) }
    s.wr Reg.PairStat.ALIGN_MAX 0 0 (max (s.rd Reg.PairStat.ALIGN_MAX) (d.natAbs / 2 ^ 16))

/-- A grid timer as the row carries it: 0 not running, else its counts plus 1. -/
def timerOf (l : List Nat) (i : Nat) : Option Nat :=
  let t := l.getD i 0
  if t = 0 then none else some (t - 1)

/-- Grid states, timers and commands follow the owner's: in the order of `gridTimerCodes` (R198). -/
def alignGrid (c : Ch) (state trip : Nat) (timers : List Nat) (id iq : Nat) (s : State) : State :=
  let n := cI c
  let s := ((setGridState c state s).wr Reg.GridStat.TRIP_CAUSE n 0 trip).wr Reg.GridStat.ID_CMD n 0 id
  (s.wr Reg.GridStat.IQ_CMD n 0 iq).setGrid c fun g => { g with
    vTimers := (List.range 4).map (timerOf timers), fTimers := (List.range 4).map (fun i => timerOf timers (4 + i))
    islTimer := timerOf timers 8, reconTimer := timerOf timers 9, rampT := timers.getD 10 0, rocofCnt := timers.getD 11 0 }

/-- A channel order of the owner (Table 15.4). -/
def alignOrder (c : Ch) (start : Bool) (s : State) : State :=
  if start then (if startCheck c false s = 0 then settle c (channelGo c false s) else s) else settle c (squallRequest c 1 s)

/-- The standby applies an item (Table 15.4). -/
def alignItem (i : AlignItem) (s : State) : State :=
  match i with
  | .order c start => alignOrder c start s
  | .accumulator c acc t => alignAcc c acc.toNat t.toNat s
  | .ceState c states w => s.setPc c fun x => { x with ceStates := states.filter (fun e => decide (e.2 ≠ 0)), ceW := w.take 64, ceDue := 15 }
  | .grid c st trip timers id iq => alignGrid c st trip timers id.toNat iq.toNat s
  | .mppt c st v => (setMpptState c st s).wr Reg.MpptStat.VREF (cI c) 0 v.toNat
  | .hash c no h => hashCompare c no.toNat h.toNat s
  | .handoverAt t => s.setPair fun p => { p with handover := some ((ownTime t.toNat s).toNat, none) }

/-- ALIGN_RECEIVE. -/
def alignReceiveEff (i : AlignItem) (s : State) : State :=
  if unitsOn s && crownUp s && isStandby s && pairUp s then alignItem i (hbConsume (pairPort s) tyAlign s) else s

/-! ### The standby's journal (R337-R339) -/

/-- A record stands before another: JSEQ in serial order. -/
def jBefore (a b : Nat) : Bool := decide (sgn 32 (a + 2 ^ 32 - b) < 0)

/-- Place a record into the ring, newest first; a record that stands already is left. -/
def jInsert (r : JRec) : List JRec → List JRec
  | [] => [r]
  | x :: xs => if x.jseq = r.jseq then x :: xs else if jBefore x.jseq r.jseq then r :: x :: xs else x :: jInsert r xs

/-- Read a record from its 64 bytes; none when REC_CRC differs. -/
def jParse (bs : List Byte) : Option JRec :=
  if bs.length = 64 ∧ leAt bs 60 4 = crc32c (bs.take 60) then
    some ⟨bit (leAt bs 0 1) 7, leAt bs 0 1 % 128, leAt bs 1 1, leAt bs 2 2, leAt bs 4 4, slice bs 8 52⟩
  else none

/-- The ACCEPT entry that a record completes: its first record and its payload, when every part stands (R279). -/
def entryAt (r : JRec) (s : State) : Option (JRec × List Byte) :=
  match s.crown.journal.find? fun x => x.typ == 1 && x.mbx == r.mbx && x.jseq + r.part == r.jseq with
  | none => none
  | some a => if r.part + 1 = leAt a.body 12 2 then (entryPayload a s).map fun p => (a, p) else none

/-- A command of the journal joins its mailbox (R337). -/
def joinCmd (m : Mbx) (a : JRec) (p : List Byte) (s : State) : State :=
  let c := { cmdOf a p with broken := (s.mb m).lockBroken }
  if (s.mb m).cmds.any fun k => k.epoch == c.epoch && k.seq == c.seq then s
  else (s.setMb m fun x => { x with cmds := x.cmds ++ [c], lockBroken := false }).wr Reg.HostStat.NEXT 0 m.val (c.seq + 1)

/-- The owner's FINAL record of a command: the standby completes its own execution against it (R338). -/
def joinFinal (m : Mbx) (r : JRec) (s : State) : State :=
  let ep := leAt r.body 0 4
  let sq := leAt r.body 4 4
  let st := leAt r.body 8 1
  match (s.mb m).cmds.find? fun k => k.live && k.epoch == ep && k.seq == sq with
  | none => s
  | some k =>
    let s := if st = stAborted ∧ k.st = .executing then (abortEffect m k s).getD s else s
    let s := match k.own with
      | some o => if o = st then s else execDiff s
      | none => s
    let n := leAt r.body 12 2
    let fin_ := { k with st := finalState st, status := st, detail := leAt r.body 10 2, result := slice r.body 24 (min n 24), part := decide (24 < n), own := none }
    let others (b : Mailbox) : List Cmd := b.cmds.filter (fun x => x.live && !(x.epoch == ep && x.seq == sq))
    let finals (b : Mailbox) : List Cmd := b.cmds.filter (fun x => !x.live)
    let s := s.setMb m fun b => { b with cmds := finals b ++ [fin_] ++ others b }
    if mbxMine m s then s.raise (448 + m.val) else s

/-- What a record that the peer has formed means for the mailboxes here: the books of both devices are the same (R336, R339). A command is executed when its EXEC
record stands (R338). -/
def jTake (r : JRec) (s : State) : State :=
  if r.typ = 6 then
    let s := allMbx.foldl (fun s m => s.wr Reg.HostStat.NEXT 0 m.val (leAt r.body 8 4)) (s.wr Reg.HostStat.EPOCH 0 0 (leAt r.body 0 4))
    { s with crown := { s.crown with hostId := leAt r.body 4 4 } }
  else if 16 ≤ r.mbx then s
  else
    let m : Mbx := Fin.ofNat 16 r.mbx
    if r.typ = 1 ∨ r.typ = 2 then (match entryAt r s with
      | some (a, p) => if r.carried then s else joinCmd m a p s
      | none => s)
    else if r.typ = 3 then (match (s.mb m).cmds.find? fun k => k.st == .accepted && k.epoch == leAt r.body 0 4 && k.seq == leAt r.body 4 4 with
      | some k => if mbxMine m s then enterExec m k s else setExecuting m k s
      | none => s)
    else if r.typ = 4 then joinFinal m r s
    else if r.typ = 9 ∧ actsFor m s = false then s.setMb m fun b => { b with lock := none, lockBroken := true }
    else s

/-- The records that the standby offers make a whole entry: one record, or an ACCEPT with all its parts (Table 12.7). -/
def offersWhole (rs : List JRec) : Bool :=
  match rs with
  | [] => false
  | r :: _ => if r.typ = 1 then decide (leAt r.body 12 2 ≤ rs.length) else true

/-- The owner journals an entry of a local mailbox of the standby: it assigns the JSEQs, and sends the records back (R337). -/
def journalOffer (rs : List JRec) (s : State) : State :=
  rs.foldl (fun s r =>
    let s := jPut false r.typ r.mbx r.part r.body s
    (s.crown.journal.head?.map fun x => jTake x s).getD s) (jReserve rs.length s)

/-- The owner takes a record that the standby asks it to journal. -/
def takeOffer (r : JRec) (s : State) : State :=
  let rs := s.pair.offers ++ [r]
  if offersWhole rs then journalOffer rs (s.setPair fun p => { p with offers := [] }) else s.setPair fun p => { p with offers := rs }

/-- The standby writes a record of the owner's at its JSEQ; one that does not read back is VOID (R337, R279). -/
def takeRecord (r : JRec) (s : State) : State :=
  if s.crown.journal.any fun x => x.jseq == r.jseq then s
  else
    let r := if blockDead (journalBlock r.jseq) s then voidIf (journalBlock r.jseq) r else r
    let s := blockWritten (journalBlock r.jseq) s
    let next := (r.jseq + 1) % 2 ^ 32
    let next := if jBefore (s.rd Reg.HostStat.JSEQ_NEXT) next then next else s.rd Reg.HostStat.JSEQ_NEXT
    jTake r (jBounds next ((jInsert r s.crown.journal).take journalSize) s)

/-- JOURNAL_MESSAGE_RECEIVE: a record of the owner's, a record that the standby asks the owner to journal, or a delivery mark (R337, R339). Replies that waited for
it go out. -/
def journalMsgEff (j : JMsg) (s : State) : State :=
  if !(unitsOn s && crownUp s && booksFlow s) then s
  else
    let s := hbConsume (pairPort s) tyJournal s
    match j with
    | .mark m sq => s.setMb m fun b => { b with cmds := b.cmds.eraseP fun c => !c.live && c.seq == sq.toNat }
    | .record bs =>
      match jParse bs with
      | none => s
      | some r => if isStandby s then releaseHeld (takeRecord r s) else takeOffer r s

/-- RESYNC_DONE (R349, Table 15.5). -/
def resyncEff (s : State) : State :=
  if pairLinked s && s.rd Reg.PairStat.SYNC == 1 then
    (setSync 2 (s.count Reg.PairStat.RESYNC_CNT)).eachCh fun s c => s.setPc c fun x => { x with bad := false }
  else s

/-! ### Rows -/

/-- ANGLE_WRAP. -/
def execAngleWrap (c : Ch) (s : State) : Out := fin s (wrapRowEff c s)
/-- PAIR_ALIVE_LOST. -/
def execPairAliveLost (s : State) : Out := fin s (aliveLostEff s)
/-- PAIR_ALIVE_RETURN. -/
def execPairAliveReturn (s : State) : Out := fin s (aliveBackEff s)
/-- TAKEOVER. -/
def execTakeover (s : State) : Out := fin s (takeoverEff s)
/-- WAITING_ALONE_TIMEOUT. -/
def execWaitingAloneTimeout (s : State) : Out := fin s (aloneEff s)
/-- HANDOVER_INSTANT. -/
def execHandoverInstant (s : State) : Out := fin s (handoverEff s)
/-- ALIGN_SEND. -/
def execAlignSend (s : State) : Out := fin s (alignSendEff s)
/-- ALIGN_RECEIVE. -/
def execAlignReceive (i : AlignItem) (s : State) : Out := fin s (alignReceiveEff i s)
/-- JOURNAL_MESSAGE_RECEIVE. -/
def execJournalMessageReceive (j : JMsg) (s : State) : Out := fin s (journalMsgEff j s)
/-- RESYNC_DONE. -/
def execResyncDone (s : State) : Out := fin s (resyncEff s)

end Sys2Proof.Machine
end

