-- ==== Sys2Proof/Machine/Tick.lean ====
section
/-! DEFINITION. One tick of 5 ns, which passes when no command waits (log entry 4): the time base (03_angle_timebase.md R48), the angles (R46), the comparators' synchronisers (05_sensing.md R106), the RTC (17_power_and_holdup.md), and what a tick leaves behind. -/

namespace Sys2Proof.Machine

/-- Ticks of 5 ns in a second. -/
def ticksPerSec : Nat := 200000000

/-- RTC counts 2^-15 s (17_power_and_holdup.md, Clock and RTC): 32 768 counts in `ticksPerSec` ticks. -/
def rtcTick (s : State) : State :=
  let f := s.pow.rtcFrac + 32768
  if f < ticksPerSec then { s with pow := { s.pow with rtcFrac := f } }
  else ({ s with pow := { s.pow with rtcFrac := f - ticksPerSec } }).wr Reg.Rtc.RTC 0 0 (s.rd Reg.Rtc.RTC + 1)

/-- A commit given in the last wrap tick now waits for the next wrap (R65). -/
def Wait.ripen : Wait → Wait
  | .fresh => .waiting
  | w => w

/-- The state of one tick only does not outlast it: triggers taken (R25), windows decided (R63), the sides of a swap or a commit (R64, R65), reload
points not taken, periods and cuts begun (R147, R156), conversions and commits of this tick (R94, R130). -/
def Chan.endTick (x : Chan) (region now : Nat) : Chan :=
  { x with
    trigMask := 0, winDec := [], esOld := [], regionTick := region, esWait := x.esWait.ripen
    disarmed := x.disarmed.filter (fun d => decide (d.entry < oldMark))
    batt := { x.batt with swapTick := none, pairs := x.batt.pairs.map fun p => { p with fresh := false } }
    pg := { x.pg with psTick := false, wrapLeft := false, cutTick := false, reloadTick := false, esLoad := x.pg.esLoad.filter (fun e => decide (now < e.1 + 32)) }
    sa := { x.sa with fresh := false }, sb := { x.sb with fresh := false }
    ce := { x.ce with freshPend := 0 } }

/-- One tick of a channel whose branch runs. In Idle only the comparators are clocked (R380). -/
def chanTick (c : Ch) (s : State) : State :=
  if !(s.ch c).branch then s
  else
    let s := s.setCh c fun x => x.endTick (s.rd Reg.Batt.REGION (cI c)) s.now
    let s := atTick c s
    let s := if (s.pg c).servicePend then serviceEff c s else s
    settle c (allCmp.foldl (fun s j => cmpTick c j s) s)

/-- The time base moves on by one tick (R48). -/
def timeTick (s : State) : State := { s with time := if s.odd then (s.time + 1) % 2 ^ 64 else s.time, odd := !s.odd }

/-- A Lull measurement runs (R375, R379): its MF samples on the grid of the time base (R207), which counts meanwhile. -/
def measuring (s : State) : Bool := allCh.any fun c => (s.mf c).lull.isSome

/-- One tick of the device: what the tick that ends has decided (R63), then the next. The RTC counts while its island has a supply, the rest while its units
are supplied. -/
def deviceTick (s : State) : State :=
  if s.pow.st == .off then s
  else
    let s := rtcTick s
    if unitsOn s then
      let s := s.eachCh fun s c => windowsTake c s
      ((List.finRange 2).foldl (fun s k => clkoutTick k s) (timeTick s)).eachCh fun s c => chanTick c s
    else if measuring s then timeTick s
    else s

end Sys2Proof.Machine
end

