-- ==== Sys2Proof/Machine/Dispatch.lean ====
section
/-! DEFINITION. One arm per command: a direct call of its meaning. -/

namespace Sys2Proof.Machine

/-- The effect of a command on everything but the queue. -/
def exec (i : Instr) (s : State) : Host.Outcome State Fault Refusal :=
  match i with
  | .objectRead m oid => Sys2Proof.Machine.execObjectRead m oid s
  | .objectWrite m oid image => Sys2Proof.Machine.execObjectWrite m oid image s
  | .objWritePart m p => Sys2Proof.Machine.execObjWritePart m p s
  | .lock m p => Sys2Proof.Machine.execLock m p s
  | .unlock m p => Sys2Proof.Machine.execUnlock m p s
  | .chStart m p => Sys2Proof.Machine.execChStart m p s
  | .chStop m p => Sys2Proof.Machine.execChStop m p s
  | .chIdleEnter m p => Sys2Proof.Machine.execChIdleEnter m p s
  | .chIdleLeave m p => Sys2Proof.Machine.execChIdleLeave m p s
  | .storeWrite m p => Sys2Proof.Machine.execStoreWrite m p s
  | .storeRead m p => Sys2Proof.Machine.execStoreRead m p s
  | .bankLoad m p => Sys2Proof.Machine.execBankLoad m p s
  | .bankSwap m p => Sys2Proof.Machine.execBankSwap m p s
  | .swapCancel m p => Sys2Proof.Machine.execSwapCancel m p s
  | .bankErase m p => Sys2Proof.Machine.execBankErase m p s
  | .sessionStart m p => Sys2Proof.Machine.execSessionStart m p s
  | .sessionStop m p => Sys2Proof.Machine.execSessionStop m p s
  | .billRead m p => Sys2Proof.Machine.execBillRead m p s
  | .billAck m p => Sys2Proof.Machine.execBillAck m p s
  | .meterClear m p => Sys2Proof.Machine.execMeterClear m p s
  | .safetyAck m p => Sys2Proof.Machine.execSafetyAck m p s
  | .feide m p => Sys2Proof.Machine.execFeide m p s
  | .journalRead m p => Sys2Proof.Machine.execJournalRead m p s
  | .changeRead m p => Sys2Proof.Machine.execChangeRead m p s
  | .fwWrite m p => Sys2Proof.Machine.execFwWrite m p s
  | .fwVerify m p => Sys2Proof.Machine.execFwVerify m p s
  | .activate m p => Sys2Proof.Machine.execActivate m p s
  | .lcRequest m p => Sys2Proof.Machine.execLcRequest m p s
  | .fuseProgram m p bad1 bad2 => Sys2Proof.Machine.execFuseProgram m p bad1 bad2 s
  | .lullEnter m p => Sys2Proof.Machine.execLullEnter m p s
  | .submit t f => Sys2Proof.Machine.execSubmit t f s
  | .poll t f => Sys2Proof.Machine.execPoll t f s
  | .abort t f => Sys2Proof.Machine.execAbort t f s
  | .hello t f => Sys2Proof.Machine.execHello t f s
  | .credit t f => Sys2Proof.Machine.execCredit t f s
  | .directRead addr => Sys2Proof.Machine.execDirectRead addr s
  | .forceSingle addr data crc => Sys2Proof.Machine.execForceSingle addr data crc s
  | .commandExecStart m => Sys2Proof.Machine.execCommandExecStart m s
  | .leaseExpire m => Sys2Proof.Machine.execLeaseExpire m s
  | .relock m => Sys2Proof.Machine.execRelock m s
  | .referenceChange m sel freq => Sys2Proof.Machine.execReferenceChange m sel freq s
  | .referenceLoss => Sys2Proof.Machine.execReferenceLoss s
  | .referencePresent => Sys2Proof.Machine.execReferencePresent s
  | .pllAcquisitionTimeout => Sys2Proof.Machine.execPllAcquisitionTimeout s
  | .pllLock => Sys2Proof.Machine.execPllLock s
  | .pllSettled => Sys2Proof.Machine.execPllSettled s
  | .lockLoss => Sys2Proof.Machine.execLockLoss s
  | .clockMonitorTrip ch => Sys2Proof.Machine.execClockMonitorTrip ch s
  | .clkoutCommit m k => Sys2Proof.Machine.execClkoutCommit m k s
  | .clkoutSetApply k => Sys2Proof.Machine.execClkoutSetApply k s
  | .clkoutUnmute k => Sys2Proof.Machine.execClkoutUnmute k s
  | .fwCommit m ch => Sys2Proof.Machine.execFwCommit m ch s
  | .fwTimeReached ch => Sys2Proof.Machine.execFwTimeReached ch s
  | .channelStart ch => Sys2Proof.Machine.execChannelStart ch s
  | .angleWrap ch => Sys2Proof.Machine.execAngleWrap ch s
  | .esFire ch entry occ => Sys2Proof.Machine.execEsFire ch entry occ s
  | .esDirectCommit m ch => Sys2Proof.Machine.execEsDirectCommit m ch s
  | .encEdge ch a b => Sys2Proof.Machine.execEncEdge ch a b s
  | .encIndex ch => Sys2Proof.Machine.execEncIndex ch s
  | .coastEnd ch => Sys2Proof.Machine.execCoastEnd ch s
  | .bankLoadDone ch => Sys2Proof.Machine.execBankLoadDone ch s
  | .bankSwapPoint ch => Sys2Proof.Machine.execBankSwapPoint ch s
  | .bankSramUncorrectable ch => Sys2Proof.Machine.execBankSramUncorrectable ch s
  | .sarConversionEnd ch sb uv => Sys2Proof.Machine.execSarConversionEnd ch sb uv s
  | .commitReg m ch sb => Sys2Proof.Machine.execCommitReg m ch sb s
  | .commitInj m ch sb => Sys2Proof.Machine.execCommitInj m ch sb s
  | .converterStop m ch sb => Sys2Proof.Machine.execConverterStop m ch sb s
  | .cmpRawChange ch j uv => Sys2Proof.Machine.execCmpRawChange ch j uv s
  | .cmpSample ch j uv => Sys2Proof.Machine.execCmpSample ch j uv s
  | .cmpFilterChange ch j => Sys2Proof.Machine.execCmpFilterChange ch j s
  | .thresholdCommit m ch => Sys2Proof.Machine.execThresholdCommit m ch s
  | .ceEvalStart ch => Sys2Proof.Machine.execCeEvalStart ch s
  | .ceEvalEnd ch corr => Sys2Proof.Machine.execCeEvalEnd ch corr s
  | .ceSramUncorrectable ch => Sys2Proof.Machine.execCeSramUncorrectable ch s
  | .commitCoef m ch slot => Sys2Proof.Machine.execCommitCoef m ch slot s
  | .commitProg m ch slot => Sys2Proof.Machine.execCommitProg m ch slot s
  | .commitHost m ch => Sys2Proof.Machine.execCommitHost m ch s
  | .clearState m ch slot => Sys2Proof.Machine.execClearState m ch slot s
  | .slotDisable m ch slot => Sys2Proof.Machine.execSlotDisable m ch slot s
  | .pgCommit m ch => Sys2Proof.Machine.execPgCommit m ch s
  | .periodStart ch => Sys2Proof.Machine.execPeriodStart ch s
  | .pgReload ch => Sys2Proof.Machine.execPgReload ch s
  | .pgEdge ch k second => Sys2Proof.Machine.execPgEdge ch k second s
  | .patternEdgeFire ch k => Sys2Proof.Machine.execPatternEdgeFire ch k s
  | .interlockRelease ch o => Sys2Proof.Machine.execInterlockRelease ch o s
  | .fltAssert ch f asserted => Sys2Proof.Machine.execFltAssert ch f asserted s
  | .debugHalt t => Sys2Proof.Machine.execDebugHalt t s
  | .haltRelease t => Sys2Proof.Machine.execHaltRelease t s
  | .dfbAssert ch k asserted => Sys2Proof.Machine.execDfbAssert ch k asserted s
  | .blankingEnd ch o => Sys2Proof.Machine.execBlankingEnd ch o s
  | .enableSettleEnd ch => Sys2Proof.Machine.execEnableSettleEnd ch s
  | .service m ch on => Sys2Proof.Machine.execService m ch on s
  | .recoveryExpire ch => Sys2Proof.Machine.execRecoveryExpire ch s
  | .squallDone ch => Sys2Proof.Machine.execSquallDone ch s
  | .hbRefresh ch => Sys2Proof.Machine.execHbRefresh ch s
  | .hbootUv ch low => Sys2Proof.Machine.execHbootUv ch low s
  | .vdrvUv => Sys2Proof.Machine.execVdrvUv s
  | .gridEnable m ch => Sys2Proof.Machine.execGridEnable m ch s
  | .gridDisable m ch => Sys2Proof.Machine.execGridDisable m ch s
  | .gridEvaluation => Sys2Proof.Machine.execGridEvaluation s
  | .gridTrip ch e => Sys2Proof.Machine.execGridTrip ch e s
  | .gridReconnect ch => Sys2Proof.Machine.execGridReconnect ch s
  | .reconnect m ch => Sys2Proof.Machine.execReconnect m ch s
  | .mpptEnable m ch => Sys2Proof.Machine.execMpptEnable m ch s
  | .mpptStep ch => Sys2Proof.Machine.execMpptStep ch s
  | .mpptSweep ch => Sys2Proof.Machine.execMpptSweep ch s
  | .meterSample raw => Sys2Proof.Machine.execMeterSample raw s
  | .noZc ch => Sys2Proof.Machine.execNoZc ch s
  | .meterTimerMark ch => Sys2Proof.Machine.execMeterTimerMark ch s
  | .meterCommit ch => Sys2Proof.Machine.execMeterCommit ch s
  | .aggregate10min => Sys2Proof.Machine.execAggregate10min s
  | .frequency10s => Sys2Proof.Machine.execFrequency10s s
  | .meterEnable m ch => Sys2Proof.Machine.execMeterEnable m ch s
  | .meterDisable m ch => Sys2Proof.Machine.execMeterDisable m ch s
  | .billingRecordStored ch => Sys2Proof.Machine.execBillingRecordStored ch s
  | .sinChange ix lvl => Sys2Proof.Machine.execSinChange ix lvl s
  | .sinDemandRecognised ix => Sys2Proof.Machine.execSinDemandRecognised ix s
  | .sinDemandEnd ix => Sys2Proof.Machine.execSinDemandEnd ix s
  | .tpPulseStart k => Sys2Proof.Machine.execTpPulseStart k s
  | .tpPulseEnd k => Sys2Proof.Machine.execTpPulseEnd k s
  | .testWindowClose k => Sys2Proof.Machine.execTestWindowClose k s
  | .tpPulseCheck ix => Sys2Proof.Machine.execTpPulseCheck ix s
  | .tpLineFault k => Sys2Proof.Machine.execTpLineFault k s
  | .discrepancyExpire p => Sys2Proof.Machine.execDiscrepancyExpire p s
  | .spHeartbeat => Sys2Proof.Machine.execSpHeartbeat s
  | .guardHeartbeatLoss ch => Sys2Proof.Machine.execGuardHeartbeatLoss ch s
  | .enableReadbackFault ch genB => Sys2Proof.Machine.execEnableReadbackFault ch genB s
  | .configCrcCheck => Sys2Proof.Machine.execConfigCrcCheck s
  | .pathDisagree ch ix => Sys2Proof.Machine.execPathDisagree ch ix s
  | .safetySelfTestFail test => Sys2Proof.Machine.execSafetySelfTestFail test s
  | .sackRelease heldUs lowUs => Sys2Proof.Machine.execSackRelease heldUs lowUs s
  | .ackStuck => Sys2Proof.Machine.execAckStuck s
  | .checkComplete ch startTest => Sys2Proof.Machine.execCheckComplete ch startTest s
  | .periodicStartTest ch startTest => Sys2Proof.Machine.execPeriodicStartTest ch startTest s
  | .safetyStopOrder ch => Sys2Proof.Machine.execSafetyStopOrder ch s
  | .safetyConfigWrite m feide image => Sys2Proof.Machine.execSafetyConfigWrite m feide image s
  | .feideFrameReceive t ident ide bytes => Sys2Proof.Machine.execFeideFrameReceive t ident ide bytes s
  | .feideWatchdogExpire c => Sys2Proof.Machine.execFeideWatchdogExpire c s
  | .feideProduce c => Sys2Proof.Machine.execFeideProduce c s
  | .keepAlive => Sys2Proof.Machine.execKeepAlive s
  | .crownLossHoldStart ch => Sys2Proof.Machine.execCrownLossHoldStart ch s
  | .crownLossHoldExpire ch => Sys2Proof.Machine.execCrownLossHoldExpire ch s
  | .crownLockstepMismatch => Sys2Proof.Machine.execCrownLockstepMismatch s
  | .crownWatchdogExpire => Sys2Proof.Machine.execCrownWatchdogExpire s
  | .crownSramUncorrectable => Sys2Proof.Machine.execCrownSramUncorrectable s
  | .crownRestartDone => Sys2Proof.Machine.execCrownRestartDone s
  | .canFrameReceive c f => Sys2Proof.Machine.execCanFrameReceive c f s
  | .segmentTimeout c => Sys2Proof.Machine.execSegmentTimeout c s
  | .canTxDone c sof => Sys2Proof.Machine.execCanTxDone c sof s
  | .canTxFail c why => Sys2Proof.Machine.execCanTxFail c why s
  | .busOffRecoveryDone c => Sys2Proof.Machine.execBusOffRecoveryDone c s
  | .recover m c => Sys2Proof.Machine.execRecover m c s
  | .holdRelease m c b => Sys2Proof.Machine.execHoldRelease m c b s
  | .canModeChange m c mode => Sys2Proof.Machine.execCanModeChange m c mode s
  | .statusFramePeriod => Sys2Proof.Machine.execStatusFramePeriod s
  | .resetHeldFrame => Sys2Proof.Machine.execResetHeldFrame s
  | .hbFrameReceive p f => Sys2Proof.Machine.execHbFrameReceive p f s
  | .hbCreditReturn p fseq code check => Sys2Proof.Machine.execHbCreditReturn p fseq code check s
  | .crTimeout p => Sys2Proof.Machine.execCrTimeout p s
  | .hbHeartbeatSend p => Sys2Proof.Machine.execHbHeartbeatSend p s
  | .hbMiss p => Sys2Proof.Machine.execHbMiss p s
  | .linkTrainingDone p info => Sys2Proof.Machine.execLinkTrainingDone p info s
  | .laneLockLoss p => Sys2Proof.Machine.execLaneLockLoss p s
  | .hatbandRoleWrite m roleA roleB txInv rxInv => Sys2Proof.Machine.execHatbandRoleWrite m roleA roleB txInv rxInv s
  | .pairAliveLost => Sys2Proof.Machine.execPairAliveLost s
  | .takeover => Sys2Proof.Machine.execTakeover s
  | .waitingAloneTimeout => Sys2Proof.Machine.execWaitingAloneTimeout s
  | .pairEnable m en => Sys2Proof.Machine.execPairEnable m en s
  | .handover m => Sys2Proof.Machine.execHandover m s
  | .handoverInstant => Sys2Proof.Machine.execHandoverInstant s
  | .alignSend => Sys2Proof.Machine.execAlignSend s
  | .alignReceive item => Sys2Proof.Machine.execAlignReceive item s
  | .journalMessageReceive msg => Sys2Proof.Machine.execJournalMessageReceive msg s
  | .resyncDone => Sys2Proof.Machine.execResyncDone s
  | .mramReadComplete blk bad1 bad2 reqs wd => Sys2Proof.Machine.execMramReadComplete blk bad1 bad2 reqs wd s
  | .mramWriteComplete blk bad1 bad2 reqs wd => Sys2Proof.Machine.execMramWriteComplete blk bad1 bad2 reqs wd s
  | .mramScrub bad1 bad2 => Sys2Proof.Machine.execMramScrub bad1 bad2 s
  | .sramScrub corrected uncorrectable bank reqs wd => Sys2Proof.Machine.execSramScrub corrected uncorrectable bank reqs wd s
  | .fabricClassWrite m r cls => Sys2Proof.Machine.execFabricClassWrite m r cls s
  | .brownout => Sys2Proof.Machine.execBrownout s
  | .brownoutEnd => Sys2Proof.Machine.execBrownoutEnd s
  | .lullSourceLost => Sys2Proof.Machine.execLullSourceLost s
  | .thaw testmode nid pairId => Sys2Proof.Machine.execThaw testmode nid pairId s
  | .runOkRise => Sys2Proof.Machine.execRunOkRise s
  | .wakeEvent src => Sys2Proof.Machine.execWakeEvent src s
  | .lullMeasurement => Sys2Proof.Machine.execLullMeasurement s
  | .lullBurst => Sys2Proof.Machine.execLullBurst s
  | .storeMeasure mv => Sys2Proof.Machine.execStoreMeasure mv s
  | .batLowCheck mv => Sys2Proof.Machine.execBatLowCheck mv s
  | .vbatLoss => Sys2Proof.Machine.execVbatLoss s
  | .nrstLow => Sys2Proof.Machine.execNrstLow s
  | .nrstHigh => Sys2Proof.Machine.execNrstHigh s
  | .resetHeld seconds => Sys2Proof.Machine.execResetHeld seconds s
  | .tamper => Sys2Proof.Machine.execTamper s
  | .tamperAck m v => Sys2Proof.Machine.execTamperAck m v s
  | .rtcSet m v => Sys2Proof.Machine.execRtcSet m v s
  | .thermalTrip => Sys2Proof.Machine.execThermalTrip s
  | .thermalRecovery => Sys2Proof.Machine.execThermalRecovery s
  | .temperatureRead ctrl bcd => Sys2Proof.Machine.execTemperatureRead ctrl bcd s
  | .runHour => Sys2Proof.Machine.execRunHour s
  | .transferStart m kind slot => Sys2Proof.Machine.execTransferStart m kind slot s
  | .imageBlockReceive p d data => Sys2Proof.Machine.execImageBlockReceive p d data s
  | .activationConfirm => Sys2Proof.Machine.execActivationConfirm s
  | .activationConfirmTimeout => Sys2Proof.Machine.execActivationConfirmTimeout s
  | .debugAuth pub sig => Sys2Proof.Machine.execDebugAuth pub sig s
  | .clockBranchRunsAgain ch => Sys2Proof.Machine.execClockBranchRunsAgain ch s
  | .canBusIntegration c => Sys2Proof.Machine.execCanBusIntegration c s
  | .canReceiveError c weight => Sys2Proof.Machine.execCanReceiveError c weight s
  | .heartbeatReceive p count => Sys2Proof.Machine.execHeartbeatReceive p count s
  | .pairAliveReturn => Sys2Proof.Machine.execPairAliveReturn s
  | .testAgeIncrement ch => Sys2Proof.Machine.execTestAgeIncrement ch s
  | .vdrvReturn => Sys2Proof.Machine.execVdrvReturn s
  | .sweepDwellEnd ch => Sys2Proof.Machine.execSweepDwellEnd ch s
  | .encEdgeTimeout ch => Sys2Proof.Machine.execEncEdgeTimeout ch s
  | .esHystDistance ch entry occ => Sys2Proof.Machine.execEsHystDistance ch entry occ s
  | .imageResend p d => Sys2Proof.Machine.execImageResend p d s
  | .imageAbandon p d => Sys2Proof.Machine.execImageAbandon p d s
  | .hpNcsRise clocked => Sys2Proof.Machine.execHpNcsRise clocked s

end Sys2Proof.Machine
end

