-- ==== Sys2Proof/Safety.lean ====
section
/-! DEFINITION. The terms the statements use: canonical registers and stores, what it is for a command to run, which requests and which register writes a state accepts. -/

namespace Sys2Proof.Safety

open Sys2Proof.Machine

/-- Every sparse map of the state that holds registers or a memory is in canonical form: keys strictly rising, no entry at its default. -/
def Canonical (s : State) : Prop :=
  SMap.wf 0 s.regs = true ∧ SMap.wf 0 s.store = true ∧ SMap.wf 0 s.life.fwA = true ∧ SMap.wf 0 s.life.fwB = true

/-- A command answers the next state `t`, with the queue as it was. -/
def Runs (i : Instr) (s t : State) : Prop := exec i s = .next { t with pending := s.pending }

/-! ### Requests that reach the device through a mailbox (Table 13.3) -/

/-- Request of LC_REQUEST. -/
def lcReq (p : List Byte) : Req :=
  ⟨codeLcRequest, .least 4, [], true, some 0x6F, firstBad [if pb p 0 = 1 ∨ 3 < pb p 0 then some 0 else none, firstNonZero p 1 4]⟩

/-- The mailbox, the request and its payload of each command of Table 13.3 but LC_REQUEST and the object reads and writes: code, length, the life-cycle states that
refuse it, whether it is device-local, its group, and the offset of the first byte out of its range. -/
def reqOf : Instr → Option (Mbx × Req × List Byte)
  | .lock m p => some (m, ⟨codeLock, .least 3, [], false, none, none⟩, p)
  | .unlock m p => some (m, unlockReq p, p)
  | .chStart m p => some (m, chReq codeStart [3] false 0x10 1 p [], p)
  | .chStop m p => some (m, chReq codeStop [3] false 0x10 1 p [], p)
  | .chIdleEnter m p => some (m, chReq codeIdle [3] false 0x10 2 p [aboveAt p 1 1], p)
  | .chIdleLeave m p => some (m, chReq codeIdle [3] false 0x10 2 p [aboveAt p 1 1], p)
  | .storeWrite m p => some (m, ⟨codeStoreWrite, .least 9, [3], false, some 0x1F, firstBad [aboveAt p 0 31, firstNonZero p 1 4]⟩, p)
  | .storeRead m p => some (m, ⟨codeStoreRead, .exactly 12, [], false, none, firstBad [aboveAt p 0 31, firstNonZero p 1 4,
      if leAt p 8 2 = 0 ∨ 1016 < leAt p 8 2 then some 8 else none, firstNonZero p 10 12]⟩, p)
  | .bankLoad m p => some (m, chReq codeLoad [3] false 0x10 3 p [aboveAt p 1 1, aboveAt p 2 31], p)
  | .bankSwap m p => some (m, chReq codeSwap [3] false 0x10 2 p [aboveAt p 1 1], p)
  | .swapCancel m p => some (m, chReq codeCancel [3] false 0x10 1 p [], p)
  | .bankErase m p => some (m, chReq codeErase [3] false 0x10 2 p [aboveAt p 1 1], p)
  | .sessionStart m p => some (m, ⟨codeSessStart, .exactly 16, [3], false, chGroup 0x20 p, firstBad [aboveAt p 0 7, firstNonZero p 1 8]⟩, p)
  | .sessionStop m p => some (m, chReq codeSessStop [3] false 0x20 1 p [], p)
  | .billRead m p => some (m, ⟨codeBillRead, .exactly 4, [], true, none, none⟩, p)
  | .billAck m p => some (m, ⟨codeBillAck, .exactly 4, [], true, some 0x2F, none⟩, p)
  | .meterClear m p => some (m, chReq codeMeterClear [0, 2, 3] true 0x20 1 p [], p)
  | .safetyAck m p => some (m, ⟨codeSafetyAck, .exactly 4, [], true, none, none⟩, p)
  | .feide m p => some (m, ⟨codeFeide, .exactly 17, [], true, none, none⟩, p)
  | .journalRead m p => some (m, readReq codeJournal false p, p)
  | .changeRead m p => some (m, readReq codeChange true p, p)
  | .fwWrite m p => some (m, ⟨codeFwWrite, .exactly 516, [3], true, some 0x6F, none⟩, p)
  | .fwVerify m p => some (m, ⟨codeFwVerify, .exactly 0, [3], true, some 0x6F, none⟩, p)
  | .activate m p => some (m, ⟨codeActivate, .exactly 4, [3], true, some 0x6F, firstNonZero p 0 4⟩, p)
  | .fuseProgram m p _ _ => some (m, ⟨codeFuse, .least 5, [0, 2, 3], true, some 0x6F,
      firstBad [if pb p 0 = 0 ∨ 5 < pb p 0 then some 0 else none, firstNonZero p 1 4]⟩, p)
  | .lullEnter m p => some (m, ⟨0x8701, .exactly 4, [], true, some 0x5F, firstNonZero p 0 4⟩, p)
  | _ => none

/-- The Crown runs, the request of a command passes every check, and its mailbox executes it: it is the command that the mailbox has in work, or nothing else waits
(R272, R273). -/
def Takes (i : Instr) (s : State) : Prop :=
  crownUp s = true ∧ (reqOf i).isSome = true ∧ ((reqOf i).bind fun x => x.2.1.check x.1 x.2.2 s) = none ∧
    ((reqOf i).any fun x => rowMay x.1 x.2.1.code x.2.2 s) = true

/-- Who gets the answer of a request. -/
def answers (i : Instr) (s : State) : Waiter :=
  match reqOf i with
  | some (m, r, _) => waiterOf m r.code s
  | none => ⟨0, none⟩

/-- A request ends at once: with this outcome, in the state that goes with it. -/
def Ends (i : Instr) (s : State) (r : Done × State) : Prop := Runs i s (processed (answers i s).mbx (completeW (answers i s) r.1 r.2))

/-! ### Writes of objects and of their registers -/

/-- A write of bytes at an offset of an object passes every check of R293, and no lock holds its group. -/
abbrev WriteAccepted (m : Mbx) (wt : Waiter) (oid : Nat) (o : Obj) (n lo : Nat) (data : List Byte) (s : State) : Prop :=
  crownUp s = true ∧ objAt oid = some (o, n) ∧ lo + data.length ≤ o.len ∧ s.rd Reg.Life.LIFECYCLE ≠ 3 ∧
    lockedByOther m (groupOf oid) s = false ∧ holdsGroup m (groupOf oid) s = false ∧ check6 (mkObjW o n (mergeBase m oid o n s) lo data) s = none ∧
    scopeOk m (localObj oid) s = true ∧ check7 (wt.key.map fun k => (wt.mbx, k.1, k.2)) (mkObjW o n (mergeBase m oid o n s) lo data) s = none

/-- The state after an accepted write: its change-record entry, its fields, what it starts, and DONE. -/
def writeDone (m : Mbx) (wt : Waiter) (a : Author) (oid : Nat) (o : Obj) (n lo : Nat) (data : List Byte) (s : State) : State :=
  processed m (completeW wt (.ok 0) (recordApply a 1 true oid wt (mkObjW o n (mergeBase m oid o n s) lo data) s))

/-- The register a row writes: mailbox, object, first byte, number of bytes, and the fields with their values. -/
structure Row where
  m : Mbx
  oid : Nat
  lo : Nat
  len : Nat
  edits : List (Fld × Nat × Nat)

/-- The rows of spec/opcode_table.json that write one register or a few. HANDOVER stands apart: it completes later. -/
def rowOf (s : State) : Instr → Option Row
  | .relock m => some ⟨m, 0x0F30, 3, 1, [(Reg.ClkRef.RELOCK, 0, 1)]⟩
  | .referenceChange m sel freq => some ⟨m, 0x0F30, 1, 2, [(Reg.ClkRef.REF_FREQ, 0, freq.toNat), (Reg.ClkRef.REF_SEL, 0, sel.toNat)]⟩
  | .clkoutCommit m k => some ⟨m, 0x0F32 + k.val, 8, 1, [(Reg.ClkOut.COMMIT, 0, 1)]⟩
  | .fwCommit m c => some ⟨m, 0x1030 + cI c, 40, 1, [(Reg.AtCtl.COMMIT, 0, 1)]⟩
  | .esDirectCommit m c => some ⟨m, 0x1034 + cI c, 2, 1, [(Reg.Es.COMMIT, 0, 1)]⟩
  | .commitReg m c sb => some ⟨m, 0x1050 + sarI c sb, 3, 1, [(Reg.Seq.COMMIT_REG, 0, 1)]⟩
  | .commitInj m c sb => some ⟨m, 0x1050 + sarI c sb, 3, 1, [(Reg.Seq.COMMIT_INJ, 0, 1)]⟩
  | .converterStop m c sb => some ⟨m, 0x1050 + sarI c sb, 3, 1, [(Reg.Seq.RUN, 0, 0)]⟩
  | .thresholdCommit m c => some ⟨m, 0x1061 + cI c, 1, 1, [(Reg.CmpTh.COMMIT, 0, 1)]⟩
  | .commitCoef m c j => some ⟨m, 0x1074 + cI c, 2, 1, [(Reg.CeCtl.COMMIT_COEF, 0, 2 ^ j.val)]⟩
  | .commitProg m c j => some ⟨m, 0x1074 + cI c, 2, 1, [(Reg.CeCtl.COMMIT_PROG, 0, 2 ^ j.val)]⟩
  | .commitHost m c => some ⟨m, 0x1074 + cI c, 3, 1, [(Reg.CeCtl.COMMIT_HOST, 0, 1)]⟩
  | .clearState m c j => some ⟨m, 0x1074 + cI c, 3, 1, [(Reg.CeCtl.CLEAR_STATE, 0, 2 ^ j.val)]⟩
  | .slotDisable m c j => some ⟨m, 0x1074 + cI c, 1, 1, [(Reg.CeCtl.SLOT_EN, 0, setBit (s.rd Reg.CeCtl.SLOT_EN (cI c)) j.val false)]⟩
  | .pgCommit m c => some ⟨m, 0x10A1 + cI c, 1, 1, [(Reg.PgSet.COMMIT, 0, 1)]⟩
  | .service m c on => some ⟨m, 0x10B0 + cI c, 1, 1, [(Reg.GdiCfg.SERVICE, 0, on.toNat)]⟩
  | .gridEnable m c => some ⟨m, 0x10C0 + cI c, 1, 1, [(Reg.GridCfg.EN, 0, 1)]⟩
  | .gridDisable m c => some ⟨m, 0x10C0 + cI c, 1, 1, [(Reg.GridCfg.EN, 0, 0)]⟩
  | .reconnect m c => some ⟨m, 0x10C1 + cI c, 1, 1, [(Reg.GridReq.RECONNECT, 0, 1)]⟩
  | .mpptEnable m c => some ⟨m, 0x10C8 + cI c, 1, 1, [(Reg.MpptCfg.EN, 0, 1)]⟩
  | .meterEnable m c => some ⟨m, 0x2000 + cI c, 1, 1, [(Reg.MeterCfg.EN, 0, 1)]⟩
  | .meterDisable m c => some ⟨m, 0x2000 + cI c, 1, 1, [(Reg.MeterCfg.EN, 0, 0)]⟩
  | .recover m c => some ⟨m, 0x4F28 + c.val, 1, 1, [(Reg.CanStat.RECOVER, 0, 1)]⟩
  | .holdRelease m c b => some ⟨m, 0x4F28 + c.val, 4 + b.val / 8, 1, [(Reg.CanStat.HOLD, 0, 2 ^ b.val)]⟩
  | .canModeChange m c mode => some ⟨m, 0x4F20 + c.val, 1, 1, [(Reg.CanCfg.MODE, 0, mode.toNat)]⟩
  | .hatbandRoleWrite m a b tx rx => some ⟨m, 0x4F30, 1, 2,
      [(Reg.HbCfg.ROLE_A, 0, a.toNat), (Reg.HbCfg.ROLE_B, 0, b.toNat), (Reg.HbCfg.TX_INV, 0, tx.toNat), (Reg.HbCfg.RX_INV, 0, rx.toNat)]⟩
  | .pairEnable m en => some ⟨m, 0x4F40, 1, 1, [(Reg.PairCfg.EN, 0, en.toNat)]⟩
  | .fabricClassWrite m r cls => some ⟨m, 0x7F10, 2 + r.val, 1, [(Reg.Fabric.CLASS, r.val, cls.toNat)]⟩
  | .tamperAck m v => some ⟨m, 0x5F01, 36, 2, [(Reg.PowStat.TAMPER_ACK, 0, v.toNat)]⟩
  | .rtcSet m v => some ⟨m, 0x5F03, 24, 8, [(Reg.Rtc.RTC_SET, 0, v.toNat)]⟩
  | .transferStart m kind slot => some ⟨m, 0x6F02, 2, 3, [(Reg.Dist.SEND_KIND, 0, kind.toNat), (Reg.Dist.SEND_SLOT, 0, slot.toNat), (Reg.Dist.START, 0, 1)]⟩
  | _ => none

/-- The bytes that a row writes. -/
def Row.data (r : Row) (o : Obj) (n : Nat) (s : State) : List Byte := rowBytes r.m r.oid o n r.lo r.len r.edits s

/-- Who gets the answer of a row. -/
def Row.wt (r : Row) (s : State) : Waiter := waiterOf r.m (rowCode r.m r.oid s) s

/-- The state after the write of a row. -/
def Row.done (r : Row) (o : Obj) (n : Nat) (s : State) : State :=
  writeDone r.m (r.wt s) (authorOf r.m (rowCode r.m r.oid s) s) r.oid o n r.lo (r.data o n s) s

/-- The write of a row passes every check, the mailbox executes it (R272), and it asks for no HANDOVER. -/
def RowReady (i : Instr) (s : State) : Prop :=
  ∃ (r : Row) (o : Obj) (n : Nat), rowOf s i = some r ∧ WriteAccepted r.m (r.wt s) r.oid o n r.lo (r.data o n s) s ∧ regMay r.m r.oid r.lo r.len o n r.edits s = true ∧
    (o.base ≠ 0x4F40 ∨ (mkObjW o n (mergeBase r.m r.oid o n s) r.lo (r.data o n s)).hit Reg.PairCfg.HANDOVER = false)

/-- The command has written its register: DONE, in the state that the write with its effects leaves. -/
def RowWrites (i : Instr) (s : State) : Prop :=
  ∃ (r : Row) (o : Obj) (n : Nat), rowOf s i = some r ∧ objAt r.oid = some (o, n) ∧ Runs i s (r.done o n s) ∧ (r.done o n s).report = some ⟨r.m.val, stDone, 0, []⟩

/-! ### Frames -/

/-- A row of a transport brings this frame, and leaves the state with it taken off. -/
def Brings (t : Transport) (f : HostFrame) (s : State) (g : HostFrame) (u : State) : Prop := canServe s = true ∧ takeFrame t f s = some (g, u)

/-- A host frame with the operation `op` passes every check of R267 on a device that can serve, with no earlier frame unanswered, and is not passed on to the owner
of a pair: it is served here, in the state in which the reply before it has been sent. -/
def HostReady (op : Nat) (f : HostFrame) (s : State) : Prop :=
  canServe s = true ∧ (s.crown.held.any fun h => h.t == .host) = false ∧ f.op = none ∧ frameBad op .host f (replySent s) = none ∧ forwards op f (replySent s) = false

/-- Reset leaves every register of these at the value the Reset column gives. -/
def AtReset (fs : List Fld) (s : State) : Prop := ∀ f ∈ fs, ∀ n i : Nat, s.rd f n i = f.reset n i

end Sys2Proof.Safety
end

