-- ==== Sys2Proof/Certificates/Slice0/Obligations.lean ====
section
/-! DEFINITION. The statements for the provers. Each says what commands do; `Runs i s t` (Safety.lean) is that the command answers exactly the next state `t`. -/

open Sys2Proof Sys2Proof.Machine Sys2Proof.Safety

/-- For every command and state: a step of the state with that command at the front of its queue is the execution of the command on the state with the rest of the queue.
Rests on: 00_scope.md. -/
def Obligations.StepRunsFrontCommand : Prop :=
  ∀ (c : Instr) (rest : List Instr) (s : State), step { s with pending := c :: rest } = exec c { s with pending := rest }

/-- With nothing queued the block lets one tick pass (the model's choice, log entry 4). A device in OFF stays as it is. With the units supplied the tick moves the RTC on,
lets the windows that the channels have decided come into force, and moves the time base, the CLKOUT outputs and then every channel in order; the time base counts up at
every second tick, modulo 2^64. Without supplied units only the RTC moves on, and during a Lull measurement the time base.
Rests on: 03_angle_timebase.md R48, 02_clock_synthesis.md R30. -/
def Obligations.EmptyQueueTick : Prop :=
  (∀ s : State, s.pending = [] → step s = .next (deviceTick s)) ∧
  (∀ s : State, s.pow.st = .off → deviceTick s = s) ∧
  (∀ s : State, s.pow.st ≠ .off → unitsOn (rtcTick s) = true →
    deviceTick s = ((List.finRange 2).foldl (fun s k => clkoutTick k s) (timeTick ((rtcTick s).eachCh fun s c => windowsTake c s))).eachCh fun s c => chanTick c s) ∧
  (∀ s : State, s.pow.st ≠ .off → unitsOn (rtcTick s) = false → measuring (rtcTick s) = true → deviceTick s = timeTick (rtcTick s)) ∧
  (∀ s : State, s.pow.st ≠ .off → unitsOn (rtcTick s) = false → measuring (rtcTick s) = false → deviceTick s = rtcTick s) ∧
  (∀ s : State, (timeTick s).odd = !s.odd ∧ (timeTick s).time = (if s.odd = true then (s.time + 1) % 2 ^ 64 else s.time) ∧ (timeTick s).chans = s.chans ∧ (timeTick s).regs = s.regs)

/-- No command stops the block: every command of the table, in every state, answers a next state, and its effect leaves the queue of waiting commands as it was. Conditions
that the spec sets on a command are part of its effect.
Rests on: 00_scope.md. -/
def Obligations.EveryCommandAnswers : Prop :=
  ∀ (c : Instr) (s : State), ∃ t, exec c s = .next t ∧ t.pending = s.pending

/-- Once the Thaw sequence of a delivered device has completed, each field below stands at its Reset value: PG STOPPED, GDI IDLE, AT STOPPED, grid functions and MPPT OFF,
banks EMPTY with no active slot; the clock LOCKED with the reference present; life-cycle state OEM; no pair role; CAN controllers off; both enables low. Meter registers
are zero, the change record is empty, the time base is 0, no event is raised, no mailbox holds a command and the queue is empty. The channels wait in CHECK with E_PEND
set (Table 17.5, step 8). Every register but CFG_CRC, which Table 17.5 step 5 computes, reads its Reset column.
Rests on: 00_scope.md R7, 00_scope.md R2, Table 17.5. -/
def Obligations.ResetState : Prop :=
  (∀ c : Ch, State.reset.rd Reg.PgStat.STATE (cI c) = 0 ∧ gdiState c State.reset = 0 ∧ atState c State.reset = 0 ∧ gridState c State.reset = 0 ∧ mpptState c State.reset = 0 ∧
    bankState c false State.reset = bkEmpty ∧ bankState c true State.reset = bkEmpty ∧ State.reset.rd Reg.Batt.ACTIVE_SLOT (cI c) = 0xFF ∧ safeState c State.reset = sfCheck ∧
    State.reset.rd Reg.Safe.E_PEND 0 c.val = 1 ∧ State.reset.rdB Reg.GdiStat.GEN_A_RB (cI c) = false ∧ State.reset.rdB Reg.GdiStat.GEN_B_RB (cI c) = false) ∧
  (ckState State.reset = 1 ∧ State.reset.rd Reg.ClkStat.REF_OK = 1 ∧ pairRole State.reset = 0 ∧ State.reset.rd Reg.Life.LIFECYCLE = 1 ∧ State.reset.pow.st = .run ∧ State.reset.crown.run = .running) ∧
  (∀ b : Fin 4, State.reset.rd Reg.CanCfg.MODE b.val = 0 ∧ State.reset.rd Reg.CanStat.TEC b.val = 0 ∧ State.reset.rd Reg.CanStat.REC b.val = 0) ∧
  (∀ m : Mbx, (State.reset.mb m).cmds = [] ∧ (State.reset.mb m).lock = none) ∧
  (∀ c : Ch, (State.reset.mf c).acc = List.replicate 28 0) ∧ (State.reset.crown.changes = [] ∧ State.reset.time = 0 ∧ State.reset.raised = [] ∧ State.reset.pending = []) ∧
  (∀ (f : Fld) (n i : Nat), f.key 0 n i ≠ Reg.Safe.CFG_CRC.key 0 0 0 → State.reset.rd f n i = f.reset n i)

/-- The register map, the Batt store and both firmware banks of the reset state are in canonical form: keys strictly rising and no entry at its default.
Rests on: 00_scope.md R7. -/
def Obligations.CanonicalReset : Prop :=
  Canonical State.reset

/-- From every state in which the register map, the Batt store and both firmware banks are in canonical form, each step, of any command or of a tick, answers a state in which
they are canonical again. So equal contents are always equal data.
Rests on: 00_scope.md, 04_batt_tables.md, 18_lifecycle_and_update.md. -/
def Obligations.CanonicalKept : Prop :=
  ∀ s t : State, Canonical s → step s = .next t → Canonical t

/-- The difference of two angles is congruent to a - b modulo 2^32 and lies in [-2^31, 2^31), that is [-180, +180) degrees; the angle of a channel is below 2^32, and adding a
difference to its base gives the other angle modulo 2^32.
Rests on: 00_scope.md R9. -/
def Obligations.AngleDifference : Prop :=
  (∀ a b : Nat, -(2 ^ 31 : Int) ≤ angDiff a b ∧ angDiff a b < 2 ^ 31 ∧ (angDiff a b - ((a : Int) - b)) % 2 ^ 32 = 0) ∧
  (∀ (c : Ch) (s : State), (s.ch c).angle < 2 ^ 32) ∧
  (∀ a b : Nat, ((b : Int) + angDiff a b) % 2 ^ 32 = (a : Int) % 2 ^ 32)

/-- A source with TO_CROWN set that triggers no consumer posts one entry with its event number, the time and the angle of the firing, while fewer than 32 stand in the FIFO of
its channel; when it is full the entry is dropped, the overflow counter goes up by one and CHFIFO_OVF of that channel is raised. Whatever a source triggers, entries
already in the FIFO stay, in their order.
Rests on: 01_device_architecture.md R26. -/
def Obligations.EventFifo : Prop :=
  (∀ (c : Ch) (k lag : Nat) (s : State), s.rdB Reg.Route.TO_CROWN (cI c) k = true → routed c k s = [] → (s.ch c).fifo.length < 32 →
    ((fireLag c k lag s).ch c).fifo = (s.ch c).fifo ++ [⟨c.val * 56 + k, s.time, (s.ch c).angleAt lag⟩] ∧ ((fireLag c k lag s).ch c).fifoOvf = (s.ch c).fifoOvf) ∧
  (∀ (c : Ch) (k lag : Nat) (s : State), s.rdB Reg.Route.TO_CROWN (cI c) k = true → routed c k s = [] → 32 ≤ (s.ch c).fifo.length →
    ((fireLag c k lag s).ch c).fifo = (s.ch c).fifo ∧ ((fireLag c k lag s).ch c).fifoOvf = (s.ch c).fifoOvf + 1 ∧ (fireLag c k lag s).raised = (472 + c.val) :: (c.val * 56 + k) :: s.raised) ∧
  (∀ (c : Ch) (k lag : Nat) (s : State), (s.ch c).fifo.length ≤ 32 → ∃ l, ((fireLag c k lag s).ch c).fifo = (s.ch c).fifo ++ l ∧ ((fireLag c k lag s).ch c).fifo.length ≤ 32)

/-- While the Crown runs, KEEP_ALIVE ends the Crown loss hold of every channel. While the units are supplied, CROWN_LOSS_HOLD_START starts the hold of the channel, whatever
the Crown does. When the hold expires, the channel performs Squall shutdown with cause 2 and its hold has ended. Each command answers exactly that next state, so it
changes nothing else. While the Crown executes code and the device is not the owner of a pair: a watchdog expiry answers a state in which the Crown is starting with
RESET_CAUSE 4, a lockstep mismatch or an uncorrectable Crown SRAM word one with RESET_CAUSE 5; a mismatch also sets LOCKSTEP_SEEN, stops the Hatband heartbeat (in a
device that is not the owner, log entry 138) and starts the hold of every channel at once. The watchdog changes neither the channels nor any register. When a restart ends
and the running bank passes its check, CROWN_RESTART_DONE answers the state in which firmware has restored its journal, responses and unfinished commands, serves CAN and
Hatband again and has sent the keep-alive.
Rests on: 01_device_architecture.md R17, 08_gate_drive.md R177, 01_device_architecture.md R19, 01_device_architecture.md R20, 16_fabric_and_memory.md R363, 12_crown_mailboxes.md R281. -/
def Obligations.CrownLossAndRestarts : Prop :=
  (∀ s : State, crownUp s = true → Runs .keepAlive s (s.eachCh fun s c => s.setCh c fun x => { x with hold := false })) ∧
  (∀ (c : Ch) (s : State), unitsOn s = true → Runs (.crownLossHoldStart c) s (s.setCh c fun x => { x with hold := true })) ∧
  (∀ (c : Ch) (s : State), (s.ch c).hold = true →
    Runs (.crownLossHoldExpire c) s (settle c (squallRequest c 2 (s.setCh c fun x => { x with hold := false })))) ∧
  (∀ s : State, crownAwake s = true → pairRole s ≠ 2 → ∃ t, exec .crownWatchdogExpire s = .next t ∧ t.crown.run = .starting ∧ t.crown.resetCause = 4 ∧
    t.crown.restarting = true ∧ t.chans = s.chans ∧ t.regs = s.regs ∧ t.store = s.store) ∧
  (∀ s : State, crownAwake s = true → pairRole s ≠ 2 → ∃ t, exec .crownLockstepMismatch s = .next t ∧ t.crown.run = .starting ∧ t.crown.resetCause = 5 ∧
    t.rd Reg.CrownSup.LOCKSTEP_SEEN = 1 ∧ t.pair.released = true ∧ ∀ c, (t.ch c).hold = true) ∧
  (∀ s : State, crownAwake s = true → pairRole s ≠ 2 → ∃ t, exec .crownSramUncorrectable s = .next t ∧ t.crown.run = .starting ∧ t.crown.resetCause = 5 ∧
    t.rd Reg.CrownSup.LOCKSTEP_SEEN = 1 ∧ t.pair.released = true ∧ ∀ c, (t.ch c).hold = true) ∧
  (∀ s : State, s.crown.restarting = true → (romStart false { s with crown := { s.crown with restarting := false }, life := { s.life with activating := none } }).1 = true →
    let u := { s with crown := { s.crown with restarting := false }, life := { s.life with activating := none } }
    Runs .crownRestartDone s (crownBack (crownRestore (replayPlan { s with life := { s.life with activating := none } }) (dropWaits (crownTo .running (romStart false u).2)))))

/-- In LOCKED with the reference present, LOCK_LOSS counts LOCK_LOSS_CNT, takes the channels and the CAN controllers off their clock, and starts an acquisition in RELOCK.
REFERENCE_LOSS with a reference present clears REF_OK, sets TIME_COARSE, enters BYPASS_RC and takes the Hatband ports down; from LOCKED it also counts REF_LOSS_CNT and
leaves the PLL. CLOCK_MONITOR_TRIP stops the clock branch of a channel that is not in Idle, and CLOCK_BRANCH_RUNS_AGAIN, in LOCKED, starts it again with a PG that stays
stopped. A branch that stops is stopped with CH_TRIP set, and one that runs again runs. Each answers exactly the state named. A reference that returns sets REF_OK, clears
TIME_COARSE and, in START or BYPASS_RC, starts an acquisition in RELOCK. In RELOCK a first acquisition that times out is followed by a second attempt, and a second one
that times out enters LOCK_FAIL. Lock starts the settle time, and a second attempt that locks counts LOCK_TRANSIENT_CNT. When the settle time ends the state is LOCKED,
CLK_LOCK is raised and the channel branches run again. CLKOUT_SET_APPLY with PEND = 1 brings the shadow DIV and PHASE_STEP into force together, clears PEND, and the
committed phase count stands to be spent in place of one not yet spent; with PEND = 0 nothing changes. CLKOUT_UNMUTE in LOCKED ends the muting of that output.
Rests on: 02_clock_synthesis.md R31, 02_clock_synthesis.md R33, 02_clock_synthesis.md R36, Table 2.2, 02_clock_synthesis.md R32, 02_clock_synthesis.md R42, 02_clock_synthesis.md R43, 02_clock_synthesis.md R45. -/
def Obligations.ClockAndOutputs : Prop :=
  (∀ s : State, ckState s = 1 → s.rdB Reg.ClkStat.REF_OK = true →
    ckState (acquire s) = 2 ∧ (acquire s).clk.attempt = 1 ∧ Runs .lockLoss s (acquire (leavePll ((s.wr Reg.ClkStat.STATE 0 0 3).count Reg.ClkStat.LOCK_LOSS_CNT)))) ∧
  (∀ s : State, ckState s = 1 → s.rdB Reg.ClkStat.REF_OK = true →
    Runs .referenceLoss s (hbRefLost (leavePll ((toRc s).count Reg.ClkStat.REF_LOSS_CNT)))) ∧
  (∀ s : State, ckState s ≠ 1 → s.rdB Reg.ClkStat.REF_OK = true → Runs .referenceLoss s (hbRefLost (toRc s))) ∧
  (∀ s : State, (toRc s).rd Reg.ClkStat.REF_OK = 0 ∧ (toRc s).rd Reg.ClkStat.TIME_COARSE = 1 ∧ ckState (toRc s) = 4) ∧
  (∀ (c : Ch) (s : State), (s.ch c).branch = true → (s.ch c).idle = false → Runs (.clockMonitorTrip c) s (branchStop c s)) ∧
  (∀ (c : Ch) (s : State), ckState s = 1 → Runs (.clockBranchRunsAgain c) s (branchRun c s)) ∧
  (∀ (c : Ch) (s : State), (s.ch c).idle = false → ∃ u, branchStop c s = settle c u ∧ (u.ch c).branch = false) ∧
  (∀ (c : Ch) (s : State), (s.ch c).branch = true → branchRun c s = s) ∧
  (∀ s : State, s.rdB Reg.ClkStat.REF_OK = false → (ckState s = 0 ∨ ckState s = 4) →
    Runs .referencePresent s (hbRefBack (acquire ((s.wr Reg.ClkStat.REF_OK 0 0 1).wr Reg.ClkStat.TIME_COARSE 0 0 0)))) ∧
  (∀ s : State, ckState s = 2 → s.clk.settling = false → s.clk.attempt = 1 →
    Runs .pllAcquisitionTimeout s { s with clk := { s.clk with attempt := 2 } }) ∧
  (∀ s : State, ckState s = 2 → s.clk.settling = false → s.clk.attempt = 2 → ∃ t, exec .pllAcquisitionTimeout s = .next t ∧ ckState t = 5) ∧
  (∀ s : State, ckState s = 2 → s.clk.settling = false → s.clk.attempt = 1 → Runs .pllLock s { s with clk := { s.clk with settling := true } }) ∧
  (∀ s : State, ckState s = 2 → s.clk.settling = false → s.clk.attempt = 2 →
    Runs .pllLock s ((s.count Reg.ClkStat.LOCK_TRANSIENT_CNT).setClk fun x => { x with settling := true })) ∧
  (∀ s : State, ckState s = 2 → s.clk.settling = true → Runs .pllSettled s
    ((((s.wr Reg.ClkStat.STATE 0 0 1).setClk fun x => { x with attempt := 0, settling := false }).raise 493).eachCh fun s c => branchRun c s)) ∧
  (∀ (k : Fin 2) (s : State), s.rd Reg.ClkOut.PEND k.val = 1 → ∃ t, exec (.clkoutSetApply k) s = .next t ∧ t.rdL Reg.ClkOut.DIV k.val = s.rd Reg.ClkOut.DIV k.val % 2 ^ 16 ∧
    t.rdL Reg.ClkOut.PHASE_STEP k.val = s.rd Reg.ClkOut.PHASE_STEP k.val % 2 ^ 16 ∧ t.rd Reg.ClkOut.PEND k.val = 0 ∧ t.clk.outs[k].unspent = sgn 16 (s.rd Reg.ClkOut.PHASE_STEP k.val % 2 ^ 16) ∧ t.chans = s.chans) ∧
  (∀ (k : Fin 2) (s : State), s.rdB Reg.ClkOut.PEND k.val = false → Runs (.clkoutSetApply k) s s) ∧
  (∀ (k : Fin 2) (s : State), ckState s = 1 → ∃ t, exec (.clkoutUnmute k) s = .next t ∧ t.clk.outs[k].muted = false ∧ t.regs = s.regs ∧ t.chans = s.chans)

/-- In SYN source with FW_AT = 1 and a waiting word, FW_TIME_REACHED at the even tick of FW_TIME brings the shadow FW into force and that tick adds the new word to the
accumulator it started from. The set that comes into force is the shadow as it stands. In a tick of a forward wrap with the PG not running, ANGLE_WRAP answers the state
in which WRAP has been raised with its LAG, a waiting frequency word (FW_AT = 0) and waiting direct entries are in force, the mean of the turn is closed if it began at a
wrap, and the pair's state hash of the wrap is formed.
Rests on: 03_angle_timebase.md R49, 03_angle_timebase.md R52, 03_angle_timebase.md R65, 00_scope.md R430. -/
def Obligations.FrequencyAndEventCommitsApply : Prop :=
  (∀ (c : Ch) (s : State), s.rdB Reg.AtCtl.FW_AT (cI c) = true → (s.ch c).at_.fwWait ≠ .none → atStopped c s = false → s.odd = false →
    s.rd Reg.AtCtl.FW_TIME (cI c) = s.time → atSrc c s = 0 → atSrc c (fwApply c s) = 0 →
    Runs (.fwTimeReached c) s ((fwApply c s).setAt c fun x => { x with acc := enc 48 ((x.accPrev : Int) + x.fw) })) ∧
  (∀ (c : Ch) (s : State), (fwApply c s).rdL Reg.AtCtl.FW (cI c) = s.rd Reg.AtCtl.FW (cI c) % 2 ^ Reg.AtCtl.FW.w ∧ ((fwApply c s).ch c).at_.fwWait = .none) ∧
  (∀ (c : Ch) (s : State), wrapTick c s = true → crossesFwd c 0 s = true → ((s.pg c).wrapLeft = true ∨ pgIsRunning c s = false) →
    pgIsRunning c (fireLag c evWrap (lagOf c 0 s) s) = false →
    let a := fireLag c evWrap (lagOf c 0 s) s
    let b := if (a.ch c).at_.fwWait = .waiting ∧ a.rdB Reg.AtCtl.FW_AT (cI c) = false then fwApply c a else a
    let d := if (b.ch c).esWait = .waiting then esApply c b else b
    Runs (.angleWrap c) s (hashAtWrap c (settle c (d.setAt c fun x => { x with
      turnMean := if x.turnFull = true ∧ 0 < x.turnCnt then some (rhu x.turnSum x.turnCnt) else x.turnMean, turnSum := 0, turnCnt := 0, turnFull := true }))))

/-- When the time base has reached START_TIME of a waiting CH_START and the conditions of Table 13.4 hold, CHANNEL_START answers the state in which the wait is over, the
channel has started (START_LATE when the instant has passed), a start that no command waits for is passed on in a pair, and the command has ended DONE with the time,
START_LATE and three zero bytes. When a condition fails it ends with START_REFUSED and the code of the first condition that fails. CH_START acts on the channel named: it
waits for a periodic start test, behind those that wait already; without one, and with no cause of Table 13.4, it is accepted, and with START_TIME 0 the channel starts in
this tick and it is DONE. CH_STOP of a channel already STOPPED gives DONE with DETAIL 1 at once, and otherwise requests Squall shutdown with SQ_CAUSE 1 and waits for
SQUALL_DONE. CH_IDLE with ENTER = 1 fails with STATE_REFUSED, DETAIL 0, unless the PG is STOPPED, and else the channel enters Idle; with ENTER = 0 it leaves Idle.
Rests on: 13_command_reference.md R300, Table 13.4, 00_scope.md R430, 13_command_reference.md R301, 17_power_and_holdup.md R380. -/
def Obligations.ChannelStartAndStop : Prop :=
  (∀ (c : Ch) (w : Waiter) (s : State), (s.ch c).startWait = some w → s.rd Reg.AtCtl.START_TIME (cI c) ≤ s.time → startDenied c true s = none →
    let g := channelGo c (decide (s.rd Reg.AtCtl.START_TIME (cI c) < s.time)) (s.setCh c fun x => { x with startWait := none })
    let t := if w.key = none then sendOrder c true g else g
    (∃ u, exec (.channelStart c) s = .next u ∧ u.report = some ⟨w.mbx.val, stDone, 0, leBytes 8 t.time ++ leBytes 1 (t.rd Reg.AtStat.START_LATE (cI c)) ++ [0, 0, 0]⟩) ∧
    Runs (.channelStart c) s (completeW w (.ok 0 (leBytes 8 t.time ++ leBytes 1 (t.rd Reg.AtStat.START_LATE (cI c)) ++ [0, 0, 0])) (settle c t))) ∧
  (∀ (c : Ch) (w : Waiter) (s : State), (s.ch c).startWait = some w → s.rd Reg.AtCtl.START_TIME (cI c) ≤ s.time → startCheck c true s ≠ 0 →
    ∃ t, exec (.channelStart c) s = .next t ∧ (t.report.map Report.status) = some stStartRefused ∧ (t.report.map Report.detail) = some (startCheck c true s)) ∧
  (∀ (m : Mbx) (p : List Byte) (s : State), Takes (.chStart m p) s → Runs (.chStart m p) s (processed m (startCommand (chOf p) (waiterOf m codeStart s) s))) ∧
  (∀ (c : Ch) (w : Waiter) (s : State), (s.sc c).afterTest = true → startCommand c w s = s.setCh c fun x => { x with testWait := x.testWait ++ [w] }) ∧
  (∀ (m : Mbx) (p : List Byte) (s : State), Takes (.chStart m p) s → (s.sc (chOf p)).afterTest = false → startDenied (chOf p) false s = none → s.rd Reg.AtCtl.START_TIME (cI (chOf p)) = 0 →
    let u := channelGo (chOf p) false (s.setCh (chOf p) fun x => { x with startWait := none })
    Runs (.chStart m p) s (processed m (completeW (waiterOf m codeStart s) (.ok 0 (leBytes 8 u.time ++ leBytes 1 (u.rd Reg.AtStat.START_LATE (cI (chOf p))) ++ [0, 0, 0])) (settle (chOf p) u)))) ∧
  (∀ (m : Mbx) (p : List Byte) (s : State), Takes (.chStop m p) s → s.rd Reg.PgStat.STATE (cI (chOf p)) = pgStopped → Ends (.chStop m p) s (.ok 1, s)) ∧
  (∀ (m : Mbx) (p : List Byte) (s : State), Takes (.chStop m p) s → s.rd Reg.PgStat.STATE (cI (chOf p)) ≠ pgStopped →
    Runs (.chStop m p) s (processed m (settle (chOf p) (squallRequest (chOf p) 1 (s.setCh (chOf p) fun x => { x with stopWait := x.stopWait ++ [waiterOf m codeStop s] }))))) ∧
  (∀ (m : Mbx) (p : List Byte) (s : State), Takes (.chIdleEnter m p) s → pb p 1 = 1 → s.rd Reg.PgStat.STATE (cI (chOf p)) ≠ pgStopped → Ends (.chIdleEnter m p) s (.fail stStateRefused 0, s)) ∧
  (∀ (m : Mbx) (p : List Byte) (s : State), Takes (.chIdleEnter m p) s → pb p 1 = 1 → s.rd Reg.PgStat.STATE (cI (chOf p)) = pgStopped → Ends (.chIdleEnter m p) s (.ok, idleEnter (chOf p) s)) ∧
  (∀ (m : Mbx) (p : List Byte) (s : State), Takes (.chIdleLeave m p) s → pb p 1 = 0 → Ends (.chIdleLeave m p) s (.ok, idleLeave (chOf p) s)) ∧
  (∀ (c : Ch) (s : State), (s.ch c).idle = true → idleEnter c s = s) ∧ (∀ (c : Ch) (s : State), (s.ch c).idle = false → idleLeave c s = s)

/-- On a running AT, the occurrence of an entry that is due in this tick - crossed in a direction it admits, armed, its region in force at the start of the tick - fires: it
is disarmed to the side crossed to, its event is raised with the LAG of the crossing when enabled, and its action is performed. In a tick that no swap divides, an
occurrence is tested under the entry of the active bank alone. ES_HYST_DISTANCE re-arms a fired occurrence once the angle has moved ES_HYST counts away on the side it
crossed to. Each answers exactly the state named.
Rests on: 03_angle_timebase.md R60, 03_angle_timebase.md R61, 03_angle_timebase.md R62. -/
def Obligations.EventScheduleFires : Prop :=
  (∀ (c : Ch) (e : Fin 136) (occ : Byte) (x : EsEntry) (n : Nat) (s : State), atStopped c s = false → (esEntries c e occ.toNat s).find? (esDue c occ.toNat s) = some (x, n) →
    let a := s.setCh c fun y => { y with disarmed := ⟨n, occ.toNat, crossesFwd c (x.occ occ.toNat) s⟩ :: y.disarmed }
    let lag := lagOf c (x.occ occ.toNat) s
    Runs (.esFire c e occ) s (settle c (esAction c x lag (if x.evEn then fireLag c (6 + x.ev) lag a else a)))) ∧
  (∀ (c : Ch) (i n : Nat) (x : EsEntry) (s : State), i ≤ x.reps → (crossesFwd c (x.occ i) s = true ∧ bit x.dir 0 = true) ∨ (crossesRev c (x.occ i) s = true ∧ bit x.dir 1 = true) →
    ((s.ch c).disarmed.any fun d => d.entry == n && d.occ == i) = false → bit x.regions (s.ch c).regionTick = true → esDue c i s (x, n) = true) ∧
  (∀ (c : Ch) (e : Fin 136) (i : Nat) (b : Bool) (s : State), e.val < 128 → swapSides c s = none → activeBank c s = some b → esEntries c e i s = [(bankEs c b e.val s, e.val)]) ∧
  (∀ (c : Ch) (e : Fin 136) (occ : Byte) (x : EsEntry) (n : Nat) (s : State), esEntries c e occ.toNat s = [(x, n)] →
    Runs (.esHystDistance c e occ) s (s.setCh c fun y => { y with disarmed := y.disarmed.filter fun q => !(q.entry == n && q.occ == occ.toNat &&
      (if q.forward then decide ((s.rd Reg.AtCtl.ES_HYST (cI c) : Int) ≤ angDiff (s.ch c).angle (x.occ occ.toNat))
       else decide (angDiff (s.ch c).angle (x.occ occ.toNat) ≤ -(s.rd Reg.AtCtl.ES_HYST (cI c) : Int)))) }))

/-- On a running encoder channel in AB mode, an edge that moves the quadrature position by one step counts Pm up or down by one and sets the angle from it; a change of both
levels at once is an illegal transition, counted in QUAD_ERR_CNT with its time kept, and a second one within the time of R54 loses the source. With Z_USE = 1 the first
index of a source in use sets Pm and the angle from Z_OFFSET, and an index in ACQUIRE locks. ENC_EDGE_TIMEOUT takes the rate as 0. When the hold of a coasting AT ends,
COAST reads 0, COAST_END is raised, and with ON_EXPIRE = 0 the AT enters FREE on its coasting word; with ON_EXPIRE = 1 the channel performs Squall shutdown with cause 4
and the AT stops.
Rests on: 03_angle_timebase.md R53, 03_angle_timebase.md R54, 03_angle_timebase.md R55, 03_angle_timebase.md R56. -/
def Obligations.EncoderAndCoast : Prop :=
  (∀ (c : Ch) (a b : Bool) (s : State), s.rd Reg.Enc.MODE (cI c) = 0 → atStopped c s = false → atSrc c s = 2 →
    let d := (quadPos a b + 4 - quadPos (s.ch c).at_.encA (s.ch c).at_.encB) % 4
    d = 1 ∨ d = 3 →
    Runs (.encEdge c a b) s (settle c (encMove c ((s.ch c).at_.pm + (if (d == 1) != s.rdB Reg.Enc.INVERT (cI c) then 1 else -1)) (s.setAt c fun x => { x with encA := a, encB := b })))) ∧
  (∀ (c : Ch) (a b : Bool) (s : State), s.rd Reg.Enc.MODE (cI c) = 0 → atStopped c s = false → atSrc c s = 2 →
    (quadPos a b + 4 - quadPos (s.ch c).at_.encA (s.ch c).at_.encB) % 4 = 2 →
    let e := ((s.setAt c fun x => { x with encA := a, encB := b }).count Reg.AtStat.QUAD_ERR_CNT (cI c)).setAt c fun x => { x with lastIllegal := some s.tick }
    Runs (.encEdge c a b) s (settle c (match (s.ch c).at_.lastIllegal with
      | some u => if s.tick ≤ u + 200000 then srcLost c (e.ch c).at_.fw e else e
      | none => e))) ∧
  (∀ (c : Ch) (s : State), s.rdB Reg.Enc.Z_USE (cI c) = true → atStopped c s = false → atSrc c s = 2 → atState c s ≠ atCoast → atState c s ≠ atFree → (s.ch c).at_.zSeen = false →
    Runs (.encIndex c) s (settle c (if atState c (zSet c s) = atAcquire then atLock c (zSet c s) else zSet c s))) ∧
  (∀ (c : Ch) (s : State), encRuns c s = true → s.rd Reg.Enc.MODE (cI c) = 0 → Runs (.encEdgeTimeout c) s (s.setAt c fun x => { x with encRate := 0, fw := 0 })) ∧
  (∀ (c : Ch) (s : State), s.rdB Reg.AtStat.COAST (cI c) = true → atState c s = atCoast → (fire c evCoastEnd (s.wr Reg.AtStat.COAST (cI c) 0 0)).rdB Reg.AtCtl.ON_EXPIRE (cI c) = false →
    Runs (.coastEnd c) s (settle c ((setAtState c atFree (fire c evCoastEnd (s.wr Reg.AtStat.COAST (cI c) 0 0))).setAt c fun x => { x with fw := x.coastWord }))) ∧
  (∀ (c : Ch) (s : State), s.rdB Reg.AtStat.COAST (cI c) = true → atState c s = atCoast → (fire c evCoastEnd (s.wr Reg.AtStat.COAST (cI c) 0 0)).rdB Reg.AtCtl.ON_EXPIRE (cI c) = true →
    Runs (.coastEnd c) s (settle c (atStop c (squallRequest c 4 (fire c evCoastEnd (s.wr Reg.AtStat.COAST (cI c) 0 0))))))

/-- BANK_LOAD_DONE ends the running load, and with nothing else queued answers its command: DONE with BANK_ID and LIST_CNT where no check fails, and TABLE_CHECK_FAIL with the
code of the first that fails. At a wrap that is its swap point an ARMED bank becomes ACTIVE, the command ends DONE, and no swap is outstanding. An uncorrectable error of
the active bank performs Squall shutdown with cause 3 and empties the bank, with no active slot.
Rests on: 04_batt_tables.md R69, 04_batt_tables.md R75, 04_batt_tables.md R78. -/
def Obligations.BankEventsAnswer : Prop :=
  (∀ (c : Ch) (s : State), (s.batt c).load.isSome = true → Runs (.bankLoadDone c) s (settle c (loadDone c s))) ∧
  (∀ (c : Ch) (l : RunningLoad) (s : State), (s.batt c).load = some l → (s.batt c).queue = [] →
    let img := slotImage l.slot s
    let chk := imageCheck c (SMap.scan 0 img 0 154624).toArray
    let bad := if l.badCode ≠ 0 then l.badCode else lostCode l.slot s
    let code := if bad ≠ 0 ∧ (chk = 0 ∨ bad ≤ chk) then bad else chk
    ∃ u, Runs (.bankLoadDone c) s (settle c u) ∧ (u.batt c).load = none ∧
      (code = 0 → u.report = some ⟨l.w.mbx.val, stDone, 0, leBytes 4 (leVal (SMap.scan 0 img 8 4)) ++ leBytes 2 (leVal (SMap.scan 0 img 14 2)) ++ [0, 0]⟩) ∧
      (code ≠ 0 → u.report = some ⟨l.w.mbx.val, stTableCheckFail, code, []⟩)) ∧
  (∀ (c : Ch) (o : SwapOut) (s : State), (s.batt c).swap = some o → bankState c o.bankB s = bkArmed → swapAtWrap c s = true → wrapTick c s = true →
    Runs (.bankSwapPoint c) s (settle c (swapNow c o.bankB true (some o.w) s))) ∧
  (∀ (c : Ch) (o : SwapOut) (s : State), ((swapNow c o.bankB true (some o.w) s).report.map Report.status) = some stDone) ∧
  (∀ (c : Ch) (b : Bool) (s : State), activeBank c s = some b →
    Runs (.bankSramUncorrectable c) s (settle c (pairsFollow c ((emptyBank c b (squallRequest c 3 s)).wr Reg.Batt.ACTIVE_SLOT (cI c) 0 0xFF)))) ∧
  (∀ (c : Ch) (b : Bool) (s : State), bankState c b (emptyBank c b s) = bkEmpty ∧ (emptyBank c b s).rd (bankIdF b) (cI c) = 0 ∧ (((emptyBank c b s).ch c).batt.bank b) = [])

/-- On a running clock branch, SAR_CONVERSION_END of a converter that is converting a regular entry takes the sample of the voltage into that entry, and of an injected entry
into that one; it answers exactly the state after the sample with the outputs brought up to now. A sample code is 65536 V / 3 V, held at 65535. An enabled continuous
comparator takes a new input voltage into its raw output and its outputs act on the change. An enabled sampled comparator decides at its sample tick and the decision
enters the synchroniser. When N of the last M decisions show a level that the filtered output does not have, CMP_FILTER_CHANGE gives it that level and its outputs act;
the filtered output then reads that level and is not UNRESOLVED. The raw output and the input seen stand in the comparator afterwards.
Rests on: 05_sensing.md R91, 05_sensing.md R92, 05_sensing.md R93, 05_sensing.md R94, 05_sensing.md R103, 05_sensing.md R105, 05_sensing.md R106. -/
def Obligations.SensingEvents : Prop :=
  (∀ (c : Ch) (sb : Bool) (uv : Nat) (s : State), (s.ch c).branch = true → ((s.ch c).sar sb).conv = true → ((s.ch c).sar sb).inj = false →
    Runs (.sarConversionEnd c sb uv) s (settle c (regSample c sb uv s))) ∧
  (∀ (c : Ch) (sb : Bool) (uv : Nat) (s : State), (s.ch c).branch = true → ((s.ch c).sar sb).conv = true → ((s.ch c).sar sb).inj = true →
    Runs (.sarConversionEnd c sb uv) s (settle c (injSample c sb uv s))) ∧
  (∀ uv : Nat, sampleCode uv ≤ 65535 ∧ (uv < 3000000 → sampleCode uv = 65536 * uv / 3000000)) ∧
  (∀ (c : Ch) (j : Fin 16) (uv : Nat) (s : State), cmpOn c j.val s = true → s.rdB Reg.CmpCfg.SAMPLED (cI c) j.val = false →
    Runs (.cmpRawChange c j uv) s (settle c (cmpChange c j (rawTake c j uv) s))) ∧
  (∀ (c : Ch) (j : Fin 16) (uv : Nat) (s : State), cmpOn c j.val s = true → s.rdB Reg.CmpCfg.SAMPLED (cI c) j.val = true →
    Runs (.cmpSample c j uv) s ((rawTake c j uv s).setCmp c j fun x => { x with sync1 := some x.raw })) ∧
  (∀ (c : Ch) (j : Fin 16) (lvl : Bool) (s : State), cmpOn c j.val s = true → filtLevel c j s = some lvl → (s.cmp c j).filt ≠ some lvl → ((settle c (cmpChange c j (filtTake c j lvl) s)).ch c).idle = false →
    Runs (.cmpFilterChange c j) s (settle c (cmpChange c j (filtTake c j lvl) s))) ∧
  (∀ (c : Ch) (j : Fin 16) (lvl : Bool) (s : State), ((filtTake c j lvl s).cmp c j).filt = some lvl ∧ bit ((filtTake c j lvl s).rd Reg.CmpStat.UNRES (cI c)) j.val = false) ∧
  (∀ (c : Ch) (j : Fin 16) (uv : Nat) (s : State), ((rawTake c j uv s).cmp c j).vin = some uv ∧ ((rawTake c j uv s).cmp c j).raw = (cmpDecide c j uv s).orElse fun _ => (s.cmp c j).raw)

/-- On a running branch with an idle engine, CE_EVAL_START starts the lowest slot that has been pending since an earlier tick. CE_EVAL_END delivers the running evaluation,
counts the single-bit errors that it corrected and starts the next slot that was pending when the tick began. An uncorrectable error in a read of a running engine ends
the evaluation without output and performs Squall shutdown with cause 3. A started slot no longer pends and is the one running.
Rests on: 06_control_engine.md R119, 06_control_engine.md R127, 06_control_engine.md R131, 06_control_engine.md R132. -/
def Obligations.EvaluationsRun : Prop :=
  (∀ (c : Ch) (j : Fin 4) (s : State), (s.ch c).branch = true → (s.ch c).ce.running = none → nextSlot c s = some j →
    Runs (.ceEvalStart c) s (settle c (evalStart c j s))) ∧
  (∀ (c : Ch) (j : Fin 4) (s : State), ((evalStart c j s).ch c).ce.running = some j ∧ (evalStart c j s).rd Reg.CeStat.RUNNING (cI c) = 2 ^ j.val) ∧
  (∀ (c : Ch) (j : Fin 4) (e : Byte) (s : State), (s.ch c).ce.running = some j →
    let u := evalEnd c j (s.setCh c fun x => { x with sramErr := x.sramErr + e.toNat })
    Runs (.ceEvalEnd c e) s (settle c (match nextSlot c u with
      | some k => if (u.ch c).branch then evalStart c k u else u
      | none => u))) ∧
  (∀ (c : Ch) (j : Fin 4) (s : State), (s.ch c).ce.running = some j → Runs (.ceSramUncorrectable c) s (settle c (squallRequest c 3 (retireEnd c
    ((s.setCh c fun x => { x with ce := { x.ce with running := none } }).wr Reg.CeStat.RUNNING (cI c) 0 0))))) ∧
  (∀ (c : Ch) (j : Fin 4) (s : State), nextSlot c s = some j → bit (s.rd Reg.CeStat.PENDING (cI c)) j.val = true ∧ (s.ch c).ce.trigTick[j] < s.tick)

/-- On a running PG, PERIOD_START begins the next period: with a TIME carrier where the last one ends, its length PERIOD_NOW, and with an ANGLE carrier at the forward wrap.
PG_RELOAD at a reload point with one armed set applies that set when it was committed at least 3 ticks ago, and no set stays armed; an earlier COMMIT misses the point and
stays armed, with LATE_COMMIT. PG_EDGE fires the next edge of a carrier pair at its position in the period. Each answers exactly the state named. On a running PG the next
unfired edge of a pattern pair that is crossed forward fires (PATTERN_EDGE_FIRE). A held rise is let through once its partner is inactive, no earlier than ILK_GAP after
the partner fell. A FLT input that asserts after its filter is kept as asserted and cuts its outputs.
Rests on: 07_pulse_generation.md R142, 07_pulse_generation.md R144, 07_pulse_generation.md R147, 07_pulse_generation.md R148, 07_pulse_generation.md R86, 07_pulse_generation.md R154, 07_pulse_generation.md R156, 07_pulse_generation.md R158. -/
def Obligations.PulseEdges : Prop :=
  (∀ (c : Ch) (s : State), pgIsRunning c s = true → (s.pg c).psTick = false → angleCarrier c s = false →
    let t := (s.pg c).periodEnd
    let a := s.setPg c fun p => { p with psTick := true, periodStart := t, periodEnd := t + s.rd Reg.PgStat.PERIOD_NOW (cI c) }
    Runs (.periodStart c) s (settle c (newPeriod c 0 t (lagFrom t a) a))) ∧
  (∀ (c : Ch) (s : State), pgIsRunning c s = true → (s.pg c).psTick = false → angleCarrier c s = true → wrapTick c s = true → crossesFwd c 0 s = true →
    let t := stampAt (lagOf c 0 s) s
    Runs (.periodStart c) s (settle c (newPeriod c 0 t (lagOf c 0 s) (s.setPg c fun p => { p with psTick := true, periodStart := t })))) ∧
  (∀ (c : Ch) (r : Reload) (a : ArmedSet) (s : State), pgIsRunning c s = true → reloadPoint c s = some r → (s.pg c).armed = [a] → a.tick + 3 ≤ s.tick →
    Runs (.pgReload c) s (settle c (applySet c r a.vals ((s.setPg c fun p => { p with reloadTick := true, armed := [], esLoad := if s.rd Reg.PgCfg.RELOAD_SRC (cI c) = 3 then p.esLoad.tail else p.esLoad }).wrB Reg.PgSet.PEND (cI c) 0 false)))) ∧
  (∀ (c : Ch) (r : Reload) (a : ArmedSet) (s : State), pgIsRunning c s = true → reloadPoint c s = some r → (s.pg c).armed = [a] → s.tick < a.tick + 3 →
    Runs (.pgReload c) s (settle c (((missOne c a s).setPg c fun p => { p with reloadTick := true, armed := [{ a with late := true }], esLoad := if (missOne c a s).rd Reg.PgCfg.RELOAD_SRC (cI c) = 3 then p.esLoad.tail else p.esLoad }).wrB Reg.PgSet.PEND (cI c) 0 true))) ∧
  (∀ (c : Ch) (k : Fin 6) (b : Bool) (x : Nat) (s : State), pgIsRunning c s = true → patMode c k s = false → ((s.pg c).prs[k]).first = b → ((s.pg c).prs[k]).second = false →
    (if b then secondPos c k s else firstPos c k s) = some x → angleCarrier c s = false →
    Runs (.pgEdge c k b) s (settle c (carrierFire c k x ((s.pg c).periodStart + x) s))) ∧
  (∀ (c : Ch) (k : Fin 6) (b : Bool) (x : Nat) (s : State), pgIsRunning c s = true → patMode c k s = false → ((s.pg c).prs[k]).first = b → ((s.pg c).prs[k]).second = false →
    (if b then secondPos c k s else firstPos c k s) = some x → angleCarrier c s = true → crossesFwd c x s = true →
    Runs (.pgEdge c k b) s (settle c (carrierFire c k x (stampAt (lagOf c x s) s) s))) ∧
  (∀ (c : Ch) (k : Fin 6) (s : State), pgIsRunning c s = true → patMode c k s = true → (s.pat c k).held = 0 →
    Runs (.patternEdgeFire c k) s (settle c (patFireWhile c k (fun e => crossesFwd c e s) (fun e => lagOf c e s) false 1 s))) ∧
  (∀ (c : Ch) (o : Fin 12) (f : Nat) (s : State), (s.out c o).held = true → (s.out c (partner o)).lvl = false → (s.out c (partner o)).fellAt = some f →
    Runs (.interlockRelease c o) s (settle c (rise4 c o (f + s.rd Reg.PgOut.ILK_GAP (cI c) (pairOf o).val) s))) ∧
  (∀ (c : Ch) (f : Fin 4) (s : State), fltAsserted c f.val s = false →
    Runs (.fltAssert c f true) s (settle c (fltCut c f.val (s.setPg c fun p => { p with flt := setBit p.flt f.val true })))) ∧
  (∀ (c : Ch) (f : Fin 4) (s : State), fltAsserted c f.val s = true →
    Runs (.fltAssert c f false) s (settle c (s.setPg c fun p => { p with flt := setBit p.flt f.val false })))

/-- A DFB input that changes after POL and FILT is kept in DFB_NOW; an assertion is judged by the GDI at its instant, the first of its FILT samples (their distance from the
tick of recognition is read from the spec, log entry 132), and a release turns assertions recorded in a blanking interval into masked events. BLANKING_END ends a running
blanking interval: events masked in it are signalled once, and an input that has stood asserted since its recorded instant is a desaturation of that instant. When both
enables read high and the 200 µs have passed, ENABLE_SETTLE_END takes every DFB input as it stands. Each answers exactly the state named. In RECOVERY, RECOVERY_EXPIRE
notes the expiry and the GDI leaves RECOVERY when no off-latch is set. In SQUALL, SQUALL_DONE performs step 2: the channel stops, SQUALL_DONE is raised and a waiting
CH_STOP ends. A request for Squall shutdown in IDLE does nothing. Step 1 puts the GDI into SQUALL with the cause of the request. With HO on and no refresh running,
HB_REFRESH turns HO off, starts the refresh at this instant and counts REFRESH_CNT. HBOOT_UV sets HBOOT_UV and HBOOT_UV_SEEN, counts UV_CNT, raises its event and holds HO
off until its next commanded rise with the supply back above 9.5 V; its end notes that supply. VDRV_UV sets VDRV_UV of every channel and holds both sides off; VDRV_RETURN
clears VDRV_UV of every channel.
Rests on: 08_gate_drive.md R166, 08_gate_drive.md R167, 08_gate_drive.md R169, 08_gate_drive.md R170, 08_gate_drive.md R176, 08_gate_drive.md R177, 08_gate_drive.md R178, 08_gate_drive.md R182, 08_gate_drive.md R183. -/
def Obligations.GateDrive : Prop :=
  (∀ (c : Ch) (k : Fin 6) (s : State), dfbOn c k s = false →
    Runs (.dfbAssert c k true) s (settle c (dfbAct c k (if s.rd Reg.GdiCfg.FILT (cI c) k.val = 0 then s.now else s.now - 32 * (s.rd Reg.GdiCfg.FILT (cI c) k.val + 1)) (s.wrBit Reg.GdiStat.DFB_NOW (cI c) 0 k.val true)))) ∧
  (∀ (c : Ch) (k : Fin 6) (s : State), dfbOn c k s = true →
    Runs (.dfbAssert c k false) s (settle c (dfbRelease c k (s.wrBit Reg.GdiStat.DFB_NOW (cI c) 0 k.val false)))) ∧
  (∀ (c : Ch) (o : Fin 12) (s : State), (s.out c o).blank = true →
    let a := s.setOut c o fun x => { x with blank := false, recAt := none, masked := 0 }
    let b := if 0 < (s.out c o).masked then fire c evMasked a else a
    Runs (.blankingEnd c o) s (settle c (match (s.out c o).recAt with
      | some t => if dfbOn c (pairOf o) b && fbLive c b then gdiFault c (.desat (pairOf o)) (2 ^ o.val) t b else b
      | none => b))) ∧
  (∀ (c : Ch) (s : State), s.rdB Reg.GdiStat.GEN_A_RB (cI c) = true → s.rdB Reg.GdiStat.GEN_B_RB (cI c) = true → (s.pg c).settled = false →
    ((enableSettleEff c s).sc c).afterTest = false →
    let a := s.setPg c fun p => { p with settled := true }
    Runs (.enableSettleEnd c) s (settle c (allPair.foldl (fun s k => if dfbOn c k s then dfbAct c k s.now s else s) a))) ∧
  (∀ (c : Ch) (s : State), gdiState c s = 3 → Runs (.recoveryExpire c) s (settle c (leaveRecovery c (s.setPg c fun p => { p with recovExpired := true })))) ∧
  (∀ (c : Ch) (s : State), gdiState c s = 4 → Runs (.squallDone c) s (settle c (squallFinish c s))) ∧
  (∀ (c : Ch) (cause : Nat) (s : State), gdiState c s = 0 → squallRequest c cause s = s) ∧
  (∀ (c : Ch) (cause : Nat) (s : State), gdiState c s = 1 → squallRequest c cause s = squallStep1 c cause s) ∧
  (∀ (c : Ch) (s : State), hbFollows c s = true → (s.pg c).ho = true → (s.pg c).refreshAt = none →
    Runs (.hbRefresh c) s (settle c ((s.setPg c fun p => { p with refreshAt := some s.now, ho := false, hoFell := s.now }).countMod Reg.Hb.REFRESH_CNT (cI c)))) ∧
  (∀ (c : Ch) (s : State),
    Runs (.hbootUv c true) s (settle c ((fire c evHbootUv (((s.wr Reg.Hb.HBOOT_UV (cI c) 0 1).wr Reg.Hb.HBOOT_UV_SEEN (cI c) 0 1).count Reg.Hb.UV_CNT (cI c))).setPg c fun p => { p with hoHeld := true, bootOk := false }))) ∧
  (∀ (c : Ch) (s : State), Runs (.hbootUv c false) s (settle c (s.setPg c fun p => { p with bootOk := true }))) ∧
  (∀ s : State, Runs .vdrvUv s (s.eachCh fun s c => settle c ((s.wr Reg.Hb.VDRV_UV (cI c) 0 1).setPg c fun p => { p with hoHeld := true, loHeld := true }))) ∧
  (∀ s : State, Runs .vdrvReturn s (s.eachCh fun s c => settle c (s.wr Reg.Hb.VDRV_UV (cI c) 0 0)))

/-- GRID_EVALUATION evaluates every channel that a running Crown coordinates (none in its hold) and then judges MPPT hold. A trip of an element that has expired stops the
group's running channels, takes every member to WAIT with its cause, notes the time, counts the trip and clears the expired elements. When the last evaluation found every
member of a group in WAIT with its reconnection timer run out, no trip stands, all PGs run and the Crown coordinates them, GRID_RECONNECT takes the members into RAMP;
with members STOPPED it starts them first, and a start refused keeps the group in WAIT. For a channel that the Crown coordinates: in TRACK with no channel of FREEZE_MASK
riding through, MPPT_STEP forms P from the energy gained over STEP_MS, keeps it in P_LAST and moves the reference by one DV in the direction chosen, and a sweep that has
waited starts. A due sweep in TRACK starts at VMAX. SWEEP_DWELL_END measures the step and moves the reference to the next step, or after the last to V_BEST in TRACK.
Rests on: 09_grid_functions.md R185, 09_grid_functions.md R193, 09_grid_functions.md R195, 09_grid_functions.md R201, 09_grid_functions.md R202. -/
def Obligations.GridAndMppt : Prop :=
  (∀ s : State, Runs .gridEvaluation s ((s.eachCh fun s c => if crownUp s && !(s.ch c).hold then settle c (gridChannel c s) else s).eachCh fun s c => mpptHoldCheck c s)) ∧
  (∀ (c : Ch) (e : Elem) (s : State), crownUp s = true → (s.ch c).hold = false → gridOn c s = true → bit (s.grid c).expired (elemIx e) = true →
    let a := s.eachCh fun x d => if bit (s.rd Reg.GridCfg.GROUP (cI c)) d.val && pgIsRunning d x && !isStandby x then sendOrder d false (settle d (squallRequest d 1 x)) else x
    Runs (.gridTrip c e) s (mpptHoldAll ((gridMembers c a).foldl (fun s x =>
      let w := enterWait x (if x = c then elemIx e + 1 else lowestCause (s.grid x).expired) s
      settle x (((w.wr Reg.GridStat.TRIP_TIME (cI x) 0 w.time).count Reg.GridStat.TRIP_CNT (cI x)).setGrid x fun g => { g with expired := 0 })) a))) ∧
  (∀ (c : Ch) (s : State), gridOn c s = true → (∀ x ∈ gridMembers c s, gridState x s = gsWait ∧ (s.grid x).due = true ∧ (s.grid x).expired = 0 ∧ s.rd Reg.PgStat.STATE (cI x) = pgRunning ∧ crownLeads x s = true) →
    Runs (.gridReconnect c) s (mpptHoldAll ((gridMembers c s).foldl (fun s x => enterRamp x s) s))) ∧
  (∀ (c : Ch) (s : State), gridOn c s = true → isStandby s = false → (∀ x ∈ gridMembers c s, gridState x s = gsWait ∧ (s.grid x).due = true ∧ (s.grid x).expired = 0 ∧ s.rd Reg.PgStat.STATE (cI x) = pgStopped ∧ crownLeads x s = true) →
    ((gridMembers c s).any fun x => (s.grid x).told) = true → let r := startMembers (gridMembers c s) s
    Runs (.gridReconnect c) s (if r.1 then reconFail (gridMembers c s) (unstart r.2.1 r.2.2) else mpptHoldAll ((gridMembers c s).foldl (fun s x => enterRamp x s) r.2.2))) ∧
  (∀ (c : Ch) (s : State), gridState c (enterRamp c s) = gsRamp ∧ (enterRamp c s).rd Reg.GridStat.READY (cI c) = 0) ∧
  (∀ (c : Ch) (s : State), crownUp s = true → (s.ch c).hold = false → mpptHoldCheck c s = s → mpptState c s = mpTrack →
    let p := mpptPower (netEnergy c s - (s.mppt c).energy) (s.rd Reg.MpptCfg.STEP_MS (cI c))
    let a := s.wr Reg.MpptStat.P_LAST (cI c) 0 p
    let r := mpptMove c p a
    let b := setMpptState c r.1 (a.setMppt c fun m => { m with energy := netEnergy c s, pPrev := some p, up := r.2.1 })
    Runs (.mpptStep c) s (settle c (sweepStart c (setVref c (b.rdS Reg.MpptStat.VREF (cI c) + r.2.2 * b.rdS Reg.MpptCfg.DV (cI c)) b)))) ∧
  (∀ (c : Ch) (s : State), crownUp s = true → (s.ch c).hold = false → s.rdB Reg.MpptCfg.EN (cI c) = true → mpptFrozen c s = false → mpptState c s = mpTrack → s.rd Reg.MpptCfg.SWEEP_MIN (cI c) ≠ 0 →
    let b := (s.setMppt c fun m => { m with due := true }).setMppt c fun m => { m with before := s.rdS Reg.MpptStat.VREF (cI c), sweepStep := 0, best := none, energy := netEnergy c s, due := false }
    Runs (.mpptSweep c) s (settle c (setVref c (s.rdS Reg.MpptCfg.VMAX (cI c)) (setMpptState c mpSweep b)))) ∧
  (∀ (c : Ch) (s : State), crownUp s = true → (s.ch c).hold = false → mpptHoldCheck c s = s → mpptState c s = mpSweep → (s.mppt c).sweepStep + 1 < s.rd Reg.MpptCfg.SWEEP_N (cI c) →
    let p := mpptPower (netEnergy c s - (s.mppt c).energy) (s.rd Reg.MpptCfg.SWEEP_MS (cI c))
    ∃ u v, Runs (.sweepDwellEnd c) s (settle c u) ∧ u = setVref c (sweepRef c ((s.mppt c).sweepStep + 1) v) v ∧ (v.mppt c).sweepStep = (s.mppt c).sweepStep + 1 ∧ v.rd Reg.MpptStat.P_LAST (cI c) = p % 2 ^ Reg.MpptStat.P_LAST.w) ∧
  (∀ (c : Ch) (s : State), crownUp s = true → (s.ch c).hold = false → mpptHoldCheck c s = s → mpptState c s = mpSweep → s.rd Reg.MpptCfg.SWEEP_N (cI c) ≤ (s.mppt c).sweepStep + 1 →
    let p := mpptPower (netEnergy c s - (s.mppt c).energy) (s.rd Reg.MpptCfg.SWEEP_MS (cI c))
    let b : Nat × Int := match (s.mppt c).best with
      | some b => if b.1 < p then (p, s.rdS Reg.MpptStat.VREF (cI c)) else b
      | none => (p, s.rdS Reg.MpptStat.VREF (cI c))
    ∃ v, Runs (.sweepDwellEnd c) s (settle c (setVref c b.2 v)) ∧ mpptState c v = mpTrack ∧ v.rd Reg.MpptStat.V_BEST (cI c) = enc Reg.MpptStat.V_BEST.w b.2)

/-- METER_SAMPLE, at an even tick whose count is a multiple of 12 500, gives every MF its sample and then ends a Lull measurement that is due; at another instant it does
nothing. An MF that neither runs nor owes its closing record takes no part, and a sample adds its active, reactive and apparent terms to the registers that their signs
choose, each modulo 2^64 µWh with the residue. METER_TIMER_MARK 160 samples after the mark before takes a mark; a mark queues one record with the next SEQ, the registers
as they stand, and restarts the count. NO_ZC after 500 samples without a crossing sets NO_ZC and F reads 0.
Rests on: 10_metering.md R212, 10_metering.md R214, 10_metering.md R217, 10_metering.md R220. -/
def Obligations.MeterSamplesAndMarks : Prop :=
  (∀ (raw : List (List (BitVec 24))) (s : State), sampleInstant s = true → Runs (.meterSample raw) s (s.eachCh fun s c => lullMeasEnd c (sampleChannel c (raw.getD c.val []) s))) ∧
  (∀ (c : Ch) (raw : List (BitVec 24)) (s : State), mfState c s ≠ 1 → (s.mf c).closing = false → sampleChannel c raw s = s) ∧
  (∀ ep eq es : Int, gains ep eq es =
    [if 0 ≤ ep then ep.toNat else 0, if ep < 0 then (-ep).toNat else 0, if 0 ≤ ep ∧ 0 ≤ eq then eq.toNat else 0, if ep < 0 ∧ 0 ≤ eq then eq.toNat else 0,
     if ep < 0 ∧ eq < 0 then (-eq).toNat else 0, if 0 ≤ ep ∧ eq < 0 then (-eq).toNat else 0, es.toNat]) ∧
  (∀ (acc : List Nat) (t : Terms) (k : Fin 28), acc.length = 28 → (accumulate acc t).getD k.val 0 =
    (acc.getD k.val 0 + (gains (t.ep.getD (k.val / 7) 0) (t.eq.getD (k.val / 7) 0) (t.es.getD (k.val / 7) 0)).getD (k.val % 7) 0) % 2 ^ 96) ∧
  (∀ (c : Ch) (s : State), mfState c s = 1 → 160 ≤ (s.mf c).markCnt → Runs (.meterTimerMark c) s (meterMark c true s)) ∧
  (∀ (c : Ch) (b : Bool) (s : State), ((meterMark c b s).mf c).seq = ((s.mf c).seq + 1) % 2 ^ 32 ∧ ((meterMark c b s).mf c).markCnt = 0 ∧
    ((meterMark c b s).mf c).recQ.length = (s.mf c).recQ.length + 1 ∧
    ∃ r, ((meterMark c b s).mf c).recQ.getLast? = some r ∧ r.regs = (s.mf c).acc ∧ r.seq = ((s.mf c).seq + 1) % 2 ^ 32 ∧ r.timer = b ∧ r.tb = s.time ∧ r.closed = false) ∧
  (∀ (c : Ch) (s : State), mfState c s = 1 → mfDc c s = false → s.rdB Reg.Cycle.NO_ZC (cI c) = false → 500 ≤ (s.mf c).zcCnt →
    ∃ t, exec (.noZc c) s = .next t ∧ t.rd Reg.Cycle.NO_ZC (cI c) = 1 ∧ t.rd Reg.Cycle.F_MHZ (cI c) = 0 ∧ (t.mf c).acc = (s.mf c).acc ∧ (t.mf c).recQ = (s.mf c).recQ)

/-- METER_COMMIT completes the oldest waiting record in the slot that does not hold the newest, and SEQ reads its number. AGGREGATE_10MIN and FREQUENCY_10S, at a boundary of
the RTC not yet taken, close their aggregates in every channel: the sums start again, and F_10S is the whole cycles divided by their total duration where there are any.
BILLING_RECORD_STORED stores the record of the session stopped first under the number NEXT_RECORD, ends its SESSION_STOP with DONE, and NEXT_RECORD is one more.
Rests on: 10_metering.md R216, 10_metering.md R221, 10_metering.md R226, 13_command_reference.md R303. -/
def Obligations.MeterRecordsAndAggregates : Prop :=
  (∀ (c : Ch) (r : MRec) (rest : List MRec) (s : State), (s.mf c).recQ = r :: rest → Runs (.meterCommit c) s (meterCommitEff c s)) ∧
  (∀ (c : Ch) (r : MRec) (rest : List MRec) (s : State), (s.mf c).recQ = r :: rest → r.seq < 2 ^ 32 → ∃ t, exec (.meterCommit c) s = .next t ∧ (t.mf c).recQ = rest ∧ t.rd Reg.MeterStat.SEQ (cI c) = r.seq ∧
    (if (s.mf c).newest.isSome ∧ newestIsB (s.mf c) = false then (t.mf c).slotB = some r ∧ (t.mf c).slotA = (s.mf c).slotA
     else (t.mf c).slotA = some r ∧ (t.mf c).slotB = (s.mf c).slotB)) ∧
  (∀ s : State, s.rd Reg.Rtc.RTC % (600 * 32768) = 0 → (∀ c, (s.mf c).agg10At ≠ some (s.rd Reg.Rtc.RTC)) → ∃ t, exec .aggregate10min s = .next t ∧ ∀ c, (t.mf c).agg10At = some (s.rd Reg.Rtc.RTC) ∧ (t.mf c).agg10 = AggSum.zero ∧ (t.mf c).agg150.n = 0 ∧ (t.mf c).acc = (s.mf c).acc) ∧
  (∀ s : State, s.rd Reg.Rtc.RTC % (10 * 32768) = 0 → (∀ c, (s.mf c).f10At ≠ some (s.rd Reg.Rtc.RTC)) → ∃ t, exec .frequency10s s = .next t ∧ ∀ c, (t.mf c).f10At = some (s.rd Reg.Rtc.RTC) ∧ (t.mf c).f10Cycles = 0 ∧ (0 < (s.mf c).f10Cycles → t.rd Reg.Aggr.F_10S_MHZ (cI c) = freqMean (s.mf c).f10Cycles (s.mf c).f10Len) ∧ (t.mf c).acc = (s.mf c).acc) ∧
  (∀ (c : Ch) (w : Waiter) (i : SessInfo) (r : MRec) (rest : List (Waiter × SessInfo × MRec)) (s : State), (s.mf c).signing = (w, i, r) :: rest → billsHeld s < 4096 → s.rd Reg.Bill.NEXT_RECORD + 1 < 2 ^ 32 →
    ∃ t, exec (.billingRecordStored c) s = .next t ∧ t.rd Reg.Bill.NEXT_RECORD = s.rd Reg.Bill.NEXT_RECORD + 1 ∧ (t.mf c).signing = rest ∧
      (t.bills.head?.map Prod.fst) = some (s.rd Reg.Bill.NEXT_RECORD) ∧ (t.report.map Report.status) = some stDone)

/-- At the end of a cycle its entry joins the FIFO while fewer than 80 stand there. On overflow the new entry is dropped and counted in FIFO_DROP_CNT, which stays at its
largest value. Entries already held stay as they are and in their order.
Rests on: 10_metering.md R215. -/
def Obligations.CycleFifo : Prop :=
  (∀ (c : Ch) (len : Rat) (f e : Nat) (s : State), (s.mf c).fifo.length < 80 →
    ∃ x, ((cycleEnd c len f e s).mf c).fifo = (s.mf c).fifo ++ [x] ∧ x.f = f ∧ x.len = len ∧
      (cycleEnd c len f e s).rd Reg.MeterStat.FIFO_DROP_CNT (cI c) = s.rd Reg.MeterStat.FIFO_DROP_CNT (cI c)) ∧
  (∀ (c : Ch) (len : Rat) (f e : Nat) (s : State), 80 ≤ (s.mf c).fifo.length → s.rd Reg.MeterStat.FIFO_DROP_CNT (cI c) < 2 ^ Reg.MeterStat.FIFO_DROP_CNT.w →
    ((cycleEnd c len f e s).mf c).fifo = (s.mf c).fifo ∧
      (cycleEnd c len f e s).rd Reg.MeterStat.FIFO_DROP_CNT (cI c) = min (s.rd Reg.MeterStat.FIFO_DROP_CNT (cI c) + 1) (2 ^ Reg.MeterStat.FIFO_DROP_CNT.w - 1))

/-- While the safety island is powered: an input that rises or falls outside its hysteresis band is resolved and has that level; one inside the band keeps what it has. A
demand is recognised only outside the own test window of the input, latches the Guard of every mapped channel and is judged in every channel; it ends when the input
permits. TP_PULSE_START opens the window of its TP and arms the inputs of that TP that read high, TP_PULSE_END ends the off-pulse, TEST_WINDOW_CLOSE closes the window,
and a low that began in it is forgotten. TP_PULSE_CHECK judges the frame of an input: a fault for the first time is counted, in the next frame too it locks out the mapped
channels (cause 7 missing, 8 foreign).
Rests on: 11_safety.md R237, 11_safety.md R239, 11_safety.md R240, 11_safety.md R242. -/
def Obligations.SafetyInputsAndTestPulses : Prop :=
  (∀ (i : Fin 16) (s : State), Runs (.sinChange i .band) s s) ∧
  (∀ (i : Fin 16) (h : Bool) (s : State), s.safe.on = true → ∃ t, exec (.sinChange i (if h then .high else .low)) s = .next t ∧ (t.sin i).high = h ∧ sinUnres i t = false ∧
    t.safe.chs = s.safe.chs ∧ t.rd Reg.Safe.SIN_STATE = s.rd Reg.Safe.SIN_STATE) ∧
  (∀ (i : Fin 16) (s : State), s.safe.on = true → sinAtDemand i s = true → ownWindow i s = false →
    let a := s.wrBit Reg.Safe.SIN_STATE 0 0 i.val false
    Runs (.sinDemandRecognised i) s (safeEvalAll (allCh.foldl (fun s c => if bit (sinMask i a) c.val then s.setSc c fun x => { x with latch := true } else s) a))) ∧
  (∀ (i : Fin 16) (s : State), ownWindow i s = true → Runs (.sinDemandRecognised i) s s) ∧
  (∀ (i : Fin 16) (s : State), s.safe.on = true → sinAtDemand i s = false → Runs (.sinDemandEnd i) s (safeEvalAll (s.wrBit Reg.Safe.SIN_STATE 0 0 i.val true))) ∧
  (∀ (k : Fin 8) (s : State), s.safe.on = true → ∃ t, exec (.tpPulseStart k) s = .next t ∧ bit t.safe.winOpen k.val = true ∧ bit t.safe.tpOff k.val = true ∧ t.regs = s.regs ∧ t.chans = s.chans) ∧
  (∀ (k : Fin 8) (s : State), s.safe.on = true → ∃ t, exec (.tpPulseEnd k) s = .next t ∧ bit t.safe.tpOff k.val = false ∧ t.safe.winOpen = s.safe.winOpen ∧ t.safe.sins = s.safe.sins ∧ t.regs = s.regs) ∧
  (∀ (k : Fin 8) (s : State), s.safe.on = true → ∃ t, exec (.testWindowClose k) s = .next t ∧ bit t.safe.winOpen k.val = false ∧ t.safe.tpOff = s.safe.tpOff ∧ t.regs = s.regs ∧
    ∀ i : Fin 16, t.sin i = if (s.sin i).lowIn = some k.val then { s.sin i with lowIn := none } else s.sin i) ∧
  (∀ (i : Fin 16) (s : State), s.safe.on = true → (s.sin i).startSeen = true →
    let x := s.sin i
    let a := s.setSin i fun y => { y with startSeen := false, armed := false, fell := false, foreign := false, prevMissing := x.armed && !x.fell, prevForeign := x.foreign, frame := some (x.armed && !x.fell, x.foreign) }
    Runs (.tpPulseCheck i) s (tpFault i x.foreign x.prevForeign 8 (tpFault i (x.armed && !x.fell) x.prevMissing 7 a))) ∧
  (∀ (i : Fin 16) (cause : Nat) (s : State), tpFault i true false cause s = s.count Reg.Safe.TP_TRANSIENT_CNT ∧ tpFault i true true cause s = lockOut (sinMask i s) cause i.val s)

/-- While the safety island is powered, each of these locks out exactly the channels of its scope in Table 11.4 with its cause and detail, and does nothing else: a TP line
fault, a discrepancy that has lasted, a lost Guard heartbeat (all channels, whose Guard notes it), a readback fault of GEN_A or GEN_B, paths that disagree, a failed self-
test of the safety processor. Every channel of the scope is then LOCKED. CONFIG_CRC_CHECK locks out each channel whose Guard copy differs. FEIDE_WATCHDOG_EXPIRE in RUN
fails the connection and locks out its channels with cause 10.
Rests on: 11_safety.md R234, 11_safety.md R235, 11_safety.md R236, 11_safety.md R238, 11_safety.md R241, 11_safety.md R254, Table 11.4. -/
def Obligations.LockOutCauses : Prop :=
  (∀ (k : Fin 8) (s : State), s.safe.on = true → Runs (.tpLineFault k) s (lockOut (allIx.foldl (fun m i => if sinTp i s = some k.val then m ||| sinMask i s else m) 0) 12 k.val s)) ∧
  (∀ (p : Fin 8) (s : State), let a : Fin 16 := ⟨2 * p.val, by omega⟩; let b : Fin 16 := ⟨2 * p.val + 1, by omega⟩
    s.safe.on = true → 2 ≤ sinType a s → sinPermits a s ≠ sinPermits b s ∨ sinUnres a s = true ∨ sinUnres b s = true → Runs (.discrepancyExpire p) s (lockOut (sinMask a s) 9 a.val s)) ∧
  (∀ (c : Ch) (s : State), s.safe.on = true → Runs (.guardHeartbeatLoss c) s (safeEvalAll (lockOut 0xFF 4 c.val (s.setSc c fun x => { x with hb := false })))) ∧
  (∀ (c : Ch) (b : Bool) (s : State), s.safe.on = true → Runs (.enableReadbackFault c b) s (lockOut (2 ^ c.val) (if b then 2 else 1) 0 s)) ∧
  (∀ (c : Ch) (i : Fin 16) (s : State), s.safe.on = true → Runs (.pathDisagree c i) s (lockOut (2 ^ c.val) 5 i.val s)) ∧
  (∀ (x : Byte) (s : State), s.safe.on = true → Runs (.safetySelfTestFail x) s (lockOut 0xFF 11 x.toNat s)) ∧
  (∀ s : State, s.safe.on = true → Runs .configCrcCheck s (allCh.foldl (fun t c => if (t.sc c).guardCrc ≠ s.rd Reg.Safe.CFG_CRC then lockOut (2 ^ c.val) 6 0 t else t) s)) ∧
  (∀ (k : Fin 16) (s : State), s.safe.on = true → connState k s = 2 → Runs (.feideWatchdogExpire k) s (lockOut (connMask k s) 10 k.val ((setConnState k 3 s).raise 491))) ∧
  (∀ (k : Fin 8) (c : Ch) (b : Bool) (i : Fin 16) (x : Byte) (s : State), s.safe.on = true →
    ∀ f ∈ [(Instr.tpLineFault k, allIx.foldl (fun m i => if sinTp i s = some k.val then m ||| sinMask i s else m) 0), (.guardHeartbeatLoss c, 0xFF), (.enableReadbackFault c b, 2 ^ c.val),
      (.pathDisagree c i, 2 ^ c.val), (.safetySelfTestFail x, 0xFF)], ∃ t, exec f.1 s = .next t ∧ ∀ d : Ch, bit f.2 d.val = true → safeState d t = sfLocked)

/-- While the safety island is powered: after a lock-out of a scope, every channel of the scope is LOCKED. A channel of the scope that was not LOCKED carries the token of
this event, which is not 0 and the same for all of them, with the cause and the detail; a channel already LOCKED keeps token, cause and detail. LOCK_SERIAL has advanced
by one if a channel was newly locked. No enable of a channel of the scope is commanded high any more.
Rests on: 11_safety.md R248, 11_safety.md R244, Table 11.3. -/
def Obligations.LockOutLocks : Prop :=
  ∀ (mask cause detail : Nat) (s : State), s.safe.on = true → cause < 256 → detail < 256 →
    (∀ c : Ch, bit mask c.val = true → safeState c (lockOut mask cause detail s) = sfLocked) ∧
    (∀ c : Ch, bit mask c.val = true → safeState c s = sfLocked →
      (lockOut mask cause detail s).rd Reg.Safe.TOKEN 0 c.val = s.rd Reg.Safe.TOKEN 0 c.val ∧ (lockOut mask cause detail s).rd Reg.Safe.L_CAUSE 0 c.val = s.rd Reg.Safe.L_CAUSE 0 c.val) ∧
    (∀ c : Ch, bit mask c.val = true → safeState c s ≠ sfLocked →
      let tok := tokenOf ((s.rd Reg.Safe.LOCK_SERIAL + 1) % 2 ^ 32) mask cause detail (s.rd Reg.Rtc.RTC)
      (lockOut mask cause detail s).rd Reg.Safe.TOKEN 0 c.val = tok % 2 ^ 32 ∧ tok ≠ 0 ∧ (lockOut mask cause detail s).rd Reg.Safe.L_CAUSE 0 c.val = cause ∧
      (lockOut mask cause detail s).rd Reg.Safe.L_DETAIL 0 c.val = detail ∧ (lockOut mask cause detail s).rd Reg.Safe.LOCK_SERIAL = (s.rd Reg.Safe.LOCK_SERIAL + 1) % 2 ^ 32) ∧
    (∀ (c : Ch) (b : Bool), bit mask c.val = true → genCommand c b (lockOut mask cause detail s) = false)

/-- While the safety island is powered: a SACK press ends as R246 says, a valid one clears ACK_STUCK and the E_PEND of every channel without a demand, and every channel is
judged again; ACK_STUCK sets SACK and ACK_STUCK and raises event 490. CHECK_COMPLETE of a channel in CHECK, once its inputs have completed a frame, locks it out (cause 6
for a configuration CRC, 3 for the start test, 7 or 8 for an input's test pulse) or takes it to HOLD_E with TEST_AGE_H 0, from where the judgement may take it on. The
periodic start test of a stopped channel in PERMIT at 720 hours restarts TEST_AGE_H or locks out. TEST_AGE_INCREMENT counts and sets TEST_DUE from 8760 on. SP_HEARTBEAT
brings every Guard its heartbeat. SAFETY_STOP_ORDER stops a channel that owes its stop.
Rests on: 11_safety.md R245, 11_safety.md R246, 11_safety.md R247, 11_safety.md R250, Table 11.3. -/
def Obligations.AcknowledgeAndChecks : Prop :=
  (∀ (held low : Nat) (s : State), s.safe.on = true → Runs (.sackRelease held low) s (sackEff held low s)) ∧
  (∀ (held low : Nat) (s : State), s.safe.on = true → 50000 ≤ held → held ≤ 3000000 → 50000 ≤ low → ∃ u, Runs (.sackRelease held low) s (safeEvalAll u) ∧ u.rd Reg.Safe.SACK = 0 ∧ u.rd Reg.Safe.ACK_STUCK = 0 ∧
    ∀ c : Ch, (safeState c s = sfCheck ∨ safeState c s = sfHoldE) → demandOn c s = false → u.rd Reg.Safe.E_PEND 0 c.val = 0) ∧
  (∀ (held low : Nat) (c : Ch) (s : State), 50000 ≤ held → held ≤ 3000000 → 50000 ≤ low → safeState c s = sfHoldE → demandOn c s = false →
    (sackEff held low s).rd Reg.Safe.E_PEND 0 c.val = 0) ∧
  (∀ (held low : Nat) (c : Ch) (s : State), held < 50000 ∨ 3000000 < held ∨ low < 50000 → s.rd Reg.Safe.E_PEND 0 c.val = 1 → (sackEff held low s).rd Reg.Safe.E_PEND 0 c.val = 1) ∧
  (∀ s : State, s.safe.on = true → Runs .ackStuck s (((s.wr Reg.Safe.SACK 0 0 1).wr Reg.Safe.ACK_STUCK 0 0 1).raise 490)) ∧
  (∀ (c : Ch) (s : State), s.safe.on = true → safeState c s = sfCheck → sinCheckWaits c s = false → sinCheckFails c s = none → (s.sc c).guardCrc = s.rd Reg.Safe.CFG_CRC → (s.rd Reg.SafeIn.EXPECT_CRC = 0 ∨ s.rd Reg.SafeIn.EXPECT_CRC = s.rd Reg.Safe.CFG_CRC) →
    Runs (.checkComplete c none) s (safeEvalAll (((s.wr Reg.Safe.TEST_AGE_H 0 c.val 0).wr Reg.Safe.TEST_DUE 0 c.val 0).wr Reg.Safe.STATE 0 c.val sfHoldE))) ∧
  (∀ (c : Ch) (b : Bool) (s : State), s.safe.on = true → safeState c s = sfCheck → sinCheckWaits c s = false → (s.sc c).guardCrc = s.rd Reg.Safe.CFG_CRC → (s.rd Reg.SafeIn.EXPECT_CRC = 0 ∨ s.rd Reg.SafeIn.EXPECT_CRC = s.rd Reg.Safe.CFG_CRC) →
    Runs (.checkComplete c (some b)) s (lockOut (2 ^ c.val) 3 b.toNat s)) ∧
  (∀ (c : Ch) (i : Fin 16) (k : Nat) (s : State), s.safe.on = true → safeState c s = sfCheck → sinCheckWaits c s = false → sinCheckFails c s = some (i, k) → (s.sc c).guardCrc = s.rd Reg.Safe.CFG_CRC → (s.rd Reg.SafeIn.EXPECT_CRC = 0 ∨ s.rd Reg.SafeIn.EXPECT_CRC = s.rd Reg.Safe.CFG_CRC) →
    Runs (.checkComplete c none) s (lockOut (sinMask i s) k i.val ((s.wr Reg.Safe.TEST_AGE_H 0 c.val 0).wr Reg.Safe.TEST_DUE 0 c.val 0))) ∧
  (∀ (c : Ch) (x : Option Bool) (s : State), s.safe.on = true → safeState c s = sfCheck → sinCheckWaits c s = false → (s.sc c).guardCrc ≠ s.rd Reg.Safe.CFG_CRC → Runs (.checkComplete c x) s (lockOut (2 ^ c.val) 6 0 s)) ∧
  (∀ (c : Ch) (s : State), s.safe.on = true → safeState c s = sfPermit → s.rd Reg.PgStat.STATE (cI c) = 0 → 720 ≤ s.rd Reg.Safe.TEST_AGE_H 0 c.val →
    ∃ t, exec (.periodicStartTest c none) s = .next t ∧ t.rd Reg.Safe.TEST_AGE_H 0 c.val = 0 ∧ safeState c t = sfPermit ∧ (t.sc c).afterTest = true) ∧
  (∀ (c : Ch) (s : State), s.safe.on = true → s.rd Reg.Safe.TEST_AGE_H 0 c.val + 1 < 2 ^ Reg.Safe.TEST_AGE_H.w →
    ∃ t, exec (.testAgeIncrement c) s = .next t ∧ t.rd Reg.Safe.TEST_AGE_H 0 c.val = s.rd Reg.Safe.TEST_AGE_H 0 c.val + 1 ∧
      t.rdB Reg.Safe.TEST_DUE 0 c.val = decide (8760 ≤ s.rd Reg.Safe.TEST_AGE_H 0 c.val + 1)) ∧
  (∀ s : State, s.safe.on = true → Runs .spHeartbeat s (safeEvalAll (s.eachCh fun s c => s.setSc c fun x => { x with hb := true }))) ∧
  (∀ (c : Ch) (s : State), crownUp s = true → (s.sc c).stopDue = true → isStandby s = false →
    Runs (.safetyStopOrder c) s (sendOrder c false (settle c (squallRequest c 1 (s.setSc c fun x => { x with stopDue := false })))))

/-- A frame that reaches a running Crown is handed to the safety processor. In RUN a frame that passes every check and carries the next SEQ is taken: its SEQ and PERMIT stand
in the connection; a repetition only counts; a first failure is transient and a second one in a row fails the connection and locks its channels out with cause 10. A
produced connection forms one frame with the next SEQ.
Rests on: 11_safety.md R252, 11_safety.md R253, 11_safety.md R254, 11_safety.md R255, 11_safety.md R256. -/
def Obligations.FeideFrames : Prop :=
  (∀ (ident : BitVec 29) (ide : Bool) (bs : List Byte) (s : State), crownUp s = true → Runs (.feideFrameReceive .host ident ide bs) s (feideReceive .host ident ide bs s)) ∧
  (∀ (p : Fin 2) (ident : BitVec 29) (ide : Bool) (bs : List Byte) (s : State), crownUp s = true →
    Runs (.feideFrameReceive (.hb p) ident ide bs) s (feideReceive (.hb p) ident ide bs (hbConsume p tyFeide s))) ∧
  (∀ (c : Fin 4) (ident : BitVec 29) (ide : Bool) (bs : List Byte) (s : State), crownUp s = true → Runs (.feideFrameReceive (.can c) ident ide bs) s
    (canService c (feideReceive (.can c) ident ide bs (s.setCan c fun x => { x with fifo0 := x.fifo0.eraseP fun f => f.ident == ident && f.ide == ide && f.data == bs })))) ∧
  (∀ (ident : BitVec 29) (ide : Bool) (bs : List Byte) (k : Fin 16) (s : State), crownUp s = true → s.safe.on = true → feideConn .host ident ide bs s = some k → feideValid k bs s = true →
    connState k s = 2 → leAt bs 2 2 = ((s.conn k).seq + 1) % 65536 → ∃ t, exec (.feideFrameReceive .host ident ide bs) s = .next t ∧ (t.conn k).seq = leAt bs 2 2 ∧
      (t.conn k).permit = decide (leAt bs 12 1 = 1) ∧ connState k t = 2) ∧
  (∀ (t : Transport) (ident : BitVec 29) (ide : Bool) (bs : List Byte) (k : Fin 16) (s : State), s.safe.on = true → feideConn t ident ide bs s = some k → feideValid k bs s = true →
    (connState k s = 2 ∧ leAt bs 2 2 = ((s.conn k).seq + 1) % 65536) ∨ connState k s = 1 →
    ((feideReceive t ident ide bs s).conn k).seq = leAt bs 2 2 ∧ ((feideReceive t ident ide bs s).conn k).permit = decide (leAt bs 12 1 = 1) ∧ connState k (feideReceive t ident ide bs s) = 2) ∧
  (∀ (t : Transport) (ident : BitVec 29) (ide : Bool) (bs : List Byte) (k : Fin 16) (s : State), s.safe.on = true → feideConn t ident ide bs s = some k → feideValid k bs s = true →
    connState k s = 2 → leAt bs 2 2 = (s.conn k).seq →
    feideReceive t ident ide bs s = (s.count Reg.Safe.FEIDE_DUP_CNT).setConn k fun x => { x with failed := false }) ∧
  (∀ (t : Transport) (ident : BitVec 29) (ide : Bool) (bs : List Byte) (k : Fin 16) (s : State), s.safe.on = true → feideConn t ident ide bs s = some k → feideValid k bs s = false → connState k s = 2 →
    feideReceive t ident ide bs s = if (s.conn k).failed = true then lockOut (connMask k s) 10 k.val ((setConnState k 3 s).raise 491)
      else (s.count Reg.Safe.FEIDE_TRANSIENT_CNT).setConn k fun x => { x with failed := true }) ∧
  (∀ (k : Fin 16) (s : State), s.safe.on = true → s.rd Reg.Feide.DIR 0 k.val = 2 →
    ∃ t, exec (.feideProduce k) s = .next t ∧ (t.conn k).txSeq = ((s.conn k).txSeq + 1) % 65536 ∧ (t.conn k).frame = some (feideFrame k s) ∧ (t.conn k).seq = (s.conn k).seq)

/-- When an accepted configuration takes effect, CFG_CRC is the Feide CRC taken over the image of object 0x3F00 followed by that of object 0x3F01, and every Guard holds the
copy with that CRC. It also stays what it was computed from: taking the configuration changes no field of either object.
Rests on: 11_safety.md R257, 11_safety.md R236. -/
def Obligations.SafetyConfigurationCrc : Prop :=
  ∀ s : State, (safetyTake s).rd Reg.Safe.CFG_CRC = safetyCrc s % 2 ^ 32 ∧ safetyCrc (safetyTake s) = safetyCrc s ∧ (∀ c : Ch, ((safetyTake s).sc c).guardCrc = safetyCrc s) ∧
    safetyCrc s = feideCrc (imageOf 136 0 Reg.SafeIn.fields s ++ imageOf 260 0 Reg.Feide.fields s) ∧
    (∀ bs : List Byte, feideCrc bs = crcLeft 0xF4ACFB13 0xFFFFFFFF 0xFFFFFFFF bs)

/-- On a device that can serve, a SUBMIT, POLL, ABORT, HELLO or CREDIT row of any transport brings a frame - on the host port its own, elsewhere the oldest that has arrived
whole - and when that passes every check of R267 answers the state in which its operation has been served. A frame that fails a check has no effect but its count in
FRAME_ERR_CNT and the FRAME_ERROR reply with the number of that check. HP_NCS_RISE ends the transaction: a reply clocked to its end delivers its response, and one cut off
delivers nothing.
Rests on: 12_crown_mailboxes.md R265, 12_crown_mailboxes.md R267, 13_command_reference.md R296. -/
def Obligations.FramesServedOrRefused : Prop :=
  (∀ (t : Transport) (f g : HostFrame) (s u : State), Brings t f s g u →
    (frameBad (hfOp g opSubmit) t g u = none → Runs (.submit t f) s (frameServe (hfOp g opSubmit) t g u)) ∧ (frameBad (hfOp g opPoll) t g u = none → Runs (.poll t f) s (frameServe (hfOp g opPoll) t g u)) ∧
    (frameBad (hfOp g opAbort) t g u = none → Runs (.abort t f) s (frameServe (hfOp g opAbort) t g u)) ∧ (frameBad (hfOp g opHello) t g u = none → Runs (.hello t f) s (frameServe (hfOp g opHello) t g u)) ∧
    (frameBad (hfOp g opCredit) t g u = none → Runs (.credit t f) s (frameServe (hfOp g opCredit) t g u))) ∧
  (∀ (t : Transport) (f g : HostFrame) (s u : State), Brings t f s g u →
    ∀ x ∈ [(Instr.submit t f, opSubmit), (.poll t f, opPoll), (.abort t f, opAbort), (.hello t f, opHello), (.credit t f, opCredit)],
      ∀ d, frameBad (hfOp g x.2) t g u = some d → Runs x.1 s (frameRefuse (hfOp g x.2) t g d u)) ∧
  (∀ (f : HostFrame) (s : State), canServe s = true → (s.crown.held.any fun h => h.t == .host) = false → Brings .host f s f (replySent s)) ∧
  (∀ (op : Nat) (f : HostFrame) (d : Nat) (s : State), f.cut = false →
    frameRefuse op .host f d s = { s.count Reg.HostStat.FRAME_ERR_CNT with crown := { s.crown with
      reply := some (.plain (replyFrame op f.mbx.toNat f.seq.toNat f.code.toNat 0 0 (replyHead stFrameError 0 stFrameError d ++ []))) } }) ∧
  (∀ s : State, Runs (.hpNcsRise false) s { s with crown := { s.crown with reply := none, direct := [] } }) ∧
  (∀ (r : Reply) (m : Mbx) (ep sq : Nat) (s : State), s.crown.reply = some r → r.delivers = some (m, ep, sq) → ∃ t, exec (.hpNcsRise true) s = .next t ∧ t.crown.reply = none ∧ t.crown.direct = [] ∧
    (t.mb m).cmds = (s.mb m).cmds.filter fun x => !(x.epoch == ep && x.seq == sq && !x.live)) ∧
  (∀ s : State, s.crown.reply.bind Reply.delivers = none → Runs (.hpNcsRise true) s { s with crown := { s.crown with reply := none, direct := [] } })

/-- A host frame that passes its checks and is served here: a SUBMIT with the expected number and a credit free makes NEXT S + 1 and the command stands last in its mailbox,
ACCEPTED, with its code and payload; without a credit, or with a number that is ahead, or with one that lies behind, no command joins any mailbox and NEXT stays. A POLL
with SEQ 0 replies with the response pending longest, and with none pending and for a CREDIT nothing changes but the reply and the lease of a lock. An ABORT of an
ACCEPTED command ends it ABORTED. A HELLO opens the next epoch, sets NEXT of every mailbox to START_SEQ and leaves no lock.
Rests on: 12_crown_mailboxes.md R271, 12_crown_mailboxes.md R275, 12_crown_mailboxes.md R277, 12_crown_mailboxes.md R278. -/
def Obligations.SubmitsAndPolls : Prop :=
  (∀ (f : HostFrame) (s : State), HostReady opSubmit f s → let u := replySent s
    seqDiff f u = 0 → (u.mb (hfMbx f)).queued < 8 → standbyBooks u = false →
    ∃ t, exec (.submit .host f) s = .next t ∧ t.rd Reg.HostStat.NEXT 0 (hfMbx f).val = (f.seq.toNat + 1) % 2 ^ 32 ∧
      ∃ k, (t.mb (hfMbx f)).cmds = (u.mb (hfMbx f)).cmds ++ [k] ∧ k.seq = f.seq.toNat ∧ k.code = f.code.toNat ∧ k.payload = hfBody f ∧ k.st = .accepted) ∧
  (∀ (f : HostFrame) (s : State), HostReady opPoll f s → let u := replySent s
    f.seq = 0 → (u.mb (hfMbx f)).pendingResp = 0 → ∃ t r, exec (.poll .host f) s = .next t ∧ t.crown.reply = some r ∧ r.delivers = none ∧ t.regs = u.regs ∧ (t.mb (hfMbx f)).cmds = (u.mb (hfMbx f)).cmds) ∧
  (∀ (f : HostFrame) (k : Cmd) (s : State), HostReady opPoll f s → let u := replySent s
    f.seq = 0 → ((u.mb (hfMbx f)).cmds.find? fun c => !c.live) = some k → booksFlow u = false → ∃ t r, exec (.poll .host f) s = .next t ∧ t.crown.reply = some r ∧ r.delivers = some (hfMbx f, k.epoch, k.seq) ∧ t.regs = u.regs) ∧
  (∀ (f : HostFrame) (k : Cmd) (s : State), HostReady opAbort f s → let u := replySent s
    seqDiff f u < 0 → ((u.mb (hfMbx f)).cmds.find? fun c => c.epoch == u.epoch && c.seq == f.seq.toNat) = some k → k.live = true → k.st = .accepted →
    ∃ t, exec (.abort .host f) s = .next t ∧ t.report = some ⟨(hfMbx f).val, stAborted, 0, []⟩ ∧ t.chans = s.chans) ∧
  (∀ (f : HostFrame) (s : State), HostReady opHello f s → ∃ t, exec (.hello .host f) s = .next t ∧ t.epoch = (s.epoch + 1) % 2 ^ 32 ∧
    ∀ m : Mbx, t.rd Reg.HostStat.NEXT 0 m.val = leAt (hfBody f) 4 4 ∧ (t.mb m).lock = none) ∧
  (∀ (f : HostFrame) (s : State), HostReady opCredit f s → let u := renewLease (hfMbx f) (replySent s)
    Runs (.credit .host f) s { u with crown := { u.crown with reply := some (.plain (replyFrame opCredit f.mbx.toNat f.seq.toNat f.code.toNat (baseFlags (hfMbx f) 0 u) 0
      (replyHead stDone 0 stDone 0 ++ (leBytes 1 (u.mb (hfMbx f)).queued ++ [0, 0, 0])))) } }) ∧
  (∀ (f : HostFrame) (s : State), seqDiff f s = 0 → (s.mb (hfMbx f)).queued < 8 → standbyBooks s = false →
    (submitServe .host f s).rd Reg.HostStat.NEXT 0 (hfMbx f).val = (f.seq.toNat + 1) % 2 ^ 32 ∧
    ∃ k, ((submitServe .host f s).mb (hfMbx f)).cmds = (s.mb (hfMbx f)).cmds ++ [k] ∧ k.seq = f.seq.toNat ∧ k.epoch = s.epoch ∧ k.code = f.code.toNat ∧ k.payload = hfBody f ∧ k.st = .accepted ∧ k.broken = (s.mb (hfMbx f)).lockBroken) ∧
  (∀ (f : HostFrame) (s : State), seqDiff f s = 0 → 8 ≤ (s.mb (hfMbx f)).queued → (submitServe .host f s).crown.mbxs = s.crown.mbxs ∧ (submitServe .host f s).regs = s.regs) ∧
  (∀ (f : HostFrame) (s : State), 0 < seqDiff f s → (submitServe .host f s).crown.mbxs = s.crown.mbxs ∧ (submitServe .host f s).regs = s.regs) ∧
  (∀ (f : HostFrame) (s : State), seqDiff f s < 0 → booksFlow s = false → (submitServe .host f s).regs = s.regs ∧
    ∀ m : Mbx, ((submitServe .host f s).mb m).cmds.length ≤ (s.mb m).cmds.length) ∧
  (∀ (f : HostFrame) (s : State), f.seq = 0 → (s.mb (hfMbx f)).pendingResp = 0 → ∃ r, pollServe .host f s = { s with crown := { s.crown with reply := some r } }) ∧
  (∀ (f : HostFrame) (s : State), ∃ r, creditServe .host f s = { s with crown := { s.crown with reply := some r } }) ∧
  (∀ (f : HostFrame) (s : State) (m : Mbx), (helloServe true .host f s).epoch = (s.epoch + 1) % 2 ^ 32 ∧ (helloServe true .host f s).rd Reg.HostStat.NEXT 0 m.val = leAt (hfBody f) 4 4 ∧ ((helloServe true .host f s).mb m).lock = none)

/-- With the Crown free, the oldest command of a mailbox that is not final, when it is ACCEPTED and no other mailbox has an earlier one, enters EXECUTING with its EXEC
record. One submitted to a mailbox whose lock was broken fails with LOCK_BROKEN without executing, and an unassigned command code fails with UNKNOWN_COMMAND. LEASE_EXPIRE
breaks a lock whose lease has ended, of a mailbox that this device serves.
Rests on: 12_crown_mailboxes.md R273, 12_crown_mailboxes.md R285, 13_command_reference.md R290. -/
def Obligations.ExecutionStarts : Prop :=
  (∀ (m : Mbx) (k : Cmd) (s : State), crownUp s = true → crownBusy s = false → actsFor m s = true → turnOf m s = some k → othersFirst m k s = false → k.broken = false → standbyBooks (jMark 3 m k.epoch k.seq s) = false → (k.code < 0x8000 ∨ knownCodes.contains k.code = true) →
    Runs (.commandExecStart m) s (setExecuting m k (jMark 3 m k.epoch k.seq s))) ∧
  (∀ (m : Mbx) (k : Cmd) (s : State), crownUp s = true → crownBusy s = false → actsFor m s = true → turnOf m s = some k → othersFirst m k s = false → k.broken = true →
    Runs (.commandExecStart m) s (completeW ⟨m, some (k.epoch, k.seq)⟩ (.fail stLockBroken 0) s)) ∧
  (∀ (m : Mbx) (k : Cmd) (s : State), crownUp s = true → crownBusy s = false → actsFor m s = true → turnOf m s = some k → othersFirst m k s = false → k.broken = false → standbyBooks (jMark 3 m k.epoch k.seq s) = false → 0x8000 ≤ k.code → knownCodes.contains k.code = false →
    Runs (.commandExecStart m) s (completeW ⟨m, some (k.epoch, k.seq)⟩ (.fail stUnknownCommand 0) (setExecuting m k (jMark 3 m k.epoch k.seq s)))) ∧
  (∀ (m : Mbx) (l : Lock) (s : State), crownUp s = true → actsFor m s = true → (s.mb m).lock = some l → l.lease ≤ s.time → Runs (.leaseExpire m) s (breakLock m s)) ∧
  (∀ (m : Mbx) (s : State), ((breakLock m s).mb m).lock = none) ∧
  (∀ (m : Mbx) (l : Lock) (s : State), (s.mb m).lock = some l → ((breakLock m s).mb m).lockBroken = true)

/-- While the port has a supply, DIRECT_READ answers the register in four little-endian bytes and the CRC-32C of the address and those bytes; registers above 0x0F read 0.
FORCE_SINGLE, a direct write of register 0x0F with bit 0 set and a matching CRC, returns the port to single-lane mode. A write with another CRC or of another register has
no effect.
Rests on: 12_crown_mailboxes.md R289, Table 12.10. -/
def Obligations.DirectWindow : Prop :=
  (∀ (a : Byte) (s : State), portOn s = true → Runs (.directRead a) s { s with crown := { s.crown with
    direct := leBytes 4 (directReg a.toNat s) ++ leBytes 4 (crc32c (a :: leBytes 4 (directReg a.toNat s))) } }) ∧
  (∀ (a : Byte) (s : State), 0x0F < a.toNat → directReg a.toNat s = 0) ∧
  (∀ s : State, directReg 0 s = 0x486000B1 ∧ directReg 1 s = s.rd Reg.Life.LIFECYCLE ∧ directReg 5 s = s.rd Reg.ClkStat.STATE ∧ directReg 8 s = s.rd Reg.Safe.SSTAT) ∧
  (∀ (d k : W32) (s : State), portOn s = true → k.toNat = crc32c (0x0F :: leBytes 4 d.toNat) → bit d.toNat 0 = true → Runs (.forceSingle 0x0F d k) s (s.wr Reg.HostStat.LANES 0 0 0)) ∧
  (∀ (a : Byte) (d k : W32) (s : State), a ≠ 0x0F ∨ k.toNat ≠ crc32c (a :: leBytes 4 d.toNat) → Runs (.forceSingle a d k) s s)

/-- A request that fails a check ends with the status of that check and no other effect: BAD_LENGTH with the length expected, LIFECYCLE_DENIED with the life-cycle state,
STATE_REFUSED from a mailbox that may not carry it, LOCKED_BY_OTHER with the group, FIELD_INVALID with the offset. Their order is the model's (log entry 47). LC_REQUEST
also takes a new nonce, a free value.
Rests on: 13_command_reference.md R297, 13_command_reference.md R299, 15_redundant_pair.md R336. -/
def Obligations.RequestChecks : Prop :=
  (∀ (i : Instr) (m : Mbx) (r : Req) (p : List Byte) (d : Done) (s : State), reqOf i = some (m, r, p) → crownUp s = true → rowMay m r.code p s = true → r.check m p s = some d → Ends i s (d, s)) ∧
  (∀ (m : Mbx) (p : List Byte) (d : Done) (s : State), crownUp s = true → rowMay m codeLcRequest p s = true → (lcReq p).check m p s = some d →
    Runs (.lcRequest m p) s (lcNonce (processed m (completeW (waiterOf m codeLcRequest s) d s)))) ∧
  (∀ (r : Req) (m : Mbx) (p : List Byte) (n : Nat) (s : State), r.len.bad p.length = some n → r.check m p s = some (.fail stBadLength n)) ∧
  (∀ (r : Req) (m : Mbx) (p : List Byte) (s : State), r.len.bad p.length = none → r.denied.contains (s.rd Reg.Life.LIFECYCLE) = true →
    r.check m p s = some (.fail stLifecycleDenied (s.rd Reg.Life.LIFECYCLE))) ∧
  (∀ (r : Req) (m : Mbx) (p : List Byte) (g : Nat) (s : State), r.len.bad p.length = none → r.denied.contains (s.rd Reg.Life.LIFECYCLE) = false → scopeOk m r.loc s = true →
    r.group = some g → lockedByOther m g s = true → r.check m p s = some (.fail stLockedByOther g)) ∧
  (∀ (r : Req) (m : Mbx) (p : List Byte) (off : Nat) (s : State), r.len.bad p.length = none → r.denied.contains (s.rd Reg.Life.LIFECYCLE) = false → scopeOk m r.loc s = true →
    (∀ g, r.group = some g → lockedByOther m g s = false) → r.bad = some off → r.check m p s = some (.fail stFieldInvalid off))

/-- A LOCK that passes its checks ends as its effect says. A LOCK of 1 to 16 groups that no other mailbox holds, from a mailbox without a lock, is DONE with the lease of 500
ms and the number of groups held, and the mailbox holds every group asked for. UNLOCK without a lock fails with NOT_LOCKED; with COMMIT = 0 it is DONE with 0, the lock is
gone and its staged writes with it; with COMMIT = 1 and every staged write accepted by the state in force it is DONE with their number; with one refused, none is applied
and it fails with that status and position.
Rests on: 12_crown_mailboxes.md R282, 12_crown_mailboxes.md R283, 12_crown_mailboxes.md R284. -/
def Obligations.LockCommands : Prop :=
  (∀ (m : Mbx) (p : List Byte) (s : State), Takes (.lock m p) s → Ends (.lock m p) s (lockEff m p s)) ∧
  (∀ (m : Mbx) (p : List Byte) (g : Nat) (s : State), (lockEff m p s).1.status = stDone → g ∈ (p.drop 2).map BitVec.toNat → holdsGroup m g (lockEff m p s).2 = true) ∧
  (∀ (m : Mbx) (p : List Byte) (g : Nat) (s : State), 1 ≤ pb p 0 → pb p 0 ≤ 16 → p.length = 2 + pb p 0 → pb p 1 = 0 → ((p.drop 2).map BitVec.toNat).find? (fun g => lockedByOther m g s) = some g →
    lockEff m p s = (.fail stLockedByOther g, s)) ∧
  (∀ (m : Mbx) (p : List Byte) (s : State), Takes (.lock m p) s → (s.mb m).lock = none → 1 ≤ pb p 0 → pb p 0 ≤ 16 → p.length = 2 + pb p 0 → pb p 1 = 0 →
    (∀ g ∈ (p.drop 2).map BitVec.toNat, lockedByOther m g s = false) →
    ∃ t, exec (.lock m p) s = .next t ∧ t.report = some ⟨m.val, stDone, 0, leBytes 2 500 ++ leBytes 1 (addGroups [] ((p.drop 2).map BitVec.toNat)).length ++ [0]⟩ ∧
      ∀ g ∈ (p.drop 2).map BitVec.toNat, holdsGroup m g t = true) ∧
  (∀ (m : Mbx) (p : List Byte) (s : State), Takes (.unlock m p) s → Ends (.unlock m p) s (unlockEff m (waiterOf m codeUnlock s) p s)) ∧
  (∀ (m : Mbx) (p : List Byte) (l : Lock) (s : State), Takes (.unlock m p) s → (s.mb m).lock = some l → pb p 0 = 0 →
    ∃ t, exec (.unlock m p) s = .next t ∧ t.report = some ⟨m.val, stDone, 0, [0, 0, 0, 0]⟩ ∧ (t.mb m).lock = none ∧ t.chans = s.chans) ∧
  (∀ (m : Mbx) (p : List Byte) (l : Lock) (s : State), Takes (.unlock m p) s → (s.mb m).lock = some l → pb p 0 = 1 → stagedRefused (waiterOf m codeUnlock s) s [] l.staged = none →
    ∃ t, exec (.unlock m p) s = .next t ∧ t.report = some ⟨m.val, stDone, 0, leBytes 1 l.staged.length ++ [0, 0, 0]⟩ ∧ (t.mb m).lock = none) ∧
  (∀ (m : Mbx) (w : Waiter) (p : List Byte) (s : State), (s.mb m).lock = none → unlockEff m w p s = (.fail stNotLocked 0, s)) ∧
  (∀ (m : Mbx) (w : Waiter) (p : List Byte) (s : State), ((unlockEff m w p s).2.mb m).lock = none) ∧
  (∀ (m : Mbx) (w : Waiter) (p : List Byte) (l : Lock) (st k : Nat) (s : State), (s.mb m).lock = some l → pb p 0 ≠ 0 → stagedRefused w s [] l.staged = some (st, k) →
    (unlockEff m w p s).1 = .fail st k ∧ (unlockEff m w p s).2.chans = s.chans ∧ (unlockEff m w p s).2.store = s.store)

/-- STORE_WRITE and STORE_READ end as their effects say: an extent beyond the slot fails with FIELD_INVALID 4, a read returns the bytes of the slot while its blocks can be
read. A write to a block that fails for good, and a read of a lost block, fail with INTERNAL (the read of a lost block that has a spare is the model's, log entry 102);
otherwise both are DONE. BANK_LOAD of a bank that is ACTIVE, ARMED or RETIRING fails with BANK_ACTIVE; with the loader free the bank is LOADING from the slot, else it
joins the queue. BANK_SWAP withdraws an outstanding swap first; a VALID bank becomes ACTIVE at once while the AT is STOPPED, and ARMED while it turns. SWAP_CANCEL reports
1 for a swap it withdraws, 2 for one that has taken effect unreported, and 0 otherwise. BANK_ERASE leaves the bank EMPTY at once unless it is loading, and then waits.
Rests on: 13_command_reference.md R302, 04_batt_tables.md R74, 04_batt_tables.md R76, 04_batt_tables.md R79, 04_batt_tables.md R431, Table 4.9, 16_fabric_and_memory.md R366. -/
def Obligations.StoreAndBankCommands : Prop :=
  (∀ (m : Mbx) (p : List Byte) (s : State), Takes (.storeWrite m p) s → Ends (.storeWrite m p) s (storeWriteEff m p s)) ∧
  (∀ (m : Mbx) (p : List Byte) (s : State), Takes (.storeRead m p) s → Ends (.storeRead m p) s (storeReadEff p s)) ∧
  (∀ (p : List Byte) (s : State), leAt p 4 4 + leAt p 8 2 ≤ bankSize → spanLost (storeBlock0 + 4096 * pb p 0) (leAt p 4 4) (leAt p 8 2) s = false → storeReadEff p s = (.ok 0 (SMap.scan 0 s.store (bankSize * pb p 0 + leAt p 4 4) (leAt p 8 2)), s)) ∧
  (∀ (m : Mbx) (p : List Byte) (s : State), Takes (.storeRead m p) s → leAt p 4 4 + leAt p 8 2 ≤ bankSize → spanLost (storeBlock0 + 4096 * pb p 0) (leAt p 4 4) (leAt p 8 2) s = false →
    Ends (.storeRead m p) s (.ok 0 (SMap.scan 0 s.store (bankSize * pb p 0 + leAt p 4 4) (leAt p 8 2)), s)) ∧
  (∀ (m : Mbx) (p : List Byte) (s : State), Takes (.storeWrite m p) s → leAt p 4 4 + (p.drop 8).length ≤ bankSize → slotActive (pb p 0) s = false →
    spanDead (storeBlock0 + 4096 * pb p 0) (leAt p 4 4) (p.drop 8).length s = false →
    ∃ t, exec (.storeWrite m p) s = .next t ∧ t.report = some ⟨m.val, stDone, 0, leBytes 4 (slotCrc (pb p 0) (storePut (pb p 0) (leAt p 4 4) (p.drop 8) s))⟩ ∧
      t.store = SMap.setRun 0 s.store (bankSize * pb p 0 + leAt p 4 4) (p.drop 8) ∧ t.chans = s.chans) ∧
  (∀ (m : Mbx) (p : List Byte) (s : State), Takes (.bankLoad m p) s → Runs (.bankLoad m p) s (processed m (bankLoadEff (chOf p) (waiterOf m codeLoad s) (pb p 1 == 1) (pb p 2) s))) ∧
  (∀ (m : Mbx) (p : List Byte) (s : State), Takes (.bankLoad m p) s → bankBusy (chOf p) (pb p 1 == 1) s = false → (s.batt (chOf p)).load = none → (s.batt (chOf p)).queue = [] →
    ∃ t, exec (.bankLoad m p) s = .next t ∧ bankState (chOf p) (pb p 1 == 1) t = bkLoading ∧ (t.batt (chOf p)).load = some ⟨waiterOf m codeLoad s, pb p 1 == 1, pb p 2, 0, []⟩ ∧ t.store = s.store) ∧
  (∀ (m : Mbx) (p : List Byte) (s : State), Takes (.bankLoad m p) s → bankBusy (chOf p) (pb p 1 == 1) s = false → (s.batt (chOf p)).load.isSome = true →
    Runs (.bankLoad m p) s (processed m (s.setBatt (chOf p) fun b => { b with queue := b.queue ++ [.load (waiterOf m codeLoad s) (pb p 1 == 1) (pb p 2)] }))) ∧
  (∀ (c : Ch) (w : Waiter) (b : Bool) (slot : Nat) (s : State), bankBusy c b s = true → bankLoadEff c w b slot s = completeW w (.fail stBankActive 0) s) ∧
  (∀ (m : Mbx) (p : List Byte) (s : State), Takes (.bankSwap m p) s → Runs (.bankSwap m p) s (processed m (bankSwapEff (chOf p) (waiterOf m codeSwap s) (pb p 1 == 1) s))) ∧
  (∀ (m : Mbx) (p : List Byte) (s : State), let c := chOf p; let b := pb p 1 == 1; let w := waiterOf m codeSwap s; let a := s.setBatt c fun x => { x with swapUnreported := false }
    Takes (.bankSwap m p) s → (s.batt c).swap = none → bankState c b s = bkValid → atStopped c s = true →
    Runs (.bankSwap m p) s (processed m (settle c (swapNow c b false (some w) a))) ∧ ∃ r, (swapNow c b false (some w) a).report = some ⟨m.val, stDone, 0, r⟩) ∧
  (∀ (m : Mbx) (p : List Byte) (s : State), let c := chOf p; let b := pb p 1 == 1; let w := waiterOf m codeSwap s; let a := s.setBatt c fun x => { x with swapUnreported := false }
    Takes (.bankSwap m p) s → (s.batt c).swap = none → bankState c b s = bkValid → atStopped c s = false →
    Runs (.bankSwap m p) s (processed m (settle c ((setBank c b bkArmed a).setBatt c fun x => { x with swap := some ⟨w, b⟩ })))) ∧
  (∀ (c : Ch) (w : Waiter) (b : Bool) (s : State), (s.batt c).swap = none → bankLoading c b s = false → bankSwapEff c w b s = settle c (swapProceed c w b (s.setBatt c fun x => { x with swapUnreported := false }))) ∧
  (∀ (m : Mbx) (p : List Byte) (s : State), Takes (.swapCancel m p) s → Ends (.swapCancel m p) s (swapCancelEff (chOf p) s)) ∧
  (∀ (c : Ch) (s : State), (s.batt c).swap = none → (s.batt c).swapUnreported = false → swapCancelEff c s = (.ok 0 [0, 0, 0, 0], s)) ∧
  (∀ (m : Mbx) (p : List Byte) (s : State), Takes (.swapCancel m p) s → (s.batt (chOf p)).swap = none → (s.batt (chOf p)).swapUnreported = false → Ends (.swapCancel m p) s (.ok 0 [0, 0, 0, 0], s)) ∧
  (∀ (m : Mbx) (p : List Byte) (s : State), Takes (.swapCancel m p) s → (s.batt (chOf p)).swap.isSome = true →
    Ends (.swapCancel m p) s (.ok 0 [1, 0, 0, 0], swapWithdraw (chOf p) (.fail stSwapWithdrawn 0) s)) ∧
  (∀ (m : Mbx) (p : List Byte) (s : State), Takes (.swapCancel m p) s → (s.batt (chOf p)).swap = none → (s.batt (chOf p)).swapUnreported = true →
    Ends (.swapCancel m p) s (.ok 0 [2, 0, 0, 0], s.setBatt (chOf p) fun b => { b with swapUnreported := false })) ∧
  (∀ (m : Mbx) (p : List Byte) (s : State), Takes (.bankErase m p) s → bankLoading (chOf p) (pb p 1 == 1) s = false →
    Runs (.bankErase m p) s (processed m (eraseNow (chOf p) (waiterOf m codeErase s) (pb p 1 == 1) s))) ∧
  (∀ (m : Mbx) (p : List Byte) (s : State), Takes (.bankErase m p) s → bankLoading (chOf p) (pb p 1 == 1) s = false → bankBusy (chOf p) (pb p 1 == 1) s = false →
    ∃ t, exec (.bankErase m p) s = .next t ∧ t.report = some ⟨m.val, stDone, 0, []⟩ ∧ bankState (chOf p) (pb p 1 == 1) t = bkEmpty ∧ (t.batt (chOf p)).bank (pb p 1 == 1) = [] ∧ t.store = s.store) ∧
  (∀ (m : Mbx) (p : List Byte) (s : State), Takes (.bankErase m p) s → bankLoading (chOf p) (pb p 1 == 1) s = true →
    Runs (.bankErase m p) s (processed m (s.setBatt (chOf p) fun b => { b with queue := b.queue ++ [.erase (waiterOf m codeErase s) (pb p 1 == 1)] }))) ∧
  (∀ (m : Mbx) (p : List Byte) (s : State), leAt p 4 4 + (p.drop 8).length ≤ bankSize → slotActive (pb p 0) s = false → spanDead (storeBlock0 + 4096 * pb p 0) (leAt p 4 4) (p.drop 8).length s = true →
    storeWriteEff m p s = (.fail stInternal (s.free 16), s.drew)) ∧
  (∀ (p : List Byte) (s : State), leAt p 4 4 + leAt p 8 2 ≤ bankSize → spanLost (storeBlock0 + 4096 * pb p 0) (leAt p 4 4) (leAt p 8 2) s = true → storeReadEff p s = (.fail stInternal (s.free 16), s.drew))

/-- A write to a Batt store slot is refused with BANK_ACTIVE, and nothing changes, while the slot is recorded as ACTIVE_SLOT of any channel. A write to another slot that
stays within it, and meets no block that fails for good, stores the data: those bytes read as written, and every other byte of the store reads as before.
Rests on: 04_batt_tables.md R70. -/
def Obligations.StoreWriteRefusesActiveSlot : Prop :=
  (∀ (m : Mbx) (p : List Byte) (c : Ch) (s : State), leAt p 4 4 + (p.drop 8).length ≤ bankSize → s.rd Reg.Batt.ACTIVE_SLOT (cI c) = pb p 0 → storeWriteEff m p s = (.fail stBankActive 0, s)) ∧
  (∀ (m : Mbx) (p : List Byte) (a : Nat) (s : State), leAt p 4 4 + (p.drop 8).length ≤ bankSize → (∀ c : Ch, s.rd Reg.Batt.ACTIVE_SLOT (cI c) ≠ pb p 0) → spanDead (storeBlock0 + 4096 * pb p 0) (leAt p 4 4) (p.drop 8).length s = false → SMap.wf 0 s.store = true →
    (storeWriteEff m p s).1.status = stDone ∧
    SMap.get 0 (storeWriteEff m p s).2.store a =
      if bankSize * pb p 0 + leAt p 4 4 ≤ a ∧ a < bankSize * pb p 0 + leAt p 4 4 + (p.drop 8).length then p.getD (8 + (a - (bankSize * pb p 0 + leAt p 4 4))) 0
      else SMap.get 0 s.store a)

/-- SESSION_START that no cause of Table 13.5 refuses waits for its start mark, and one refused fails with SESSION_REFUSED and the number of the cause. SESSION_STOP of an
open session waits for its stop mark, and without one fails with SESSION_REFUSED 7. BILL_READ, BILL_ACK, JOURNAL_READ and CHANGE_READ end as their effects say and change
no channel; a record that does not stand fails with NO_SUCH_RECORD. METER_CLEAR clears the 28 registers and LOST and queues a record, unless a session is open.
Rests on: 10_metering.md R219, 10_metering.md R225, 13_command_reference.md R303, 13_command_reference.md R305, Table 13.5. -/
def Obligations.RecordAndSessionCommands : Prop :=
  (∀ (m : Mbx) (p : List Byte) (s : State), Takes (.sessionStart m p) s → sessRefused (chOf p) s = 0 →
    Runs (.sessionStart m p) s (processed m (s.setMf (chOf p) fun x => { x with sess := .starting (waiterOf m codeSessStart s) (leAt p 8 8) }))) ∧
  (∀ (m : Mbx) (p : List Byte) (s : State), Takes (.sessionStart m p) s → sessRefused (chOf p) s ≠ 0 → Ends (.sessionStart m p) s (.fail stSessionRefused (sessRefused (chOf p) s), s)) ∧
  (∀ (m : Mbx) (p : List Byte) (i : SessInfo) (s : State), Takes (.sessionStop m p) s → (s.mf (chOf p)).sess = .opened i →
    Runs (.sessionStop m p) s (processed m (s.setMf (chOf p) fun x => { x with sess := .stopping (waiterOf m codeSessStop s) i }))) ∧
  (∀ (m : Mbx) (p : List Byte) (s : State), Takes (.sessionStop m p) s → (s.mf (chOf p)).sess = .none → Ends (.sessionStop m p) s (.fail stSessionRefused 7, s)) ∧
  (∀ (m : Mbx) (p : List Byte) (s : State), Takes (.billRead m p) s → Ends (.billRead m p) s
    (match s.bills.find? fun r => r.1 == leAt p 0 4 with | some r => (.ok 0 r.2, s) | none => (.fail stNoSuchRecord 0, s))) ∧
  (∀ (m : Mbx) (p : List Byte) (r : Nat × List Byte) (s : State), Takes (.billRead m p) s → (s.bills.find? fun r => r.1 == leAt p 0 4) = some r → Ends (.billRead m p) s (.ok 0 r.2, s)) ∧
  (∀ (m : Mbx) (p : List Byte) (s : State), Takes (.billAck m p) s → leAt p 0 4 < s.rd Reg.Bill.NEXT_RECORD → s.rd Reg.Bill.OLDEST_UNACK ≤ leAt p 0 4 →
    ∃ t, exec (.billAck m p) s = .next t ∧ t.report = some ⟨m.val, stDone, 0, leBytes 4 ((leAt p 0 4 + 1) % 2 ^ 32)⟩ ∧ t.rd Reg.Bill.OLDEST_UNACK = (leAt p 0 4 + 1) % 2 ^ 32 ∧ t.chans = s.chans ∧ t.bills = s.bills) ∧
  (∀ (m : Mbx) (p : List Byte) (s : State), Takes (.meterClear m p) s → sessOpen (chOf p) s = false →
    ∃ t, exec (.meterClear m p) s = .next t ∧ (t.mf (chOf p)).acc = List.replicate 28 0 ∧ t.rd Reg.MeterStat.LOST (cI (chOf p)) = 0 ∧
      (t.mf (chOf p)).recQ.length = (s.mf (chOf p)).recQ.length + 1) ∧
  (∀ (m : Mbx) (p : List Byte) (s : State), Takes (.meterClear m p) s → sessOpen (chOf p) s = true → Ends (.meterClear m p) s (.fail stSessionRefused 4, s)) ∧
  (∀ (m : Mbx) (p : List Byte) (s : State), Takes (.journalRead m p) s → Ends (.journalRead m p) s (journalReadEff p s) ∧ (journalReadEff p s).2 = s) ∧
  (∀ (m : Mbx) (p : List Byte) (rs : List (List Byte)) (s : State), Takes (.journalRead m p) s →
    recordsFrom (s.rd Reg.HostStat.OLDEST_JSEQ) (leAt p 0 4) (pb p 4) (s.crown.journal.map JRec.bytes) = some rs →
    Ends (.journalRead m p) s (.ok 0 (leBytes 1 rs.length ++ List.replicate 7 0 ++ rs.flatten), s)) ∧
  (∀ (m : Mbx) (p : List Byte) (rs : List (List Byte)) (s : State), Takes (.changeRead m p) s →
    recordsFrom (s.rd Reg.HostStat.OLDEST_CSEQ) (leAt p 0 4) (pb p 4) (s.crown.changes.map CRec.bytes) = some rs → changeLost p s = false →
    Ends (.changeRead m p) s (.ok 0 (leBytes 1 rs.length ++ List.replicate 7 0 ++ rs.flatten), s)) ∧
  (∀ (m : Mbx) (p : List Byte) (s : State), Takes (.changeRead m p) s → Ends (.changeRead m p) s (changeReadEff p s) ∧ (s.mem.lost = [] → (changeReadEff p s).2 = s))

/-- SAFETY_ACK with a token of no current lock-out fails with SAFETY_TOKEN_MISMATCH and nothing changes; with the token of a lock-out it is DONE with the mask of the channels
released. FEIDE hands its frame to the safety processor and is DONE with the newest frames of the produced host connections, which are collected by it.
Rests on: 11_safety.md R249, 13_command_reference.md R304. -/
def Obligations.SafetyCommands : Prop :=
  (∀ (m : Mbx) (p : List Byte) (s : State), Takes (.safetyAck m p) s → Ends (.safetyAck m p) s (safetyAckEff (leAt p 0 4) s)) ∧
  (∀ (k : Nat) (s : State), (∀ c : Ch, safeState c s = sfLocked → s.rd Reg.Safe.TOKEN 0 c.val ≠ k) → safetyAckEff k s = (.fail stTokenMismatch 0, s)) ∧
  (∀ (k : Nat) (c : Ch) (s : State), k ≠ 0 → safeState c s = sfLocked → s.rd Reg.Safe.TOKEN 0 c.val = k →
    (safetyAckEff k s).1.status = stDone ∧ safeState c (safetyAckEff k s).2 ≠ sfLocked ∧ (safetyAckEff k s).2.rd Reg.Safe.TOKEN 0 c.val = 0 ∧
    (safetyAckEff k s).2.rd Reg.Safe.L_CAUSE 0 c.val = s.rd Reg.Safe.L_CAUSE 0 c.val ∧ (s.rd Reg.Safe.E_PEND 0 c.val = 1 → (safetyAckEff k s).2.rd Reg.Safe.E_PEND 0 c.val = 1)) ∧
  (∀ (m : Mbx) (p : List Byte) (c : Ch) (s : State), Takes (.safetyAck m p) s → leAt p 0 4 ≠ 0 → safeState c s = sfLocked → s.rd Reg.Safe.TOKEN 0 c.val = leAt p 0 4 →
    ∃ t r, exec (.safetyAck m p) s = .next t ∧ t.report = some ⟨m.val, stDone, 0, r⟩ ∧ safeState c t ≠ sfLocked ∧ t.rd Reg.Safe.TOKEN 0 c.val = 0) ∧
  (∀ (m : Mbx) (p : List Byte) (s : State), Takes (.feide m p) s → Ends (.feide m p) s (feideCmdEff p s)) ∧
  (∀ (m : Mbx) (p : List Byte) (s : State), Takes (.feide m p) s → ∃ t r, exec (.feide m p) s = .next t ∧ t.report = some ⟨m.val, stDone, 0, r⟩) ∧
  (∀ (p : List Byte) (s : State), (feideCmdEff p s).1.status = stDone ∧
    ∀ k : Fin 16, (feideReceive .host 0 false p s).rd Reg.Feide.DIR 0 k.val = 2 → (feideReceive .host 0 false p s).rd Reg.Feide.TRANSPORT 0 k.val = 6 → ((feideCmdEff p s).2.conn k).frame = none)

/-- For RELOCK, REFERENCE_CHANGE, the commits of CLKOUT, frequency, event entries, sequences, thresholds, coefficients, programs, host inputs and PG sets, CONVERTER_STOP,
CLEAR_STATE, SLOT_DISABLE, SERVICE, the enables and disables of grid, MPPT, metering and the pair, RECONNECT, RECOVER, HOLD_RELEASE, CAN_MODE_CHANGE, HATBAND_ROLE_WRITE,
FABRIC_CLASS_WRITE, TAMPER_ACK, RTC_SET and TRANSFER_START: a write that passes the checks of R293, from a mailbox whose object no lock holds and which executes it, ends
DONE in the state that the write with its effects leaves, for each of these commands by name. HANDOVER, accepted, leaves that state and completes later.
Rests on: 13_command_reference.md R292, 13_command_reference.md R293, 13_command_reference.md R294. -/
def Obligations.RegisterRowsWrite : Prop :=
  (∀ (i : Instr) (r : Row) (o : Obj) (n : Nat) (s : State), rowOf s i = some r → WriteAccepted r.m (r.wt s) r.oid o n r.lo (r.data o n s) s → regMay r.m r.oid r.lo r.len o n r.edits s = true → (o.base ≠ 0x4F40 ∨
      (mkObjW o n (mergeBase r.m r.oid o n s) r.lo (r.data o n s)).hit Reg.PairCfg.HANDOVER = false) → Runs i s (r.done o n s)) ∧
  (∀ (m : Mbx) (s : State), RowReady (.relock m) s → RowWrites (.relock m) s) ∧
  (∀ (m : Mbx) (sel : Bool) (freq : BitVec 2) (s : State), RowReady (.referenceChange m sel freq) s → RowWrites (.referenceChange m sel freq) s) ∧
  (∀ (m : Mbx) (k : Fin 2) (s : State), RowReady (.clkoutCommit m k) s → RowWrites (.clkoutCommit m k) s) ∧
  (∀ (m : Mbx) (c : Ch) (i : Instr) (s : State), i ∈ [.fwCommit m c, .esDirectCommit m c, .thresholdCommit m c, .commitHost m c, .pgCommit m c] → RowReady i s → RowWrites i s) ∧
  (∀ (m : Mbx) (c : Ch) (sb : Bool) (i : Instr) (s : State), i ∈ [.commitReg m c sb, .commitInj m c sb, .converterStop m c sb] → RowReady i s → RowWrites i s) ∧
  (∀ (m : Mbx) (c : Ch) (j : Fin 4) (i : Instr) (s : State), i ∈ [.commitCoef m c j, .commitProg m c j, .clearState m c j, .slotDisable m c j] → RowReady i s → RowWrites i s) ∧
  (∀ (m : Mbx) (c : Ch) (on : Bool) (s : State), RowReady (.service m c on) s → RowWrites (.service m c on) s) ∧
  (∀ (m : Mbx) (c : Ch) (i : Instr) (s : State), i ∈ [.gridEnable m c, .gridDisable m c, .reconnect m c, .mpptEnable m c, .meterEnable m c, .meterDisable m c] → RowReady i s → RowWrites i s) ∧
  (∀ (m : Mbx) (c : Fin 4) (s : State), RowReady (.recover m c) s → RowWrites (.recover m c) s) ∧
  (∀ (m : Mbx) (c : Fin 4) (b : Fin 32) (s : State), RowReady (.holdRelease m c b) s → RowWrites (.holdRelease m c b) s) ∧
  (∀ (m : Mbx) (c : Fin 4) (mode : BitVec 2) (s : State), RowReady (.canModeChange m c mode) s → RowWrites (.canModeChange m c mode) s) ∧
  (∀ (m : Mbx) (a b : BitVec 2) (tx rx : BitVec 4) (s : State), RowReady (.hatbandRoleWrite m a b tx rx) s → RowWrites (.hatbandRoleWrite m a b tx rx) s) ∧
  (∀ (m : Mbx) (en : Bool) (s : State), RowReady (.pairEnable m en) s → RowWrites (.pairEnable m en) s) ∧
  (∀ (m : Mbx) (r : Fin 15) (cls : BitVec 2) (s : State), RowReady (.fabricClassWrite m r cls) s → RowWrites (.fabricClassWrite m r cls) s) ∧
  (∀ (m : Mbx) (v : W16) (s : State), RowReady (.tamperAck m v) s → RowWrites (.tamperAck m v) s) ∧
  (∀ (m : Mbx) (v : W64) (s : State), RowReady (.rtcSet m v) s → RowWrites (.rtcSet m v) s) ∧
  (∀ (m : Mbx) (kind : Bool) (slot : Byte) (s : State), RowReady (.transferStart m kind slot) s → RowWrites (.transferStart m kind slot) s) ∧
  (∀ (m : Mbx) (o : Obj) (s : State), let wt := waiterOf m (rowCode m 0x4F40 s) s; let d := rowBytes m 0x4F40 o 0 1 1 [(Reg.PairCfg.HANDOVER, 0, 1)] s
    WriteAccepted m wt 0x4F40 o 0 1 d s → regMay m 0x4F40 1 1 o 0 [(Reg.PairCfg.HANDOVER, 0, 1)] s = true → (mkObjW o 0 (mergeBase m 0x4F40 o 0 s) 1 d).hit Reg.PairCfg.HANDOVER = true → o.base = 0x4F40 →
    Runs (.handover m) s (processed m (recordApply (authorOf m (rowCode m 0x4F40 s) s) 1 true 0x4F40 wt (mkObjW o 0 (mergeBase m 0x4F40 o 0 s) 1 d) s)))

/-- OBJECT_READ of an object that exists ends DONE with its image and clears its read-to-clear fields; an id that names no object fails with UNKNOWN_OBJECT. A whole write of
the right length and layout, and a partial write, that pass the checks of R293 end DONE in the state that the write leaves. A write of another length fails with
BAD_LENGTH, one with another layout with LAYOUT_MISMATCH, each with no effect on the object. An object write to a safety object is a whole write.
Rests on: 13_command_reference.md R291, 13_command_reference.md R292, 13_command_reference.md R293, 13_command_reference.md R294, 11_safety.md R258. -/
def Obligations.ObjectReadsAndWrites : Prop :=
  (∀ (m : Mbx) (oid : W16) (s : State), crownUp s = true → rowMay m oid.toNat [] s = true → Runs (.objectRead m oid) s (complete m oid.toNat (objectReadEff m oid.toNat s).1 (objectReadEff m oid.toNat s).2)) ∧
  (∀ (m : Mbx) (oid : W16) (o : Obj) (n : Nat) (s : State), crownUp s = true → rowMay m oid.toNat [] s = true → objAt oid.toNat = some (o, n) →
    ∃ t r, exec (.objectRead m oid) s = .next t ∧ t.report = some ⟨m.val, stDone, o.len, r⟩) ∧
  (∀ (m : Mbx) (oid : Nat) (s : State), objAt oid = none → objectReadEff m oid s = (.fail stUnknownObject 0, s)) ∧
  (∀ (m : Mbx) (oid : Nat) (o : Obj) (n : Nat) (s : State), objAt oid = some (o, n) → holdsGroup m (groupOf oid) s = false →
    objectReadEff m oid s = (.ok o.len (leBytes o.len (readImg o n oid [] s)), readClears o n s)) ∧
  (∀ (m : Mbx) (oid : W16) (o : Obj) (n : Nat) (image : List Byte) (s : State), let wt := waiterOf m oid.toNat s
    WriteAccepted m wt oid.toNat o n 0 image s → rowMay m oid.toNat image s = true → image.length = o.len → (image.headD 0).toNat = layoutOf o n s → (o.base ≠ 0x4F40 ∨ (mkObjW o n (mergeBase m oid.toNat o n s) 0 image).hit Reg.PairCfg.HANDOVER = false) →
    Runs (.objectWrite m oid image) s (writeDone m wt (authorOf m oid.toNat s) oid.toNat o n 0 image s)) ∧
  (∀ (m : Mbx) (f : Bool) (o : Obj) (n : Nat) (image : List Byte) (s : State), let oid := if f then 0x3F01 else 0x3F00
    WriteAccepted m (waiterOf m oid s) oid o n 0 image s → rowMay m oid image s = true → image.length = o.len → (image.headD 0).toNat = layoutOf o n s →
    Runs (.safetyConfigWrite m f image) s (writeDone m (waiterOf m oid s) (authorOf m oid s) oid o n 0 image s)) ∧
  (∀ (m : Mbx) (p : List Byte) (o : Obj) (n : Nat) (s : State), let wt := waiterOf m codePart s
    9 ≤ p.length → p.getD 5 0 = 0 → p.getD 6 0 = 0 → p.getD 7 0 = 0 → rowMay m codePart p s = true → leAt p 4 1 = layoutOf o n s → leAt p 2 2 ≠ 0 → WriteAccepted m wt (leAt p 0 2) o n (leAt p 2 2) (p.drop 8) s →
    (o.base ≠ 0x4F40 ∨ (mkObjW o n (mergeBase m (leAt p 0 2) o n s) (leAt p 2 2) (p.drop 8)).hit Reg.PairCfg.HANDOVER = false) →
    Runs (.objWritePart m p) s (writeDone m wt (authorOf m codePart s) (leAt p 0 2) o n (leAt p 2 2) (p.drop 8) s)) ∧
  (∀ (m : Mbx) (oid : W16) (o : Obj) (n : Nat) (image : List Byte) (s : State), crownUp s = true → rowMay m oid.toNat image s = true → objAt oid.toNat = some (o, n) → image.length ≠ o.len →
    Runs (.objectWrite m oid image) s (processed m (completeW (waiterOf m oid.toNat s) (.fail stBadLength o.len) s))) ∧
  (∀ (m : Mbx) (oid : W16) (o : Obj) (n : Nat) (image : List Byte) (s : State), crownUp s = true → rowMay m oid.toNat image s = true → objAt oid.toNat = some (o, n) → image.length = o.len → (image.headD 0).toNat ≠ layoutOf o n s →
    s.rd Reg.Life.LIFECYCLE ≠ 3 → lockedByOther m (groupOf oid.toNat) s = false → Runs (.objectWrite m oid image) s (processed m (completeW (waiterOf m oid.toNat s) (.fail stLayoutMismatch (layoutOf o n s)) s)))

/-- The bytes that a row with one edit writes carry the value of that edit in its field, when the field lies inside them and the bytes inside the object. Every other field of
the object that shares no bit with the edited one has, in the image that the write leaves, the value that it had in the content the write was merged with.
Rests on: 13_command_reference.md R294. -/
def Obligations.RowWriteCarriesItsField : Prop :=
  ∀ (m : Mbx) (oid : Nat) (o : Obj) (n lo len : Nat) (f : Fld) (i v : Nat) (s : State), 8 * lo ≤ f.pos i → f.pos i + f.w ≤ 8 * (lo + len) →
    let w := mkObjW o n (mergeBase m oid o n s) lo (rowBytes m oid o n lo len [(f, i, v)] s)
    w.g f i = v % 2 ^ f.w ∧
    ∀ (g : Fld) (k : Nat), g.pos k + g.w ≤ f.pos i ∨ f.pos i + f.w ≤ g.pos k → w.g g k = g.from k (mergeBase m oid o n s)

/-- A write to a group that the mailbox itself has locked, which passes its checks, is staged and not applied: it completes DONE with DETAIL 1, its bytes stand last among the
staged writes of the lock, and no register, channel or store changes. With 64 staged writes it fails with LOCK_FULL and those staged remain. A write by any other mailbox
to the group fails with LOCKED_BY_OTHER and changes nothing.
Rests on: 12_crown_mailboxes.md R283, 13_command_reference.md R297. -/
def Obligations.StagedWrites : Prop :=
  (∀ (m : Mbx) (wt : Waiter) (a : Author) (oid : Nat) (o : Obj) (n lo : Nat) (data : List Byte) (l : Lock) (s : State),
    s.rd Reg.Life.LIFECYCLE ≠ 3 → lockedByOther m (groupOf oid) s = false → (s.mb m).lock = some l → (groupOf oid) ∈ l.groups → check6 (mkObjW o n (mergeBase m oid o n s) lo data) s = none →
    scopeOk m (localObj oid) s = true → l.staged.length < 64 →
    let r := objWriteAt m wt a oid o n lo data (layoutOf o n s) none s
    r.1 = some (.ok 1) ∧ ((r.2.mb m).lock.map Lock.staged) = some (l.staged ++ [⟨oid, lo, data, a.epoch, a.seq⟩]) ∧ r.2.regs = s.regs ∧ r.2.chans = s.chans ∧ r.2.store = s.store ∧
      ∀ x : Mbx, x ≠ m → r.2.mb x = s.mb x) ∧
  (∀ (m : Mbx) (wt : Waiter) (a : Author) (oid : Nat) (o : Obj) (n lo : Nat) (data : List Byte) (l : Lock) (s : State),
    s.rd Reg.Life.LIFECYCLE ≠ 3 → lockedByOther m (groupOf oid) s = false → (s.mb m).lock = some l → (groupOf oid) ∈ l.groups → check6 (mkObjW o n (mergeBase m oid o n s) lo data) s = none →
    scopeOk m (localObj oid) s = true → 64 ≤ l.staged.length → objWriteAt m wt a oid o n lo data (layoutOf o n s) none s = (some (.fail stLockFull 64), s)) ∧
  (∀ (m : Mbx) (wt : Waiter) (a : Author) (oid : Nat) (o : Obj) (n lo : Nat) (data : List Byte) (layout : Nat) (bad : Option Nat) (s : State), s.rd Reg.Life.LIFECYCLE ≠ 3 → lockedByOther m (groupOf oid) s = true →
    objWriteAt m wt a oid o n lo data layout bad s = (some (.fail stLockedByOther (groupOf oid)), s))

/-- Once its fields are stored, a write that sets a COMMIT or request bit runs exactly the effect of that bit: a frequency word waits, direct event entries wait with PEND 1,
a PG set is armed with PEND 1 and its PERIOD, DUTY0 to DUTY5 and M, thresholds are in force and judged at once, coefficients, programs and host inputs pend, CLEAR_STATE
waits for the slot, a disabled slot no longer pends, a CLKOUT set pends. A RELOCK in LOCK_FAIL starts an acquisition; a changed reference enters BYPASS_RC. TAMPER_ACK,
RTC_SET, SERVICE and the enables act as their rules say.
Rests on: 03_angle_timebase.md R49, 03_angle_timebase.md R65, 06_control_engine.md R130, 07_pulse_generation.md R145, 02_clock_synthesis.md R42, 08_gate_drive.md R179, 17_power_and_holdup.md R386, 14_can_and_hatband.md R313. -/
def Obligations.CommitsStart : Prop :=
  (∀ (c : Ch) (s : State), wrapTick c s = false → (s.ch c).at_.fwWait = .none → ((fwCommitEff c s).ch c).at_.fwWait = .waiting) ∧
  (∀ (c : Ch) (s : State), (esCommitEff c s).rd Reg.Es.PEND (cI c) = 1 ∧ ((esCommitEff c s).ch c).esWait ≠ .none) ∧
  (∀ (c : Ch) (s : State), (pgCommitSet c s).rd Reg.PgSet.PEND (cI c) = 1 ∧ ((pgCommitSet c s).pg c).armed.head? =
    some ⟨s.tick, false, s.rd Reg.PgSet.PERIOD (cI c) :: ((List.range 6).map fun k => s.rd Reg.PgSet.DUTY (cI c) k) ++ [s.rd Reg.PgSet.M (cI c)]⟩) ∧
  (∀ (c : Ch) (j : Fin 4) (s : State), bit ((commitCoefEff c j.val s).rd Reg.CeStat.PEND_COEF (cI c)) j.val = true ∧ bit ((commitProgEff c j.val s).rd Reg.CeStat.PEND_PROG (cI c)) j.val = true ∧
    (commitHostEff c s).rdB Reg.CeStat.PEND_HOST (cI c) = true ∧ bit ((clearStateEff c j.val s).ch c).ce.clearPend j.val = true ∧ bit ((slotDisableEff c j.val s).rd Reg.CeStat.PENDING (cI c)) j.val = false) ∧
  (∀ (k : Fin 2) (s : State), (clkoutCommitEff k s).rd Reg.ClkOut.PEND k.val = 1) ∧
  (∀ s : State, ckState s = 5 → ckState (relockEff s) = 2 ∧ (relockEff s).clk.attempt = 1) ∧ (∀ s : State, ckState s ≠ 5 → relockEff s = s) ∧
  (∀ (c : Ch) (s : State), gdiState c s = 1 → s.rdB Reg.GdiCfg.SERVICE (cI c) = true → serviceEff c s = setGdi c 2 (s.setPg c fun p => { p with servicePend := false })) ∧
  (∀ (c : Ch) (s : State), gdiState c s = 2 → s.rdB Reg.GdiCfg.SERVICE (cI c) = false → serviceEff c s = setGdi c 1 (s.setPg c fun p => { p with servicePend := false })) ∧
  (∀ (v : Nat) (s : State), v < 2 ^ 64 → (rtcSetEff v s).rd Reg.Rtc.RTC = v ∧ (rtcSetEff v s).rd Reg.Rtc.RTC_INVALID = 0) ∧
  (∀ (c : Ch) (s : State), gridOn c s = false → gridState c (gridEnWritten c true s) = gsOff ∧ (gridEnWritten c true s).rd Reg.GridStat.READY (cI c) = 0) ∧
  (∀ (c : Ch) (s : State), s.rdB Reg.MeterCfg.EN (cI c) = false → mfState c s = 1 → mfState c (meterEnWritten c true s) = 0 ∧ ((meterEnWritten c true s).mf c).closing = true) ∧
  (∀ (b : Fin 4) (s : State), canEstate b s = 2 → ((recoverEff b s).can b).recovering = true)

/-- A controller keeps to the entry that it offered when the bus became idle. CAN_TX_DONE keeps the start of frame, lowers the transmit error counter by one, takes the entry
off its queue and delivers what its reply carries; in LOOPBACK the own receiver hears it. CAN_TX_FAIL by lost arbitration counts only against the retry limit; by an error
or a collision it also raises the transmit error counter by 8, but for the two exceptions of ISO 11898-1 (log entry 121), and at 256 the controller is bus-off.
BUS_OFF_RECOVERY_DONE of a recovering controller clears both counters and returns it to error active. CAN_BUS_INTEGRATION ends the integration while the clock is locked.
CAN_RECEIVE_ERROR raises the receive error counter by its weight.
Rests on: 14_can_and_hatband.md R309, 14_can_and_hatband.md R311, 14_can_and_hatband.md R312, 14_can_and_hatband.md R313. -/
def Obligations.CanTransmission : Prop :=
  (∀ (c : Fin 4) (src : CanSrc) (x : CanTx) (s : State), canMayOffer c s = true → canPick c s = some (src, x) → ((canIdle c s).can c).sending = some src ∧ ((canIdle c s).can c).bufs = (s.can c).bufs) ∧
  (∀ (c : Fin 4) (src : CanSrc) (x : CanTx) (s : State), (s.can c).sending = some src → canHead c src s = some x → canSent c s = some (src, x)) ∧
  (∀ (c : Fin 4) (sof : W64) (src : CanSrc) (x : CanTx) (s : State), canSends c s = true → canSent c s = some (src, x) → canMode c s ≠ 3 →
    let a := canErrors c (s.rd Reg.CanStat.TEC c.val - 1) (s.rd Reg.CanStat.REC c.val) (s.wr Reg.CanStat.LAST_TX_SOF c.val 0 sof.toNat)
    let b := canPop c src a
    Runs (.canTxDone c sof) s (mirrorAll (canIdle c (replyDone x (if src = .mirror then (match mirrorHead c a with | some m => popOriginal c m b | none => b) else b))))) ∧
  (∀ (c : Fin 4) (sof : W64) (b : BufIx) (x : CanTx) (s : State), canSends c s = true → canSent c s = some (.buf b, x) → canMode c s = 3 → canBurst c s = false →
    let a := canErrors c (s.rd Reg.CanStat.TEC c.val - 1) (s.rd Reg.CanStat.REC c.val) (s.wr Reg.CanStat.LAST_TX_SOF c.val 0 sof.toNat)
    let u := canIdle c (replyDone x (canPop c (.buf b) a))
    Runs (.canTxDone c sof) s (mirrorAll (canHear c (loopFrame c x sof.toNat u) u))) ∧
  (∀ (c : Fin 4) (src : CanSrc) (x : CanTx) (s : State), canSends c s = true → canSent c s = some (src, x) →
    Runs (.canTxFail c .arbitrationLost) s (mirrorAll ((retry c src s).setCan c fun x => { x with sending := none, busy := true }))) ∧
  (∀ (c : Fin 4) (why : TxFail) (src : CanSrc) (x : CanTx) (s : State), why ≠ .arbitrationLost → canSends c s = true → canSent c s = some (src, x) →
    let e := canErrors c (s.rd Reg.CanStat.TEC c.val + txErrorWeight why c s) (s.rd Reg.CanStat.REC c.val) s
    let a := if why = .collision then collision c src e else e
    Runs (.canTxFail c why) s (if canEstate c a = 2 then goBusOff c src a else mirrorAll (canIdle c (retry c src a)))) ∧
  (∀ (c : Fin 4) (s : State), txErrorWeight .error c s = 8 ∧ txErrorWeight .collision c s = 8 ∧ txErrorWeight .arbitrationStuff c s = 0 ∧
    txErrorWeight .ackMissing c s = (if canEstate c s = 1 then 0 else 8)) ∧
  (∀ (c : Fin 4) (tec rec : Nat) (s : State), (canErrors c tec rec s).rd Reg.CanStat.TEC c.val = min tec 255 ∧ (canErrors c tec rec s).rd Reg.CanStat.REC c.val = min rec 255 ∧
    canEstate c (canErrors c tec rec s) = (if 256 ≤ tec then 2 else if 127 < tec ∨ 127 < rec then 1 else 0) ∧ (canErrors c tec rec s).chans = s.chans ∧ (canErrors c tec rec s).cans = s.cans) ∧
  (∀ (c : Fin 4) (s : State), canEstate c s = 2 → (s.can c).recovering = true → ∃ t, exec (.busOffRecoveryDone c) s = .next t ∧ canEstate c t = 0 ∧ t.rd Reg.CanStat.TEC c.val = 0 ∧
    t.rd Reg.CanStat.REC c.val = 0 ∧ (t.can c).recovering = false ∧ (t.can c).retained = (s.can c).retained) ∧
  (∀ (c : Fin 4) (s : State), ckState s = 1 → ∃ t, exec (.canBusIntegration c) s = .next t ∧ (t.can c).integrating = false ∧ (t.can c).bufs = (s.can c).bufs ∧ t.regs = s.regs) ∧
  (∀ (c : Fin 4) (w : BitVec 4) (s : State), canOnBus c s = true →
    Runs (.canReceiveError c w) s (canIdle c (canErrors c (s.rd Reg.CanStat.TEC c.val) (min 255 (s.rd Reg.CanStat.REC c.val + w.toNat)) s)))

/-- A frame that a controller on the bus receives, and that is valid, keeps its start of frame. One with the identifier of a consumed Feide connection joins FIFO 0, and a
request segment or a status request joins FIFO 1, each while it holds fewer than 64 entries; a frame that finds its FIFO full is dropped and counted, and those held stay.
FIFO 1 is not emptied while FIFO 0 holds a frame. SEGMENT_TIMEOUT discards a partial request and counts it. STATUS_FRAME_PERIOD in Run with STATUS_MS not 0 queues a
status frame on CAN0.
Rests on: 14_can_and_hatband.md R315, 14_can_and_hatband.md R316, 14_can_and_hatband.md R318, 14_can_and_hatband.md R320. -/
def Obligations.CanReception : Prop :=
  (∀ (c : Fin 4) (f : CanFrame) (s : State), canOnBus c s = true → canFrameOk f = true →
    ∃ t, exec (.canFrameReceive c f) s = .next t ∧ t.rd Reg.CanStat.LAST_RX_SOF c.val = f.sof.toNat ∧ t.store = s.store ∧
      (canFeideId c f s = true → (s.can c).fifo0.length < 64 → (t.can c).fifo0 = (s.can c).fifo0 ++ [f] ∧ (t.can c).fifo1 = (s.can c).fifo1) ∧
      (canFeideId c f s = true → 64 ≤ (s.can c).fifo0.length → (t.can c).fifo0 = (s.can c).fifo0 ∧ t.rd Reg.CanStat.FIFO0_DROP c.val = satInc 16 (s.rd Reg.CanStat.FIFO0_DROP c.val)) ∧
      (canFeideId c f s = false → canIsRequest c f s = true → 64 ≤ (s.can c).fifo1.length → (t.can c).fifo1 = (s.can c).fifo1 ∧
        t.rd Reg.CanStat.FIFO1_DROP c.val = satInc 16 (s.rd Reg.CanStat.FIFO1_DROP c.val)) ∧
      (canFeideId c f s = false → canIsRequest c f s = false → canIsStatusReq c f s = false →
        (t.can c).fifo0 = (s.can c).fifo0 ∧ (t.can c).fifo1 = (s.can c).fifo1 ∧ (t.can c).bufs = (s.can c).bufs)) ∧
  (∀ (c : Fin 4) (s : State), (s.can c).fifo0 ≠ [] → canService c s = s) ∧
  (∀ (c : Fin 4) (s : State), (s.can c).partial_.isSome = true → ∃ t, exec (.segmentTimeout c) s = .next t ∧ (t.can c).partial_ = none ∧
    t.rd Reg.CanStat.SEG_DROP_CNT c.val = satInc Reg.CanStat.SEG_DROP_CNT.w (s.rd Reg.CanStat.SEG_DROP_CNT c.val) ∧ (t.can c).whole = (s.can c).whole ∧ t.chans = s.chans) ∧
  (∀ s : State, crownUp s = true → s.pow.st = .run → s.rd Reg.CanCfg.STATUS_MS ≠ 0 → Runs .statusFramePeriod s (sendStatus 0 1 s)) ∧
  (∀ (kind : Nat) (s : State), (s.can 0).bufs[(17 : Fin 32)].length < 4 → canEstate 0 s ≠ 2 → ((sendStatus 0 kind s).can 0).bufs[(17 : Fin 32)] = (s.can 0).bufs[(17 : Fin 32)] ++ [statusTx 0 kind s])

/-- On a port that is UP: a frame that fails a check is answered with CODE 1 and taken nowhere; one with the expected number that passes advances the expected number and is
answered 0 while the Crown runs; one of the last 16 numbers is answered 0 again; any other is answered 2 with the expected number and counts SKIP_CNT. A credit return
with CODE 0 for a frame in flight removes it and returns its credit, and releases the replies that waited for it; with CODE 1 or 2 it is a failed attempt. CR_TIMEOUT
counts and is a failed attempt on the oldest frame.
Rests on: 14_can_and_hatband.md R324, 14_can_and_hatband.md R325, 14_can_and_hatband.md R326. -/
def Obligations.HatbandFrames : Prop :=
  (∀ (p : Fin 2) (f : HbFrame) (s : State), hbUp p s = true → hbFrameOk f = false → Runs (.hbFrameReceive p f) s (hbAnswer p f.fseq.toNat 1 s)) ∧
  (∀ (p : Fin 2) (f : HbFrame) (s : State), hbUp p s = true → hbFrameOk f = true → f.fseq.toNat = (s.hb p).expF → crownUp s = true →
    Runs (.hbFrameReceive p f) s (takeForwarded p (hbAnswer p f.fseq.toNat 0 (hbTake p f (s.setHb p fun x => { x with expF := ((s.hb p).expF + 1) % 256 }))))) ∧
  (∀ (p : Fin 2) (f : HbFrame) (s : State), hbUp p s = true → hbFrameOk f = true → f.fseq.toNat ≠ (s.hb p).expF → ((s.hb p).expF + 256 - f.fseq.toNat) % 256 ≤ 16 →
    Runs (.hbFrameReceive p f) s (hbAnswer p f.fseq.toNat 0 s)) ∧
  (∀ (p : Fin 2) (f : HbFrame) (s : State), hbUp p s = true → hbFrameOk f = true → f.fseq.toNat ≠ (s.hb p).expF → 16 < ((s.hb p).expF + 256 - f.fseq.toNat) % 256 →
    Runs (.hbFrameReceive p f) s (hbAnswer p (s.hb p).expF 2 (s.count Reg.HbStat.SKIP_CNT p.val))) ∧
  (∀ (p : Fin 2) (n k : Byte) (o : HbOut) (s : State), hbUp p s = true → k.toNat = 255 - n.toNat → ((s.hb p).flight.find? fun x => x.fseq == n.toNat) = some o →
    let a := s.setHb p fun x => { x with flight := x.flight.filter fun q => q.fseq != n.toNat }
    let b := a.wr Reg.HbStat.CREDITS p.val 0 (min 16 (a.rd Reg.HbStat.CREDITS p.val + 1))
    Runs (.hbCreditReturn p n 0 k) s (xoutPump (releaseHeld (hbPump p 16 (if o.tries = 1 then b.count Reg.HbStat.TRANSIENT_CNT p.val else b))))) ∧
  (∀ (p : Fin 2) (o : HbOut) (rest : List HbOut) (s : State), hbUp p s = true → (s.hb p).flight = o :: rest → Runs (.crTimeout p) s (hbAttempt p o.fseq (s.count Reg.HbStat.CR_TIMEOUT_CNT p.val)))

/-- A second failed attempt on one frame is lasting: LASTING_CNT counts one more, saturating at its width, and the port, which was UP, is in TRAINING; its messages and frames
in flight are gone and it holds its 16 credits again. A first failed attempt keeps the port UP and only notes the attempt on that frame.
Rests on: 14_can_and_hatband.md R327. -/
def Obligations.SecondAttemptIsLasting : Prop :=
  (∀ (p : Fin 2) (n : Nat) (o : HbOut) (s : State), hbUp p s = true → ((s.hb p).flight.find? fun x => x.fseq == n) = some o → 1 ≤ o.tries →
    (hbAttempt p n s).rd Reg.HbStat.LASTING_CNT p.val = satInc Reg.HbStat.LASTING_CNT.w (s.rd Reg.HbStat.LASTING_CNT p.val) ∧ hbLink p (hbAttempt p n s) = 1 ∧ hbUp p (hbAttempt p n s) = false ∧
    ((hbAttempt p n s).hb p).out = [] ∧ ((hbAttempt p n s).hb p).flight = [] ∧ (hbAttempt p n s).rd Reg.HbStat.CREDITS p.val = 16) ∧
  (∀ (p : Fin 2) (n : Nat) (o : HbOut) (s : State), ((s.hb p).flight.find? fun x => x.fseq == n) = some o → o.tries = 0 →
    hbAttempt p n s = s.setHb p fun x => { x with flight := x.flight.map fun q => if q.fseq = n then { q with tries := q.tries + 1 } else q })

/-- When training ends with the lanes deskewed, a port whose peer is a PLV-4860 in a fitting role is UP with 16 credits, and one whose peer does not fit is in ROLE_MISMATCH.
Loss of a lane takes a port that is UP to TRAINING. On the pair port, HB_HEARTBEAT_SEND sends the next count, HB_MISS counts one more miss, and HEARTBEAT_RECEIVE clears
the misses.
Rests on: 14_can_and_hatband.md R330, 14_can_and_hatband.md R331, Table 14.6. -/
def Obligations.HatbandLinks : Prop :=
  (∀ (p : Fin 2) (i : LinkInfo) (s : State), unitsOn s = true → s.rdB Reg.ClkStat.REF_OK = true → i.deskewed = true → hbLink p s = 1 ∨ hbLink p s = 2 →
    i.hwType = 0x4860 → rolesFit (hbRole p (notePeer p i s)) i.role.toNat = true →
    let a := ((notePeer p i s).wr Reg.HbStat.LINK p.val 0 3).count Reg.HbStat.LINK_UP_CNT p.val
    Runs (.linkTrainingDone p i) s (pairEval (((a.wr Reg.HbStat.CREDITS p.val 0 16).wr Reg.HbStat.HB_MISS p.val 0 0).raise (468 + p.val)))) ∧
  (∀ (p : Fin 2) (i : LinkInfo) (s : State), unitsOn s = true → s.rdB Reg.ClkStat.REF_OK = true → i.deskewed = true → hbLink p s = 1 ∨ hbLink p s = 2 →
    i.hwType ≠ 0x4860 ∨ rolesFit (hbRole p (notePeer p i s)) i.role.toNat = false → ∃ t, exec (.linkTrainingDone p i) s = .next t ∧ hbLink p t = 2 ∧ t.chans = s.chans) ∧
  (∀ (p : Fin 2) (s : State), hbUp p s = true → Runs (.laneLockLoss p) s (hbDown p 1 s)) ∧
  (∀ (p : Fin 2) (s : State), hbUp p s = true → hbRole p s = 1 → s.pair.released = false → s.pow.nrst = true →
    ∃ t, exec (.hbHeartbeatSend p) s = .next t ∧ (t.hb p).hbCount = ((s.hb p).hbCount + 1) % 256 ∧ (t.hb p).out = (s.hb p).out ∧ t.regs = s.regs ∧ t.chans = s.chans) ∧
  (∀ (p : Fin 2) (s : State), hbUp p s = true → hbRole p s = 1 →
    ∃ t, exec (.hbMiss p) s = .next t ∧ t.rd Reg.HbStat.HB_MISS p.val = satInc Reg.HbStat.HB_MISS.w (s.rd Reg.HbStat.HB_MISS p.val) ∧ t.chans = s.chans ∧ t.hbs = s.hbs) ∧
  (∀ (p : Fin 2) (n : Byte) (s : State), hbUp p s = true → hbRole p s = 1 → ∃ t, exec (.heartbeatReceive p n) s = .next t ∧ t.rd Reg.HbStat.HB_MISS p.val = 0 ∧ t.chans = s.chans ∧ t.hbs = s.hbs)

/-- PAIR_ALIVE_LOST clears PA_IN, and counts PA_ONLY_CNT on a standby that still gets heartbeats; PAIR_ALIVE_RETURN sets it. A standby with five heartbeats missed and PA_IN
clear takes over: it counts TAKEOVER_CNT and becomes owner. A device WAITING alone becomes owner. HANDOVER_INSTANT changes the roles: the owner becomes standby, the
standby owner, and a change of role sets ROLE and ROLE_TIME, raises event 470 and lets the outputs follow.
Rests on: 15_redundant_pair.md R335, 15_redundant_pair.md R341, 15_redundant_pair.md R342, 15_redundant_pair.md R344, Table 15.3. -/
def Obligations.PairRoles : Prop :=
  (∀ s : State, unitsOn s = true → s.rd Reg.PairStat.PA_IN = 1 → ∃ t, exec .pairAliveLost s = .next t ∧ t.rd Reg.PairStat.PA_IN = 0 ∧ t.chans = s.chans ∧ t.crown = s.crown ∧
    t.rd Reg.PairStat.PA_ONLY_CNT = if isStandby s = true ∧ s.rd Reg.HbStat.HB_MISS (pairPort s).val < 5 then satInc Reg.PairStat.PA_ONLY_CNT.w (s.rd Reg.PairStat.PA_ONLY_CNT) else s.rd Reg.PairStat.PA_ONLY_CNT) ∧
  (∀ s : State, unitsOn s = true → Runs .pairAliveReturn s (s.wr Reg.PairStat.PA_IN 0 0 1)) ∧
  (∀ s : State, unitsOn s = true → isStandby s = true → 5 ≤ s.rd Reg.HbStat.HB_MISS (pairPort s).val → s.rd Reg.PairStat.PA_IN = 0 →
    Runs .takeover s (becomeOwner (setSync 0 (s.count Reg.PairStat.TAKEOVER_CNT)))) ∧
  (∀ s : State, unitsOn s = true → isStandby s = true → s.rd Reg.PairStat.PA_IN = 1 → Runs .takeover s s) ∧
  (∀ s : State, unitsOn s = true → pairRole s = 1 → pairUp s = false → s.rd Reg.PairStat.PA_IN = 0 → Runs .waitingAloneTimeout s (setSync 0 (setRole 2 s))) ∧
  (∀ (at_ : Nat) (w : Option Waiter) (s : State), s.pair.handover = some (at_, w) → pairRole s = 2 →
    Runs .handoverInstant s (completeO w (.ok) (syncStart (peerTakes 2 (setSync 0 (setRole 3 ((s.setPair fun p => { p with handover := none }).count Reg.PairStat.HANDOVER_CNT))))))) ∧
  (∀ (at_ : Nat) (w : Option Waiter) (s : State), s.pair.handover = some (at_, w) → pairRole s = 3 →
    Runs .handoverInstant s (completeO w (.ok) (syncStart (peerTakes 3 (becomeOwner (setSync 0 ((s.setPair fun p => { p with handover := none }).count Reg.PairStat.HANDOVER_CNT))))))) ∧
  (∀ (r : Nat) (s : State), pairRole s ≠ r → setRole r s = outputsFollow (((s.wr Reg.PairStat.ROLE 0 0 r).wr Reg.PairStat.ROLE_TIME 0 0 s.time).raise 470))

/-- The owner with its pair link UP sends the alignment items of its running channels, which changes no channel and no register but those of its link. A standby takes an
item: an accumulator moves it by at most 2^40 at once, grid states with their timers and MPPT states follow, the states of an evaluation are kept until it can take them.
A record that passes its CRC and does not stand already (shown for a LOCK record) joins the ring; a delivery mark ends that response. RESYNC_DONE in SYNCING reaches
ALIGNED.
Rests on: 15_redundant_pair.md R337, 15_redundant_pair.md R339, 15_redundant_pair.md R346, 15_redundant_pair.md R349, Table 15.5. -/
def Obligations.PairAlignment : Prop :=
  (∀ s : State, unitsOn s = true → crownUp s = true → pairRole s = 2 → pairUp s = true → ∃ t, exec .alignSend s = .next t ∧ t.chans = s.chans ∧ t.crown = s.crown ∧ t.store = s.store ∧ t.safe = s.safe) ∧
  (∀ (i : AlignItem) (s : State), unitsOn s = true → crownUp s = true → isStandby s = true → pairUp s = true → Runs (.alignReceive i) s (alignItem i (hbConsume (pairPort s) tyAlign s))) ∧
  (∀ (c : Ch) (acc t : Nat) (s : State), atStopped c s = false →
    ∃ d : Int, -(2 ^ 40) ≤ d ∧ d ≤ 2 ^ 40 ∧ ((alignAcc c acc t s).ch c).at_.acc = enc 48 (((s.ch c).at_.acc : Int) + d) ∧ (alignAcc c acc t s).rd Reg.PairStat.ALIGN_MAX = max (s.rd Reg.PairStat.ALIGN_MAX) (d.natAbs / 2 ^ 16) % 2 ^ Reg.PairStat.ALIGN_MAX.w) ∧
  (∀ (c : Ch) (st : Nat) (v : W32) (s : State), st < 8 → mpptState c (alignItem (.mppt c st v) s) = st ∧ (alignItem (.mppt c st v) s).rd Reg.MpptStat.VREF (cI c) = v.toNat) ∧
  (∀ (c : Ch) (st trip : Nat) (timers : List Nat) (id iq : W32) (s : State), st < 8 → gridState c (alignItem (.grid c st trip timers id iq) s) = st ∧
    ((alignItem (.grid c st trip timers id iq) s).ch c).grid.rampT = timers.getD 10 0) ∧
  (∀ (c : Ch) (states : List (Nat × Int)) (v : List W32) (s : State), (alignItem (.ceState c states v) s).pair.chs[c].ceStates = states.filter (fun e => decide (e.2 ≠ 0)) ∧
    (alignItem (.ceState c states v) s).chans = s.chans) ∧
  (∀ (m : Mbx) (sq : W32) (s : State), unitsOn s = true → crownUp s = true → booksFlow s = true →
    Runs (.journalMessageReceive (.mark m sq)) s ((hbConsume (pairPort s) tyJournal s).setMb m fun b => { b with cmds := b.cmds.eraseP fun c => !c.live && c.seq == sq.toNat })) ∧
  (∀ (bs : List Byte) (r : JRec) (s : State), unitsOn s = true → crownUp s = true → booksFlow s = true → isStandby s = true → jParse bs = some r → (s.crown.journal.any fun x => x.jseq == r.jseq) = false →
    blockDead (journalBlock r.jseq) s = false → s.crown.journal.length < journalSize → r.typ = 7 → ∃ t, exec (.journalMessageReceive (.record bs)) s = .next t ∧ r ∈ t.crown.journal ∧ (∀ x ∈ s.crown.journal, x ∈ t.crown.journal)) ∧
  (∀ s : State, pairLinked s = true → s.rd Reg.PairStat.SYNC = 1 → ∃ t, exec .resyncDone s = .next t ∧ t.rd Reg.PairStat.SYNC = 2 ∧ t.chans = s.chans ∧ ∀ c : Ch, t.pair.chs[c].bad = false)

/-- After the transfer of a row its target arbitrates: of the highest class that asks, the requester after the one granted last, and one that withdraws is counted in
WITHDRAW_CNT. MRAM_READ_COMPLETE of a block that reads well changes nothing else; one whose second read is good is a transient failure, counted with event 480; one that
fails twice is retired, its content is lost, and a journal record in it is VOID. Retiring takes the next spare while one is left, and with none sets POOL_EMPTY.
MRAM_WRITE_COMPLETE makes a block readable again. MRAM_SCRUB reads the next block in turn. SRAM_SCRUB counts what it found.
Rests on: 16_fabric_and_memory.md R355, 16_fabric_and_memory.md R358, 16_fabric_and_memory.md R363, 16_fabric_and_memory.md R364, 16_fabric_and_memory.md R365, 16_fabric_and_memory.md R366, 16_fabric_and_memory.md R367. -/
def Obligations.MemoryBlocks : Prop :=
  (∀ (b : BitVec 19) (x : Bool) (q wd : BitVec 15) (s : State), Runs (.mramReadComplete b false x q wd) s (arbitrateAll (macroOf b.toNat) q wd s)) ∧
  (∀ (b : BitVec 19) (x : Bool) (wd : BitVec 15) (s : State), Runs (.mramReadComplete b false x 0 wd) s s) ∧
  (∀ (t : Target) (wd n reqs r : Nat) (s : State), fabricGrant t reqs s = some r → arbitrate t wd (n + 1) reqs s =
    if bit wd r = true then arbitrate t wd n (setBit reqs r false) ((moveGrant t r s).count Reg.MemStat.WITHDRAW_CNT) else moveGrant t r s) ∧
  (∀ (t : Target) (reqs r : Nat) (s : State), fabricGrant t reqs s = some r → r ∈ asking t reqs ∧ ∀ q ∈ asking t reqs, s.rd Reg.Fabric.CLASS 0 q ≤ s.rd Reg.Fabric.CLASS 0 r) ∧
  (∀ (b : BitVec 19) (q wd : BitVec 15) (s : State), Runs (.mramReadComplete b true false q wd) s (arbitrateAll (macroOf b.toNat) q wd (loadTransient b.toNat ((s.count Reg.MemStat.MRAM_TRANSIENT_CNT).raise 480)))) ∧
  (∀ (b : BitVec 19) (q wd : BitVec 15) (s : State), ∃ t, Runs (.mramReadComplete b true true q wd) s (arbitrateAll (macroOf b.toNat) q wd t) ∧ blockLost b.toNat t = true ∧ t.crown.journal = s.crown.journal.map (voidIf b.toNat) ∧ t.store = s.store ∧
    (s.rd Reg.MemStat.SPARES_LEFT ≠ 0 → t.rd Reg.MemStat.LAST_RETIRED = b.toNat % 2 ^ Reg.MemStat.LAST_RETIRED.w ∧ (b.toNat, s.mem.nextSpare) ∈ t.mem.remap) ∧
    (s.rd Reg.MemStat.SPARES_LEFT = 0 → t.rd Reg.MemStat.POOL_EMPTY = 1 ∧ t.mem.remap = s.mem.remap)) ∧
  (∀ (b : BitVec 19) (q wd : BitVec 15) (s : State), blockDead b.toNat s = false → ∃ t, Runs (.mramWriteComplete b false false q wd) s (arbitrateAll (macroOf b.toNat) q wd t) ∧ blockLost b.toNat t = false ∧ t.regs = s.regs ∧ t.chans = s.chans) ∧
  (∀ (b : BitVec 19) (q wd : BitVec 15) (s : State), s.rd Reg.MemStat.SPARES_LEFT ≠ 0 → ∃ t, Runs (.mramWriteComplete b true true q wd) s (arbitrateAll (macroOf b.toNat) q wd t) ∧ blockLost b.toNat t = false ∧ t.chans = s.chans ∧ t.store = s.store) ∧
  (∀ s : State, s.pow.st = .run → s.crown.run = .running → ∃ t, exec (.mramScrub false false) s = .next t ∧
    t.rd Reg.MemStat.SCRUB_POS = (s.rd Reg.MemStat.SCRUB_POS + 1) % 2 ^ 19 ∧ t.mem = s.mem ∧ t.chans = s.chans ∧ t.store = s.store) ∧
  (∀ (a b : Bool) (k : Fin 4) (q wd : BitVec 15) (s : State), Runs (.sramScrub a b k q wd) s
    (let x := if a then s.count Reg.MemStat.SRAM_CORR_CNT else s
     arbitrateAll (Fin.ofNat 6 k.val) q wd (if b then x.count Reg.MemStat.SRAM_UNCORR_CNT else x)))

/-- BROWNOUT in Run clears RUN_OK, raises event 484 and starts the sequence, counted once; elsewhere it only clears RUN_OK. BROWNOUT_END with VIN_AUX back returns to Run and
every MF reopens, and else enters Lull or Frost, with the Crown off. RUN_OK_RISE sets RUN_OK. LULL_SOURCE_LOST in Lull without RUN_OK enters Frost. A wake source that is
enabled takes Lull to Thaw at RUN_OK with its number in WAKE_SRC, and below it is counted as denied. VBAT_LOSS in Frost enters OFF. LULL_ENTER is refused while a PG is
RUNNING or HALTED and else enters Lull.
Rests on: 17_power_and_holdup.md R376, 17_power_and_holdup.md R377, 17_power_and_holdup.md R379, 13_command_reference.md R305, Table 17.4. -/
def Obligations.SupplyStates : Prop :=
  (∀ s : State, s.pow.st = .run → Runs .brownout s (brownStart (((setRunOk false s).raise 484).setPow fun p => { p with st := .brownout }))) ∧
  (∀ s : State, s.pow.st ≠ .run → Runs .brownout s (setRunOk false s)) ∧
  (∀ (b : Bool) (s : State), (setRunOk b s).pow.runOk = b ∧ (setRunOk b s).rdB Reg.PowStat.RUN_OK = b ∧ (setRunOk b s).pow.st = s.pow.st ∧ (setRunOk b s).chans = s.chans) ∧
  (∀ s : State, s.pow.st = .brownout →
    let a := brownRecords (brownStopped s)
    Runs .brownoutEnd s (if a.pow.runOk = true then (a.setPow fun p => { p with st := .run }).eachCh fun s c => mfReopen c s
      else if (lullSource a).1 = true then enterLull 2 (lullSource a).2 else enterFrost (lullSource a).2)) ∧
  (∀ (cause : Nat) (s : State), (enterLull cause s).pow.st = .lull ∧ (enterLull cause s).crown.run = .rom ∧ (enterFrost s).pow.st = .frost ∧ (enterFrost s).crown.run = .rom) ∧
  (∀ s : State, Runs .runOkRise s (setRunOk true s)) ∧
  (∀ s : State, s.pow.st = .lull → s.pow.runOk = false → ∃ t, exec .lullSourceLost s = .next t ∧ t.pow.st = .frost ∧ t.crown.run = .rom) ∧
  (∀ (src : WakeSrc) (s : State), s.pow.st = .lull → (wakeOf src s).2 = true → s.pow.runOk = true → Runs (.wakeEvent src) s
    (((lullMeasClose s).wr Reg.PowStat.WAKE_SRC 0 0 (wakeOf src s).1).setPow fun p => { p with st := .thaw, fromLull := true, burst := false })) ∧
  (∀ (src : WakeSrc) (s : State), s.pow.st = .lull → (wakeOf src s).2 = true → s.pow.runOk = false → Runs (.wakeEvent src) s (s.count Reg.PowStat.WAKE_DENY_CNT)) ∧
  (∀ s : State, s.pow.st = .frost → Runs .vbatLoss s (s.setPow fun p => { p with st := .off, islandLost := true, sinceOff := true, heldS := 0, tamperDue := false })) ∧
  (∀ (m : Mbx) (p : List Byte) (s : State), Takes (.lullEnter m p) s → anyPgBusy s = true → Ends (.lullEnter m p) s (.fail stStateRefused 0, s)) ∧
  (∀ (m : Mbx) (p : List Byte) (s : State), Takes (.lullEnter m p) s → anyPgBusy s = false → Runs (.lullEnter m p) s (processed m (enterLull 1 s)))

/-- STORE_MEASURE takes VSTORE, forms E and the levels of Table 17.3 from it and updates events, charger and what a sag ends. LULL_MEASUREMENT in Lull with MEAS_S not 0,
granted, counts the grant and wakes the MF of MEAS_CH, and not granted counts the denial. LULL_BURST asks for a burst with KIND 2, RESET_HELD_FRAME for one with KIND 3
after 10 s of nRST. BAT_LOW_CHECK in Run takes VBAT and sets BAT_LOW below 2400 mV. TAMPER counts with its time and raises event 499 in Run. TEMPERATURE_READ takes both
temperatures and the peak. RUN_HOUR counts an hour.
Rests on: 17_power_and_holdup.md R370, 17_power_and_holdup.md R374, 17_power_and_holdup.md R375, 17_power_and_holdup.md R383, 19_pins_and_electrical.md R428, Table 17.3. -/
def Obligations.StoreAndMeasurements : Prop :=
  (∀ (v : W16) (s : State), unitsOn s = true ∨ s.pow.st = .lull → ∃ t, exec (.storeMeasure v) s = .next t ∧ (unitsOn s = true → t.rd Reg.PowStat.VSTORE_MV = v.toNat ∧ t.chans = s.chans ∧
    t.rd Reg.PowStat.STORE_MJ = (rhu (storeUnits (s.setPow fun p => { p with vstore := v.toNat })) 2000000).toNat % 2 ^ Reg.PowStat.STORE_MJ.w)) ∧
  (∀ s : State, s.pow.st = .lull → s.rd Reg.PowCfg.MEAS_S ≠ 0 →
    let g := granted 60 s
    let c : Ch := Fin.ofNat 8 (g.2.rd Reg.PowCfg.MEAS_CH)
    let a := g.2.count Reg.PowStat.MEAS_GRANT_CNT
    Runs .lullMeasurement s (if g.1 = true then (if a.rdB Reg.MeterCfg.EN (cI c) then (mfStart c a).setMf c fun m => { m with lull := some (m.sample + 1600) } else a)
      else g.2.count Reg.PowStat.MEAS_DENY_CNT)) ∧
  (∀ s : State, s.pow.st = .lull → Runs .lullBurst s (burstAsk 2 s)) ∧
  (∀ s : State, s.pow.nrst = false → 10 ≤ s.pow.heldS → s.pow.runOk = true → Runs .resetHeldFrame s (sendStatus 0 3 (s.setPow fun p => { p with burst := true }))) ∧
  (∀ (v : W16) (s : State), s.pow.st = .run → ∃ t, exec (.batLowCheck v) s = .next t ∧ t.rd Reg.PowStat.VBAT_MV = v.toNat ∧ t.rdB Reg.PowStat.BAT_LOW = decide (v.toNat < 2400) ∧ t.chans = s.chans ∧ t.pow = s.pow) ∧
  (∀ s : State, s.pow.st ≠ .off → ∃ t, exec .tamper s = .next t ∧ t.rd Reg.PowStat.TAMPER_CNT = satInc Reg.PowStat.TAMPER_CNT.w (s.rd Reg.PowStat.TAMPER_CNT) ∧ t.rd Reg.PowStat.TAMPER_RTC = s.rd Reg.Rtc.RTC % 2 ^ 64 ∧
    (s.pow.st = .run → t.raised = 499 :: s.raised) ∧ (s.pow.st ≠ .run → t.pow.tamperDue = true) ∧ t.chans = s.chans) ∧
  (∀ (a b : W16) (s : State), s.pow.st = .run → crownUp s = true → ∃ t, exec (.temperatureRead a b) s = .next t ∧ t.rd Reg.Package.TJ_CTRL = a.toNat ∧ t.rd Reg.Package.TJ_BCD = b.toNat ∧
    t.rdS Reg.Package.TJ_PEAK = max (sgn 16 (s.rd Reg.Package.TJ_PEAK)) (max (sgn 16 a.toNat) (sgn 16 b.toNat)) ∧ t.chans = s.chans) ∧
  (∀ s : State, s.pow.st = .run → crownUp s = true → ∃ t, exec .runHour s = .next t ∧ t.rd Reg.Package.RUN_HOURS = satInc Reg.Package.RUN_HOURS.w (s.rd Reg.Package.RUN_HOURS) ∧ t.pow.tjCnt = 0 ∧ t.chans = s.chans)

/-- NRST_LOW takes the device to RESET with every unit off; NRST_HIGH there, without a thermal trip, leaves it for Thaw or Frost; RESET_HELD keeps the longest low period.
THERMAL_TRIP ends in RESET with the trip held, THERMAL_RECOVERY ends the hold. THAW, where it can run and the bank passes its checks, without a level on TESTMODE0 to
TESTMODE2 in MAKER or OEM, which keeps the device in RESET, answers the state after its steps, with the levels of NID and PAIR_ID latched at step 1 and the unfinished
commands taken up in the order of acceptance; when no bank passes, ROM recovery.
Rests on: 17_power_and_holdup.md R381, 17_power_and_holdup.md R382, 17_power_and_holdup.md R384, 17_power_and_holdup.md R385, 19_pins_and_electrical.md R412, 19_pins_and_electrical.md R415, 19_pins_and_electrical.md R427. -/
def Obligations.ResetAndThaw : Prop :=
  (∀ s : State, ∃ t, exec .nrstLow s = .next t ∧ t.pow.st = .reset ∧ t.pow.nrst = false ∧ t.pow.heldS = 0 ∧ t.crown.run = .rom) ∧
  (∀ s : State, s.pow.st = .reset → s.pow.thermal = false → ∃ t, exec .nrstHigh s = .next t ∧ t.pow.nrst = true ∧ (t.pow.st = .thaw ∨ t.pow.st = .frost) ∧ t.chans = s.chans ∧ t.regs = s.regs) ∧
  (∀ (n : W32) (s : State), s.pow.nrst = false → Runs (.resetHeld n) s (s.setPow fun p => { p with heldS := max p.heldS n.toNat })) ∧
  (∀ s : State, unitsOn s = true → ∃ t, exec .thermalTrip s = .next t ∧ t.pow.st = .reset ∧ t.pow.thermal = true ∧ t.crown.run = .rom) ∧
  (∀ s : State, s.pow.thermal = true → Runs .thermalRecovery s (s.setPow fun p => { p with thermal := false, st := if p.nrst then .thaw else p.st })) ∧
  (∀ (tm : BitVec 3) (nid : BitVec 4) (pid : Bool) (s : State), let a := latchPins nid.toNat pid s
    canThaw s = true → testHeld tm.toNat s = false → (romStart (!s.pow.fromLull) (thawBase a)).1 = true →
    Runs (.thaw tm nid pid) s (thawUp s.pow.sinceNrst (replayPlan (a.setLife fun l => { l with activating := none })) (romStart (!s.pow.fromLull) (thawBase a)).2)) ∧
  (∀ (tm : BitVec 3) (nid : BitVec 4) (pid : Bool) (s : State), canThaw s = true → tm.toNat ≠ 0 → lifeState s = lcMaker ∨ lifeState s = lcOem → ∃ t, exec (.thaw tm nid pid) s = .next t ∧ t.pow.st = .reset ∧ t.crown.run = .rom) ∧
  (∀ (tm : BitVec 3) (s : State), lifeState s = lcField ∨ lifeState s = lcReturn → testHeld tm.toNat s = false) ∧
  (∀ (tm : BitVec 3) (nid : BitVec 4) (pid : Bool) (s : State), canThaw s = true → testHeld tm.toNat s = false → (romStart (!s.pow.fromLull) (thawBase (latchPins nid.toNat pid s))).1 = false → ∃ t, exec (.thaw tm nid pid) s = .next t ∧ t.crown.run = .recovery ∧ t.pow.st = .thaw) ∧
  (∀ (tm : BitVec 3) (nid : BitVec 4) (pid : Bool) (s : State), canThaw s = false → Runs (.thaw tm nid pid) s s) ∧
  (∀ (nid : BitVec 4) (pid : Bool) (s : State), let a := latchPins nid.toNat pid s
    a.rd Reg.Package.NID = nid.toNat ∧ a.rdB Reg.Package.PAIR_ID = pid ∧ a.rdB Reg.PairStat.PAIR_ID = pid ∧ a.chans = s.chans ∧ a.pow = s.pow)

/-- FW_WRITE, FW_VERIFY and ACTIVATE that pass their checks end as their effects say: a bank that is RECEIVING refuses both, a write of 512 bytes at a multiple of 512 opens
the bank for writing unless a block there fails for good, a bank that passes Table 18.7 is VERIFIED and one that fails is REJECTED with the code. ACTIVATE without a
refusal puts the Crown into the pause. ACTIVATION_CONFIRM runs the new bank and ends ACTIVATE DONE with it; ACTIVATION_CONFIRM_TIMEOUT returns to the former bank and ends
it with IMAGE_REJECTED 11.
Rests on: 18_lifecycle_and_update.md R396, 18_lifecycle_and_update.md R403, 18_lifecycle_and_update.md R404, 18_lifecycle_and_update.md R405, Table 18.8. -/
def Obligations.FirmwareAndActivation : Prop :=
  (∀ (m : Mbx) (p : List Byte) (s : State), Takes (.fwWrite m p) s → Ends (.fwWrite m p) s (fwWriteEff p s)) ∧
  (∀ (p : List Byte) (s : State), leAt p 0 4 % 512 = 0 → leAt p 0 4 + 512 ≤ fwSize → inactState s ≠ inReceiving → spanDead (fwBlock0 (inactIsB s)) (leAt p 0 4) 512 s = false → (fwWriteEff p s).1 = .ok ∧ inactState (fwWriteEff p s).2 = inWriting) ∧
  (∀ (m : Mbx) (p : List Byte) (s : State), Takes (.fwWrite m p) s → leAt p 0 4 % 512 = 0 → leAt p 0 4 + 512 ≤ fwSize → inactState s ≠ inReceiving →
    spanDead (fwBlock0 (inactIsB s)) (leAt p 0 4) 512 s = false → ∃ t, exec (.fwWrite m p) s = .next t ∧ t.report = some ⟨m.val, stDone, 0, []⟩ ∧ inactState t = inWriting ∧ t.chans = s.chans) ∧
  (∀ (m : Mbx) (p : List Byte) (s : State), Takes (.fwVerify m p) s → inactState s ≠ inReceiving → bankCode (inactIsB s) s = 0 →
    ∃ t, exec (.fwVerify m p) s = .next t ∧ t.report = some ⟨m.val, stDone, 0, leBytes 4 (bankVersion (inactIsB s) s).1 ++ leBytes 1 (fwBound (inactIsB s) s).toNat ++ [0, 0, 0]⟩ ∧
      inactState t = inVerified ∧ t.chans = s.chans) ∧
  (∀ (p : List Byte) (s : State), leAt p 0 4 % 512 = 0 → leAt p 0 4 + 512 ≤ fwSize → inactState s = inReceiving → fwWriteEff p s = (.fail stStateRefused 0, s)) ∧
  (∀ (m : Mbx) (p : List Byte) (s : State), Takes (.fwVerify m p) s → Ends (.fwVerify m p) s (fwVerifyEff s)) ∧
  (∀ s : State, inactState s ≠ inReceiving → bankCode (inactIsB s) s = 0 → (fwVerifyEff s).1.status = stDone ∧ inactState (fwVerifyEff s).2 = inVerified) ∧
  (∀ s : State, inactState s ≠ inReceiving → bankCode (inactIsB s) s ≠ 0 → (fwVerifyEff s).1 = .fail stImageRejected (bankCode (inactIsB s) s) ∧ inactState (fwVerifyEff s).2 = inRejected) ∧
  (∀ (m : Mbx) (p : List Byte) (s : State), Takes (.activate m p) s → activateRefused s = none → ∃ t, exec (.activate m p) s = .next t ∧ t.crown.run = .pause ∧ t.crown.resetCause = 6 ∧
    (t.life.activating.map Activating.w) = some (waiterOf m codeActivate s)) ∧
  (∀ (m : Mbx) (p : List Byte) (d : Done) (s : State), Takes (.activate m p) s → activateRefused s = some d → Ends (.activate m p) s (d, s)) ∧
  (∀ (a : Activating) (s : State), s.life.activating = some a → s.crown.run = .pause → bankCode (inactIsB s) s = 0 →
    let b := swapFirmware (s.setLife fun l => { l with activating := none })
    Runs .activationConfirm s (completeW a.w (.ok 0 (leBytes 1 (runIsB b).toNat ++ [0, 0, 0])) (crownResume (replayPlan s) b))) ∧
  (∀ (a : Activating) (s : State), s.life.activating = some a → s.crown.run = .pause →
    let b := inactReject 11 ((s.count Reg.Fw.FALLBACK_CNT).setLife fun l => { l with activating := none })
    romCode true (runIsB b) b = 0 → Runs .activationConfirmTimeout s (completeW a.w (.fail stImageRejected 11) (crownResume (replayPlan s) (firmwareStart (runIsB b) (b.wr Reg.Fw.BOOT_FAIL 0 0 11)))))

/-- When a firmware has confirmed, SEC_FLOOR is the larger of what it was and the SEC_VERSION of that firmware, so it never falls. An image whose SEC_VERSION lies below
SEC_FLOOR fails check 9, so that its bank does not pass Table 18.7.
Rests on: 18_lifecycle_and_update.md R406, Table 18.7. -/
def Obligations.SecurityFloorRises : Prop :=
  (∀ s : State, s.rd Reg.Life.SEC_FLOOR < 2 ^ Reg.Life.SEC_FLOOR.w → (bankVersion (inactIsB s) s).2 < 2 ^ Reg.Life.SEC_FLOOR.w →
    (swapFirmware s).rd Reg.Life.SEC_FLOOR = max (s.rd Reg.Life.SEC_FLOOR) (bankVersion (inactIsB s) s).2) ∧
  (∀ (b : Bool) (s : State), fwLe b 5 1 s < s.rd Reg.Life.SEC_FLOOR → fwChk9 b s = false ∧ (isDelivered b s = false → bankCode b s ≠ 0))

/-- LC_REQUEST that passes its first checks ends as its effect says and LC_NONCE takes a new, free value. A request that does not exist from the present state fails with
LIFECYCLE_DENIED. FUSE_PROGRAM of an item already burned, or unusable after a failed burn, fails with STATE_REFUSED and the item; of another one it burns the item,
counting a burn that succeeds at its second attempt, and one that fails lastingly completes INTERNAL with the item and leaves it unusable. DEBUG_AUTH by the key of the
present state opens the debug port when the signature of the challenge is valid, and changes nothing else. With the port open, DEBUG_HALT stops one channel, or the Crown
with every channel; HALT_RELEASE ends the halt.
Rests on: 18_lifecycle_and_update.md R388, 18_lifecycle_and_update.md R390, 18_lifecycle_and_update.md R392, 18_lifecycle_and_update.md R393, 07_pulse_generation.md R159. -/
def Obligations.LifeCycleAndDebug : Prop :=
  (∀ (m : Mbx) (p : List Byte) (s : State), crownUp s = true → rowMay m codeLcRequest p s = true → (lcReq p).check m p s = none →
    Runs (.lcRequest m p) s (lcNonce (processed m (completeW (waiterOf m codeLcRequest s) (lcRequestEff m p s).1 (lcRequestEff m p s).2)))) ∧
  (∀ (m : Mbx) (p : List Byte) (s : State), crownUp s = true → rowMay m codeLcRequest p s = true → (lcReq p).check m p s = none → p.length = (if pb p 0 = lcField then 4 else 220) →
    lcRefused (pb p 0) p s = none → ∃ t, exec (.lcRequest m p) s = .next t ∧ t.report = some ⟨m.val, stDone, 0, leBytes 1 (pb p 0)⟩ ∧ lifeState t = pb p 0) ∧
  (∀ (t : Nat) (p : List Byte) (s : State), lcExists t s = false → lcRefused t p s = some (.fail stLifecycleDenied (lifeState s))) ∧
  (∀ (m : Mbx) (p : List Byte) (b1 b2 : Bool) (s : State), Takes (.fuseProgram m p b1 b2) s → Ends (.fuseProgram m p b1 b2) s (fuseEff m p b1 b2 s)) ∧
  (∀ (m : Mbx) (p : List Byte) (b1 b2 : Bool) (s : State), Takes (.fuseProgram m p b1 b2) s → p.length = 4 + fuseLen (pb p 0) → fuseBad (pb p 0) p = none → fuseBurned (pb p 0) s = false →
    (b1 = false ∨ b2 = false) → ∃ t, exec (.fuseProgram m p b1 b2) s = .next t ∧ t.report = some ⟨m.val, stDone, 0, []⟩ ∧ fuseBurned (pb p 0) t = true ∧ t.chans = s.chans) ∧
  (∀ (m : Mbx) (p : List Byte) (b1 b2 : Bool) (s : State), p.length = 4 + fuseLen (pb p 0) → fuseBad (pb p 0) p = none → fuseBurned (pb p 0) s = true → fuseEff m p b1 b2 s = (.fail stStateRefused (pb p 0), s)) ∧
  (∀ (m : Mbx) (p : List Byte) (s : State), p.length = 4 + fuseLen (pb p 0) → fuseBad (pb p 0) p = none → fuseBurned (pb p 0) s = false → (fuseEff m p true false s).2.life.fuseTransient = s.life.fuseTransient + 1) ∧
  (∀ (m : Mbx) (p : List Byte) (s : State), pb p 0 = 1 → p.length = 52 → fuseBurned 1 s = false →
    (fuseEff m p false false s).1 = .ok ∧ (fuseEff m p false false s).2.life.oemHash = some (p.drop 4) ∧ (fuseEff m p false false s).2.rd Reg.Life.OEM_KEY = 1 ∧ (fuseEff m p false false s).2.chans = s.chans) ∧
  (∀ (m : Mbx) (p : List Byte) (s : State), p.length = 4 + fuseLen (pb p 0) → fuseBad (pb p 0) p = none → fuseBurned (pb p 0) s = false →
    (fuseEff m p true true s).1 = .fail stInternal (pb p 0) ∧ fuseBurned (pb p 0) (fuseEff m p true true s).2 = true ∧ (fuseEff m p true true s).2.life.oemHash = s.life.oemHash ∧
    (fuseEff m p true true s).2.chans = s.chans) ∧
  (∀ (pub sig : List Byte) (s : State), lifeState s = lcOem → s.life.debugFused = false → s.life.debugHash = some (sha384 pub) →
    Runs (.debugAuth pub sig) s (if Config.ecdsaP384 pub sig (sha384 (leBytes 48 (s.free 384))) = true then s.drew.wr Reg.Life.DEBUG_OPEN 0 0 1 else s.drew)) ∧
  (∀ (pub sig : List Byte) (s : State), lifeState s = lcField → Runs (.debugAuth pub sig) s s.drew) ∧
  (∀ (c : Ch) (s : State), debugOpen s = true → unitsOn s = true → Runs (.debugHalt (.channel c)) s (channelDebugHalt c s)) ∧
  (∀ s : State, debugOpen s = true → unitsOn s = true → crownUp s = true → Runs (.debugHalt .crown) s (crownTo .halted (s.eachCh fun s c => channelDebugHalt c s))) ∧
  (∀ (t : HaltTarget) (s : State), debugOpen s = false → Runs (.debugHalt t) s s) ∧
  (∀ (c : Ch) (s : State), (s.pg c).dbgHalt = true → Runs (.haltRelease (.channel c)) s (channelRelease c s)) ∧
  (∀ s : State, s.crown.run = .halted → Runs (.haltRelease .crown) s (crownTo .running (s.eachCh fun s c => channelRelease c s)))

/-- On a port that is UP with the Crown running: block 0 of a transfer not seen before that passes its CRC starts the transfer; the expected next block that passes is taken,
stored or passed on and forwarded; a block that fails its CRC is asked for once more and at the second failure the transfer is abandoned. IMAGE_RESEND sends the named
block again, IMAGE_ABANDON abandons the transfer here and onward.
Rests on: 18_lifecycle_and_update.md R398, 18_lifecycle_and_update.md R399, 18_lifecycle_and_update.md R400, 18_lifecycle_and_update.md R401. -/
def Obligations.ImageTransfers : Prop :=
  (∀ (p : Fin 2) (d : ImgDesc) (data : List Byte) (s : State), hbUp p s = true → crownUp s = true → d.kind.toNat ≤ 1 → d.nBlocks ≠ 0 → d.blockNo = 0 → data.length = 1024 → crc32c data = d.blockCrc.toNat →
    (s.life.xin.find? fun x => x.id == d.xferId.toNat && x.port == p) = none → s.life.seen.contains d.xferId.toNat = false →
    Runs (.imageBlockReceive p d data) s (startXfer p d data false (hbConsume p tyImage s))) ∧
  (∀ (p : Fin 2) (d : ImgDesc) (data : List Byte) (x : XferIn) (s : State), hbUp p s = true → crownUp s = true → d.kind.toNat ≤ 1 → d.nBlocks ≠ 0 → data.length = 1024 → crc32c data = d.blockCrc.toNat →
    (s.life.xin.find? fun x => x.id == d.xferId.toNat && x.port == p) = some x → d.blockNo.toNat = x.next → x.next ≠ 0 →
    Runs (.imageBlockReceive p d data) s (takeBlock x d data (hbConsume p tyImage s))) ∧
  (∀ (p : Fin 2) (d : ImgDesc) (data : List Byte) (x : XferIn) (s : State), hbUp p s = true → crownUp s = true → d.kind.toNat ≤ 1 → d.nBlocks ≠ 0 → crc32c data ≠ d.blockCrc.toNat →
    (s.life.xin.find? fun x => x.id == d.xferId.toNat && x.port == p) = some x → d.blockNo.toNat = x.next →
    Runs (.imageBlockReceive p d data) s (if x.resent = true then xferAbandon x (hbConsume p tyImage s) else askResend p d (setXin { x with resent := true } (hbConsume p tyImage s)))) ∧
  (∀ (p : Fin 2) (d : ImgDesc) (o : XferOut) (s : State), hbUp p s = true → crownUp s = true → s.life.xout = some o → o.id = d.xferId.toNat → d.blockNo.toNat < o.at_ p →
    let a := hbConsume p tyImage s
    Runs (.imageResend p d) s (sendBlock p (xferDesc o.kind o.slot 0 o.id d.blockNo.toNat o.nBlocks a) (xferBlock o.kind o.slot d.blockNo.toNat a) a)) ∧
  (∀ (p : Fin 2) (d : ImgDesc) (x : XferIn) (s : State), hbUp p s = true → crownUp s = true → (s.life.xin.find? fun x => x.id == d.xferId.toNat && x.port == p) = some x →
    Runs (.imageAbandon p d) s (xferAbandon x (hbConsume p tyImage s)))
end

