-- ==== Sys2Proof/Laws/Maps.lean ====
section
/-! SUPPORT. Sparse maps: what a read finds after a write, and that every operation keeps the canonical form. -/

namespace Sys2Proof

variable {α : Type}

/-! ### Reads -/

theorem SMap.get_del_same (d : α) (m : SMap α) (k : Nat) : SMap.get d (SMap.del m k) k = d := by
  induction m with
  | nil => rfl
  | cons e m ih =>
    obtain ⟨k', v⟩ := e
    by_cases h : k' = k <;> simp [SMap.del, SMap.get, h, ih]

theorem SMap.get_del_other (d : α) (m : SMap α) {k j : Nat} (hne : k ≠ j) : SMap.get d (SMap.del m k) j = SMap.get d m j := by
  induction m with
  | nil => rfl
  | cons e m ih =>
    obtain ⟨k', v⟩ := e
    by_cases h : k' = k
    · subst h; simp [SMap.del, SMap.get, hne, ih]
    · simp [SMap.del, SMap.get, h, ih]

theorem SMap.get_ins_same (d : α) (m : SMap α) (k : Nat) (v : α) : SMap.get d (SMap.ins m k v) k = v := by
  induction m with
  | nil => simp [SMap.ins, SMap.get]
  | cons e m ih =>
    obtain ⟨k', w⟩ := e
    by_cases h1 : k < k'
    · simp [SMap.ins, SMap.get, h1]
    · by_cases h2 : k' = k <;> simp [SMap.ins, SMap.get, h1, h2, ih]

theorem SMap.get_ins_other (d : α) (m : SMap α) {k j : Nat} (v : α) (hne : k ≠ j) : SMap.get d (SMap.ins m k v) j = SMap.get d m j := by
  induction m with
  | nil => simp [SMap.ins, SMap.get, hne]
  | cons e m ih =>
    obtain ⟨k', w⟩ := e
    by_cases h1 : k < k'
    · simp [SMap.ins, SMap.get, h1, hne]
    · by_cases h2 : k' = k
      · subst h2; simp [SMap.ins, SMap.get, hne]
      · simp [SMap.ins, SMap.get, h1, h2, ih]

/-- The key written reads the value written. -/
theorem SMap.get_set_same [DecidableEq α] (d : α) (m : SMap α) (k : Nat) (v : α) : SMap.get d (SMap.set d m k v) k = v := by
  unfold SMap.set; split
  · rename_i h; rw [SMap.get_del_same, h]
  · exact SMap.get_ins_same d m k v

/-- Every other key reads as before. -/
theorem SMap.get_set_other [DecidableEq α] (d : α) (m : SMap α) {k j : Nat} (v : α) (hne : k ≠ j) :
    SMap.get d (SMap.set d m k v) j = SMap.get d m j := by
  unfold SMap.set; split
  · exact SMap.get_del_other d m hne
  · exact SMap.get_ins_other d m v hne

/-- A run of writes: keys inside it read the values written, every other key reads as before. -/
theorem SMap.get_setRun [DecidableEq α] (d : α) (vs : List α) : ∀ (m : SMap α) (k j : Nat),
    SMap.get d (SMap.setRun d m k vs) j = if k ≤ j ∧ j < k + vs.length then vs.getD (j - k) d else SMap.get d m j := by
  induction vs with
  | nil => intro m k j; simp [SMap.setRun]
  | cons v vs ih =>
    intro m k j
    rw [SMap.setRun, ih]
    by_cases h1 : j = k
    · subst h1; simp [SMap.get_set_same]
    · by_cases h2 : k ≤ j ∧ j < k + (v :: vs).length
      · have h3 : k + 1 ≤ j ∧ j < k + 1 + vs.length := by simp at h2; omega
        rw [if_pos h2, if_pos h3]
        have h4 : j - k = (j - (k + 1)) + 1 := by omega
        rw [h4]; simp
      · have h3 : ¬ (k + 1 ≤ j ∧ j < k + 1 + vs.length) := by simp at h2; omega
        rw [if_neg h2, if_neg h3, SMap.get_set_other d m v (Ne.symm h1)]

/-! ### The canonical form -/

variable [DecidableEq α]

theorem SMap.wfFrom_mono (d : α) (m : SMap α) {lo hi : Nat} (h : lo ≤ hi) (hm : SMap.wfFrom d hi m = true) : SMap.wfFrom d lo m = true := by
  cases m with
  | nil => rfl
  | cons e m =>
    obtain ⟨k, v⟩ := e
    simp [SMap.wfFrom] at hm ⊢
    exact ⟨⟨by omega, hm.1.2⟩, hm.2⟩

theorem SMap.wfFrom_del (d : α) (m : SMap α) (k : Nat) : ∀ lo, SMap.wfFrom d lo m = true → SMap.wfFrom d lo (SMap.del m k) = true := by
  induction m with
  | nil => intro lo h; exact h
  | cons e m ih =>
    obtain ⟨k', v⟩ := e
    intro lo h
    simp [SMap.wfFrom] at h
    by_cases hk : k' = k
    · simp only [SMap.del, if_pos hk]
      exact SMap.wfFrom_mono d _ (by omega) (ih _ h.2)
    · simp [SMap.del, hk, SMap.wfFrom]
      exact ⟨h.1, ih _ h.2⟩

theorem SMap.wfFrom_ins (d : α) (m : SMap α) (k : Nat) {v : α} (hv : v ≠ d) : ∀ lo, lo ≤ k → SMap.wfFrom d lo m = true →
    SMap.wfFrom d lo (SMap.ins m k v) = true := by
  induction m with
  | nil => intro lo hl _; simp [SMap.ins, SMap.wfFrom, hl, hv]
  | cons e m ih =>
    obtain ⟨k', w⟩ := e
    intro lo hl h
    simp [SMap.wfFrom] at h
    by_cases h1 : k < k'
    · simp [SMap.ins, h1, SMap.wfFrom, hl, hv, h.1.2, h.2]
    · by_cases h2 : k' = k
      · subst h2; simp [SMap.ins, SMap.wfFrom, hv, h.2]; omega
      · simp [SMap.ins, h1, h2, SMap.wfFrom]
        exact ⟨h.1, ih _ (by omega) h.2⟩

/-- Writing one key keeps the canonical form. -/
theorem SMap.wf_set (d : α) (m : SMap α) (k : Nat) (v : α) (h : SMap.wf d m = true) : SMap.wf d (SMap.set d m k v) = true := by
  unfold SMap.set; split
  · exact SMap.wfFrom_del d m k 0 h
  · rename_i hv; exact SMap.wfFrom_ins d m k hv 0 (Nat.zero_le _) h

/-- Writing a run keeps the canonical form. -/
theorem SMap.wf_setRun (d : α) (vs : List α) : ∀ (m : SMap α) (k : Nat), SMap.wf d m = true → SMap.wf d (SMap.setRun d m k vs) = true := by
  induction vs with
  | nil => intro m k h; exact h
  | cons v vs ih => intro m k h; exact ih _ _ (SMap.wf_set d m k v h)

theorem SMap.wfFrom_filter (d : α) (p : Nat × α → Bool) (m : SMap α) : ∀ lo, SMap.wfFrom d lo m = true → SMap.wfFrom d lo (m.filter p) = true := by
  induction m with
  | nil => intro lo h; exact h
  | cons e m ih =>
    obtain ⟨k, v⟩ := e
    intro lo h
    simp [SMap.wfFrom] at h
    by_cases hp : p (k, v) = true
    · simp [List.filter, hp, SMap.wfFrom]; exact ⟨h.1, ih _ h.2⟩
    · simp [List.filter, hp]; exact SMap.wfFrom_mono d _ (by omega) (ih _ h.2)

/-- Dropping entries keeps the canonical form. -/
theorem SMap.wf_filter (d : α) (p : Nat × α → Bool) (m : SMap α) (h : SMap.wf d m = true) : SMap.wf d (m.filter p) = true :=
  SMap.wfFrom_filter d p m 0 h

/-- Two canonical parts, the keys of the first below a bound that those of the second reach. -/
theorem SMap.wfFrom_append (d : α) (n : Nat) (b : SMap α) (hb : SMap.wfFrom d n b = true) (a : SMap α) : ∀ lo, lo ≤ n → SMap.wfFrom d lo a = true →
    (∀ e ∈ a, e.1 < n) → SMap.wfFrom d lo (a ++ b) = true := by
  induction a with
  | nil => intro lo hl _ _; exact SMap.wfFrom_mono d b hl hb
  | cons e a ih =>
    obtain ⟨k, v⟩ := e
    intro lo hl h hk
    simp [SMap.wfFrom] at h ⊢
    have hkn : k < n := hk (k, v) (by simp)
    exact ⟨h.1, ih _ (by omega) h.2 fun e he => hk e (by simp [he])⟩

/-- Moving every key up keeps the canonical form. -/
theorem SMap.wfFrom_shift (d : α) (n : Nat) (m : SMap α) : ∀ lo, SMap.wfFrom d lo m = true → SMap.wfFrom d (lo + n) (m.map fun e => (e.1 + n, e.2)) = true := by
  induction m with
  | nil => intro lo _; rfl
  | cons e m ih =>
    obtain ⟨k, v⟩ := e
    intro lo h
    simp [SMap.wfFrom] at h ⊢
    have := ih (k + 1) h.2
    exact ⟨⟨h.1.1, h.1.2⟩, by rw [show k + n + 1 = k + 1 + n by omega]; exact this⟩

theorem SMap.wf_shift (d : α) (n : Nat) (m : SMap α) (h : SMap.wf d m = true) : SMap.wfFrom d n (m.map fun e => (e.1 + n, e.2)) = true := by
  have := SMap.wfFrom_shift d n m 0 h
  rwa [Nat.zero_add] at this

end Sys2Proof
end

