-- ==== Sys2Proof/Laws/State.lean ====
section
/-! SUPPORT. What each named update of the state leaves as it was, field by field, and what reads find after it, so that no proof unfolds a record update. -/

namespace Sys2Proof.Machine

variable (s : State)

/-! ### Updates and the parts of the state they do not touch -/

@[simp] theorem State.wr_frame (f : Fld) (n i v : Nat) :
    (s.wr f n i v).chans = s.chans ∧ (s.wr f n i v).clk = s.clk ∧ (s.wr f n i v).crown = s.crown ∧ (s.wr f n i v).safe = s.safe ∧ (s.wr f n i v).cans = s.cans ∧ (s.wr f n i v).hbs = s.hbs ∧ (s.wr f n i v).pair = s.pair ∧ (s.wr f n i v).mem = s.mem ∧ (s.wr f n i v).pow = s.pow ∧ (s.wr f n i v).life = s.life ∧ (s.wr f n i v).store = s.store ∧ (s.wr f n i v).bills = s.bills ∧ (s.wr f n i v).time = s.time ∧ (s.wr f n i v).odd = s.odd ∧ (s.wr f n i v).raised = s.raised ∧ (s.wr f n i v).report = s.report ∧ (s.wr f n i v).freeCtr = s.freeCtr ∧ (s.wr f n i v).pending = s.pending :=
  ⟨rfl, rfl, rfl, rfl, rfl, rfl, rfl, rfl, rfl, rfl, rfl, rfl, rfl, rfl, rfl, rfl, rfl, rfl⟩

@[simp] theorem State.wrL_frame (f : Fld) (n i v : Nat) :
    (s.wrL f n i v).chans = s.chans ∧ (s.wrL f n i v).clk = s.clk ∧ (s.wrL f n i v).crown = s.crown ∧ (s.wrL f n i v).safe = s.safe ∧ (s.wrL f n i v).cans = s.cans ∧ (s.wrL f n i v).hbs = s.hbs ∧ (s.wrL f n i v).pair = s.pair ∧ (s.wrL f n i v).mem = s.mem ∧ (s.wrL f n i v).pow = s.pow ∧ (s.wrL f n i v).life = s.life ∧ (s.wrL f n i v).store = s.store ∧ (s.wrL f n i v).bills = s.bills ∧ (s.wrL f n i v).time = s.time ∧ (s.wrL f n i v).odd = s.odd ∧ (s.wrL f n i v).raised = s.raised ∧ (s.wrL f n i v).report = s.report ∧ (s.wrL f n i v).freeCtr = s.freeCtr ∧ (s.wrL f n i v).pending = s.pending :=
  ⟨rfl, rfl, rfl, rfl, rfl, rfl, rfl, rfl, rfl, rfl, rfl, rfl, rfl, rfl, rfl, rfl, rfl, rfl⟩

@[simp] theorem State.wrB_frame (f : Fld) (n i : Nat) (b : Bool) :
    (s.wrB f n i b).chans = s.chans ∧ (s.wrB f n i b).clk = s.clk ∧ (s.wrB f n i b).crown = s.crown ∧ (s.wrB f n i b).safe = s.safe ∧ (s.wrB f n i b).cans = s.cans ∧ (s.wrB f n i b).hbs = s.hbs ∧ (s.wrB f n i b).pair = s.pair ∧ (s.wrB f n i b).mem = s.mem ∧ (s.wrB f n i b).pow = s.pow ∧ (s.wrB f n i b).life = s.life ∧ (s.wrB f n i b).store = s.store ∧ (s.wrB f n i b).bills = s.bills ∧ (s.wrB f n i b).time = s.time ∧ (s.wrB f n i b).odd = s.odd ∧ (s.wrB f n i b).raised = s.raised ∧ (s.wrB f n i b).report = s.report ∧ (s.wrB f n i b).freeCtr = s.freeCtr ∧ (s.wrB f n i b).pending = s.pending :=
  ⟨rfl, rfl, rfl, rfl, rfl, rfl, rfl, rfl, rfl, rfl, rfl, rfl, rfl, rfl, rfl, rfl, rfl, rfl⟩

@[simp] theorem State.wrBit_frame (f : Fld) (n i k : Nat) (b : Bool) :
    (s.wrBit f n i k b).chans = s.chans ∧ (s.wrBit f n i k b).clk = s.clk ∧ (s.wrBit f n i k b).crown = s.crown ∧ (s.wrBit f n i k b).safe = s.safe ∧ (s.wrBit f n i k b).cans = s.cans ∧ (s.wrBit f n i k b).hbs = s.hbs ∧ (s.wrBit f n i k b).pair = s.pair ∧ (s.wrBit f n i k b).mem = s.mem ∧ (s.wrBit f n i k b).pow = s.pow ∧ (s.wrBit f n i k b).life = s.life ∧ (s.wrBit f n i k b).store = s.store ∧ (s.wrBit f n i k b).bills = s.bills ∧ (s.wrBit f n i k b).time = s.time ∧ (s.wrBit f n i k b).odd = s.odd ∧ (s.wrBit f n i k b).raised = s.raised ∧ (s.wrBit f n i k b).report = s.report ∧ (s.wrBit f n i k b).freeCtr = s.freeCtr ∧ (s.wrBit f n i k b).pending = s.pending :=
  ⟨rfl, rfl, rfl, rfl, rfl, rfl, rfl, rfl, rfl, rfl, rfl, rfl, rfl, rfl, rfl, rfl, rfl, rfl⟩

@[simp] theorem State.wrS_frame (f : Fld) (n i : Nat) (v : Int) :
    (s.wrS f n i v).chans = s.chans ∧ (s.wrS f n i v).clk = s.clk ∧ (s.wrS f n i v).crown = s.crown ∧ (s.wrS f n i v).safe = s.safe ∧ (s.wrS f n i v).cans = s.cans ∧ (s.wrS f n i v).hbs = s.hbs ∧ (s.wrS f n i v).pair = s.pair ∧ (s.wrS f n i v).mem = s.mem ∧ (s.wrS f n i v).pow = s.pow ∧ (s.wrS f n i v).life = s.life ∧ (s.wrS f n i v).store = s.store ∧ (s.wrS f n i v).bills = s.bills ∧ (s.wrS f n i v).time = s.time ∧ (s.wrS f n i v).odd = s.odd ∧ (s.wrS f n i v).raised = s.raised ∧ (s.wrS f n i v).report = s.report ∧ (s.wrS f n i v).freeCtr = s.freeCtr ∧ (s.wrS f n i v).pending = s.pending :=
  ⟨rfl, rfl, rfl, rfl, rfl, rfl, rfl, rfl, rfl, rfl, rfl, rfl, rfl, rfl, rfl, rfl, rfl, rfl⟩

@[simp] theorem State.count_frame (f : Fld) (n i : Nat) :
    (s.count f n i).chans = s.chans ∧ (s.count f n i).clk = s.clk ∧ (s.count f n i).crown = s.crown ∧ (s.count f n i).safe = s.safe ∧ (s.count f n i).cans = s.cans ∧ (s.count f n i).hbs = s.hbs ∧ (s.count f n i).pair = s.pair ∧ (s.count f n i).mem = s.mem ∧ (s.count f n i).pow = s.pow ∧ (s.count f n i).life = s.life ∧ (s.count f n i).store = s.store ∧ (s.count f n i).bills = s.bills ∧ (s.count f n i).time = s.time ∧ (s.count f n i).odd = s.odd ∧ (s.count f n i).raised = s.raised ∧ (s.count f n i).report = s.report ∧ (s.count f n i).freeCtr = s.freeCtr ∧ (s.count f n i).pending = s.pending :=
  ⟨rfl, rfl, rfl, rfl, rfl, rfl, rfl, rfl, rfl, rfl, rfl, rfl, rfl, rfl, rfl, rfl, rfl, rfl⟩

@[simp] theorem State.countMod_frame (f : Fld) (n i : Nat) :
    (s.countMod f n i).chans = s.chans ∧ (s.countMod f n i).clk = s.clk ∧ (s.countMod f n i).crown = s.crown ∧ (s.countMod f n i).safe = s.safe ∧ (s.countMod f n i).cans = s.cans ∧ (s.countMod f n i).hbs = s.hbs ∧ (s.countMod f n i).pair = s.pair ∧ (s.countMod f n i).mem = s.mem ∧ (s.countMod f n i).pow = s.pow ∧ (s.countMod f n i).life = s.life ∧ (s.countMod f n i).store = s.store ∧ (s.countMod f n i).bills = s.bills ∧ (s.countMod f n i).time = s.time ∧ (s.countMod f n i).odd = s.odd ∧ (s.countMod f n i).raised = s.raised ∧ (s.countMod f n i).report = s.report ∧ (s.countMod f n i).freeCtr = s.freeCtr ∧ (s.countMod f n i).pending = s.pending :=
  ⟨rfl, rfl, rfl, rfl, rfl, rfl, rfl, rfl, rfl, rfl, rfl, rfl, rfl, rfl, rfl, rfl, rfl, rfl⟩

@[simp] theorem State.commit1_frame (f : Fld) (n i : Nat) :
    (s.commit1 f n i).chans = s.chans ∧ (s.commit1 f n i).clk = s.clk ∧ (s.commit1 f n i).crown = s.crown ∧ (s.commit1 f n i).safe = s.safe ∧ (s.commit1 f n i).cans = s.cans ∧ (s.commit1 f n i).hbs = s.hbs ∧ (s.commit1 f n i).pair = s.pair ∧ (s.commit1 f n i).mem = s.mem ∧ (s.commit1 f n i).pow = s.pow ∧ (s.commit1 f n i).life = s.life ∧ (s.commit1 f n i).store = s.store ∧ (s.commit1 f n i).bills = s.bills ∧ (s.commit1 f n i).time = s.time ∧ (s.commit1 f n i).odd = s.odd ∧ (s.commit1 f n i).raised = s.raised ∧ (s.commit1 f n i).report = s.report ∧ (s.commit1 f n i).freeCtr = s.freeCtr ∧ (s.commit1 f n i).pending = s.pending :=
  ⟨rfl, rfl, rfl, rfl, rfl, rfl, rfl, rfl, rfl, rfl, rfl, rfl, rfl, rfl, rfl, rfl, rfl, rfl⟩

@[simp] theorem State.setCh_frame (c : Ch) (f : Chan → Chan) :
    (s.setCh c f).regs = s.regs ∧ (s.setCh c f).clk = s.clk ∧ (s.setCh c f).crown = s.crown ∧ (s.setCh c f).safe = s.safe ∧ (s.setCh c f).cans = s.cans ∧ (s.setCh c f).hbs = s.hbs ∧ (s.setCh c f).pair = s.pair ∧ (s.setCh c f).mem = s.mem ∧ (s.setCh c f).pow = s.pow ∧ (s.setCh c f).life = s.life ∧ (s.setCh c f).store = s.store ∧ (s.setCh c f).bills = s.bills ∧ (s.setCh c f).time = s.time ∧ (s.setCh c f).odd = s.odd ∧ (s.setCh c f).raised = s.raised ∧ (s.setCh c f).report = s.report ∧ (s.setCh c f).freeCtr = s.freeCtr ∧ (s.setCh c f).pending = s.pending ∧
    (∀ g k j, (s.setCh c f).rd g k j = s.rd g k j) ∧ (∀ g k j, (s.setCh c f).rdL g k j = s.rdL g k j) ∧ (∀ g k j, (s.setCh c f).rdB g k j = s.rdB g k j) :=
  ⟨rfl, rfl, rfl, rfl, rfl, rfl, rfl, rfl, rfl, rfl, rfl, rfl, rfl, rfl, rfl, rfl, rfl, rfl, fun _ _ _ => rfl, fun _ _ _ => rfl, fun _ _ _ => rfl⟩

@[simp] theorem State.setAt_frame (c : Ch) (f : AtSt → AtSt) :
    (s.setAt c f).regs = s.regs ∧ (s.setAt c f).clk = s.clk ∧ (s.setAt c f).crown = s.crown ∧ (s.setAt c f).safe = s.safe ∧ (s.setAt c f).cans = s.cans ∧ (s.setAt c f).hbs = s.hbs ∧ (s.setAt c f).pair = s.pair ∧ (s.setAt c f).mem = s.mem ∧ (s.setAt c f).pow = s.pow ∧ (s.setAt c f).life = s.life ∧ (s.setAt c f).store = s.store ∧ (s.setAt c f).bills = s.bills ∧ (s.setAt c f).time = s.time ∧ (s.setAt c f).odd = s.odd ∧ (s.setAt c f).raised = s.raised ∧ (s.setAt c f).report = s.report ∧ (s.setAt c f).freeCtr = s.freeCtr ∧ (s.setAt c f).pending = s.pending ∧
    (∀ g k j, (s.setAt c f).rd g k j = s.rd g k j) ∧ (∀ g k j, (s.setAt c f).rdL g k j = s.rdL g k j) ∧ (∀ g k j, (s.setAt c f).rdB g k j = s.rdB g k j) :=
  ⟨rfl, rfl, rfl, rfl, rfl, rfl, rfl, rfl, rfl, rfl, rfl, rfl, rfl, rfl, rfl, rfl, rfl, rfl, fun _ _ _ => rfl, fun _ _ _ => rfl, fun _ _ _ => rfl⟩

@[simp] theorem State.setBatt_frame (c : Ch) (f : BattSt → BattSt) :
    (s.setBatt c f).regs = s.regs ∧ (s.setBatt c f).clk = s.clk ∧ (s.setBatt c f).crown = s.crown ∧ (s.setBatt c f).safe = s.safe ∧ (s.setBatt c f).cans = s.cans ∧ (s.setBatt c f).hbs = s.hbs ∧ (s.setBatt c f).pair = s.pair ∧ (s.setBatt c f).mem = s.mem ∧ (s.setBatt c f).pow = s.pow ∧ (s.setBatt c f).life = s.life ∧ (s.setBatt c f).store = s.store ∧ (s.setBatt c f).bills = s.bills ∧ (s.setBatt c f).time = s.time ∧ (s.setBatt c f).odd = s.odd ∧ (s.setBatt c f).raised = s.raised ∧ (s.setBatt c f).report = s.report ∧ (s.setBatt c f).freeCtr = s.freeCtr ∧ (s.setBatt c f).pending = s.pending ∧
    (∀ g k j, (s.setBatt c f).rd g k j = s.rd g k j) ∧ (∀ g k j, (s.setBatt c f).rdL g k j = s.rdL g k j) ∧ (∀ g k j, (s.setBatt c f).rdB g k j = s.rdB g k j) :=
  ⟨rfl, rfl, rfl, rfl, rfl, rfl, rfl, rfl, rfl, rfl, rfl, rfl, rfl, rfl, rfl, rfl, rfl, rfl, fun _ _ _ => rfl, fun _ _ _ => rfl, fun _ _ _ => rfl⟩

@[simp] theorem State.setPat_frame (c : Ch) (k : PairIx) (f : PatPair → PatPair) :
    (s.setPat c k f).regs = s.regs ∧ (s.setPat c k f).clk = s.clk ∧ (s.setPat c k f).crown = s.crown ∧ (s.setPat c k f).safe = s.safe ∧ (s.setPat c k f).cans = s.cans ∧ (s.setPat c k f).hbs = s.hbs ∧ (s.setPat c k f).pair = s.pair ∧ (s.setPat c k f).mem = s.mem ∧ (s.setPat c k f).pow = s.pow ∧ (s.setPat c k f).life = s.life ∧ (s.setPat c k f).store = s.store ∧ (s.setPat c k f).bills = s.bills ∧ (s.setPat c k f).time = s.time ∧ (s.setPat c k f).odd = s.odd ∧ (s.setPat c k f).raised = s.raised ∧ (s.setPat c k f).report = s.report ∧ (s.setPat c k f).freeCtr = s.freeCtr ∧ (s.setPat c k f).pending = s.pending ∧
    (∀ g k j, (s.setPat c k f).rd g k j = s.rd g k j) ∧ (∀ g k j, (s.setPat c k f).rdL g k j = s.rdL g k j) ∧ (∀ g k j, (s.setPat c k f).rdB g k j = s.rdB g k j) :=
  ⟨rfl, rfl, rfl, rfl, rfl, rfl, rfl, rfl, rfl, rfl, rfl, rfl, rfl, rfl, rfl, rfl, rfl, rfl, fun _ _ _ => rfl, fun _ _ _ => rfl, fun _ _ _ => rfl⟩

@[simp] theorem State.setCmp_frame (c : Ch) (j : Fin 16) (f : CmpSt → CmpSt) :
    (s.setCmp c j f).regs = s.regs ∧ (s.setCmp c j f).clk = s.clk ∧ (s.setCmp c j f).crown = s.crown ∧ (s.setCmp c j f).safe = s.safe ∧ (s.setCmp c j f).cans = s.cans ∧ (s.setCmp c j f).hbs = s.hbs ∧ (s.setCmp c j f).pair = s.pair ∧ (s.setCmp c j f).mem = s.mem ∧ (s.setCmp c j f).pow = s.pow ∧ (s.setCmp c j f).life = s.life ∧ (s.setCmp c j f).store = s.store ∧ (s.setCmp c j f).bills = s.bills ∧ (s.setCmp c j f).time = s.time ∧ (s.setCmp c j f).odd = s.odd ∧ (s.setCmp c j f).raised = s.raised ∧ (s.setCmp c j f).report = s.report ∧ (s.setCmp c j f).freeCtr = s.freeCtr ∧ (s.setCmp c j f).pending = s.pending ∧
    (∀ g k j, (s.setCmp c j f).rd g k j = s.rd g k j) ∧ (∀ g k j, (s.setCmp c j f).rdL g k j = s.rdL g k j) ∧ (∀ g k j, (s.setCmp c j f).rdB g k j = s.rdB g k j) :=
  ⟨rfl, rfl, rfl, rfl, rfl, rfl, rfl, rfl, rfl, rfl, rfl, rfl, rfl, rfl, rfl, rfl, rfl, rfl, fun _ _ _ => rfl, fun _ _ _ => rfl, fun _ _ _ => rfl⟩

@[simp] theorem State.setGrid_frame (c : Ch) (f : GridSt → GridSt) :
    (s.setGrid c f).regs = s.regs ∧ (s.setGrid c f).clk = s.clk ∧ (s.setGrid c f).crown = s.crown ∧ (s.setGrid c f).safe = s.safe ∧ (s.setGrid c f).cans = s.cans ∧ (s.setGrid c f).hbs = s.hbs ∧ (s.setGrid c f).pair = s.pair ∧ (s.setGrid c f).mem = s.mem ∧ (s.setGrid c f).pow = s.pow ∧ (s.setGrid c f).life = s.life ∧ (s.setGrid c f).store = s.store ∧ (s.setGrid c f).bills = s.bills ∧ (s.setGrid c f).time = s.time ∧ (s.setGrid c f).odd = s.odd ∧ (s.setGrid c f).raised = s.raised ∧ (s.setGrid c f).report = s.report ∧ (s.setGrid c f).freeCtr = s.freeCtr ∧ (s.setGrid c f).pending = s.pending ∧
    (∀ g k j, (s.setGrid c f).rd g k j = s.rd g k j) ∧ (∀ g k j, (s.setGrid c f).rdL g k j = s.rdL g k j) ∧ (∀ g k j, (s.setGrid c f).rdB g k j = s.rdB g k j) :=
  ⟨rfl, rfl, rfl, rfl, rfl, rfl, rfl, rfl, rfl, rfl, rfl, rfl, rfl, rfl, rfl, rfl, rfl, rfl, fun _ _ _ => rfl, fun _ _ _ => rfl, fun _ _ _ => rfl⟩

@[simp] theorem State.setMppt_frame (c : Ch) (f : MpptSt → MpptSt) :
    (s.setMppt c f).regs = s.regs ∧ (s.setMppt c f).clk = s.clk ∧ (s.setMppt c f).crown = s.crown ∧ (s.setMppt c f).safe = s.safe ∧ (s.setMppt c f).cans = s.cans ∧ (s.setMppt c f).hbs = s.hbs ∧ (s.setMppt c f).pair = s.pair ∧ (s.setMppt c f).mem = s.mem ∧ (s.setMppt c f).pow = s.pow ∧ (s.setMppt c f).life = s.life ∧ (s.setMppt c f).store = s.store ∧ (s.setMppt c f).bills = s.bills ∧ (s.setMppt c f).time = s.time ∧ (s.setMppt c f).odd = s.odd ∧ (s.setMppt c f).raised = s.raised ∧ (s.setMppt c f).report = s.report ∧ (s.setMppt c f).freeCtr = s.freeCtr ∧ (s.setMppt c f).pending = s.pending ∧
    (∀ g k j, (s.setMppt c f).rd g k j = s.rd g k j) ∧ (∀ g k j, (s.setMppt c f).rdL g k j = s.rdL g k j) ∧ (∀ g k j, (s.setMppt c f).rdB g k j = s.rdB g k j) :=
  ⟨rfl, rfl, rfl, rfl, rfl, rfl, rfl, rfl, rfl, rfl, rfl, rfl, rfl, rfl, rfl, rfl, rfl, rfl, fun _ _ _ => rfl, fun _ _ _ => rfl, fun _ _ _ => rfl⟩

@[simp] theorem State.setMf_frame (c : Ch) (f : MfSt → MfSt) :
    (s.setMf c f).regs = s.regs ∧ (s.setMf c f).clk = s.clk ∧ (s.setMf c f).crown = s.crown ∧ (s.setMf c f).safe = s.safe ∧ (s.setMf c f).cans = s.cans ∧ (s.setMf c f).hbs = s.hbs ∧ (s.setMf c f).pair = s.pair ∧ (s.setMf c f).mem = s.mem ∧ (s.setMf c f).pow = s.pow ∧ (s.setMf c f).life = s.life ∧ (s.setMf c f).store = s.store ∧ (s.setMf c f).bills = s.bills ∧ (s.setMf c f).time = s.time ∧ (s.setMf c f).odd = s.odd ∧ (s.setMf c f).raised = s.raised ∧ (s.setMf c f).report = s.report ∧ (s.setMf c f).freeCtr = s.freeCtr ∧ (s.setMf c f).pending = s.pending ∧
    (∀ g k j, (s.setMf c f).rd g k j = s.rd g k j) ∧ (∀ g k j, (s.setMf c f).rdL g k j = s.rdL g k j) ∧ (∀ g k j, (s.setMf c f).rdB g k j = s.rdB g k j) :=
  ⟨rfl, rfl, rfl, rfl, rfl, rfl, rfl, rfl, rfl, rfl, rfl, rfl, rfl, rfl, rfl, rfl, rfl, rfl, fun _ _ _ => rfl, fun _ _ _ => rfl, fun _ _ _ => rfl⟩

@[simp] theorem State.setPg_frame (c : Ch) (f : PgSt → PgSt) :
    (s.setPg c f).regs = s.regs ∧ (s.setPg c f).clk = s.clk ∧ (s.setPg c f).crown = s.crown ∧ (s.setPg c f).safe = s.safe ∧ (s.setPg c f).cans = s.cans ∧ (s.setPg c f).hbs = s.hbs ∧ (s.setPg c f).pair = s.pair ∧ (s.setPg c f).mem = s.mem ∧ (s.setPg c f).pow = s.pow ∧ (s.setPg c f).life = s.life ∧ (s.setPg c f).store = s.store ∧ (s.setPg c f).bills = s.bills ∧ (s.setPg c f).time = s.time ∧ (s.setPg c f).odd = s.odd ∧ (s.setPg c f).raised = s.raised ∧ (s.setPg c f).report = s.report ∧ (s.setPg c f).freeCtr = s.freeCtr ∧ (s.setPg c f).pending = s.pending ∧
    (∀ g k j, (s.setPg c f).rd g k j = s.rd g k j) ∧ (∀ g k j, (s.setPg c f).rdL g k j = s.rdL g k j) ∧ (∀ g k j, (s.setPg c f).rdB g k j = s.rdB g k j) :=
  ⟨rfl, rfl, rfl, rfl, rfl, rfl, rfl, rfl, rfl, rfl, rfl, rfl, rfl, rfl, rfl, rfl, rfl, rfl, fun _ _ _ => rfl, fun _ _ _ => rfl, fun _ _ _ => rfl⟩

@[simp] theorem State.setOut_frame (c : Ch) (j : OutIx) (f : OutSt → OutSt) :
    (s.setOut c j f).regs = s.regs ∧ (s.setOut c j f).clk = s.clk ∧ (s.setOut c j f).crown = s.crown ∧ (s.setOut c j f).safe = s.safe ∧ (s.setOut c j f).cans = s.cans ∧ (s.setOut c j f).hbs = s.hbs ∧ (s.setOut c j f).pair = s.pair ∧ (s.setOut c j f).mem = s.mem ∧ (s.setOut c j f).pow = s.pow ∧ (s.setOut c j f).life = s.life ∧ (s.setOut c j f).store = s.store ∧ (s.setOut c j f).bills = s.bills ∧ (s.setOut c j f).time = s.time ∧ (s.setOut c j f).odd = s.odd ∧ (s.setOut c j f).raised = s.raised ∧ (s.setOut c j f).report = s.report ∧ (s.setOut c j f).freeCtr = s.freeCtr ∧ (s.setOut c j f).pending = s.pending ∧
    (∀ g k j, (s.setOut c j f).rd g k j = s.rd g k j) ∧ (∀ g k j, (s.setOut c j f).rdL g k j = s.rdL g k j) ∧ (∀ g k j, (s.setOut c j f).rdB g k j = s.rdB g k j) :=
  ⟨rfl, rfl, rfl, rfl, rfl, rfl, rfl, rfl, rfl, rfl, rfl, rfl, rfl, rfl, rfl, rfl, rfl, rfl, fun _ _ _ => rfl, fun _ _ _ => rfl, fun _ _ _ => rfl⟩

@[simp] theorem State.setSar_frame (c : Ch) (sb : Bool) (f : SarSt → SarSt) :
    (s.setSar c sb f).regs = s.regs ∧ (s.setSar c sb f).clk = s.clk ∧ (s.setSar c sb f).crown = s.crown ∧ (s.setSar c sb f).safe = s.safe ∧ (s.setSar c sb f).cans = s.cans ∧ (s.setSar c sb f).hbs = s.hbs ∧ (s.setSar c sb f).pair = s.pair ∧ (s.setSar c sb f).mem = s.mem ∧ (s.setSar c sb f).pow = s.pow ∧ (s.setSar c sb f).life = s.life ∧ (s.setSar c sb f).store = s.store ∧ (s.setSar c sb f).bills = s.bills ∧ (s.setSar c sb f).time = s.time ∧ (s.setSar c sb f).odd = s.odd ∧ (s.setSar c sb f).raised = s.raised ∧ (s.setSar c sb f).report = s.report ∧ (s.setSar c sb f).freeCtr = s.freeCtr ∧ (s.setSar c sb f).pending = s.pending ∧
    (∀ g k j, (s.setSar c sb f).rd g k j = s.rd g k j) ∧ (∀ g k j, (s.setSar c sb f).rdL g k j = s.rdL g k j) ∧ (∀ g k j, (s.setSar c sb f).rdB g k j = s.rdB g k j) :=
  ⟨rfl, rfl, rfl, rfl, rfl, rfl, rfl, rfl, rfl, rfl, rfl, rfl, rfl, rfl, rfl, rfl, rfl, rfl, fun _ _ _ => rfl, fun _ _ _ => rfl, fun _ _ _ => rfl⟩

@[simp] theorem State.setClk_frame (f : ClkSt → ClkSt) :
    (s.setClk f).regs = s.regs ∧ (s.setClk f).chans = s.chans ∧ (s.setClk f).crown = s.crown ∧ (s.setClk f).safe = s.safe ∧ (s.setClk f).cans = s.cans ∧ (s.setClk f).hbs = s.hbs ∧ (s.setClk f).pair = s.pair ∧ (s.setClk f).mem = s.mem ∧ (s.setClk f).pow = s.pow ∧ (s.setClk f).life = s.life ∧ (s.setClk f).store = s.store ∧ (s.setClk f).bills = s.bills ∧ (s.setClk f).time = s.time ∧ (s.setClk f).odd = s.odd ∧ (s.setClk f).raised = s.raised ∧ (s.setClk f).report = s.report ∧ (s.setClk f).freeCtr = s.freeCtr ∧ (s.setClk f).pending = s.pending ∧
    (∀ g k j, (s.setClk f).rd g k j = s.rd g k j) ∧ (∀ g k j, (s.setClk f).rdL g k j = s.rdL g k j) ∧ (∀ g k j, (s.setClk f).rdB g k j = s.rdB g k j) :=
  ⟨rfl, rfl, rfl, rfl, rfl, rfl, rfl, rfl, rfl, rfl, rfl, rfl, rfl, rfl, rfl, rfl, rfl, rfl, fun _ _ _ => rfl, fun _ _ _ => rfl, fun _ _ _ => rfl⟩

@[simp] theorem State.setOutClk_frame (k : Fin 2) (f : ClkOutSt → ClkOutSt) :
    (s.setOutClk k f).regs = s.regs ∧ (s.setOutClk k f).chans = s.chans ∧ (s.setOutClk k f).crown = s.crown ∧ (s.setOutClk k f).safe = s.safe ∧ (s.setOutClk k f).cans = s.cans ∧ (s.setOutClk k f).hbs = s.hbs ∧ (s.setOutClk k f).pair = s.pair ∧ (s.setOutClk k f).mem = s.mem ∧ (s.setOutClk k f).pow = s.pow ∧ (s.setOutClk k f).life = s.life ∧ (s.setOutClk k f).store = s.store ∧ (s.setOutClk k f).bills = s.bills ∧ (s.setOutClk k f).time = s.time ∧ (s.setOutClk k f).odd = s.odd ∧ (s.setOutClk k f).raised = s.raised ∧ (s.setOutClk k f).report = s.report ∧ (s.setOutClk k f).freeCtr = s.freeCtr ∧ (s.setOutClk k f).pending = s.pending ∧
    (∀ g k j, (s.setOutClk k f).rd g k j = s.rd g k j) ∧ (∀ g k j, (s.setOutClk k f).rdL g k j = s.rdL g k j) ∧ (∀ g k j, (s.setOutClk k f).rdB g k j = s.rdB g k j) :=
  ⟨rfl, rfl, rfl, rfl, rfl, rfl, rfl, rfl, rfl, rfl, rfl, rfl, rfl, rfl, rfl, rfl, rfl, rfl, fun _ _ _ => rfl, fun _ _ _ => rfl, fun _ _ _ => rfl⟩

@[simp] theorem State.setMb_frame (m : Mbx) (f : Mailbox → Mailbox) :
    (s.setMb m f).regs = s.regs ∧ (s.setMb m f).chans = s.chans ∧ (s.setMb m f).clk = s.clk ∧ (s.setMb m f).safe = s.safe ∧ (s.setMb m f).cans = s.cans ∧ (s.setMb m f).hbs = s.hbs ∧ (s.setMb m f).pair = s.pair ∧ (s.setMb m f).mem = s.mem ∧ (s.setMb m f).pow = s.pow ∧ (s.setMb m f).life = s.life ∧ (s.setMb m f).store = s.store ∧ (s.setMb m f).bills = s.bills ∧ (s.setMb m f).time = s.time ∧ (s.setMb m f).odd = s.odd ∧ (s.setMb m f).raised = s.raised ∧ (s.setMb m f).report = s.report ∧ (s.setMb m f).freeCtr = s.freeCtr ∧ (s.setMb m f).pending = s.pending ∧
    (∀ g k j, (s.setMb m f).rd g k j = s.rd g k j) ∧ (∀ g k j, (s.setMb m f).rdL g k j = s.rdL g k j) ∧ (∀ g k j, (s.setMb m f).rdB g k j = s.rdB g k j) :=
  ⟨rfl, rfl, rfl, rfl, rfl, rfl, rfl, rfl, rfl, rfl, rfl, rfl, rfl, rfl, rfl, rfl, rfl, rfl, fun _ _ _ => rfl, fun _ _ _ => rfl, fun _ _ _ => rfl⟩

@[simp] theorem State.setSc_frame (c : Ch) (f : SafeCh → SafeCh) :
    (s.setSc c f).regs = s.regs ∧ (s.setSc c f).chans = s.chans ∧ (s.setSc c f).clk = s.clk ∧ (s.setSc c f).crown = s.crown ∧ (s.setSc c f).cans = s.cans ∧ (s.setSc c f).hbs = s.hbs ∧ (s.setSc c f).pair = s.pair ∧ (s.setSc c f).mem = s.mem ∧ (s.setSc c f).pow = s.pow ∧ (s.setSc c f).life = s.life ∧ (s.setSc c f).store = s.store ∧ (s.setSc c f).bills = s.bills ∧ (s.setSc c f).time = s.time ∧ (s.setSc c f).odd = s.odd ∧ (s.setSc c f).raised = s.raised ∧ (s.setSc c f).report = s.report ∧ (s.setSc c f).freeCtr = s.freeCtr ∧ (s.setSc c f).pending = s.pending ∧
    (∀ g k j, (s.setSc c f).rd g k j = s.rd g k j) ∧ (∀ g k j, (s.setSc c f).rdL g k j = s.rdL g k j) ∧ (∀ g k j, (s.setSc c f).rdB g k j = s.rdB g k j) :=
  ⟨rfl, rfl, rfl, rfl, rfl, rfl, rfl, rfl, rfl, rfl, rfl, rfl, rfl, rfl, rfl, rfl, rfl, rfl, fun _ _ _ => rfl, fun _ _ _ => rfl, fun _ _ _ => rfl⟩

@[simp] theorem State.setSin_frame (c : Ix16) (f : SinSt → SinSt) :
    (s.setSin c f).regs = s.regs ∧ (s.setSin c f).chans = s.chans ∧ (s.setSin c f).clk = s.clk ∧ (s.setSin c f).crown = s.crown ∧ (s.setSin c f).cans = s.cans ∧ (s.setSin c f).hbs = s.hbs ∧ (s.setSin c f).pair = s.pair ∧ (s.setSin c f).mem = s.mem ∧ (s.setSin c f).pow = s.pow ∧ (s.setSin c f).life = s.life ∧ (s.setSin c f).store = s.store ∧ (s.setSin c f).bills = s.bills ∧ (s.setSin c f).time = s.time ∧ (s.setSin c f).odd = s.odd ∧ (s.setSin c f).raised = s.raised ∧ (s.setSin c f).report = s.report ∧ (s.setSin c f).freeCtr = s.freeCtr ∧ (s.setSin c f).pending = s.pending ∧
    (∀ g k j, (s.setSin c f).rd g k j = s.rd g k j) ∧ (∀ g k j, (s.setSin c f).rdL g k j = s.rdL g k j) ∧ (∀ g k j, (s.setSin c f).rdB g k j = s.rdB g k j) :=
  ⟨rfl, rfl, rfl, rfl, rfl, rfl, rfl, rfl, rfl, rfl, rfl, rfl, rfl, rfl, rfl, rfl, rfl, rfl, fun _ _ _ => rfl, fun _ _ _ => rfl, fun _ _ _ => rfl⟩

@[simp] theorem State.setConn_frame (c : Ix16) (f : ConnSt → ConnSt) :
    (s.setConn c f).regs = s.regs ∧ (s.setConn c f).chans = s.chans ∧ (s.setConn c f).clk = s.clk ∧ (s.setConn c f).crown = s.crown ∧ (s.setConn c f).cans = s.cans ∧ (s.setConn c f).hbs = s.hbs ∧ (s.setConn c f).pair = s.pair ∧ (s.setConn c f).mem = s.mem ∧ (s.setConn c f).pow = s.pow ∧ (s.setConn c f).life = s.life ∧ (s.setConn c f).store = s.store ∧ (s.setConn c f).bills = s.bills ∧ (s.setConn c f).time = s.time ∧ (s.setConn c f).odd = s.odd ∧ (s.setConn c f).raised = s.raised ∧ (s.setConn c f).report = s.report ∧ (s.setConn c f).freeCtr = s.freeCtr ∧ (s.setConn c f).pending = s.pending ∧
    (∀ g k j, (s.setConn c f).rd g k j = s.rd g k j) ∧ (∀ g k j, (s.setConn c f).rdL g k j = s.rdL g k j) ∧ (∀ g k j, (s.setConn c f).rdB g k j = s.rdB g k j) :=
  ⟨rfl, rfl, rfl, rfl, rfl, rfl, rfl, rfl, rfl, rfl, rfl, rfl, rfl, rfl, rfl, rfl, rfl, rfl, fun _ _ _ => rfl, fun _ _ _ => rfl, fun _ _ _ => rfl⟩

@[simp] theorem State.setCan_frame (c : CanIx) (f : CanSt → CanSt) :
    (s.setCan c f).regs = s.regs ∧ (s.setCan c f).chans = s.chans ∧ (s.setCan c f).clk = s.clk ∧ (s.setCan c f).crown = s.crown ∧ (s.setCan c f).safe = s.safe ∧ (s.setCan c f).hbs = s.hbs ∧ (s.setCan c f).pair = s.pair ∧ (s.setCan c f).mem = s.mem ∧ (s.setCan c f).pow = s.pow ∧ (s.setCan c f).life = s.life ∧ (s.setCan c f).store = s.store ∧ (s.setCan c f).bills = s.bills ∧ (s.setCan c f).time = s.time ∧ (s.setCan c f).odd = s.odd ∧ (s.setCan c f).raised = s.raised ∧ (s.setCan c f).report = s.report ∧ (s.setCan c f).freeCtr = s.freeCtr ∧ (s.setCan c f).pending = s.pending ∧
    (∀ g k j, (s.setCan c f).rd g k j = s.rd g k j) ∧ (∀ g k j, (s.setCan c f).rdL g k j = s.rdL g k j) ∧ (∀ g k j, (s.setCan c f).rdB g k j = s.rdB g k j) :=
  ⟨rfl, rfl, rfl, rfl, rfl, rfl, rfl, rfl, rfl, rfl, rfl, rfl, rfl, rfl, rfl, rfl, rfl, rfl, fun _ _ _ => rfl, fun _ _ _ => rfl, fun _ _ _ => rfl⟩

@[simp] theorem State.setBuf_frame (c : CanIx) (b : BufIx) (f : List CanTx → List CanTx) :
    (s.setBuf c b f).regs = s.regs ∧ (s.setBuf c b f).chans = s.chans ∧ (s.setBuf c b f).clk = s.clk ∧ (s.setBuf c b f).crown = s.crown ∧ (s.setBuf c b f).safe = s.safe ∧ (s.setBuf c b f).hbs = s.hbs ∧ (s.setBuf c b f).pair = s.pair ∧ (s.setBuf c b f).mem = s.mem ∧ (s.setBuf c b f).pow = s.pow ∧ (s.setBuf c b f).life = s.life ∧ (s.setBuf c b f).store = s.store ∧ (s.setBuf c b f).bills = s.bills ∧ (s.setBuf c b f).time = s.time ∧ (s.setBuf c b f).odd = s.odd ∧ (s.setBuf c b f).raised = s.raised ∧ (s.setBuf c b f).report = s.report ∧ (s.setBuf c b f).freeCtr = s.freeCtr ∧ (s.setBuf c b f).pending = s.pending ∧
    (∀ g k j, (s.setBuf c b f).rd g k j = s.rd g k j) ∧ (∀ g k j, (s.setBuf c b f).rdL g k j = s.rdL g k j) ∧ (∀ g k j, (s.setBuf c b f).rdB g k j = s.rdB g k j) :=
  ⟨rfl, rfl, rfl, rfl, rfl, rfl, rfl, rfl, rfl, rfl, rfl, rfl, rfl, rfl, rfl, rfl, rfl, rfl, fun _ _ _ => rfl, fun _ _ _ => rfl, fun _ _ _ => rfl⟩

@[simp] theorem State.setHb_frame (p : HbIx) (f : HbSt → HbSt) :
    (s.setHb p f).regs = s.regs ∧ (s.setHb p f).chans = s.chans ∧ (s.setHb p f).clk = s.clk ∧ (s.setHb p f).crown = s.crown ∧ (s.setHb p f).safe = s.safe ∧ (s.setHb p f).cans = s.cans ∧ (s.setHb p f).pair = s.pair ∧ (s.setHb p f).mem = s.mem ∧ (s.setHb p f).pow = s.pow ∧ (s.setHb p f).life = s.life ∧ (s.setHb p f).store = s.store ∧ (s.setHb p f).bills = s.bills ∧ (s.setHb p f).time = s.time ∧ (s.setHb p f).odd = s.odd ∧ (s.setHb p f).raised = s.raised ∧ (s.setHb p f).report = s.report ∧ (s.setHb p f).freeCtr = s.freeCtr ∧ (s.setHb p f).pending = s.pending ∧
    (∀ g k j, (s.setHb p f).rd g k j = s.rd g k j) ∧ (∀ g k j, (s.setHb p f).rdL g k j = s.rdL g k j) ∧ (∀ g k j, (s.setHb p f).rdB g k j = s.rdB g k j) :=
  ⟨rfl, rfl, rfl, rfl, rfl, rfl, rfl, rfl, rfl, rfl, rfl, rfl, rfl, rfl, rfl, rfl, rfl, rfl, fun _ _ _ => rfl, fun _ _ _ => rfl, fun _ _ _ => rfl⟩

@[simp] theorem State.setPair_frame (f : PairDev → PairDev) :
    (s.setPair f).regs = s.regs ∧ (s.setPair f).chans = s.chans ∧ (s.setPair f).clk = s.clk ∧ (s.setPair f).crown = s.crown ∧ (s.setPair f).safe = s.safe ∧ (s.setPair f).cans = s.cans ∧ (s.setPair f).hbs = s.hbs ∧ (s.setPair f).mem = s.mem ∧ (s.setPair f).pow = s.pow ∧ (s.setPair f).life = s.life ∧ (s.setPair f).store = s.store ∧ (s.setPair f).bills = s.bills ∧ (s.setPair f).time = s.time ∧ (s.setPair f).odd = s.odd ∧ (s.setPair f).raised = s.raised ∧ (s.setPair f).report = s.report ∧ (s.setPair f).freeCtr = s.freeCtr ∧ (s.setPair f).pending = s.pending ∧
    (∀ g k j, (s.setPair f).rd g k j = s.rd g k j) ∧ (∀ g k j, (s.setPair f).rdL g k j = s.rdL g k j) ∧ (∀ g k j, (s.setPair f).rdB g k j = s.rdB g k j) :=
  ⟨rfl, rfl, rfl, rfl, rfl, rfl, rfl, rfl, rfl, rfl, rfl, rfl, rfl, rfl, rfl, rfl, rfl, rfl, fun _ _ _ => rfl, fun _ _ _ => rfl, fun _ _ _ => rfl⟩

@[simp] theorem State.setPc_frame (c : Ch) (f : PairCh → PairCh) :
    (s.setPc c f).regs = s.regs ∧ (s.setPc c f).chans = s.chans ∧ (s.setPc c f).clk = s.clk ∧ (s.setPc c f).crown = s.crown ∧ (s.setPc c f).safe = s.safe ∧ (s.setPc c f).cans = s.cans ∧ (s.setPc c f).hbs = s.hbs ∧ (s.setPc c f).mem = s.mem ∧ (s.setPc c f).pow = s.pow ∧ (s.setPc c f).life = s.life ∧ (s.setPc c f).store = s.store ∧ (s.setPc c f).bills = s.bills ∧ (s.setPc c f).time = s.time ∧ (s.setPc c f).odd = s.odd ∧ (s.setPc c f).raised = s.raised ∧ (s.setPc c f).report = s.report ∧ (s.setPc c f).freeCtr = s.freeCtr ∧ (s.setPc c f).pending = s.pending ∧
    (∀ g k j, (s.setPc c f).rd g k j = s.rd g k j) ∧ (∀ g k j, (s.setPc c f).rdL g k j = s.rdL g k j) ∧ (∀ g k j, (s.setPc c f).rdB g k j = s.rdB g k j) :=
  ⟨rfl, rfl, rfl, rfl, rfl, rfl, rfl, rfl, rfl, rfl, rfl, rfl, rfl, rfl, rfl, rfl, rfl, rfl, fun _ _ _ => rfl, fun _ _ _ => rfl, fun _ _ _ => rfl⟩

@[simp] theorem State.setMem_frame (f : MemSt → MemSt) :
    (s.setMem f).regs = s.regs ∧ (s.setMem f).chans = s.chans ∧ (s.setMem f).clk = s.clk ∧ (s.setMem f).crown = s.crown ∧ (s.setMem f).safe = s.safe ∧ (s.setMem f).cans = s.cans ∧ (s.setMem f).hbs = s.hbs ∧ (s.setMem f).pair = s.pair ∧ (s.setMem f).pow = s.pow ∧ (s.setMem f).life = s.life ∧ (s.setMem f).store = s.store ∧ (s.setMem f).bills = s.bills ∧ (s.setMem f).time = s.time ∧ (s.setMem f).odd = s.odd ∧ (s.setMem f).raised = s.raised ∧ (s.setMem f).report = s.report ∧ (s.setMem f).freeCtr = s.freeCtr ∧ (s.setMem f).pending = s.pending ∧
    (∀ g k j, (s.setMem f).rd g k j = s.rd g k j) ∧ (∀ g k j, (s.setMem f).rdL g k j = s.rdL g k j) ∧ (∀ g k j, (s.setMem f).rdB g k j = s.rdB g k j) :=
  ⟨rfl, rfl, rfl, rfl, rfl, rfl, rfl, rfl, rfl, rfl, rfl, rfl, rfl, rfl, rfl, rfl, rfl, rfl, fun _ _ _ => rfl, fun _ _ _ => rfl, fun _ _ _ => rfl⟩

@[simp] theorem State.setPow_frame (f : PowSt → PowSt) :
    (s.setPow f).regs = s.regs ∧ (s.setPow f).chans = s.chans ∧ (s.setPow f).clk = s.clk ∧ (s.setPow f).crown = s.crown ∧ (s.setPow f).safe = s.safe ∧ (s.setPow f).cans = s.cans ∧ (s.setPow f).hbs = s.hbs ∧ (s.setPow f).pair = s.pair ∧ (s.setPow f).mem = s.mem ∧ (s.setPow f).life = s.life ∧ (s.setPow f).store = s.store ∧ (s.setPow f).bills = s.bills ∧ (s.setPow f).time = s.time ∧ (s.setPow f).odd = s.odd ∧ (s.setPow f).raised = s.raised ∧ (s.setPow f).report = s.report ∧ (s.setPow f).freeCtr = s.freeCtr ∧ (s.setPow f).pending = s.pending ∧
    (∀ g k j, (s.setPow f).rd g k j = s.rd g k j) ∧ (∀ g k j, (s.setPow f).rdL g k j = s.rdL g k j) ∧ (∀ g k j, (s.setPow f).rdB g k j = s.rdB g k j) :=
  ⟨rfl, rfl, rfl, rfl, rfl, rfl, rfl, rfl, rfl, rfl, rfl, rfl, rfl, rfl, rfl, rfl, rfl, rfl, fun _ _ _ => rfl, fun _ _ _ => rfl, fun _ _ _ => rfl⟩

@[simp] theorem State.setLife_frame (f : LifeSt → LifeSt) :
    (s.setLife f).regs = s.regs ∧ (s.setLife f).chans = s.chans ∧ (s.setLife f).clk = s.clk ∧ (s.setLife f).crown = s.crown ∧ (s.setLife f).safe = s.safe ∧ (s.setLife f).cans = s.cans ∧ (s.setLife f).hbs = s.hbs ∧ (s.setLife f).pair = s.pair ∧ (s.setLife f).mem = s.mem ∧ (s.setLife f).pow = s.pow ∧ (s.setLife f).store = s.store ∧ (s.setLife f).bills = s.bills ∧ (s.setLife f).time = s.time ∧ (s.setLife f).odd = s.odd ∧ (s.setLife f).raised = s.raised ∧ (s.setLife f).report = s.report ∧ (s.setLife f).freeCtr = s.freeCtr ∧ (s.setLife f).pending = s.pending ∧
    (∀ g k j, (s.setLife f).rd g k j = s.rd g k j) ∧ (∀ g k j, (s.setLife f).rdL g k j = s.rdL g k j) ∧ (∀ g k j, (s.setLife f).rdB g k j = s.rdB g k j) :=
  ⟨rfl, rfl, rfl, rfl, rfl, rfl, rfl, rfl, rfl, rfl, rfl, rfl, rfl, rfl, rfl, rfl, rfl, rfl, fun _ _ _ => rfl, fun _ _ _ => rfl, fun _ _ _ => rfl⟩

@[simp] theorem State.raise_frame (e : Nat) :
    (s.raise e).regs = s.regs ∧ (s.raise e).chans = s.chans ∧ (s.raise e).clk = s.clk ∧ (s.raise e).crown = s.crown ∧ (s.raise e).safe = s.safe ∧ (s.raise e).cans = s.cans ∧ (s.raise e).hbs = s.hbs ∧ (s.raise e).pair = s.pair ∧ (s.raise e).mem = s.mem ∧ (s.raise e).pow = s.pow ∧ (s.raise e).life = s.life ∧ (s.raise e).store = s.store ∧ (s.raise e).bills = s.bills ∧ (s.raise e).time = s.time ∧ (s.raise e).odd = s.odd ∧ (s.raise e).report = s.report ∧ (s.raise e).freeCtr = s.freeCtr ∧ (s.raise e).pending = s.pending ∧
    (∀ g k j, (s.raise e).rd g k j = s.rd g k j) ∧ (∀ g k j, (s.raise e).rdL g k j = s.rdL g k j) ∧ (∀ g k j, (s.raise e).rdB g k j = s.rdB g k j) :=
  ⟨rfl, rfl, rfl, rfl, rfl, rfl, rfl, rfl, rfl, rfl, rfl, rfl, rfl, rfl, rfl, rfl, rfl, rfl, fun _ _ _ => rfl, fun _ _ _ => rfl, fun _ _ _ => rfl⟩

@[simp] theorem State.drew_frame  :
    (s.drew).regs = s.regs ∧ (s.drew).chans = s.chans ∧ (s.drew).clk = s.clk ∧ (s.drew).crown = s.crown ∧ (s.drew).safe = s.safe ∧ (s.drew).cans = s.cans ∧ (s.drew).hbs = s.hbs ∧ (s.drew).pair = s.pair ∧ (s.drew).mem = s.mem ∧ (s.drew).pow = s.pow ∧ (s.drew).life = s.life ∧ (s.drew).store = s.store ∧ (s.drew).bills = s.bills ∧ (s.drew).time = s.time ∧ (s.drew).odd = s.odd ∧ (s.drew).raised = s.raised ∧ (s.drew).report = s.report ∧ (s.drew).pending = s.pending ∧
    (∀ g k j, (s.drew).rd g k j = s.rd g k j) ∧ (∀ g k j, (s.drew).rdL g k j = s.rdL g k j) ∧ (∀ g k j, (s.drew).rdB g k j = s.rdB g k j) :=
  ⟨rfl, rfl, rfl, rfl, rfl, rfl, rfl, rfl, rfl, rfl, rfl, rfl, rfl, rfl, rfl, rfl, rfl, rfl, fun _ _ _ => rfl, fun _ _ _ => rfl, fun _ _ _ => rfl⟩

/-! ### The queue put back around a command -/

/-- A state with another queue differs in nothing else. -/
@[simp ↓] theorem State.withPending_reads (p : List Instr) :
    (∀ g k j, ({ s with pending := p } : State).rd g k j = s.rd g k j) ∧ (∀ g k j, ({ s with pending := p } : State).rdL g k j = s.rdL g k j) ∧
    (∀ g k j, ({ s with pending := p } : State).rdB g k j = s.rdB g k j) ∧ (∀ g k j, ({ s with pending := p } : State).rdS g k j = s.rdS g k j) ∧
    (∀ c, ({ s with pending := p } : State).ch c = s.ch c) ∧ (∀ c, ({ s with pending := p } : State).pg c = s.pg c) ∧ (∀ c, ({ s with pending := p } : State).mf c = s.mf c) ∧
    (∀ c, ({ s with pending := p } : State).batt c = s.batt c) ∧ (∀ c, ({ s with pending := p } : State).sc c = s.sc c) ∧ (∀ c, ({ s with pending := p } : State).sin c = s.sin c) ∧
    (∀ c, ({ s with pending := p } : State).conn c = s.conn c) ∧ (∀ c, ({ s with pending := p } : State).can c = s.can c) ∧ (∀ c, ({ s with pending := p } : State).hb c = s.hb c) ∧
    (∀ c, ({ s with pending := p } : State).mb c = s.mb c) :=
  ⟨fun _ _ _ => rfl, fun _ _ _ => rfl, fun _ _ _ => rfl, fun _ _ _ => rfl, fun _ => rfl, fun _ => rfl, fun _ => rfl, fun _ => rfl, fun _ => rfl, fun _ => rfl, fun _ => rfl, fun _ => rfl, fun _ => rfl, fun _ => rfl⟩

/-- A command whose meaning ends in `fin` answers that state, with the queue as it was. -/
theorem fin_answers {i : Instr} {s t : State} (h : exec i s = fin s t) (P : State → Prop) (hP : P { t with pending := s.pending }) :
    ∃ u, exec i s = .next u ∧ P u := ⟨_, h, hP⟩

/-! ### Reads of registers after writes -/

/-- The field written reads the value written, cut to its width. -/
@[simp] theorem State.rd_wr (f : Fld) (n i v : Nat) : (s.wr f n i v).rd f n i = v % 2 ^ f.w := by
  simp [State.wr, State.rd, SMap.get_set_same]

/-- A field at another key reads as before. -/
theorem State.rd_wr_other {f g : Fld} {n i k j : Nat} (v : Nat) (h : f.key 0 n i ≠ g.key 0 k j) : (s.wr f n i v).rd g k j = s.rd g k j := by
  simp [State.wr, State.rd, SMap.get_set_other _ _ _ h]

/-- The field of the set in force written reads the value written. -/
@[simp] theorem State.rdL_wrL (f : Fld) (n i v : Nat) : (s.wrL f n i v).rdL f n i = v % 2 ^ f.w := by
  simp [State.wrL, State.rdL, SMap.get_set_same]

theorem State.rdL_wrL_other {f g : Fld} {n i k j : Nat} (v : Nat) (h : f.key 1 n i ≠ g.key 1 k j) : (s.wrL f n i v).rdL g k j = s.rdL g k j := by
  simp [State.wrL, State.rdL, SMap.get_set_other _ _ _ h]

theorem State.rd_wrL_other {f g : Fld} {n i k j : Nat} (v : Nat) (h : f.key 1 n i ≠ g.key 0 k j) : (s.wrL f n i v).rd g k j = s.rd g k j := by
  simp [State.wrL, State.rd, SMap.get_set_other _ _ _ h]

theorem State.rdL_wr_other {f g : Fld} {n i k j : Nat} (v : Nat) (h : f.key 0 n i ≠ g.key 1 k j) : (s.wr f n i v).rdL g k j = s.rdL g k j := by
  simp [State.wr, State.rdL, SMap.get_set_other _ _ _ h]

@[simp] theorem State.rd_wrB (f : Fld) (n i : Nat) (b : Bool) : (s.wrB f n i b).rd f n i = b.toNat % 2 ^ f.w := by simp [State.wrB]
@[simp] theorem State.rd_count (f : Fld) (n i : Nat) : (s.count f n i).rd f n i = satInc f.w (s.rd f n i) % 2 ^ f.w := by simp [State.count]
@[simp] theorem State.rd_countMod (f : Fld) (n i : Nat) : (s.countMod f n i).rd f n i = (s.rd f n i + 1) % 2 ^ f.w := by simp [State.countMod]
@[simp] theorem State.rd_wrBit (f : Fld) (n i k : Nat) (b : Bool) : (s.wrBit f n i k b).rd f n i = setBit (s.rd f n i) k b % 2 ^ f.w := by simp [State.wrBit]

/-- A saturating count fits its field. -/
theorem satInc_lt (w x : Nat) : satInc w x < 2 ^ w := by
  have := Nat.two_pow_pos w
  unfold satInc; split <;> omega

/-- Bits of a mask after one of them is set or cleared. -/
theorem bit_setBit (m i j : Nat) (b : Bool) : bit (setBit m i b) j = if i = j then b else bit m j := by
  unfold bit setBit
  by_cases h : i = j
  · subst h; cases b <;> simp [Nat.testBit_or, Nat.testBit_two_pow_self]
    split <;> simp_all [Nat.testBit_xor, Nat.testBit_two_pow_self]
  · cases b <;> simp [h, Nat.testBit_or, Nat.testBit_two_pow_of_ne h]
    split <;> simp_all [Nat.testBit_xor, Nat.testBit_two_pow_of_ne h]

/-! ### Parts after their own update -/

@[simp] theorem State.ch_setCh_same (a : Ch) (f : Chan → Chan) : (s.setCh a f).ch a = f (s.ch a) := by
  simp [State.setCh, State.ch]
@[simp] theorem State.ch_setCh_other {a b : Ch} (f : Chan → Chan) (h : a ≠ b) : (s.setCh a f).ch b = s.ch b := by
  simp [State.setCh, State.ch, Fin.val_ne_of_ne h]
@[simp] theorem State.mb_setMb_same (a : Mbx) (f : Mailbox → Mailbox) : (s.setMb a f).mb a = f (s.mb a) := by
  simp [State.setMb, State.mb]
@[simp] theorem State.mb_setMb_other {a b : Mbx} (f : Mailbox → Mailbox) (h : a ≠ b) : (s.setMb a f).mb b = s.mb b := by
  simp [State.setMb, State.mb, Fin.val_ne_of_ne h]
@[simp] theorem State.can_setCan_same (a : CanIx) (f : CanSt → CanSt) : (s.setCan a f).can a = f (s.can a) := by
  simp [State.setCan, State.can]
@[simp] theorem State.can_setCan_other {a b : CanIx} (f : CanSt → CanSt) (h : a ≠ b) : (s.setCan a f).can b = s.can b := by
  simp [State.setCan, State.can, Fin.val_ne_of_ne h]
@[simp] theorem State.hb_setHb_same (a : HbIx) (f : HbSt → HbSt) : (s.setHb a f).hb a = f (s.hb a) := by
  simp [State.setHb, State.hb]
@[simp] theorem State.hb_setHb_other {a b : HbIx} (f : HbSt → HbSt) (h : a ≠ b) : (s.setHb a f).hb b = s.hb b := by
  simp [State.setHb, State.hb, Fin.val_ne_of_ne h]
@[simp] theorem State.sc_setSc_same (a : Ch) (f : SafeCh → SafeCh) : (s.setSc a f).sc a = f (s.sc a) := by
  simp [State.setSc, State.sc]
@[simp] theorem State.sc_setSc_other {a b : Ch} (f : SafeCh → SafeCh) (h : a ≠ b) : (s.setSc a f).sc b = s.sc b := by
  simp [State.setSc, State.sc, Fin.val_ne_of_ne h]
@[simp] theorem State.sin_setSin_same (a : Ix16) (f : SinSt → SinSt) : (s.setSin a f).sin a = f (s.sin a) := by
  simp [State.setSin, State.sin]
@[simp] theorem State.sin_setSin_other {a b : Ix16} (f : SinSt → SinSt) (h : a ≠ b) : (s.setSin a f).sin b = s.sin b := by
  simp [State.setSin, State.sin, Fin.val_ne_of_ne h]
@[simp] theorem State.conn_setConn_same (a : Ix16) (f : ConnSt → ConnSt) : (s.setConn a f).conn a = f (s.conn a) := by
  simp [State.setConn, State.conn]
@[simp] theorem State.conn_setConn_other {a b : Ix16} (f : ConnSt → ConnSt) (h : a ≠ b) : (s.setConn a f).conn b = s.conn b := by
  simp [State.setConn, State.conn, Fin.val_ne_of_ne h]
@[simp] theorem State.ch_setAt_same (a : Ch) (f : AtSt → AtSt) : ((s.setAt a f).ch a).at_ = f (s.ch a).at_ := by simp [State.setAt]
@[simp] theorem State.ch_setAt_other {a b : Ch} (f : AtSt → AtSt) (h : a ≠ b) : (s.setAt a f).ch b = s.ch b := by simp [State.setAt, h]
@[simp] theorem State.batt_setBatt_same (a : Ch) (f : BattSt → BattSt) : ((s.setBatt a f).batt a) = f (s.batt a) := by simp [State.batt, State.setBatt]
@[simp] theorem State.batt_setBatt_other {a b : Ch} (f : BattSt → BattSt) (h : a ≠ b) : (s.setBatt a f).batt b = s.batt b := by simp [State.batt, State.setBatt, h]
@[simp] theorem State.grid_setGrid_same (a : Ch) (f : GridSt → GridSt) : ((s.setGrid a f).grid a) = f (s.grid a) := by simp [State.grid, State.setGrid]
@[simp] theorem State.grid_setGrid_other {a b : Ch} (f : GridSt → GridSt) (h : a ≠ b) : (s.setGrid a f).grid b = s.grid b := by simp [State.grid, State.setGrid, h]
@[simp] theorem State.mppt_setMppt_same (a : Ch) (f : MpptSt → MpptSt) : ((s.setMppt a f).mppt a) = f (s.mppt a) := by simp [State.mppt, State.setMppt]
@[simp] theorem State.mppt_setMppt_other {a b : Ch} (f : MpptSt → MpptSt) (h : a ≠ b) : (s.setMppt a f).mppt b = s.mppt b := by simp [State.mppt, State.setMppt, h]
@[simp] theorem State.mf_setMf_same (a : Ch) (f : MfSt → MfSt) : ((s.setMf a f).mf a) = f (s.mf a) := by simp [State.mf, State.setMf]
@[simp] theorem State.mf_setMf_other {a b : Ch} (f : MfSt → MfSt) (h : a ≠ b) : (s.setMf a f).mf b = s.mf b := by simp [State.mf, State.setMf, h]
@[simp] theorem State.pg_setPg_same (a : Ch) (f : PgSt → PgSt) : ((s.setPg a f).pg a) = f (s.pg a) := by simp [State.pg, State.setPg]
@[simp] theorem State.pg_setPg_other {a b : Ch} (f : PgSt → PgSt) (h : a ≠ b) : (s.setPg a f).pg b = s.pg b := by simp [State.pg, State.setPg, h]

/-! ### Loops over the channels -/

/-- A loop of steps each of which keeps `P` keeps `P`. -/
theorem foldl_keeps {α : Type} {P : State → Prop} {f : State → α → State} (hf : ∀ s x, P s → P (f s x)) : ∀ (l : List α) (s : State), P s → P (l.foldl f s)
  | [], _, h => h
  | x :: l, s, h => foldl_keeps hf l (f s x) (hf s x h)

theorem State.eachCh_keeps {P : State → Prop} {f : State → Ch → State} (hf : ∀ s c, P s → P (f s c)) {s : State} (h : P s) : P (s.eachCh f) :=
  foldl_keeps hf allCh s h

end Sys2Proof.Machine
end

