-- ==== Sys2Proof/Laws/Books.lean ====
section
/-! SUPPORT. What the shared operations on journal, change record, mailboxes and links can do, each said once. -/

namespace Sys2Proof.Machine

/-- Equal register maps read alike. -/
theorem State.rd_congr {s t : State} (h : t.regs = s.regs) (f : Fld) (n i : Nat) : t.rd f n i = s.rd f n i := by unfold State.rd; rw [h]

/-- This register holds no number of the journal, no credits of a link and no word of the execution comparison of a pair. -/
def BooksFree (g : Fld) (n i : Nat) : Prop :=
  (∀ p : HbIx, Reg.HbStat.CREDITS.key 0 p.val 0 ≠ g.key 0 n i) ∧ Reg.HostStat.JSEQ_NEXT.key 0 0 0 ≠ g.key 0 n i ∧
    Reg.HostStat.OLDEST_JSEQ.key 0 0 0 ≠ g.key 0 n i ∧ Reg.PairStat.EXEC_DIFF_CNT.key 0 0 0 ≠ g.key 0 n i ∧ Reg.PairStat.SYNC.key 0 0 0 ≠ g.key 0 n i

/-- `t` differs from `s` in the ports of Hatband and their credits, and in nothing else. -/
def LinkOnly (s t : State) : Prop :=
  t = { s with regs := t.regs, hbs := t.hbs } ∧
    ∀ (g : Fld) (n i : Nat), (∀ p : HbIx, Reg.HbStat.CREDITS.key 0 p.val 0 ≠ g.key 0 n i) → t.rd g n i = s.rd g n i

/-- `t` differs from `s` in the journal, the blocks that can be read again, the ports of Hatband, and registers that `BooksFree` leaves out, and in nothing else. -/
def JournalOnly (s t : State) : Prop :=
  t = { s with regs := t.regs, hbs := t.hbs, mem := t.mem, crown := { s.crown with journal := t.crown.journal } } ∧
    ∀ (g : Fld) (n i : Nat), BooksFree g n i → t.rd g n i = s.rd g n i

/-- `t` differs from `s` in journal, mailboxes, events raised, the report, the blocks that can be read again and the ports of Hatband, and in nothing else. -/
def BooksOnly (s t : State) : Prop :=
  t = { s with regs := t.regs, hbs := t.hbs, mem := t.mem, raised := t.raised, report := t.report, crown := { s.crown with journal := t.crown.journal, mbxs := t.crown.mbxs } } ∧
    ∀ (g : Fld) (n i : Nat), BooksFree g n i → t.rd g n i = s.rd g n i

theorem LinkOnly.refl (s : State) : LinkOnly s s := ⟨rfl, fun _ _ _ _ => rfl⟩
theorem JournalOnly.refl (s : State) : JournalOnly s s := ⟨rfl, fun _ _ _ _ => rfl⟩
theorem BooksOnly.refl (s : State) : BooksOnly s s := ⟨rfl, fun _ _ _ _ => rfl⟩

theorem LinkOnly.trans {s t u : State} (a : LinkOnly s t) (b : LinkOnly t u) : LinkOnly s u := by
  refine ⟨?_, fun g n i h => (b.2 g n i h).trans (a.2 g n i h)⟩
  have e := b.1
  rw [a.1] at e
  exact e

theorem LinkOnly.journal {s t : State} (a : LinkOnly s t) : JournalOnly s t := by
  refine ⟨?_, fun g n i h => a.2 g n i h.1⟩
  have e := a.1
  rw [e]

/-- What a message sent leaves alone. -/
theorem LinkOnly.parts {s t : State} (a : LinkOnly s t) : t.chans = s.chans ∧ t.clk = s.clk ∧ t.crown = s.crown ∧ t.safe = s.safe ∧ t.cans = s.cans ∧ t.pair = s.pair ∧
    t.mem = s.mem ∧ t.pow = s.pow ∧ t.life = s.life ∧ t.store = s.store ∧ t.bills = s.bills ∧ t.time = s.time ∧ t.raised = s.raised ∧ t.pending = s.pending := by
  rw [a.1]; exact ⟨rfl, rfl, rfl, rfl, rfl, rfl, rfl, rfl, rfl, rfl, rfl, rfl, rfl, rfl⟩

theorem JournalOnly.trans {s t u : State} (a : JournalOnly s t) (b : JournalOnly t u) : JournalOnly s u := by
  refine ⟨?_, fun g n i h => (b.2 g n i h).trans (a.2 g n i h)⟩
  have e := b.1
  rw [a.1] at e
  exact e

theorem BooksOnly.trans {s t u : State} (a : BooksOnly s t) (b : BooksOnly t u) : BooksOnly s u := by
  refine ⟨?_, fun g n i h => (b.2 g n i h).trans (a.2 g n i h)⟩
  have e := b.1
  rw [a.1] at e
  exact e

theorem JournalOnly.books {s t : State} (a : JournalOnly s t) : BooksOnly s t := by
  refine ⟨?_, a.2⟩
  have e := a.1
  rw [e]

/-- The parts that answering leaves alone. -/
theorem BooksOnly.parts {s t : State} (a : BooksOnly s t) : t.chans = s.chans ∧ t.clk = s.clk ∧ t.safe = s.safe ∧ t.cans = s.cans ∧ t.pair = s.pair ∧
    t.pow = s.pow ∧ t.life = s.life ∧ t.store = s.store ∧ t.bills = s.bills ∧ t.time = s.time ∧ t.odd = s.odd ∧ t.freeCtr = s.freeCtr ∧ t.pending = s.pending := by
  rw [a.1]; exact ⟨rfl, rfl, rfl, rfl, rfl, rfl, rfl, rfl, rfl, rfl, rfl, rfl, rfl⟩

theorem JournalOnly.mbxs {s t : State} (a : JournalOnly s t) : t.crown.mbxs = s.crown.mbxs := by rw [a.1]

/-- Sending queued parts changes the port and its credits. -/
theorem hbPump_spec (p : HbIx) : ∀ (k : Nat) (s : State), LinkOnly s (hbPump p k s)
  | 0, s => .refl s
  | k + 1, s => by
    unfold hbPump
    simp only
    split
    · exact .refl s
    · split
      · exact .refl s
      · refine .trans ⟨rfl, fun g n i h => ?_⟩ (hbPump_spec p k _)
        exact (State.rd_congr rfl g n i).trans (State.rd_wr_other s _ (h p))

/-- A message sent over a Hatband port changes that port and its credits. -/
theorem hbSend_spec (p : HbIx) (t : Fin 8) (b : List Byte) (s : State) : LinkOnly s (hbSend p t b s) := by
  unfold hbSend
  split
  · exact .trans (t := s.setHb p _) ⟨rfl, fun _ _ _ _ => rfl⟩ (hbPump_spec p 16 _)
  · exact .refl s

theorem jSend_spec (r : JRec) (s : State) : JournalOnly s (jSend r s) := by
  unfold jSend
  split
  · exact (hbSend_spec _ _ _ _).journal
  · exact .refl s

theorem setMem_spec (f : MemSt → MemSt) (s : State) : JournalOnly s (s.setMem f) := ⟨rfl, fun _ _ _ _ => rfl⟩

theorem blockWritten_spec (b : Nat) (s : State) : JournalOnly s (blockWritten b s) := by
  unfold blockWritten
  split
  · exact setMem_spec _ s
  · exact .refl s

theorem jBounds_spec (k : Nat) (j : List JRec) (s : State) : JournalOnly s (jBounds k j s) := by
  unfold jBounds
  exact .trans (t := { s with crown := { s.crown with journal := j } }.wr Reg.HostStat.JSEQ_NEXT 0 0 k) ⟨rfl, fun _ _ _ h => (State.rd_wr_other _ _ h.2.1).trans rfl⟩
    ⟨rfl, fun _ _ _ h => State.rd_wr_other _ _ h.2.2.1⟩

/-- A record put into the journal, and its copy to the peer. -/
theorem jPut_spec (cy : Bool) (typ mbx part : Nat) (body : List Byte) (s : State) : JournalOnly s (jPut cy typ mbx part body s) := by
  unfold jPut
  exact .trans (blockWritten_spec _ s) (.trans (jBounds_spec _ _ _) (jSend_spec _ _))

theorem JournalOnly.foldl {α : Type} (f : State → α → State) (h : ∀ s x, JournalOnly s (f s x)) : ∀ (l : List α) (s : State), JournalOnly s (l.foldl f s)
  | [], s => .refl s
  | x :: l, s => .trans (h s x) (JournalOnly.foldl f h l (f s x))

theorem BooksOnly.foldl {α : Type} (f : State → α → State) (h : ∀ s x, BooksOnly s (f s x)) : ∀ (l : List α) (s : State), BooksOnly s (l.foldl f s)
  | [], s => .refl s
  | x :: l, s => .trans (h s x) (BooksOnly.foldl f h l (f s x))

theorem JournalOnly.setJournal (j : List JRec) (s : State) : JournalOnly s { s with crown := { s.crown with journal := j } } := ⟨rfl, fun _ _ _ _ => rfl⟩

theorem jCarry_spec (r : JRec) (s : State) : JournalOnly s (jCarry r s) := by
  unfold jCarry
  exact .trans (.setJournal _ s) (JournalOnly.foldl _ (fun s x => jPut_spec _ _ _ _ _ s) _ _)

theorem jRoom_spec (n : Nat) : ∀ (k : Nat) (s : State), JournalOnly s (jRoom n k s)
  | 0, s => .refl s
  | k + 1, s => by
    unfold jRoom
    split
    · exact .refl s
    · split
      · dsimp only
        split
        · exact .trans (jCarry_spec _ s) (jRoom_spec n k _)
        · exact .trans (.setJournal _ s) (jRoom_spec n k _)
      · exact .refl s

theorem jClear_spec (n : Nat) : ∀ (k : Nat) (s : State), JournalOnly s (jClear n k s)
  | 0, s => .refl s
  | k + 1, s => by
    unfold jClear
    split
    · exact .trans (jPut_spec _ _ _ _ _ s) (jClear_spec n k _)
    · exact .refl s

/-- Room at the ring head is made in the journal alone. -/
theorem jReserve_spec (n : Nat) (s : State) : JournalOnly s (jReserve n s) := .trans (jRoom_spec n _ s) (jClear_spec n _ _)

/-- A journal entry leaves mailboxes, channels and every register but its own numbers as they were. -/
theorem jEntry_spec (mbx : Nat) (rs : List (Nat × Nat × List Byte)) (s : State) : JournalOnly s (jEntry mbx rs s) := by
  unfold jEntry
  split
  · exact .refl s
  · split
    · exact JournalOnly.foldl _ (fun s x => (hbSend_spec _ _ _ s).journal) _ _
    · exact .trans (jReserve_spec _ s) (JournalOnly.foldl _ (fun s x => jPut_spec _ _ _ _ _ s) _ _)

theorem jAdd_spec (typ mbx part : Nat) (body : List Byte) (s : State) : JournalOnly s (jAdd typ mbx part body s) := jEntry_spec _ _ s

theorem jLock_spec (typ : Nat) (m : Mbx) (ep sq : Nat) (gs : List Nat) (s : State) : JournalOnly s (jLock typ m ep sq gs s) := jAdd_spec _ _ _ _ s
theorem jMark_spec (typ : Nat) (m : Mbx) (ep sq : Nat) (s : State) : JournalOnly s (jMark typ m ep sq s) := by unfold jMark; exact jAdd_spec _ _ _ _ s

theorem setMb_books (m : Mbx) (f : Mailbox → Mailbox) (s : State) : BooksOnly s (s.setMb m f) := ⟨rfl, fun _ _ _ _ => rfl⟩

/-- A lock that breaks changes journal and mailbox alone. -/
theorem breakLock_spec (m : Mbx) (s : State) : BooksOnly s (breakLock m s) := by
  unfold breakLock
  split
  · exact .refl s
  · exact .trans (jLock_spec _ _ _ _ _ s).books (setMb_books _ _ _)

theorem jAccept_spec (m : Mbx) (c : Cmd) (s : State) : JournalOnly s (jAccept m c s) := jEntry_spec _ _ s

theorem jFinal_spec (m : Mbx) (ep sq st c d : Nat) (r : List Byte) (s : State) : JournalOnly s (jFinal m ep sq st c d r s) := jAdd_spec _ _ _ _ s

theorem finalise_spec (m : Mbx) (ep sq : Nat) (d : Done) (s : State) : BooksOnly s (finalise m ep sq d s) := by
  unfold finalise
  exact .trans (jFinal_spec _ _ _ _ _ _ _ s).books ⟨rfl, fun _ _ _ _ => rfl⟩

theorem execDiff_spec (s : State) : BooksOnly s (execDiff s) := by
  unfold execDiff
  have a : BooksOnly s (s.count Reg.PairStat.EXEC_DIFF_CNT) := ⟨rfl, fun g n i h => State.rd_wr_other _ _ h.2.2.2.1⟩
  simp only
  split
  · exact a.trans ⟨rfl, fun g n i h => State.rd_wr_other _ _ h.2.2.2.2⟩
  · exact a

theorem noteOwn_spec (m : Mbx) (ep sq : Nat) (d : Done) (s : State) : BooksOnly s (noteOwn m ep sq d s) := by
  unfold noteOwn
  split
  · exact setMb_books _ _ _
  · split
    · split
      · exact .refl s
      · exact execDiff_spec s
    · exact .refl s

/-- Answering a request changes journal, mailbox, events and the report, and nothing of the machine the request acts on. -/
theorem completeW_spec (w : Waiter) (d : Done) (s : State) : BooksOnly s (completeW w d s) := by
  unfold completeW
  have a : ∀ (t : State) (r : Option Report), BooksOnly t { t with report := r } := fun t r => ⟨rfl, fun _ _ _ _ => rfl⟩
  refine .trans ?_ (a _ _)
  split
  · split
    · exact noteOwn_spec _ _ _ _ _
    · split
      · exact finalise_spec _ _ _ _ _
      · exact .refl s
  · exact .refl s

/-- What a request reports. -/
@[simp] theorem completeW_report (w : Waiter) (d : Done) (s : State) : (completeW w d s).report = some ⟨w.mbx.val, d.status, d.detail, d.result⟩ := rfl

/-- A delivered response leaves its mailbox. -/
theorem deliver_spec (m : Mbx) (ep sq : Nat) (s : State) : BooksOnly s (deliver m ep sq s) := setMb_books _ _ s

/-- A command that has been processed is marked in its mailbox. -/
theorem processed_spec (m : Mbx) (s : State) : BooksOnly s (processed m s) := by
  unfold processed
  split
  · exact setMb_books _ _ s
  · exact .refl s

/-- Marking a command leaves what was answered. -/
@[simp] theorem processed_report (m : Mbx) (s : State) : (processed m s).report = s.report := by
  unfold processed
  split <;> rfl

/-- Marking a command changes no register. -/
@[simp] theorem processed_rd (m : Mbx) (s : State) (f : Fld) (n i : Nat) : (processed m s).rd f n i = s.rd f n i := by
  unfold processed
  split <;> rfl

end Sys2Proof.Machine
end

