-- ==== Sys2Proof/Laws/Canonical.lean ====
section
/-! SUPPORT. Every operation keeps the register map, the Batt store and the firmware banks canonical: one lemma per operation, in the order of the files. -/

namespace Sys2Proof.Laws

open Sys2Proof.Machine Sys2Proof.Safety

set_option linter.unreachableTactic false
set_option linter.unusedTactic false
set_option linter.unusedVariables false

theorem wf_setsInForce {m : SMap Nat} (h : SMap.wf 0 m = true) : SMap.wf 0 (setsInForce m) = true := by
  unfold setsInForce
  refine SMap.wfFrom_append 0 planeSize _ ?_ _ 0 (Nat.zero_le _) (SMap.wf_filter 0 _ m h) ?_
  · exact SMap.wf_shift 0 planeSize _ (SMap.wf_filter 0 _ _ (SMap.wf_filter 0 _ m h))
  · intro e he
    simpa using (List.mem_filter.mp he).2
theorem wf_thawRegs {m : SMap Nat} (h : SMap.wf 0 m = true) : SMap.wf 0 (thawRegs m) = true :=
  wf_setsInForce (SMap.wf_filter 0 _ m h)
/-- The settings restored by a Thaw are canonical. -/
theorem canon_thawRegs {t : State} (h : Canonical t) {chans clk crown safe cans hbs pair mem pow} {l : LifeSt} {bills time odd raised report freeCtr pending}
    (hA : l.fwA = t.life.fwA := by rfl) (hB : l.fwB = t.life.fwB := by rfl) :
    Canonical ⟨thawRegs t.regs, chans, clk, crown, safe, cans, hbs, pair, mem, pow, l, t.store, bills, time, odd, raised, report, freeCtr, pending⟩ :=
  ⟨wf_thawRegs h.1, h.2.1, hA ▸ h.2.2.1, hB ▸ h.2.2.2⟩
/-- The sets in force restored from the settings are canonical. -/
theorem canon_setsInForce {t : State} (h : Canonical t) {chans clk crown safe cans hbs pair mem pow} {l : LifeSt} {bills time odd raised report freeCtr pending}
    (hA : l.fwA = t.life.fwA := by rfl) (hB : l.fwB = t.life.fwB := by rfl) :
    Canonical ⟨setsInForce t.regs, chans, clk, crown, safe, cans, hbs, pair, mem, pow, l, t.store, bills, time, odd, raised, report, freeCtr, pending⟩ :=
  ⟨wf_setsInForce h.1, h.2.1, hA ▸ h.2.2.1, hB ▸ h.2.2.2⟩
/-- Writing a field keeps the register map canonical. -/
theorem canon_State_wr {s : State} (f : Fld) (n i v : Nat) (h : Canonical s) : Canonical (s.wr f n i v) := ⟨SMap.wf_set _ _ _ _ h.1, h.2⟩
theorem canon_State_wrL {s : State} (f : Fld) (n i v : Nat) (h : Canonical s) : Canonical (s.wrL f n i v) := ⟨SMap.wf_set _ _ _ _ h.1, h.2⟩
/-- A change of parts that are no such map keeps all of them. -/
theorem canon_upd {t : State} (h : Canonical t) {chans clk crown safe cans hbs pair mem pow} {l : LifeSt} {bills time odd raised report freeCtr pending}
    (hA : l.fwA = t.life.fwA) (hB : l.fwB = t.life.fwB) :
    Canonical ⟨t.regs, chans, clk, crown, safe, cans, hbs, pair, mem, pow, l, t.store, bills, time, odd, raised, report, freeCtr, pending⟩ :=
  ⟨h.1, h.2.1, hA ▸ h.2.2.1, hB ▸ h.2.2.2⟩
theorem canon_ite {c : Prop} [Decidable c] {a b : State} (ha : c → Canonical a) (hb : ¬c → Canonical b) : Canonical (if c then a else b) := by
  split
  · exact ha ‹_›
  · exact hb ‹_›
theorem canon_foldl {α : Type} {f : State → α → State} (l : List α) {s : State} (h : Canonical s) (hf : ∀ s x, Canonical s → Canonical (f s x)) : Canonical (l.foldl f s) :=
  foldl_keeps hf l s h
theorem canon_State_eachCh {s : State} {f : State → Ch → State} (h : Canonical s) (hf : ∀ s c, Canonical s → Canonical (f s c)) : Canonical (s.eachCh f) :=
  foldl_keeps hf allCh s h
theorem canon_State_setLife {s : State} {f : LifeSt → LifeSt} (h : Canonical s) (hA : ∀ l, (f l).fwA = l.fwA) (hB : ∀ l, (f l).fwB = l.fwB) : Canonical (s.setLife f) :=
  ⟨h.1, h.2.1, (hA s.life).symm ▸ h.2.2.1, (hB s.life).symm ▸ h.2.2.2⟩
/-- Bytes put into a firmware bank keep it canonical. -/
theorem canon_fwPut {s : State} (isB : Bool) (off : Nat) (bs : List Byte) (h : Canonical s) : Canonical (fwPut isB off bs s) := by
  cases isB
  · exact ⟨h.1, h.2.1, SMap.wf_setRun _ _ _ _ h.2.2.1, h.2.2.2⟩
  · exact ⟨h.1, h.2.1, h.2.2.1, SMap.wf_setRun _ _ _ _ h.2.2.2⟩
/-- Bytes put into the Batt store keep it canonical. -/
theorem canon_storePut {s : State} (slot off : Nat) (bs : List Byte) (h : Canonical s) : Canonical (storePut slot off bs s) :=
  ⟨h.1, SMap.wf_setRun _ _ _ _ h.2.1, h.2.2⟩

theorem canon_State_commit1 (s : State) (f : Fld) (n : Nat) (i : Nat) (hc : Canonical s) : Canonical (State.commit1 s f n i) := by
  unfold State.commit1
  repeat' first | with_reducible assumption | with_reducible apply canon_State_wrL | with_reducible apply canon_foldl | with_reducible apply canon_ite | (fail_if_no_progress intros) | dsimp only | split | (fail_if_no_progress with_reducible refine canon_upd ?_ rfl rfl) | with_reducible rfl

theorem canon_State_commitAll (s : State) (fs : List Fld) (n : Nat) (hc : Canonical s) : Canonical (State.commitAll s fs n) := by
  unfold State.commitAll
  repeat' first | with_reducible assumption | with_reducible apply canon_State_commit1 | with_reducible apply canon_foldl | with_reducible apply canon_ite | (fail_if_no_progress intros) | dsimp only | split | (fail_if_no_progress with_reducible refine canon_upd ?_ rfl rfl) | with_reducible rfl

theorem canon_State_count (s : State) (f : Fld) (n : optParam Nat 0) (i : optParam Nat 0) (hc : Canonical s) : Canonical (State.count s f n i) := by
  unfold State.count
  repeat' first | with_reducible assumption | with_reducible apply canon_State_wr | with_reducible apply canon_foldl | with_reducible apply canon_ite | (fail_if_no_progress intros) | dsimp only | split | (fail_if_no_progress with_reducible refine canon_upd ?_ rfl rfl) | with_reducible rfl

theorem canon_State_countMod (s : State) (f : Fld) (n : optParam Nat 0) (i : optParam Nat 0) (hc : Canonical s) : Canonical (State.countMod s f n i) := by
  unfold State.countMod
  repeat' first | with_reducible assumption | with_reducible apply canon_State_wr | with_reducible apply canon_foldl | with_reducible apply canon_ite | (fail_if_no_progress intros) | dsimp only | split | (fail_if_no_progress with_reducible refine canon_upd ?_ rfl rfl) | with_reducible rfl

theorem canon_State_wrB (s : State) (f : Fld) (n : Nat) (i : Nat) (b : Bool) (hc : Canonical s) : Canonical (State.wrB s f n i b) := by
  unfold State.wrB
  repeat' first | with_reducible assumption | with_reducible apply canon_State_wr | with_reducible apply canon_foldl | with_reducible apply canon_ite | (fail_if_no_progress intros) | dsimp only | split | (fail_if_no_progress with_reducible refine canon_upd ?_ rfl rfl) | with_reducible rfl

theorem canon_State_wrBit (s : State) (f : Fld) (n : Nat) (i : Nat) (k : Nat) (b : Bool) (hc : Canonical s) : Canonical (State.wrBit s f n i k b) := by
  unfold State.wrBit
  repeat' first | with_reducible assumption | with_reducible apply canon_State_wr | with_reducible apply canon_foldl | with_reducible apply canon_ite | (fail_if_no_progress intros) | dsimp only | split | (fail_if_no_progress with_reducible refine canon_upd ?_ rfl rfl) | with_reducible rfl

theorem canon_State_wrS (s : State) (f : Fld) (n : Nat) (i : Nat) (v : Int) (hc : Canonical s) : Canonical (State.wrS s f n i v) := by
  unfold State.wrS
  repeat' first | with_reducible assumption | with_reducible apply canon_State_wr | with_reducible apply canon_foldl | with_reducible apply canon_ite | (fail_if_no_progress intros) | dsimp only | split | (fail_if_no_progress with_reducible refine canon_upd ?_ rfl rfl) | with_reducible rfl

theorem canon_State_setCh (s : State) (c : Ch) (f : Chan → Chan) (hc : Canonical s) : Canonical (State.setCh s c f) := by
  unfold State.setCh
  repeat' first | with_reducible assumption | with_reducible apply canon_foldl | with_reducible apply canon_ite | (fail_if_no_progress intros) | dsimp only | split | (fail_if_no_progress with_reducible refine canon_upd ?_ rfl rfl) | with_reducible rfl

theorem canon_State_raise (s : State) (e : Nat) (hc : Canonical s) : Canonical (State.raise s e) := by
  unfold State.raise
  repeat' first | with_reducible assumption | with_reducible apply canon_foldl | with_reducible apply canon_ite | (fail_if_no_progress intros) | dsimp only | split | (fail_if_no_progress with_reducible refine canon_upd ?_ rfl rfl) | with_reducible rfl

theorem canon_State_drew (s : State) (hc : Canonical s) : Canonical (State.drew s) := by
  unfold State.drew
  repeat' first | with_reducible assumption | with_reducible apply canon_foldl | with_reducible apply canon_ite | (fail_if_no_progress intros) | dsimp only | split | (fail_if_no_progress with_reducible refine canon_upd ?_ rfl rfl) | with_reducible rfl

theorem canon_State_setHb (s : State) (p : HbIx) (f : HbSt → HbSt) (hc : Canonical s) : Canonical (State.setHb s p f) := by
  unfold State.setHb
  repeat' first | with_reducible assumption | with_reducible apply canon_foldl | with_reducible apply canon_ite | (fail_if_no_progress intros) | dsimp only | split | (fail_if_no_progress with_reducible refine canon_upd ?_ rfl rfl) | with_reducible rfl

theorem canon_hbPump (p : HbIx) (x1 : Nat) (x2 : State) (hc : Canonical x2) : Canonical (hbPump p x1 x2) := by
  induction x1 generalizing x2 with
  | zero => unfold hbPump; repeat' first | with_reducible assumption | with_reducible apply canon_State_wr | with_reducible apply canon_State_setHb | with_reducible apply canon_foldl | with_reducible apply canon_ite | (fail_if_no_progress intros) | dsimp only | split | (fail_if_no_progress with_reducible refine canon_upd ?_ rfl rfl) | with_reducible rfl
  | succ fuel ih =>
    unfold hbPump
    repeat' first | with_reducible assumption | with_reducible apply ih | with_reducible apply canon_State_wr | with_reducible apply canon_State_setHb | with_reducible apply canon_foldl | with_reducible apply canon_ite | (fail_if_no_progress intros) | dsimp only | split | (fail_if_no_progress with_reducible refine canon_upd ?_ rfl rfl) | with_reducible rfl

theorem canon_hbSend (p : HbIx) (typ : Fin 8) (bytes : List Byte) (s : State) (hc : Canonical s) : Canonical (hbSend p typ bytes s) := by
  unfold hbSend
  repeat' first | with_reducible assumption | with_reducible apply canon_State_setHb | with_reducible apply canon_hbPump | with_reducible apply canon_foldl | with_reducible apply canon_ite | (fail_if_no_progress intros) | dsimp only | split | (fail_if_no_progress with_reducible refine canon_upd ?_ rfl rfl) | with_reducible rfl

theorem canon_sendAlign (tag : Nat) (bs : List Byte) (s : State) (hc : Canonical s) : Canonical (sendAlign tag bs s) := by
  unfold sendAlign
  repeat' first | with_reducible assumption | with_reducible apply canon_hbSend | with_reducible apply canon_foldl | with_reducible apply canon_ite | (fail_if_no_progress intros) | dsimp only | split | (fail_if_no_progress with_reducible refine canon_upd ?_ rfl rfl) | with_reducible rfl

theorem canon_sendOrder (c : Ch) (start : Bool) (s : State) (hc : Canonical s) : Canonical (sendOrder c start s) := by
  unfold sendOrder
  repeat' first | with_reducible assumption | with_reducible apply canon_sendAlign | with_reducible apply canon_foldl | with_reducible apply canon_ite | (fail_if_no_progress intros) | dsimp only | split | (fail_if_no_progress with_reducible refine canon_upd ?_ rfl rfl) | with_reducible rfl

theorem canon_State_setMb (s : State) (m : Mbx) (f : Mailbox → Mailbox) (hc : Canonical s) : Canonical (State.setMb s m f) := by
  unfold State.setMb
  repeat' first | with_reducible assumption | with_reducible apply canon_foldl | with_reducible apply canon_ite | (fail_if_no_progress intros) | dsimp only | split | (fail_if_no_progress with_reducible refine canon_upd ?_ rfl rfl) | with_reducible rfl

theorem canon_State_setMem (s : State) (f : MemSt → MemSt) (hc : Canonical s) : Canonical (State.setMem s f) := by
  unfold State.setMem
  repeat' first | with_reducible assumption | with_reducible apply canon_foldl | with_reducible apply canon_ite | (fail_if_no_progress intros) | dsimp only | split | (fail_if_no_progress with_reducible refine canon_upd ?_ rfl rfl) | with_reducible rfl

theorem canon_blockWritten (blk : Nat) (s : State) (hc : Canonical s) : Canonical (blockWritten blk s) := by
  unfold blockWritten
  repeat' first | with_reducible assumption | with_reducible apply canon_State_setMem | with_reducible apply canon_foldl | with_reducible apply canon_ite | (fail_if_no_progress intros) | dsimp only | split | (fail_if_no_progress with_reducible refine canon_upd ?_ rfl rfl) | with_reducible rfl

theorem canon_jSend (r : JRec) (s : State) (hc : Canonical s) : Canonical (jSend r s) := by
  unfold jSend
  repeat' first | with_reducible assumption | with_reducible apply canon_hbSend | with_reducible apply canon_foldl | with_reducible apply canon_ite | (fail_if_no_progress intros) | dsimp only | split | (fail_if_no_progress with_reducible refine canon_upd ?_ rfl rfl) | with_reducible rfl

theorem canon_jBounds (next : Nat) (jn : List JRec) (s : State) (hc : Canonical s) : Canonical (jBounds next jn s) := by
  unfold jBounds
  repeat' first | with_reducible assumption | with_reducible apply canon_State_wr | with_reducible apply canon_foldl | with_reducible apply canon_ite | (fail_if_no_progress intros) | dsimp only | split | (fail_if_no_progress with_reducible refine canon_upd ?_ rfl rfl) | with_reducible rfl

theorem canon_jPut (carried : Bool) (typ : Nat) (mbx : Nat) (part : Nat) (body : List Byte) (s : State) (hc : Canonical s) : Canonical (jPut carried typ mbx part body s) := by
  unfold jPut
  repeat' first | with_reducible assumption | with_reducible apply canon_jSend | with_reducible apply canon_jBounds | with_reducible apply canon_blockWritten | with_reducible apply canon_foldl | with_reducible apply canon_ite | (fail_if_no_progress intros) | dsimp only | split | (fail_if_no_progress with_reducible refine canon_upd ?_ rfl rfl) | with_reducible rfl

theorem canon_jVoid (s : State) (hc : Canonical s) : Canonical (jVoid s) := by
  unfold jVoid
  repeat' first | with_reducible assumption | with_reducible apply canon_jPut | with_reducible apply canon_foldl | with_reducible apply canon_ite | (fail_if_no_progress intros) | dsimp only | split | (fail_if_no_progress with_reducible refine canon_upd ?_ rfl rfl) | with_reducible rfl

theorem canon_jCarry (r : JRec) (s : State) (hc : Canonical s) : Canonical (jCarry r s) := by
  unfold jCarry
  repeat' first | with_reducible assumption | with_reducible apply canon_jPut | with_reducible apply canon_foldl | with_reducible apply canon_ite | (fail_if_no_progress intros) | dsimp only | split | (fail_if_no_progress with_reducible refine canon_upd ?_ rfl rfl) | with_reducible rfl

theorem canon_jRoom (n : Nat) (x1 : Nat) (x2 : State) (hc : Canonical x2) : Canonical (jRoom n x1 x2) := by
  induction x1 generalizing x2 with
  | zero => unfold jRoom; repeat' first | with_reducible assumption | with_reducible apply canon_jCarry | with_reducible apply canon_foldl | with_reducible apply canon_ite | (fail_if_no_progress intros) | dsimp only | split | (fail_if_no_progress with_reducible refine canon_upd ?_ rfl rfl) | with_reducible rfl
  | succ fuel ih =>
    unfold jRoom
    repeat' first | with_reducible assumption | with_reducible apply ih | with_reducible apply canon_jCarry | with_reducible apply canon_foldl | with_reducible apply canon_ite | (fail_if_no_progress intros) | dsimp only | split | (fail_if_no_progress with_reducible refine canon_upd ?_ rfl rfl) | with_reducible rfl

theorem canon_jClear (n : Nat) (x1 : Nat) (x2 : State) (hc : Canonical x2) : Canonical (jClear n x1 x2) := by
  induction x1 generalizing x2 with
  | zero => unfold jClear; repeat' first | with_reducible assumption | with_reducible apply canon_jVoid | with_reducible apply canon_foldl | with_reducible apply canon_ite | (fail_if_no_progress intros) | dsimp only | split | (fail_if_no_progress with_reducible refine canon_upd ?_ rfl rfl) | with_reducible rfl
  | succ fuel ih =>
    unfold jClear
    repeat' first | with_reducible assumption | with_reducible apply ih | with_reducible apply canon_jVoid | with_reducible apply canon_foldl | with_reducible apply canon_ite | (fail_if_no_progress intros) | dsimp only | split | (fail_if_no_progress with_reducible refine canon_upd ?_ rfl rfl) | with_reducible rfl

theorem canon_jReserve (n : Nat) (s : State) (hc : Canonical s) : Canonical (jReserve n s) := by
  unfold jReserve
  repeat' first | with_reducible assumption | with_reducible apply canon_jClear | with_reducible apply canon_jRoom | with_reducible apply canon_foldl | with_reducible apply canon_ite | (fail_if_no_progress intros) | dsimp only | split | (fail_if_no_progress with_reducible refine canon_upd ?_ rfl rfl) | with_reducible rfl

theorem canon_jAsk (typ : Nat) (mbx : Nat) (part : Nat) (body : List Byte) (s : State) (hc : Canonical s) : Canonical (jAsk typ mbx part body s) := by
  unfold jAsk
  repeat' first | with_reducible assumption | with_reducible apply canon_hbSend | with_reducible apply canon_foldl | with_reducible apply canon_ite | (fail_if_no_progress intros) | dsimp only | split | (fail_if_no_progress with_reducible refine canon_upd ?_ rfl rfl) | with_reducible rfl

theorem canon_jEntry (mbx : Nat) (recs : List (Nat × Nat × List Byte)) (s : State) (hc : Canonical s) : Canonical (jEntry mbx recs s) := by
  unfold jEntry
  repeat' first | with_reducible assumption | with_reducible apply canon_jAsk | with_reducible apply canon_jPut | with_reducible apply canon_jReserve | with_reducible apply canon_foldl | with_reducible apply canon_ite | (fail_if_no_progress intros) | dsimp only | split | (fail_if_no_progress with_reducible refine canon_upd ?_ rfl rfl) | with_reducible rfl

theorem canon_jAdd (typ : Nat) (mbx : Nat) (part : Nat) (body : List Byte) (s : State) (hc : Canonical s) : Canonical (jAdd typ mbx part body s) := by
  unfold jAdd
  repeat' first | with_reducible assumption | with_reducible apply canon_jEntry | with_reducible apply canon_foldl | with_reducible apply canon_ite | (fail_if_no_progress intros) | dsimp only | split | (fail_if_no_progress with_reducible refine canon_upd ?_ rfl rfl) | with_reducible rfl

theorem canon_jAccept (m : Mbx) (c : Cmd) (s : State) (hc : Canonical s) : Canonical (jAccept m c s) := by
  unfold jAccept
  repeat' first | with_reducible assumption | with_reducible apply canon_jEntry | with_reducible apply canon_foldl | with_reducible apply canon_ite | (fail_if_no_progress intros) | dsimp only | split | (fail_if_no_progress with_reducible refine canon_upd ?_ rfl rfl) | with_reducible rfl

theorem canon_jFinal (m : Mbx) (ep : Nat) (sq : Nat) (status : Nat) (state : Nat) (detail : Nat) (result : List Byte) (s : State) (hc : Canonical s) : Canonical (jFinal m ep sq status state detail result s) := by
  unfold jFinal
  repeat' first | with_reducible assumption | with_reducible apply canon_jAdd | with_reducible apply canon_foldl | with_reducible apply canon_ite | (fail_if_no_progress intros) | dsimp only | split | (fail_if_no_progress with_reducible refine canon_upd ?_ rfl rfl) | with_reducible rfl

theorem canon_jMark (typ : Nat) (m : Mbx) (ep : Nat) (sq : Nat) (s : State) (hc : Canonical s) : Canonical (jMark typ m ep sq s) := by
  unfold jMark
  repeat' first | with_reducible assumption | with_reducible apply canon_jAdd | with_reducible apply canon_foldl | with_reducible apply canon_ite | (fail_if_no_progress intros) | dsimp only | split | (fail_if_no_progress with_reducible refine canon_upd ?_ rfl rfl) | with_reducible rfl

theorem canon_jLock (typ : Nat) (m : Mbx) (ep : Nat) (sq : Nat) (groups : List Nat) (s : State) (hc : Canonical s) : Canonical (jLock typ m ep sq groups s) := by
  unfold jLock
  repeat' first | with_reducible assumption | with_reducible apply canon_jAdd | with_reducible apply canon_foldl | with_reducible apply canon_ite | (fail_if_no_progress intros) | dsimp only | split | (fail_if_no_progress with_reducible refine canon_upd ?_ rfl rfl) | with_reducible rfl

theorem canon_cAdd (a : Author) (kind : Nat) (object : Nat) (item : Nat) (oldCrc : Nat) (newCrc : Nat) (last : Bool) (s : State) (hc : Canonical s) : Canonical (cAdd a kind object item oldCrc newCrc last s) := by
  unfold cAdd
  repeat' first | with_reducible assumption | with_reducible apply canon_State_wr | with_reducible apply canon_foldl | with_reducible apply canon_ite | (fail_if_no_progress intros) | dsimp only | split | (fail_if_no_progress with_reducible refine canon_upd ?_ rfl rfl) | with_reducible rfl

theorem canon_execDiff (s : State) (hc : Canonical s) : Canonical (execDiff s) := by
  unfold execDiff
  repeat' first | with_reducible assumption | with_reducible apply canon_State_count | with_reducible apply canon_State_wr | with_reducible apply canon_foldl | with_reducible apply canon_ite | (fail_if_no_progress intros) | dsimp only | split | (fail_if_no_progress with_reducible refine canon_upd ?_ rfl rfl) | with_reducible rfl

theorem canon_noteOwn (m : Mbx) (ep : Nat) (sq : Nat) (d : Done) (s : State) (hc : Canonical s) : Canonical (noteOwn m ep sq d s) := by
  unfold noteOwn
  repeat' first | with_reducible assumption | with_reducible apply canon_State_setMb | with_reducible apply canon_execDiff | with_reducible apply canon_foldl | with_reducible apply canon_ite | (fail_if_no_progress intros) | dsimp only | split | (fail_if_no_progress with_reducible refine canon_upd ?_ rfl rfl) | with_reducible rfl

theorem canon_finalise (m : Mbx) (ep : Nat) (sq : Nat) (d : Done) (s : State) (hc : Canonical s) : Canonical (finalise m ep sq d s) := by
  unfold finalise
  repeat' first | with_reducible assumption | with_reducible apply canon_jFinal | with_reducible apply canon_State_setMb | with_reducible apply canon_State_raise | with_reducible apply canon_foldl | with_reducible apply canon_ite | (fail_if_no_progress intros) | dsimp only | split | (fail_if_no_progress with_reducible refine canon_upd ?_ rfl rfl) | with_reducible rfl

theorem canon_completeW (w : Waiter) (d : Done) (s : State) (hc : Canonical s) : Canonical (completeW w d s) := by
  unfold completeW
  repeat' first | with_reducible assumption | with_reducible apply canon_noteOwn | with_reducible apply canon_finalise | with_reducible apply canon_foldl | with_reducible apply canon_ite | (fail_if_no_progress intros) | dsimp only | split | (fail_if_no_progress with_reducible refine canon_upd ?_ rfl rfl) | with_reducible rfl

theorem canon_complete (m : Mbx) (code : Nat) (d : Done) (s : State) (hc : Canonical s) : Canonical (complete m code d s) := by
  unfold complete
  repeat' first | with_reducible assumption | with_reducible apply canon_completeW | with_reducible apply canon_foldl | with_reducible apply canon_ite | (fail_if_no_progress intros) | dsimp only | split | (fail_if_no_progress with_reducible refine canon_upd ?_ rfl rfl) | with_reducible rfl

theorem canon_completeO (w : Option Waiter) (d : Done) (s : State) (hc : Canonical s) : Canonical (completeO w d s) := by
  unfold completeO
  repeat' first | with_reducible assumption | with_reducible apply canon_completeW | with_reducible apply canon_foldl | with_reducible apply canon_ite | (fail_if_no_progress intros) | dsimp only | split | (fail_if_no_progress with_reducible refine canon_upd ?_ rfl rfl) | with_reducible rfl

theorem canon_processed (m : Mbx) (s : State) (hc : Canonical s) : Canonical (processed m s) := by
  unfold processed
  repeat' first | with_reducible assumption | with_reducible apply canon_State_setMb | with_reducible apply canon_foldl | with_reducible apply canon_ite | (fail_if_no_progress intros) | dsimp only | split | (fail_if_no_progress with_reducible refine canon_upd ?_ rfl rfl) | with_reducible rfl

theorem canon_renewLease (m : Mbx) (s : State) (hc : Canonical s) : Canonical (renewLease m s) := by
  unfold renewLease
  repeat' first | with_reducible assumption | with_reducible apply canon_State_setMb | with_reducible apply canon_foldl | with_reducible apply canon_ite | (fail_if_no_progress intros) | dsimp only | split | (fail_if_no_progress with_reducible refine canon_upd ?_ rfl rfl) | with_reducible rfl

theorem canon_breakLock (m : Mbx) (s : State) (hc : Canonical s) : Canonical (breakLock m s) := by
  unfold breakLock
  repeat' first | with_reducible assumption | with_reducible apply canon_jLock | with_reducible apply canon_State_setMb | with_reducible apply canon_foldl | with_reducible apply canon_ite | (fail_if_no_progress intros) | dsimp only | split | (fail_if_no_progress with_reducible refine canon_upd ?_ rfl rfl) | with_reducible rfl

theorem canon_deliver (m : Mbx) (ep : Nat) (sq : Nat) (s : State) (hc : Canonical s) : Canonical (deliver m ep sq s) := by
  unfold deliver
  repeat' first | with_reducible assumption | with_reducible apply canon_State_setMb | with_reducible apply canon_foldl | with_reducible apply canon_ite | (fail_if_no_progress intros) | dsimp only | split | (fail_if_no_progress with_reducible refine canon_upd ?_ rfl rfl) | with_reducible rfl

theorem canon_postFifo (c : Ch) (e : Nat) (lag : Nat) (s : State) (hc : Canonical s) : Canonical (postFifo c e lag s) := by
  unfold postFifo
  repeat' first | with_reducible assumption | with_reducible apply canon_State_setCh | with_reducible apply canon_State_raise | with_reducible apply canon_foldl | with_reducible apply canon_ite | (fail_if_no_progress intros) | dsimp only | split | (fail_if_no_progress with_reducible refine canon_upd ?_ rfl rfl) | with_reducible rfl

theorem canon_capStore (c : Ch) (j : Nat) (lag : Nat) (s : State) (hc : Canonical s) : Canonical (capStore c j lag s) := by
  unfold capStore
  repeat' first | with_reducible assumption | with_reducible apply canon_State_wr | with_reducible apply canon_State_wrB | with_reducible apply canon_State_setCh | with_reducible apply canon_foldl | with_reducible apply canon_ite | (fail_if_no_progress intros) | dsimp only | split | (fail_if_no_progress with_reducible refine canon_upd ?_ rfl rfl) | with_reducible rfl

theorem canon_injTake (c : Ch) (sb : Bool) (s : State) (hc : Canonical s) : Canonical (injTake c sb s) := by
  unfold injTake
  repeat' first | with_reducible assumption | with_reducible apply canon_State_setCh | with_reducible apply canon_State_wr | with_reducible apply canon_foldl | with_reducible apply canon_ite | (fail_if_no_progress intros) | dsimp only | split | (fail_if_no_progress with_reducible refine canon_upd ?_ rfl rfl) | with_reducible rfl

theorem canon_injMiss (c : Ch) (sb : Bool) (s : State) (hc : Canonical s) : Canonical (injMiss c sb s) := by
  unfold injMiss
  repeat' first | with_reducible assumption | with_reducible apply canon_State_count | with_reducible apply canon_foldl | with_reducible apply canon_ite | (fail_if_no_progress intros) | dsimp only | split | (fail_if_no_progress with_reducible refine canon_upd ?_ rfl rfl) | with_reducible rfl

theorem canon_ceTrig (c : Ch) (j : Fin 4) (s : State) (hc : Canonical s) : Canonical (ceTrig c j s) := by
  unfold ceTrig
  repeat' first | with_reducible assumption | with_reducible apply canon_State_count | with_reducible apply canon_State_wrBit | with_reducible apply canon_State_setCh | with_reducible apply canon_foldl | with_reducible apply canon_ite | (fail_if_no_progress intros) | dsimp only | split | (fail_if_no_progress with_reducible refine canon_upd ?_ rfl rfl) | with_reducible rfl

theorem canon_markTrig (c : Ch) (b : Nat) (s : State) (hc : Canonical s) : Canonical (markTrig c b s) := by
  unfold markTrig
  repeat' first | with_reducible assumption | with_reducible apply canon_State_setCh | with_reducible apply canon_foldl | with_reducible apply canon_ite | (fail_if_no_progress intros) | dsimp only | split | (fail_if_no_progress with_reducible refine canon_upd ?_ rfl rfl) | with_reducible rfl

theorem canon_trigger (c : Ch) (b : Nat) (lag : Nat) (s : State) (hc : Canonical s) : Canonical (trigger c b lag s).1 := by
  unfold trigger
  repeat' first | with_reducible assumption | with_reducible apply canon_markTrig | with_reducible apply canon_ceTrig | with_reducible apply canon_capStore | with_reducible apply canon_injTake | with_reducible apply canon_injMiss | with_reducible apply canon_foldl | with_reducible apply canon_ite | (fail_if_no_progress intros) | dsimp only | split | (fail_if_no_progress with_reducible refine canon_upd ?_ rfl rfl) | with_reducible rfl

theorem canon_triggers (c : Ch) (lag : Nat) (x2 : List Nat) (x3 : State) (hc : Canonical x3) : Canonical (triggers c lag x2 x3).1 := by
  induction x2 generalizing x3 with
  | nil => unfold triggers; repeat' first | with_reducible assumption | with_reducible apply canon_trigger | with_reducible apply canon_foldl | with_reducible apply canon_ite | (fail_if_no_progress intros) | dsimp only | split | (fail_if_no_progress with_reducible refine canon_upd ?_ rfl rfl) | with_reducible rfl
  | cons a l ih =>
    unfold triggers
    repeat' first | with_reducible assumption | with_reducible apply ih | with_reducible apply canon_trigger | with_reducible apply canon_foldl | with_reducible apply canon_ite | (fail_if_no_progress intros) | dsimp only | split | (fail_if_no_progress with_reducible refine canon_upd ?_ rfl rfl) | with_reducible rfl

theorem canon_fireAll (c : Ch) (x1 : Nat) (x2 : List (Nat × Nat)) (x3 : State) (hc : Canonical x3) : Canonical (fireAll c x1 x2 x3) := by
  induction x1 generalizing x2 x3 with
  | zero => unfold fireAll; exact hc
  | succ fuel ih =>
    cases x2 with
    | nil => unfold fireAll; exact hc
    | cons e l =>
      unfold fireAll
      dsimp only
      apply ih
      apply canon_triggers
      split
      · exact canon_postFifo _ _ _ _ (canon_State_raise _ _ hc)
      · exact canon_State_raise _ _ hc

theorem canon_fire (c : Ch) (k : Nat) (s : State) (hc : Canonical s) : Canonical (fire c k s) := by
  unfold fire
  repeat' first | with_reducible assumption | with_reducible apply canon_fireAll | with_reducible apply canon_foldl | with_reducible apply canon_ite | (fail_if_no_progress intros) | dsimp only | split | (fail_if_no_progress with_reducible refine canon_upd ?_ rfl rfl) | with_reducible rfl

theorem canon_fireLag (c : Ch) (k : Nat) (lag : Nat) (s : State) (hc : Canonical s) : Canonical (fireLag c k lag s) := by
  unfold fireLag
  repeat' first | with_reducible assumption | with_reducible apply canon_fireAll | with_reducible apply canon_foldl | with_reducible apply canon_ite | (fail_if_no_progress intros) | dsimp only | split | (fail_if_no_progress with_reducible refine canon_upd ?_ rfl rfl) | with_reducible rfl

theorem canon_actOn (c : Ch) (b : Nat) (lag : Nat) (s : State) (hc : Canonical s) : Canonical (actOn c b lag s) := by
  unfold actOn
  repeat' first | with_reducible assumption | with_reducible apply canon_trigger | with_reducible apply canon_fireAll | with_reducible apply canon_foldl | with_reducible apply canon_ite | (fail_if_no_progress intros) | dsimp only | split | (fail_if_no_progress with_reducible refine canon_upd ?_ rfl rfl) | with_reducible rfl

theorem canon_State_setPg (s : State) (c : Ch) (f : PgSt → PgSt) (hc : Canonical s) : Canonical (State.setPg s c f) := by
  unfold State.setPg
  repeat' first | with_reducible assumption | with_reducible apply canon_State_setCh | with_reducible apply canon_foldl | with_reducible apply canon_ite | (fail_if_no_progress intros) | dsimp only | split | (fail_if_no_progress with_reducible refine canon_upd ?_ rfl rfl) | with_reducible rfl

theorem canon_State_setOut (s : State) (c : Ch) (j : OutIx) (f : OutSt → OutSt) (hc : Canonical s) : Canonical (State.setOut s c j f) := by
  unfold State.setOut
  repeat' first | with_reducible assumption | with_reducible apply canon_State_setPg | with_reducible apply canon_foldl | with_reducible apply canon_ite | (fail_if_no_progress intros) | dsimp only | split | (fail_if_no_progress with_reducible refine canon_upd ?_ rfl rfl) | with_reducible rfl

theorem canon_setIdeal (c : Ch) (j : OutIx) (lvl : Bool) (t : Nat) (s : State) (hc : Canonical s) : Canonical (setIdeal c j lvl t s) := by
  unfold setIdeal
  repeat' first | with_reducible assumption | with_reducible apply canon_State_setOut | with_reducible apply canon_State_count | with_reducible apply canon_foldl | with_reducible apply canon_ite | (fail_if_no_progress intros) | dsimp only | split | (fail_if_no_progress with_reducible refine canon_upd ?_ rfl rfl) | with_reducible rfl

theorem canon_setPair (c : Ch) (k : PairIx) (st : Nat) (t : Nat) (s : State) (hc : Canonical s) : Canonical (setPair c k st t s) := by
  unfold setPair
  repeat' first | with_reducible assumption | with_reducible apply canon_State_setPg | with_reducible apply canon_setIdeal | with_reducible apply canon_foldl | with_reducible apply canon_ite | (fail_if_no_progress intros) | dsimp only | split | (fail_if_no_progress with_reducible refine canon_upd ?_ rfl rfl) | with_reducible rfl

theorem canon_carrierFire (c : Ch) (k : PairIx) (x : Nat) (t : Nat) (s : State) (hc : Canonical s) : Canonical (carrierFire c k x t s) := by
  unfold carrierFire
  repeat' first | with_reducible assumption | with_reducible apply canon_State_setPg | with_reducible apply canon_setPair | with_reducible apply canon_foldl | with_reducible apply canon_ite | (fail_if_no_progress intros) | dsimp only | split | (fail_if_no_progress with_reducible refine canon_upd ?_ rfl rfl) | with_reducible rfl

theorem canon_mpAction (c : Ch) (s : State) (hc : Canonical s) : Canonical (mpAction c s) := by
  unfold mpAction
  repeat' first | with_reducible assumption | with_reducible apply canon_fire | with_reducible apply canon_State_count | with_reducible apply canon_foldl | with_reducible apply canon_ite | (fail_if_no_progress intros) | dsimp only | split | (fail_if_no_progress with_reducible refine canon_upd ?_ rfl rfl) | with_reducible rfl

theorem canon_leaveRecovery (c : Ch) (s : State) (hc : Canonical s) : Canonical (leaveRecovery c s) := by
  unfold leaveRecovery
  repeat' first | with_reducible assumption | with_reducible apply canon_State_wr | with_reducible apply canon_foldl | with_reducible apply canon_ite | (fail_if_no_progress intros) | dsimp only | split | (fail_if_no_progress with_reducible refine canon_upd ?_ rfl rfl) | with_reducible rfl

theorem canon_latchTest (c : Ch) (j : OutIx) (s : State) (hc : Canonical s) : Canonical (latchTest c j s) := by
  unfold latchTest
  repeat' first | with_reducible assumption | with_reducible apply canon_State_setPg | with_reducible apply canon_leaveRecovery | with_reducible apply canon_State_wrBit | with_reducible apply canon_foldl | with_reducible apply canon_ite | (fail_if_no_progress intros) | dsimp only | split | (fail_if_no_progress with_reducible refine canon_upd ?_ rfl rfl) | with_reducible rfl

theorem canon_rise4 (c : Ch) (j : OutIx) (t : Nat) (s : State) (hc : Canonical s) : Canonical (rise4 c j t s) := by
  unfold rise4
  repeat' first | with_reducible assumption | with_reducible apply canon_State_setOut | with_reducible apply canon_latchTest | with_reducible apply canon_foldl | with_reducible apply canon_ite | (fail_if_no_progress intros) | dsimp only | split | (fail_if_no_progress with_reducible refine canon_upd ?_ rfl rfl) | with_reducible rfl

theorem canon_riseDue (c : Ch) (j : OutIx) (t : Nat) (s : State) (hc : Canonical s) : Canonical (riseDue c j t s) := by
  unfold riseDue
  repeat' first | with_reducible assumption | with_reducible apply canon_State_setOut | with_reducible apply canon_mpAction | with_reducible apply canon_State_wr | with_reducible apply canon_State_count | with_reducible apply canon_rise4 | with_reducible apply canon_foldl | with_reducible apply canon_ite | (fail_if_no_progress intros) | dsimp only | split | (fail_if_no_progress with_reducible refine canon_upd ?_ rfl rfl) | with_reducible rfl

theorem canon_fall4 (c : Ch) (j : OutIx) (t : Nat) (s : State) (hc : Canonical s) : Canonical (fall4 c j t s) := by
  unfold fall4
  repeat' first | with_reducible assumption | with_reducible apply canon_State_setOut | with_reducible apply canon_foldl | with_reducible apply canon_ite | (fail_if_no_progress intros) | dsimp only | split | (fail_if_no_progress with_reducible refine canon_upd ?_ rfl rfl) | with_reducible rfl

theorem canon_fallDue (c : Ch) (j : OutIx) (t : Nat) (s : State) (hc : Canonical s) : Canonical (fallDue c j t s) := by
  unfold fallDue
  repeat' first | with_reducible assumption | with_reducible apply canon_State_setOut | with_reducible apply canon_fall4 | with_reducible apply canon_mpAction | with_reducible apply canon_foldl | with_reducible apply canon_ite | (fail_if_no_progress intros) | dsimp only | split | (fail_if_no_progress with_reducible refine canon_upd ?_ rfl rfl) | with_reducible rfl

theorem canon_takeEdge (c : Ch) (j : OutIx) (key : Nat) (kind : Nat) (s : State) (hc : Canonical s) : Canonical (takeEdge c j key kind s) := by
  unfold takeEdge
  repeat' first | with_reducible assumption | with_reducible apply canon_fall4 | with_reducible apply canon_State_setOut | with_reducible apply canon_riseDue | with_reducible apply canon_fallDue | with_reducible apply canon_foldl | with_reducible apply canon_ite | (fail_if_no_progress intros) | dsimp only | split | (fail_if_no_progress with_reducible refine canon_upd ?_ rfl rfl) | with_reducible rfl

theorem canon_advancePair (c : Ch) (k : PairIx) (x2 : Nat) (x3 : State) (hc : Canonical x3) : Canonical (advancePair c k x2 x3) := by
  induction x2 generalizing x3 with
  | zero => unfold advancePair; repeat' first | with_reducible assumption | with_reducible apply canon_takeEdge | with_reducible apply canon_foldl | with_reducible apply canon_ite | (fail_if_no_progress intros) | dsimp only | split | (fail_if_no_progress with_reducible refine canon_upd ?_ rfl rfl) | with_reducible rfl
  | succ fuel ih =>
    unfold advancePair
    repeat' first | with_reducible assumption | with_reducible apply ih | with_reducible apply canon_takeEdge | with_reducible apply canon_foldl | with_reducible apply canon_ite | (fail_if_no_progress intros) | dsimp only | split | (fail_if_no_progress with_reducible refine canon_upd ?_ rfl rfl) | with_reducible rfl

theorem canon_advanceOuts (c : Ch) (s : State) (hc : Canonical s) : Canonical (advanceOuts c s) := by
  unfold advanceOuts
  repeat' first | with_reducible assumption | with_reducible apply canon_advancePair | with_reducible apply canon_foldl | with_reducible apply canon_ite | (fail_if_no_progress intros) | dsimp only | split | (fail_if_no_progress with_reducible refine canon_upd ?_ rfl rfl) | with_reducible rfl

theorem canon_startCut (c : Ch) (mask : Nat) (cnt : State → State) (s : State) (hcnt : ∀ a0, Canonical a0 → Canonical (cnt a0)) (hc : Canonical s) : Canonical (startCut c mask cnt s) := by
  unfold startCut
  repeat' first | with_reducible assumption | with_reducible apply hcnt | with_reducible apply canon_State_wr | with_reducible apply canon_fire | with_reducible apply canon_State_setPg | with_reducible apply canon_foldl | with_reducible apply canon_ite | (fail_if_no_progress intros) | dsimp only | split | (fail_if_no_progress with_reducible refine canon_upd ?_ rfl rfl) | with_reducible rfl

theorem canon_fltCut (c : Ch) (f : Nat) (s : State) (hc : Canonical s) : Canonical (fltCut c f s) := by
  unfold fltCut
  repeat' first | with_reducible assumption | with_reducible apply canon_startCut | with_reducible apply canon_State_count | with_reducible apply canon_foldl | with_reducible apply canon_ite | (fail_if_no_progress intros) | dsimp only | split | (fail_if_no_progress with_reducible refine canon_upd ?_ rfl rfl) | with_reducible rfl

theorem canon_cmpCut (c : Ch) (j : Fin 16) (s : State) (hc : Canonical s) : Canonical (cmpCut c j s) := by
  unfold cmpCut
  repeat' first | with_reducible assumption | with_reducible apply canon_startCut | with_reducible apply canon_State_count | with_reducible apply canon_foldl | with_reducible apply canon_ite | (fail_if_no_progress intros) | dsimp only | split | (fail_if_no_progress with_reducible refine canon_upd ?_ rfl rfl) | with_reducible rfl

theorem canon_cutEnd (c : Ch) (j : OutIx) (t : Nat) (s : State) (hc : Canonical s) : Canonical (cutEnd c j t s) := by
  unfold cutEnd
  repeat' first | with_reducible assumption | with_reducible apply canon_State_wrBit | with_reducible apply canon_State_setOut | with_reducible apply canon_setIdeal | with_reducible apply canon_foldl | with_reducible apply canon_ite | (fail_if_no_progress intros) | dsimp only | split | (fail_if_no_progress with_reducible refine canon_upd ?_ rfl rfl) | with_reducible rfl

theorem canon_squallDrop (c : Ch) (j : OutIx) (s : State) (hc : Canonical s) : Canonical (squallDrop c j s) := by
  unfold squallDrop
  repeat' first | with_reducible assumption | with_reducible apply canon_State_setPg | with_reducible apply canon_foldl | with_reducible apply canon_ite | (fail_if_no_progress intros) | dsimp only | split | (fail_if_no_progress with_reducible refine canon_upd ?_ rfl rfl) | with_reducible rfl

theorem canon_hbSettle (c : Ch) (s : State) (hc : Canonical s) : Canonical (hbSettle c s) := by
  unfold hbSettle
  repeat' first | with_reducible assumption | with_reducible apply canon_State_wr | with_reducible apply canon_State_setPg | with_reducible apply canon_foldl | with_reducible apply canon_ite | (fail_if_no_progress intros) | dsimp only | split | (fail_if_no_progress with_reducible refine canon_upd ?_ rfl rfl) | with_reducible rfl

theorem canon_setBank (c : Ch) (isB : Bool) (v : Nat) (s : State) (hc : Canonical s) : Canonical (setBank c isB v s) := by
  unfold setBank
  repeat' first | with_reducible assumption | with_reducible apply canon_State_wr | with_reducible apply canon_foldl | with_reducible apply canon_ite | (fail_if_no_progress intros) | dsimp only | split | (fail_if_no_progress with_reducible refine canon_upd ?_ rfl rfl) | with_reducible rfl

theorem canon_State_setCmp (s : State) (c : Ch) (j : Fin 16) (f : CmpSt → CmpSt) (hc : Canonical s) : Canonical (State.setCmp s c j f) := by
  unfold State.setCmp
  repeat' first | with_reducible assumption | with_reducible apply canon_State_setCh | with_reducible apply canon_foldl | with_reducible apply canon_ite | (fail_if_no_progress intros) | dsimp only | split | (fail_if_no_progress with_reducible refine canon_upd ?_ rfl rfl) | with_reducible rfl

theorem canon_protEdge (c : Ch) (j : Fin 16) (f : State → State) (s : State) (hf : ∀ a0, Canonical a0 → Canonical (f a0)) (hc : Canonical s) : Canonical (protEdge c j f s) := by
  unfold protEdge
  repeat' first | with_reducible assumption | with_reducible apply hf | with_reducible apply canon_cmpCut | with_reducible apply canon_foldl | with_reducible apply canon_ite | (fail_if_no_progress intros) | dsimp only | split | (fail_if_no_progress with_reducible refine canon_upd ?_ rfl rfl) | with_reducible rfl

theorem canon_rawTake (c : Ch) (j : Fin 16) (uv : Nat) (s : State) (hc : Canonical s) : Canonical (rawTake c j uv s) := by
  unfold rawTake
  repeat' first | with_reducible assumption | with_reducible apply canon_State_setCmp | with_reducible apply canon_State_wrBit | with_reducible apply canon_foldl | with_reducible apply canon_ite | (fail_if_no_progress intros) | dsimp only | split | (fail_if_no_progress with_reducible refine canon_upd ?_ rfl rfl) | with_reducible rfl

theorem canon_thrEval (c : Ch) (j : Fin 16) (s : State) (hc : Canonical s) : Canonical (thrEval c j s) := by
  unfold thrEval
  repeat' first | with_reducible assumption | with_reducible apply canon_protEdge | with_reducible apply canon_rawTake | with_reducible apply canon_foldl | with_reducible apply canon_ite | (fail_if_no_progress intros) | dsimp only | split | (fail_if_no_progress with_reducible refine canon_upd ?_ rfl rfl) | with_reducible rfl

theorem canon_thrEvalAll (c : Ch) (s : State) (hc : Canonical s) : Canonical (thrEvalAll c s) := by
  unfold thrEvalAll
  repeat' first | with_reducible assumption | with_reducible apply canon_thrEval | with_reducible apply canon_foldl | with_reducible apply canon_ite | (fail_if_no_progress intros) | dsimp only | split | (fail_if_no_progress with_reducible refine canon_upd ?_ rfl rfl) | with_reducible rfl

theorem canon_cmpUnresolve (c : Ch) (j : Fin 16) (s : State) (hc : Canonical s) : Canonical (cmpUnresolve c j s) := by
  unfold cmpUnresolve
  repeat' first | with_reducible assumption | with_reducible apply canon_State_setCmp | with_reducible apply canon_State_wrBit | with_reducible apply canon_foldl | with_reducible apply canon_ite | (fail_if_no_progress intros) | dsimp only | split | (fail_if_no_progress with_reducible refine canon_upd ?_ rfl rfl) | with_reducible rfl

theorem canon_cmpEnable (c : Ch) (j : Fin 16) (s : State) (hc : Canonical s) : Canonical (cmpEnable c j s) := by
  unfold cmpEnable
  repeat' first | with_reducible assumption | with_reducible apply canon_cmpUnresolve | with_reducible apply canon_State_setCmp | with_reducible apply canon_foldl | with_reducible apply canon_ite | (fail_if_no_progress intros) | dsimp only | split | (fail_if_no_progress with_reducible refine canon_upd ?_ rfl rfl) | with_reducible rfl

theorem canon_cmpTick (c : Ch) (j : Fin 16) (s : State) (hc : Canonical s) : Canonical (cmpTick c j s) := by
  unfold cmpTick
  repeat' first | with_reducible assumption | with_reducible apply canon_State_setCmp | with_reducible apply canon_foldl | with_reducible apply canon_ite | (fail_if_no_progress intros) | dsimp only | split | (fail_if_no_progress with_reducible refine canon_upd ?_ rfl rfl) | with_reducible rfl

theorem canon_State_setBatt (s : State) (c : Ch) (f : BattSt → BattSt) (hc : Canonical s) : Canonical (State.setBatt s c f) := by
  unfold State.setBatt
  repeat' first | with_reducible assumption | with_reducible apply canon_State_setCh | with_reducible apply canon_foldl | with_reducible apply canon_ite | (fail_if_no_progress intros) | dsimp only | split | (fail_if_no_progress with_reducible refine canon_upd ?_ rfl rfl) | with_reducible rfl

theorem canon_State_setPat (s : State) (c : Ch) (k : PairIx) (f : PatPair → PatPair) (hc : Canonical s) : Canonical (State.setPat s c k f) := by
  unfold State.setPat
  repeat' first | with_reducible assumption | with_reducible apply canon_State_setBatt | with_reducible apply canon_foldl | with_reducible apply canon_ite | (fail_if_no_progress intros) | dsimp only | split | (fail_if_no_progress with_reducible refine canon_upd ?_ rfl rfl) | with_reducible rfl

theorem canon_startPattern (c : Ch) (k : PairIx) (s : State) (hc : Canonical s) : Canonical (startPattern c k s) := by
  unfold startPattern
  repeat' first | with_reducible assumption | with_reducible apply canon_State_setPat | with_reducible apply canon_setPair | with_reducible apply canon_foldl | with_reducible apply canon_ite | (fail_if_no_progress intros) | dsimp only | split | (fail_if_no_progress with_reducible refine canon_upd ?_ rfl rfl) | with_reducible rfl

theorem canon_patCommand (c : Ch) (k : PairIx) (st : Nat) (t : Nat) (s : State) (hc : Canonical s) : Canonical (patCommand c k st t s) := by
  unfold patCommand
  repeat' first | with_reducible assumption | with_reducible apply canon_State_setPat | with_reducible apply canon_setPair | with_reducible apply canon_cutEnd | with_reducible apply canon_foldl | with_reducible apply canon_ite | (fail_if_no_progress intros) | dsimp only | split | (fail_if_no_progress with_reducible refine canon_upd ?_ rfl rfl) | with_reducible rfl

theorem canon_patFireWhile (c : Ch) (k : PairIx) (p : Nat → Bool) (lag : Nat → Nat) (late : Bool) (x5 : Nat) (x6 : State) (hc : Canonical x6) : Canonical (patFireWhile c k p lag late x5 x6) := by
  induction x5 generalizing x6 with
  | zero => unfold patFireWhile; repeat' first | with_reducible assumption | with_reducible apply canon_State_count | with_reducible apply canon_State_setPat | with_reducible apply canon_patCommand | with_reducible apply canon_foldl | with_reducible apply canon_ite | (fail_if_no_progress intros) | dsimp only | split | (fail_if_no_progress with_reducible refine canon_upd ?_ rfl rfl) | with_reducible rfl
  | succ fuel ih =>
    unfold patFireWhile
    repeat' first | with_reducible assumption | with_reducible apply ih | with_reducible apply canon_State_count | with_reducible apply canon_State_setPat | with_reducible apply canon_patCommand | with_reducible apply canon_foldl | with_reducible apply canon_ite | (fail_if_no_progress intros) | dsimp only | split | (fail_if_no_progress with_reducible refine canon_upd ?_ rfl rfl) | with_reducible rfl

theorem canon_wrapLeave (c : Ch) (s : State) (hc : Canonical s) : Canonical (wrapLeave c s) := by
  unfold wrapLeave
  repeat' first | with_reducible assumption | with_reducible apply canon_State_setPg | with_reducible apply canon_patFireWhile | with_reducible apply canon_foldl | with_reducible apply canon_ite | (fail_if_no_progress intros) | dsimp only | split | (fail_if_no_progress with_reducible refine canon_upd ?_ rfl rfl) | with_reducible rfl

theorem canon_realign (c : Ch) (k : PairIx) (s : State) (hc : Canonical s) : Canonical (realign c k s) := by
  unfold realign
  repeat' first | with_reducible assumption | with_reducible apply canon_State_setPat | with_reducible apply canon_State_count | with_reducible apply canon_patCommand | with_reducible apply canon_foldl | with_reducible apply canon_ite | (fail_if_no_progress intros) | dsimp only | split | (fail_if_no_progress with_reducible refine canon_upd ?_ rfl rfl) | with_reducible rfl

theorem canon_realignAll (c : Ch) (s : State) (hc : Canonical s) : Canonical (realignAll c s) := by
  unfold realignAll
  repeat' first | with_reducible assumption | with_reducible apply canon_realign | with_reducible apply canon_foldl | with_reducible apply canon_ite | (fail_if_no_progress intros) | dsimp only | split | (fail_if_no_progress with_reducible refine canon_upd ?_ rfl rfl) | with_reducible rfl

theorem canon_enterCarrier (c : Ch) (k : PairIx) (s : State) (hc : Canonical s) : Canonical (enterCarrier c k s) := by
  unfold enterCarrier
  repeat' first | with_reducible assumption | with_reducible apply canon_State_setPg | with_reducible apply canon_carrierFire | with_reducible apply canon_foldl | with_reducible apply canon_ite | (fail_if_no_progress intros) | dsimp only | split | (fail_if_no_progress with_reducible refine canon_upd ?_ rfl rfl) | with_reducible rfl

theorem canon_pairsFollow (c : Ch) (s : State) (hc : Canonical s) : Canonical (pairsFollow c s) := by
  unfold pairsFollow
  repeat' first | with_reducible assumption | with_reducible apply canon_State_wr | with_reducible apply canon_realign | with_reducible apply canon_enterCarrier | with_reducible apply canon_foldl | with_reducible apply canon_ite | (fail_if_no_progress intros) | dsimp only | split | (fail_if_no_progress with_reducible refine canon_upd ?_ rfl rfl) | with_reducible rfl

theorem canon_swapNow (c : Ch) (isB : Bool) (retire : Bool) (w : Option Waiter) (s : State) (hc : Canonical s) : Canonical (swapNow c isB retire w s) := by
  unfold swapNow
  repeat' first | with_reducible assumption | with_reducible apply canon_wrapLeave | with_reducible apply canon_setBank | with_reducible apply canon_State_count | with_reducible apply canon_State_wr | with_reducible apply canon_State_setBatt | with_reducible apply canon_pairsFollow | with_reducible apply canon_fire | with_reducible apply canon_thrEvalAll | with_reducible apply canon_State_setCh | with_reducible apply canon_cAdd | with_reducible apply canon_completeW | with_reducible apply canon_foldl | with_reducible apply canon_ite | (fail_if_no_progress intros) | dsimp only | split | (fail_if_no_progress with_reducible refine canon_upd ?_ rfl rfl) | with_reducible rfl

theorem canon_swapProceed (c : Ch) (w : Waiter) (isB : Bool) (s : State) (hc : Canonical s) : Canonical (swapProceed c w isB s) := by
  unfold swapProceed
  repeat' first | with_reducible assumption | with_reducible apply canon_completeW | with_reducible apply canon_State_setBatt | with_reducible apply canon_State_drew | with_reducible apply canon_swapNow | with_reducible apply canon_setBank | with_reducible apply canon_foldl | with_reducible apply canon_ite | (fail_if_no_progress intros) | dsimp only | split | (fail_if_no_progress with_reducible refine canon_upd ?_ rfl rfl) | with_reducible rfl

theorem canon_swapWithdraw (c : Ch) (d : Done) (s : State) (hc : Canonical s) : Canonical (swapWithdraw c d s) := by
  unfold swapWithdraw
  repeat' first | with_reducible assumption | with_reducible apply canon_setBank | with_reducible apply canon_State_setBatt | with_reducible apply canon_completeW | with_reducible apply canon_foldl | with_reducible apply canon_ite | (fail_if_no_progress intros) | dsimp only | split | (fail_if_no_progress with_reducible refine canon_upd ?_ rfl rfl) | with_reducible rfl

theorem canon_swapAtStop (c : Ch) (s : State) (hc : Canonical s) : Canonical (swapAtStop c s) := by
  unfold swapAtStop
  repeat' first | with_reducible assumption | with_reducible apply canon_swapNow | with_reducible apply canon_foldl | with_reducible apply canon_ite | (fail_if_no_progress intros) | dsimp only | split | (fail_if_no_progress with_reducible refine canon_upd ?_ rfl rfl) | with_reducible rfl

theorem canon_retireEnd (c : Ch) (s : State) (hc : Canonical s) : Canonical (retireEnd c s) := by
  unfold retireEnd
  repeat' first | with_reducible assumption | with_reducible apply canon_setBank | with_reducible apply canon_swapProceed | with_reducible apply canon_foldl | with_reducible apply canon_ite | (fail_if_no_progress intros) | dsimp only | split | (fail_if_no_progress with_reducible refine canon_upd ?_ rfl rfl) | with_reducible rfl

theorem canon_emptyBank (c : Ch) (isB : Bool) (s : State) (hc : Canonical s) : Canonical (emptyBank c isB s) := by
  unfold emptyBank
  repeat' first | with_reducible assumption | with_reducible apply canon_setBank | with_reducible apply canon_State_wr | with_reducible apply canon_State_setBatt | with_reducible apply canon_foldl | with_reducible apply canon_ite | (fail_if_no_progress intros) | dsimp only | split | (fail_if_no_progress with_reducible refine canon_upd ?_ rfl rfl) | with_reducible rfl

theorem canon_fillBank (c : Ch) (isB : Bool) (slot : Nat) (img : SMap Byte) (s : State) (hc : Canonical s) : Canonical (fillBank c isB slot img s) := by
  unfold fillBank
  repeat' first | with_reducible assumption | with_reducible apply canon_State_setBatt | with_reducible apply canon_foldl | with_reducible apply canon_ite | (fail_if_no_progress intros) | dsimp only | split | (fail_if_no_progress with_reducible refine canon_upd ?_ rfl rfl) | with_reducible rfl

theorem canon_loadStart (c : Ch) (w : Waiter) (isB : Bool) (slot : Nat) (s : State) (hc : Canonical s) : Canonical (loadStart c w isB slot s) := by
  unfold loadStart
  repeat' first | with_reducible assumption | with_reducible apply canon_State_setBatt | with_reducible apply canon_setBank | with_reducible apply canon_foldl | with_reducible apply canon_ite | (fail_if_no_progress intros) | dsimp only | split | (fail_if_no_progress with_reducible refine canon_upd ?_ rfl rfl) | with_reducible rfl

theorem canon_eraseNow (c : Ch) (w : Waiter) (isB : Bool) (s : State) (hc : Canonical s) : Canonical (eraseNow c w isB s) := by
  unfold eraseNow
  repeat' first | with_reducible assumption | with_reducible apply canon_completeW | with_reducible apply canon_emptyBank | with_reducible apply canon_cAdd | with_reducible apply canon_foldl | with_reducible apply canon_ite | (fail_if_no_progress intros) | dsimp only | split | (fail_if_no_progress with_reducible refine canon_upd ?_ rfl rfl) | with_reducible rfl

theorem canon_loaderRun (c : Ch) (x1 : Nat) (x2 : State) (hc : Canonical x2) : Canonical (loaderRun c x1 x2) := by
  induction x1 generalizing x2 with
  | zero => unfold loaderRun; repeat' first | with_reducible assumption | with_reducible apply canon_completeW | with_reducible apply canon_State_setBatt | with_reducible apply canon_swapProceed | with_reducible apply canon_loadStart | with_reducible apply canon_eraseNow | with_reducible apply canon_foldl | with_reducible apply canon_ite | (fail_if_no_progress intros) | dsimp only | split | (fail_if_no_progress with_reducible refine canon_upd ?_ rfl rfl) | with_reducible rfl
  | succ fuel ih =>
    unfold loaderRun
    repeat' first | with_reducible assumption | with_reducible apply ih | with_reducible apply canon_completeW | with_reducible apply canon_State_setBatt | with_reducible apply canon_swapProceed | with_reducible apply canon_loadStart | with_reducible apply canon_eraseNow | with_reducible apply canon_foldl | with_reducible apply canon_ite | (fail_if_no_progress intros) | dsimp only | split | (fail_if_no_progress with_reducible refine canon_upd ?_ rfl rfl) | with_reducible rfl

theorem canon_loadDone (c : Ch) (s : State) (hc : Canonical s) : Canonical (loadDone c s) := by
  unfold loadDone
  repeat' first | with_reducible assumption | with_reducible apply canon_State_setBatt | with_reducible apply canon_setBank | with_reducible apply canon_fillBank | with_reducible apply canon_State_wr | with_reducible apply canon_cAdd | with_reducible apply canon_completeW | with_reducible apply canon_emptyBank | with_reducible apply canon_State_count | with_reducible apply canon_loaderRun | with_reducible apply canon_foldl | with_reducible apply canon_ite | (fail_if_no_progress intros) | dsimp only | split | (fail_if_no_progress with_reducible refine canon_upd ?_ rfl rfl) | with_reducible rfl

theorem canon_classifierUpdate (c : Ch) (slot : Nat) (x : Int) (y : Int) (s : State) (hc : Canonical s) : Canonical (classifierUpdate c slot x y s) := by
  unfold classifierUpdate
  repeat' first | with_reducible assumption | with_reducible apply canon_State_wr | with_reducible apply canon_State_wrS | with_reducible apply canon_foldl | with_reducible apply canon_ite | (fail_if_no_progress intros) | dsimp only | split | (fail_if_no_progress with_reducible refine canon_upd ?_ rfl rfl) | with_reducible rfl

theorem canon_regionTake (c : Ch) (s : State) (hc : Canonical s) : Canonical (regionTake c s) := by
  unfold regionTake
  repeat' first | with_reducible assumption | with_reducible apply canon_wrapLeave | with_reducible apply canon_State_setCh | with_reducible apply canon_State_count | with_reducible apply canon_State_wr | with_reducible apply canon_realignAll | with_reducible apply canon_thrEvalAll | with_reducible apply canon_foldl | with_reducible apply canon_ite | (fail_if_no_progress intros) | dsimp only | split | (fail_if_no_progress with_reducible refine canon_upd ?_ rfl rfl) | with_reducible rfl

theorem canon_State_setSc (s : State) (c : Ch) (f : SafeCh → SafeCh) (hc : Canonical s) : Canonical (State.setSc s c f) := by
  unfold State.setSc
  repeat' first | with_reducible assumption | with_reducible apply canon_foldl | with_reducible apply canon_ite | (fail_if_no_progress intros) | dsimp only | split | (fail_if_no_progress with_reducible refine canon_upd ?_ rfl rfl) | with_reducible rfl

theorem canon_State_setSin (s : State) (i : Ix16) (f : SinSt → SinSt) (hc : Canonical s) : Canonical (State.setSin s i f) := by
  unfold State.setSin
  repeat' first | with_reducible assumption | with_reducible apply canon_foldl | with_reducible apply canon_ite | (fail_if_no_progress intros) | dsimp only | split | (fail_if_no_progress with_reducible refine canon_upd ?_ rfl rfl) | with_reducible rfl

theorem canon_State_setConn (s : State) (c : Ix16) (f : ConnSt → ConnSt) (hc : Canonical s) : Canonical (State.setConn s c f) := by
  unfold State.setConn
  repeat' first | with_reducible assumption | with_reducible apply canon_foldl | with_reducible apply canon_ite | (fail_if_no_progress intros) | dsimp only | split | (fail_if_no_progress with_reducible refine canon_upd ?_ rfl rfl) | with_reducible rfl

theorem canon_setConnState (c : Ix16) (v : Nat) (s : State) (hc : Canonical s) : Canonical (setConnState c v s) := by
  unfold setConnState
  repeat' first | with_reducible assumption | with_reducible apply canon_State_wr | with_reducible apply canon_foldl | with_reducible apply canon_ite | (fail_if_no_progress intros) | dsimp only | split | (fail_if_no_progress with_reducible refine canon_upd ?_ rfl rfl) | with_reducible rfl

theorem canon_enablesUpdate (c : Ch) (s : State) (hc : Canonical s) : Canonical (enablesUpdate c s) := by
  unfold enablesUpdate
  repeat' first | with_reducible assumption | with_reducible apply canon_State_wrB | with_reducible apply canon_State_setPg | with_reducible apply canon_foldl | with_reducible apply canon_ite | (fail_if_no_progress intros) | dsimp only | split | (fail_if_no_progress with_reducible refine canon_upd ?_ rfl rfl) | with_reducible rfl

theorem canon_sstatUpdate (s : State) (hc : Canonical s) : Canonical (sstatUpdate s) := by
  unfold sstatUpdate
  repeat' first | with_reducible assumption | with_reducible apply canon_State_wrB | with_reducible apply canon_foldl | with_reducible apply canon_ite | (fail_if_no_progress intros) | dsimp only | split | (fail_if_no_progress with_reducible refine canon_upd ?_ rfl rfl) | with_reducible rfl

theorem canon_testLost (c : Ch) (s : State) (hc : Canonical s) : Canonical (testLost c s) := by
  unfold testLost
  repeat' first | with_reducible assumption | with_reducible apply canon_State_setCh | with_reducible apply canon_State_setSc | with_reducible apply canon_completeW | with_reducible apply canon_foldl | with_reducible apply canon_ite | (fail_if_no_progress intros) | dsimp only | split | (fail_if_no_progress with_reducible refine canon_upd ?_ rfl rfl) | with_reducible rfl

theorem canon_safeEval (c : Ch) (s : State) (hc : Canonical s) : Canonical (safeEval c s) := by
  unfold safeEval
  repeat' first | with_reducible assumption | with_reducible apply canon_testLost | with_reducible apply canon_enablesUpdate | with_reducible apply canon_State_setSc | with_reducible apply canon_State_wr | with_reducible apply canon_State_raise | with_reducible apply canon_State_count | with_reducible apply canon_foldl | with_reducible apply canon_ite | (fail_if_no_progress intros) | dsimp only | split | (fail_if_no_progress with_reducible refine canon_upd ?_ rfl rfl) | with_reducible rfl

theorem canon_safeEvalAll (s : State) (hc : Canonical s) : Canonical (safeEvalAll s) := by
  unfold safeEvalAll
  repeat' first | with_reducible assumption | with_reducible apply canon_sstatUpdate | with_reducible apply canon_State_eachCh | with_reducible apply canon_safeEval | with_reducible apply canon_foldl | with_reducible apply canon_ite | (fail_if_no_progress intros) | dsimp only | split | (fail_if_no_progress with_reducible refine canon_upd ?_ rfl rfl) | with_reducible rfl

theorem canon_enterCheck (c : Ch) (s : State) (hc : Canonical s) : Canonical (enterCheck c s) := by
  unfold enterCheck
  repeat' first | with_reducible assumption | with_reducible apply canon_State_wr | with_reducible apply canon_State_setSin | with_reducible apply canon_State_setConn | with_reducible apply canon_setConnState | with_reducible apply canon_foldl | with_reducible apply canon_ite | (fail_if_no_progress intros) | dsimp only | split | (fail_if_no_progress with_reducible refine canon_upd ?_ rfl rfl) | with_reducible rfl

theorem canon_lockOut (mask : Nat) (cause : Nat) (detail : Nat) (s : State) (hc : Canonical s) : Canonical (lockOut mask cause detail s) := by
  unfold lockOut
  repeat' first | with_reducible assumption | with_reducible apply canon_State_count | with_reducible apply canon_State_wr | with_reducible apply canon_State_setSc | with_reducible apply canon_safeEvalAll | with_reducible apply canon_State_raise | with_reducible apply canon_foldl | with_reducible apply canon_ite | (fail_if_no_progress intros) | dsimp only | split | (fail_if_no_progress with_reducible refine canon_upd ?_ rfl rfl) | with_reducible rfl

theorem canon_safetyAckEff (token : Nat) (s : State) (hc : Canonical s) : Canonical (safetyAckEff token s).2 := by
  unfold safetyAckEff
  repeat' first | with_reducible assumption | with_reducible apply canon_safeEvalAll | with_reducible apply canon_enterCheck | with_reducible apply canon_State_wr | with_reducible apply canon_foldl | with_reducible apply canon_ite | (fail_if_no_progress intros) | dsimp only | split | (fail_if_no_progress with_reducible refine canon_upd ?_ rfl rfl) | with_reducible rfl

theorem canon_checkCompleteEff (c : Ch) (t : Option Bool) (s : State) (hc : Canonical s) : Canonical (checkCompleteEff c t s) := by
  unfold checkCompleteEff
  repeat' first | with_reducible assumption | with_reducible apply canon_lockOut | with_reducible apply canon_State_wr | with_reducible apply canon_safeEvalAll | with_reducible apply canon_foldl | with_reducible apply canon_ite | (fail_if_no_progress intros) | dsimp only | split | (fail_if_no_progress with_reducible refine canon_upd ?_ rfl rfl) | with_reducible rfl

theorem canon_periodicTestEff (c : Ch) (t : Option Bool) (s : State) (hc : Canonical s) : Canonical (periodicTestEff c t s) := by
  unfold periodicTestEff
  repeat' first | with_reducible assumption | with_reducible apply canon_lockOut | with_reducible apply canon_State_wr | with_reducible apply canon_State_setPg | with_reducible apply canon_State_setSc | with_reducible apply canon_foldl | with_reducible apply canon_ite | (fail_if_no_progress intros) | dsimp only | split | (fail_if_no_progress with_reducible refine canon_upd ?_ rfl rfl) | with_reducible rfl

theorem canon_testDueEval (c : Ch) (s : State) (hc : Canonical s) : Canonical (testDueEval c s) := by
  unfold testDueEval
  repeat' first | with_reducible assumption | with_reducible apply canon_State_wrB | with_reducible apply canon_foldl | with_reducible apply canon_ite | (fail_if_no_progress intros) | dsimp only | split | (fail_if_no_progress with_reducible refine canon_upd ?_ rfl rfl) | with_reducible rfl

theorem canon_testAgeEff (c : Ch) (s : State) (hc : Canonical s) : Canonical (testAgeEff c s) := by
  unfold testAgeEff
  repeat' first | with_reducible assumption | with_reducible apply canon_testDueEval | with_reducible apply canon_State_count | with_reducible apply canon_foldl | with_reducible apply canon_ite | (fail_if_no_progress intros) | dsimp only | split | (fail_if_no_progress with_reducible refine canon_upd ?_ rfl rfl) | with_reducible rfl

theorem canon_sinChangeEff (i : Ix16) (lvl : SinLevel) (s : State) (hc : Canonical s) : Canonical (sinChangeEff i lvl s) := by
  unfold sinChangeEff
  repeat' first | with_reducible assumption | with_reducible apply canon_State_wrBit | with_reducible apply canon_State_setSin | with_reducible apply canon_foldl | with_reducible apply canon_ite | (fail_if_no_progress intros) | dsimp only | split | (fail_if_no_progress with_reducible refine canon_upd ?_ rfl rfl) | with_reducible rfl

theorem canon_sinDemandEff (i : Ix16) (s : State) (hc : Canonical s) : Canonical (sinDemandEff i s) := by
  unfold sinDemandEff
  repeat' first | with_reducible assumption | with_reducible apply canon_State_wrBit | with_reducible apply canon_State_setSc | with_reducible apply canon_safeEvalAll | with_reducible apply canon_foldl | with_reducible apply canon_ite | (fail_if_no_progress intros) | dsimp only | split | (fail_if_no_progress with_reducible refine canon_upd ?_ rfl rfl) | with_reducible rfl

theorem canon_sinDemandEndEff (i : Ix16) (s : State) (hc : Canonical s) : Canonical (sinDemandEndEff i s) := by
  unfold sinDemandEndEff
  repeat' first | with_reducible assumption | with_reducible apply canon_safeEvalAll | with_reducible apply canon_State_wrBit | with_reducible apply canon_foldl | with_reducible apply canon_ite | (fail_if_no_progress intros) | dsimp only | split | (fail_if_no_progress with_reducible refine canon_upd ?_ rfl rfl) | with_reducible rfl

theorem canon_tpStartEff (k : Fin 8) (s : State) (hc : Canonical s) : Canonical (tpStartEff k s) := by
  unfold tpStartEff
  repeat' first | with_reducible assumption | with_reducible apply canon_State_setSin | with_reducible apply canon_foldl | with_reducible apply canon_ite | (fail_if_no_progress intros) | dsimp only | split | (fail_if_no_progress with_reducible refine canon_upd ?_ rfl rfl) | with_reducible rfl

theorem canon_tpEndEff (k : Fin 8) (s : State) (hc : Canonical s) : Canonical (tpEndEff k s) := by
  unfold tpEndEff
  repeat' first | with_reducible assumption | with_reducible apply canon_foldl | with_reducible apply canon_ite | (fail_if_no_progress intros) | dsimp only | split | (fail_if_no_progress with_reducible refine canon_upd ?_ rfl rfl) | with_reducible rfl

theorem canon_windowCloseEff (k : Fin 8) (s : State) (hc : Canonical s) : Canonical (windowCloseEff k s) := by
  unfold windowCloseEff
  repeat' first | with_reducible assumption | with_reducible apply canon_foldl | with_reducible apply canon_ite | (fail_if_no_progress intros) | dsimp only | split | (fail_if_no_progress with_reducible refine canon_upd ?_ rfl rfl) | with_reducible rfl

theorem canon_tpFault (i : Ix16) (now : Bool) (prev : Bool) (cause : Nat) (s : State) (hc : Canonical s) : Canonical (tpFault i now prev cause s) := by
  unfold tpFault
  repeat' first | with_reducible assumption | with_reducible apply canon_lockOut | with_reducible apply canon_State_count | with_reducible apply canon_foldl | with_reducible apply canon_ite | (fail_if_no_progress intros) | dsimp only | split | (fail_if_no_progress with_reducible refine canon_upd ?_ rfl rfl) | with_reducible rfl

theorem canon_tpCheckEff (i : Ix16) (s : State) (hc : Canonical s) : Canonical (tpCheckEff i s) := by
  unfold tpCheckEff
  repeat' first | with_reducible assumption | with_reducible apply canon_State_setSin | with_reducible apply canon_tpFault | with_reducible apply canon_foldl | with_reducible apply canon_ite | (fail_if_no_progress intros) | dsimp only | split | (fail_if_no_progress with_reducible refine canon_upd ?_ rfl rfl) | with_reducible rfl

theorem canon_tpLineEff (k : Fin 8) (s : State) (hc : Canonical s) : Canonical (tpLineEff k s) := by
  unfold tpLineEff
  repeat' first | with_reducible assumption | with_reducible apply canon_lockOut | with_reducible apply canon_foldl | with_reducible apply canon_ite | (fail_if_no_progress intros) | dsimp only | split | (fail_if_no_progress with_reducible refine canon_upd ?_ rfl rfl) | with_reducible rfl

theorem canon_discrepancyEff (p : Fin 8) (s : State) (hc : Canonical s) : Canonical (discrepancyEff p s) := by
  unfold discrepancyEff
  repeat' first | with_reducible assumption | with_reducible apply canon_lockOut | with_reducible apply canon_foldl | with_reducible apply canon_ite | (fail_if_no_progress intros) | dsimp only | split | (fail_if_no_progress with_reducible refine canon_upd ?_ rfl rfl) | with_reducible rfl

theorem canon_heartbeatEff (s : State) (hc : Canonical s) : Canonical (heartbeatEff s) := by
  unfold heartbeatEff
  repeat' first | with_reducible assumption | with_reducible apply canon_safeEvalAll | with_reducible apply canon_State_eachCh | with_reducible apply canon_State_setSc | with_reducible apply canon_foldl | with_reducible apply canon_ite | (fail_if_no_progress intros) | dsimp only | split | (fail_if_no_progress with_reducible refine canon_upd ?_ rfl rfl) | with_reducible rfl

theorem canon_hbLossEff (c : Ch) (s : State) (hc : Canonical s) : Canonical (hbLossEff c s) := by
  unfold hbLossEff
  repeat' first | with_reducible assumption | with_reducible apply canon_safeEvalAll | with_reducible apply canon_lockOut | with_reducible apply canon_State_setSc | with_reducible apply canon_foldl | with_reducible apply canon_ite | (fail_if_no_progress intros) | dsimp only | split | (fail_if_no_progress with_reducible refine canon_upd ?_ rfl rfl) | with_reducible rfl

theorem canon_crcCheckEff (s : State) (hc : Canonical s) : Canonical (crcCheckEff s) := by
  unfold crcCheckEff
  repeat' first | with_reducible assumption | with_reducible apply canon_lockOut | with_reducible apply canon_foldl | with_reducible apply canon_ite | (fail_if_no_progress intros) | dsimp only | split | (fail_if_no_progress with_reducible refine canon_upd ?_ rfl rfl) | with_reducible rfl

theorem canon_sackEff (heldUs : Nat) (lowUs : Nat) (s : State) (hc : Canonical s) : Canonical (sackEff heldUs lowUs s) := by
  unfold sackEff
  repeat' first | with_reducible assumption | with_reducible apply canon_State_wr | with_reducible apply canon_State_count | with_reducible apply canon_State_setSc | with_reducible apply canon_safeEvalAll | with_reducible apply canon_foldl | with_reducible apply canon_ite | (fail_if_no_progress intros) | dsimp only | split | (fail_if_no_progress with_reducible refine canon_upd ?_ rfl rfl) | with_reducible rfl

theorem canon_ackStuckEff (s : State) (hc : Canonical s) : Canonical (ackStuckEff s) := by
  unfold ackStuckEff
  repeat' first | with_reducible assumption | with_reducible apply canon_State_raise | with_reducible apply canon_State_wr | with_reducible apply canon_foldl | with_reducible apply canon_ite | (fail_if_no_progress intros) | dsimp only | split | (fail_if_no_progress with_reducible refine canon_upd ?_ rfl rfl) | with_reducible rfl

theorem canon_feideFail (c : Ix16) (s : State) (hc : Canonical s) : Canonical (feideFail c s) := by
  unfold feideFail
  repeat' first | with_reducible assumption | with_reducible apply canon_lockOut | with_reducible apply canon_State_raise | with_reducible apply canon_setConnState | with_reducible apply canon_foldl | with_reducible apply canon_ite | (fail_if_no_progress intros) | dsimp only | split | (fail_if_no_progress with_reducible refine canon_upd ?_ rfl rfl) | with_reducible rfl

theorem canon_feideBad (c : Ix16) (s : State) (hc : Canonical s) : Canonical (feideBad c s) := by
  unfold feideBad
  repeat' first | with_reducible assumption | with_reducible apply canon_feideFail | with_reducible apply canon_State_setConn | with_reducible apply canon_State_count | with_reducible apply canon_foldl | with_reducible apply canon_ite | (fail_if_no_progress intros) | dsimp only | split | (fail_if_no_progress with_reducible refine canon_upd ?_ rfl rfl) | with_reducible rfl

theorem canon_feideReceive (t : Transport) (ident : BitVec 29) (ide : Bool) (bs : List Byte) (s : State) (hc : Canonical s) : Canonical (feideReceive t ident ide bs s) := by
  unfold feideReceive
  repeat' first | with_reducible assumption | with_reducible apply canon_feideBad | with_reducible apply canon_State_setConn | with_reducible apply canon_State_count | with_reducible apply canon_setConnState | with_reducible apply canon_safeEvalAll | with_reducible apply canon_foldl | with_reducible apply canon_ite | (fail_if_no_progress intros) | dsimp only | split | (fail_if_no_progress with_reducible refine canon_upd ?_ rfl rfl) | with_reducible rfl

theorem canon_feideWatchdogEff (c : Ix16) (s : State) (hc : Canonical s) : Canonical (feideWatchdogEff c s) := by
  unfold feideWatchdogEff
  repeat' first | with_reducible assumption | with_reducible apply canon_feideFail | with_reducible apply canon_foldl | with_reducible apply canon_ite | (fail_if_no_progress intros) | dsimp only | split | (fail_if_no_progress with_reducible refine canon_upd ?_ rfl rfl) | with_reducible rfl

theorem canon_safetyTake (s : State) (hc : Canonical s) : Canonical (safetyTake s) := by
  unfold safetyTake
  repeat' first | with_reducible assumption | with_reducible apply canon_State_wr | with_reducible apply canon_State_eachCh | with_reducible apply canon_State_setSc | with_reducible apply canon_State_setConn | with_reducible apply canon_setConnState | with_reducible apply canon_foldl | with_reducible apply canon_ite | (fail_if_no_progress intros) | dsimp only | split | (fail_if_no_progress with_reducible refine canon_upd ?_ rfl rfl) | with_reducible rfl

theorem canon_safetyWritten (s : State) (hc : Canonical s) : Canonical (safetyWritten s) := by
  unfold safetyWritten
  repeat' first | with_reducible assumption | with_reducible apply canon_safetyTake | with_reducible apply canon_safeEvalAll | with_reducible apply canon_enterCheck | with_reducible apply canon_foldl | with_reducible apply canon_ite | (fail_if_no_progress intros) | dsimp only | split | (fail_if_no_progress with_reducible refine canon_upd ?_ rfl rfl) | with_reducible rfl

theorem canon_islandStart (s : State) (hc : Canonical s) : Canonical (islandStart s) := by
  unfold islandStart
  repeat' first | with_reducible assumption | with_reducible apply canon_State_wr | with_reducible apply canon_safetyTake | with_reducible apply canon_State_eachCh | with_reducible apply canon_State_setSc | with_reducible apply canon_testDueEval | with_reducible apply canon_enterCheck | with_reducible apply canon_safeEvalAll | with_reducible apply canon_foldl | with_reducible apply canon_ite | (fail_if_no_progress intros) | dsimp only | split | (fail_if_no_progress with_reducible refine canon_upd ?_ rfl rfl) | with_reducible rfl

theorem canon_islandStop (s : State) (hc : Canonical s) : Canonical (islandStop s) := by
  unfold islandStop
  repeat' first | with_reducible assumption | with_reducible apply canon_safeEvalAll | with_reducible apply canon_foldl | with_reducible apply canon_ite | (fail_if_no_progress intros) | dsimp only | split | (fail_if_no_progress with_reducible refine canon_upd ?_ rfl rfl) | with_reducible rfl

theorem canon_onIsland (f : State → State) (s : State) (hf : ∀ a0, Canonical a0 → Canonical (f a0)) (hc : Canonical s) : Canonical (onIsland f s) := by
  unfold onIsland
  repeat' first | with_reducible assumption | with_reducible apply hf | with_reducible apply canon_foldl | with_reducible apply canon_ite | (fail_if_no_progress intros) | dsimp only | split | (fail_if_no_progress with_reducible refine canon_upd ?_ rfl rfl) | with_reducible rfl

theorem canon_setGdi (c : Ch) (v : Nat) (s : State) (hc : Canonical s) : Canonical (setGdi c v s) := by
  unfold setGdi
  repeat' first | with_reducible assumption | with_reducible apply canon_State_wr | with_reducible apply canon_foldl | with_reducible apply canon_ite | (fail_if_no_progress intros) | dsimp only | split | (fail_if_no_progress with_reducible refine canon_upd ?_ rfl rfl) | with_reducible rfl

theorem canon_pgQuiet (c : Ch) (s : State) (hc : Canonical s) : Canonical (pgQuiet c s) := by
  unfold pgQuiet
  repeat' first | with_reducible assumption | with_reducible apply canon_State_wr | with_reducible apply canon_State_setPg | with_reducible apply canon_foldl | with_reducible apply canon_ite | (fail_if_no_progress intros) | dsimp only | split | (fail_if_no_progress with_reducible refine canon_upd ?_ rfl rfl) | with_reducible rfl

theorem canon_atStop (c : Ch) (s : State) (hc : Canonical s) : Canonical (atStop c s) := by
  unfold atStop
  repeat' first | with_reducible assumption | with_reducible apply canon_State_wr | with_reducible apply canon_swapAtStop | with_reducible apply canon_foldl | with_reducible apply canon_ite | (fail_if_no_progress intros) | dsimp only | split | (fail_if_no_progress with_reducible refine canon_upd ?_ rfl rfl) | with_reducible rfl

theorem canon_ceStop (c : Ch) (s : State) (hc : Canonical s) : Canonical (ceStop c s) := by
  unfold ceStop
  repeat' first | with_reducible assumption | with_reducible apply canon_State_wr | with_reducible apply canon_State_setCh | with_reducible apply canon_retireEnd | with_reducible apply canon_foldl | with_reducible apply canon_ite | (fail_if_no_progress intros) | dsimp only | split | (fail_if_no_progress with_reducible refine canon_upd ?_ rfl rfl) | with_reducible rfl

theorem canon_channelHalt (c : Ch) (pgState : Nat) (s : State) (hc : Canonical s) : Canonical (channelHalt c pgState s) := by
  unfold channelHalt
  repeat' first | with_reducible assumption | with_reducible apply canon_safeEval | with_reducible apply canon_ceStop | with_reducible apply canon_atStop | with_reducible apply canon_pgQuiet | with_reducible apply canon_State_wr | with_reducible apply canon_foldl | with_reducible apply canon_ite | (fail_if_no_progress intros) | dsimp only | split | (fail_if_no_progress with_reducible refine canon_upd ?_ rfl rfl) | with_reducible rfl

theorem canon_squallFinish (c : Ch) (s : State) (hc : Canonical s) : Canonical (squallFinish c s) := by
  unfold squallFinish
  repeat' first | with_reducible assumption | with_reducible apply canon_channelHalt | with_reducible apply canon_setGdi | with_reducible apply canon_fire | with_reducible apply canon_completeW | with_reducible apply canon_State_setCh | with_reducible apply canon_foldl | with_reducible apply canon_ite | (fail_if_no_progress intros) | dsimp only | split | (fail_if_no_progress with_reducible refine canon_upd ?_ rfl rfl) | with_reducible rfl

theorem canon_squallStep1 (c : Ch) (cause : Nat) (s : State) (hc : Canonical s) : Canonical (squallStep1 c cause s) := by
  unfold squallStep1
  repeat' first | with_reducible assumption | with_reducible apply canon_State_wr | with_reducible apply canon_setGdi | with_reducible apply canon_fire | with_reducible apply canon_State_count | with_reducible apply canon_State_setPg | with_reducible apply canon_squallFinish | with_reducible apply canon_foldl | with_reducible apply canon_ite | (fail_if_no_progress intros) | dsimp only | split | (fail_if_no_progress with_reducible refine canon_upd ?_ rfl rfl) | with_reducible rfl

theorem canon_squallRequest (c : Ch) (cause : Nat) (s : State) (hc : Canonical s) : Canonical (squallRequest c cause s) := by
  unfold squallRequest
  repeat' first | with_reducible assumption | with_reducible apply canon_squallStep1 | with_reducible apply canon_foldl | with_reducible apply canon_ite | (fail_if_no_progress intros) | dsimp only | split | (fail_if_no_progress with_reducible refine canon_upd ?_ rfl rfl) | with_reducible rfl

theorem canon_faultCount (c : Ch) (kind : FaultKind) (at_ : Nat) (s : State) (hc : Canonical s) : Canonical (faultCount c kind at_ s) := by
  unfold faultCount
  repeat' first | with_reducible assumption | with_reducible apply canon_State_count | with_reducible apply canon_State_wr | with_reducible apply canon_foldl | with_reducible apply canon_ite | (fail_if_no_progress intros) | dsimp only | split | (fail_if_no_progress with_reducible refine canon_upd ?_ rfl rfl) | with_reducible rfl

theorem canon_switchOff (c : Ch) (kind : FaultKind) (m : Nat) (at_ : Nat) (s : State) (hc : Canonical s) : Canonical (switchOff c kind m at_ s) := by
  unfold switchOff
  repeat' first | with_reducible assumption | with_reducible apply canon_State_wr | with_reducible apply canon_State_setPg | with_reducible apply canon_setGdi | with_reducible apply canon_fire | with_reducible apply canon_foldl | with_reducible apply canon_ite | (fail_if_no_progress intros) | dsimp only | split | (fail_if_no_progress with_reducible refine canon_upd ?_ rfl rfl) | with_reducible rfl

theorem canon_gdiFault (c : Ch) (kind : FaultKind) (m : Nat) (at_ : Nat) (s : State) (hc : Canonical s) : Canonical (gdiFault c kind m at_ s) := by
  unfold gdiFault
  repeat' first | with_reducible assumption | with_reducible apply canon_State_count | with_reducible apply canon_faultCount | with_reducible apply canon_squallStep1 | with_reducible apply canon_switchOff | with_reducible apply canon_foldl | with_reducible apply canon_ite | (fail_if_no_progress intros) | dsimp only | split | (fail_if_no_progress with_reducible refine canon_upd ?_ rfl rfl) | with_reducible rfl

theorem canon_dfbAct (c : Ch) (k : PairIx) (at_ : Nat) (s : State) (hc : Canonical s) : Canonical (dfbAct c k at_ s) := by
  unfold dfbAct
  repeat' first | with_reducible assumption | with_reducible apply canon_gdiFault | with_reducible apply canon_State_setOut | with_reducible apply canon_foldl | with_reducible apply canon_ite | (fail_if_no_progress intros) | dsimp only | split | (fail_if_no_progress with_reducible refine canon_upd ?_ rfl rfl) | with_reducible rfl

theorem canon_blankEnd (c : Ch) (j : OutIx) (s : State) (hc : Canonical s) : Canonical (blankEnd c j s) := by
  unfold blankEnd
  repeat' first | with_reducible assumption | with_reducible apply canon_State_setOut | with_reducible apply canon_fire | with_reducible apply canon_gdiFault | with_reducible apply canon_foldl | with_reducible apply canon_ite | (fail_if_no_progress intros) | dsimp only | split | (fail_if_no_progress with_reducible refine canon_upd ?_ rfl rfl) | with_reducible rfl

theorem canon_dfbRelease (c : Ch) (k : PairIx) (s : State) (hc : Canonical s) : Canonical (dfbRelease c k s) := by
  unfold dfbRelease
  repeat' first | with_reducible assumption | with_reducible apply canon_State_count | with_reducible apply canon_State_setOut | with_reducible apply canon_foldl | with_reducible apply canon_ite | (fail_if_no_progress intros) | dsimp only | split | (fail_if_no_progress with_reducible refine canon_upd ?_ rfl rfl) | with_reducible rfl

theorem canon_ocAct (c : Ch) (j : Fin 16) (s : State) (hc : Canonical s) : Canonical (ocAct c j s) := by
  unfold ocAct
  repeat' first | with_reducible assumption | with_reducible apply canon_fire | with_reducible apply canon_State_count | with_reducible apply canon_gdiFault | with_reducible apply canon_foldl | with_reducible apply canon_ite | (fail_if_no_progress intros) | dsimp only | split | (fail_if_no_progress with_reducible refine canon_upd ?_ rfl rfl) | with_reducible rfl

theorem canon_pinRise (c : Ch) (j : OutIx) (s : State) (hc : Canonical s) : Canonical (pinRise c j s) := by
  unfold pinRise
  repeat' first | with_reducible assumption | with_reducible apply canon_State_setOut | with_reducible apply canon_foldl | with_reducible apply canon_ite | (fail_if_no_progress intros) | dsimp only | split | (fail_if_no_progress with_reducible refine canon_upd ?_ rfl rfl) | with_reducible rfl

theorem canon_settlePin (c : Ch) (j : OutIx) (s : State) (hc : Canonical s) : Canonical (settlePin c j s) := by
  unfold settlePin
  repeat' first | with_reducible assumption | with_reducible apply canon_pinRise | with_reducible apply canon_blankEnd | with_reducible apply canon_State_setOut | with_reducible apply canon_foldl | with_reducible apply canon_ite | (fail_if_no_progress intros) | dsimp only | split | (fail_if_no_progress with_reducible refine canon_upd ?_ rfl rfl) | with_reducible rfl

theorem canon_settlePins (c : Ch) (s : State) (hc : Canonical s) : Canonical (settlePins c s) := by
  unfold settlePins
  repeat' first | with_reducible assumption | with_reducible apply canon_settlePin | with_reducible apply canon_foldl | with_reducible apply canon_ite | (fail_if_no_progress intros) | dsimp only | split | (fail_if_no_progress with_reducible refine canon_upd ?_ rfl rfl) | with_reducible rfl

theorem canon_settle (c : Ch) (s : State) (hc : Canonical s) : Canonical (settle c s) := by
  unfold settle
  repeat' first | with_reducible assumption | with_reducible apply canon_advanceOuts | with_reducible apply canon_State_setPg | with_reducible apply canon_squallDrop | with_reducible apply canon_hbSettle | with_reducible apply canon_settlePins | with_reducible apply canon_foldl | with_reducible apply canon_ite | (fail_if_no_progress intros) | dsimp only | split | (fail_if_no_progress with_reducible refine canon_upd ?_ rfl rfl) | with_reducible rfl

theorem canon_pgHalt (c : Ch) (s : State) (hc : Canonical s) : Canonical (pgHalt c s) := by
  unfold pgHalt
  repeat' first | with_reducible assumption | with_reducible apply canon_pgQuiet | with_reducible apply canon_State_wr | with_reducible apply canon_setGdi | with_reducible apply canon_foldl | with_reducible apply canon_ite | (fail_if_no_progress intros) | dsimp only | split | (fail_if_no_progress with_reducible refine canon_upd ?_ rfl rfl) | with_reducible rfl

theorem canon_gdiStart (c : Ch) (s : State) (hc : Canonical s) : Canonical (gdiStart c s) := by
  unfold gdiStart
  repeat' first | with_reducible assumption | with_reducible apply canon_setGdi | with_reducible apply canon_State_wr | with_reducible apply canon_State_setPg | with_reducible apply canon_dfbAct | with_reducible apply canon_ocAct | with_reducible apply canon_foldl | with_reducible apply canon_ite | (fail_if_no_progress intros) | dsimp only | split | (fail_if_no_progress with_reducible refine canon_upd ?_ rfl rfl) | with_reducible rfl

theorem canon_coefApply (c : Ch) (j : Fin 4) (s : State) (hc : Canonical s) : Canonical (coefApply c j s) := by
  unfold coefApply
  repeat' first | with_reducible assumption | with_reducible apply canon_State_commit1 | with_reducible apply canon_foldl | with_reducible apply canon_ite | (fail_if_no_progress intros) | dsimp only | split | (fail_if_no_progress with_reducible refine canon_upd ?_ rfl rfl) | with_reducible rfl

theorem canon_clearOpStates (c : Ch) (j : Fin 4) (i : Nat) (s : State) (hc : Canonical s) : Canonical (clearOpStates c j i s) := by
  unfold clearOpStates
  repeat' first | with_reducible assumption | with_reducible apply canon_State_setCh | with_reducible apply canon_foldl | with_reducible apply canon_ite | (fail_if_no_progress intros) | dsimp only | split | (fail_if_no_progress with_reducible refine canon_upd ?_ rfl rfl) | with_reducible rfl

theorem canon_clearSlotStates (c : Ch) (j : Fin 4) (s : State) (hc : Canonical s) : Canonical (clearSlotStates c j s) := by
  unfold clearSlotStates
  repeat' first | with_reducible assumption | with_reducible apply canon_State_setCh | with_reducible apply canon_foldl | with_reducible apply canon_ite | (fail_if_no_progress intros) | dsimp only | split | (fail_if_no_progress with_reducible refine canon_upd ?_ rfl rfl) | with_reducible rfl

theorem canon_progApply (c : Ch) (j : Fin 4) (s : State) (hc : Canonical s) : Canonical (progApply c j s) := by
  unfold progApply
  repeat' first | with_reducible assumption | with_reducible apply canon_clearOpStates | with_reducible apply canon_State_commitAll | with_reducible apply canon_foldl | with_reducible apply canon_ite | (fail_if_no_progress intros) | dsimp only | split | (fail_if_no_progress with_reducible refine canon_upd ?_ rfl rfl) | with_reducible rfl

theorem canon_hostApply (c : Ch) (s : State) (hc : Canonical s) : Canonical (hostApply c s) := by
  unfold hostApply
  repeat' first | with_reducible assumption | with_reducible apply canon_State_commitAll | with_reducible apply canon_foldl | with_reducible apply canon_ite | (fail_if_no_progress intros) | dsimp only | split | (fail_if_no_progress with_reducible refine canon_upd ?_ rfl rfl) | with_reducible rfl

theorem canon_ceFresh (c : Ch) (b : Nat) (s : State) (hc : Canonical s) : Canonical (ceFresh c b s) := by
  unfold ceFresh
  repeat' first | with_reducible assumption | with_reducible apply canon_State_setCh | with_reducible apply canon_foldl | with_reducible apply canon_ite | (fail_if_no_progress intros) | dsimp only | split | (fail_if_no_progress with_reducible refine canon_upd ?_ rfl rfl) | with_reducible rfl

theorem canon_commitCoefEff (c : Ch) (j : Nat) (s : State) (hc : Canonical s) : Canonical (commitCoefEff c j s) := by
  unfold commitCoefEff
  repeat' first | with_reducible assumption | with_reducible apply canon_ceFresh | with_reducible apply canon_State_wrBit | with_reducible apply canon_foldl | with_reducible apply canon_ite | (fail_if_no_progress intros) | dsimp only | split | (fail_if_no_progress with_reducible refine canon_upd ?_ rfl rfl) | with_reducible rfl

theorem canon_commitProgEff (c : Ch) (j : Nat) (s : State) (hc : Canonical s) : Canonical (commitProgEff c j s) := by
  unfold commitProgEff
  repeat' first | with_reducible assumption | with_reducible apply canon_ceFresh | with_reducible apply canon_State_wrBit | with_reducible apply canon_foldl | with_reducible apply canon_ite | (fail_if_no_progress intros) | dsimp only | split | (fail_if_no_progress with_reducible refine canon_upd ?_ rfl rfl) | with_reducible rfl

theorem canon_commitHostEff (c : Ch) (s : State) (hc : Canonical s) : Canonical (commitHostEff c s) := by
  unfold commitHostEff
  repeat' first | with_reducible assumption | with_reducible apply canon_ceFresh | with_reducible apply canon_State_wr | with_reducible apply canon_foldl | with_reducible apply canon_ite | (fail_if_no_progress intros) | dsimp only | split | (fail_if_no_progress with_reducible refine canon_upd ?_ rfl rfl) | with_reducible rfl

theorem canon_clearStateEff (c : Ch) (j : Nat) (s : State) (hc : Canonical s) : Canonical (clearStateEff c j s) := by
  unfold clearStateEff
  repeat' first | with_reducible assumption | with_reducible apply canon_State_setCh | with_reducible apply canon_foldl | with_reducible apply canon_ite | (fail_if_no_progress intros) | dsimp only | split | (fail_if_no_progress with_reducible refine canon_upd ?_ rfl rfl) | with_reducible rfl

theorem canon_slotDisableEff (c : Ch) (j : Nat) (s : State) (hc : Canonical s) : Canonical (slotDisableEff c j s) := by
  unfold slotDisableEff
  repeat' first | with_reducible assumption | with_reducible apply canon_State_wrBit | with_reducible apply canon_foldl | with_reducible apply canon_ite | (fail_if_no_progress intros) | dsimp only | split | (fail_if_no_progress with_reducible refine canon_upd ?_ rfl rfl) | with_reducible rfl

theorem canon_ceApplyCommits (c : Ch) (j : Fin 4) (s : State) (hc : Canonical s) : Canonical (ceApplyCommits c j s) := by
  unfold ceApplyCommits
  repeat' first | with_reducible assumption | with_reducible apply canon_coefApply | with_reducible apply canon_State_wrBit | with_reducible apply canon_progApply | with_reducible apply canon_hostApply | with_reducible apply canon_State_wr | with_reducible apply canon_foldl | with_reducible apply canon_ite | (fail_if_no_progress intros) | dsimp only | split | (fail_if_no_progress with_reducible refine canon_upd ?_ rfl rfl) | with_reducible rfl

theorem canon_ceAlign (c : Ch) (j : Fin 4) (s : State) (hc : Canonical s) : Canonical (ceAlign c j s) := by
  unfold ceAlign
  repeat' first | with_reducible assumption | with_reducible apply canon_State_setCh | with_reducible apply canon_State_wr | with_reducible apply canon_foldl | with_reducible apply canon_ite | (fail_if_no_progress intros) | dsimp only | split | (fail_if_no_progress with_reducible refine canon_upd ?_ rfl rfl) | with_reducible rfl

theorem canon_evalStart (c : Ch) (j : Fin 4) (s : State) (hc : Canonical s) : Canonical (evalStart c j s) := by
  unfold evalStart
  repeat' first | with_reducible assumption | with_reducible apply canon_ceApplyCommits | with_reducible apply canon_ceAlign | with_reducible apply canon_State_setCh | with_reducible apply canon_clearSlotStates | with_reducible apply canon_regionTake | with_reducible apply canon_State_wrBit | with_reducible apply canon_State_wr | with_reducible apply canon_foldl | with_reducible apply canon_ite | (fail_if_no_progress intros) | dsimp only | split | (fail_if_no_progress with_reducible refine canon_upd ?_ rfl rfl) | with_reducible rfl

theorem canon_ceStoreVars (c : Ch) (v : List Int) (s : State) (hc : Canonical s) : Canonical (ceStoreVars c v s) := by
  unfold ceStoreVars
  repeat' first | with_reducible assumption | with_reducible apply canon_State_wrS | with_reducible apply canon_foldl | with_reducible apply canon_ite | (fail_if_no_progress intros) | dsimp only | split | (fail_if_no_progress with_reducible refine canon_upd ?_ rfl rfl) | with_reducible rfl

theorem canon_missOne (c : Ch) (a : ArmedSet) (s : State) (hc : Canonical s) : Canonical (missOne c a s) := by
  unfold missOne
  repeat' first | with_reducible assumption | with_reducible apply canon_fire | with_reducible apply canon_State_count | with_reducible apply canon_State_wr | with_reducible apply canon_foldl | with_reducible apply canon_ite | (fail_if_no_progress intros) | dsimp only | split | (fail_if_no_progress with_reducible refine canon_upd ?_ rfl rfl) | with_reducible rfl

theorem canon_pgCommitSet (c : Ch) (s : State) (hc : Canonical s) : Canonical (pgCommitSet c s) := by
  unfold pgCommitSet
  repeat' first | with_reducible assumption | with_reducible apply canon_missOne | with_reducible apply canon_State_setPg | with_reducible apply canon_State_wr | with_reducible apply canon_foldl | with_reducible apply canon_ite | (fail_if_no_progress intros) | dsimp only | split | (fail_if_no_progress with_reducible refine canon_upd ?_ rfl rfl) | with_reducible rfl

theorem canon_ceDeliver (c : Ch) (e : CeEnv) (s : State) (hc : Canonical s) : Canonical (ceDeliver c e s) := by
  unfold ceDeliver
  repeat' first | with_reducible assumption | with_reducible apply canon_State_wr | with_reducible apply canon_pgCommitSet | with_reducible apply canon_foldl | with_reducible apply canon_ite | (fail_if_no_progress intros) | dsimp only | split | (fail_if_no_progress with_reducible refine canon_upd ?_ rfl rfl) | with_reducible rfl

theorem canon_evalEnd (c : Ch) (j : Fin 4) (s : State) (hc : Canonical s) : Canonical (evalEnd c j s) := by
  unfold evalEnd
  repeat' first | with_reducible assumption | with_reducible apply canon_ceStoreVars | with_reducible apply canon_State_setCh | with_reducible apply canon_State_wr | with_reducible apply canon_State_wrBit | with_reducible apply canon_State_countMod | with_reducible apply canon_ceDeliver | with_reducible apply canon_classifierUpdate | with_reducible apply canon_retireEnd | with_reducible apply canon_fire | with_reducible apply canon_foldl | with_reducible apply canon_ite | (fail_if_no_progress intros) | dsimp only | split | (fail_if_no_progress with_reducible refine canon_upd ?_ rfl rfl) | with_reducible rfl

theorem canon_ceEvalStartEff (c : Ch) (s : State) (hc : Canonical s) : Canonical (ceEvalStartEff c s) := by
  unfold ceEvalStartEff
  repeat' first | with_reducible assumption | with_reducible apply canon_settle | with_reducible apply canon_evalStart | with_reducible apply canon_foldl | with_reducible apply canon_ite | (fail_if_no_progress intros) | dsimp only | split | (fail_if_no_progress with_reducible refine canon_upd ?_ rfl rfl) | with_reducible rfl

theorem canon_startNext (c : Ch) (s : State) (hc : Canonical s) : Canonical (startNext c s) := by
  unfold startNext
  repeat' first | with_reducible assumption | with_reducible apply canon_evalStart | with_reducible apply canon_foldl | with_reducible apply canon_ite | (fail_if_no_progress intros) | dsimp only | split | (fail_if_no_progress with_reducible refine canon_upd ?_ rfl rfl) | with_reducible rfl

theorem canon_ceEvalEndEff (c : Ch) (corr : Nat) (s : State) (hc : Canonical s) : Canonical (ceEvalEndEff c corr s) := by
  unfold ceEvalEndEff
  repeat' first | with_reducible assumption | with_reducible apply canon_settle | with_reducible apply canon_startNext | with_reducible apply canon_evalEnd | with_reducible apply canon_State_setCh | with_reducible apply canon_foldl | with_reducible apply canon_ite | (fail_if_no_progress intros) | dsimp only | split | (fail_if_no_progress with_reducible refine canon_upd ?_ rfl rfl) | with_reducible rfl

theorem canon_ceSramEff (c : Ch) (s : State) (hc : Canonical s) : Canonical (ceSramEff c s) := by
  unfold ceSramEff
  repeat' first | with_reducible assumption | with_reducible apply canon_State_wr | with_reducible apply canon_State_setCh | with_reducible apply canon_settle | with_reducible apply canon_squallRequest | with_reducible apply canon_retireEnd | with_reducible apply canon_foldl | with_reducible apply canon_ite | (fail_if_no_progress intros) | dsimp only | split | (fail_if_no_progress with_reducible refine canon_upd ?_ rfl rfl) | with_reducible rfl

theorem canon_setAtState (c : Ch) (v : Nat) (s : State) (hc : Canonical s) : Canonical (setAtState c v s) := by
  unfold setAtState
  repeat' first | with_reducible assumption | with_reducible apply canon_State_wr | with_reducible apply canon_foldl | with_reducible apply canon_ite | (fail_if_no_progress intros) | dsimp only | split | (fail_if_no_progress with_reducible refine canon_upd ?_ rfl rfl) | with_reducible rfl

theorem canon_State_setAt (s : State) (c : Ch) (f : AtSt → AtSt) (hc : Canonical s) : Canonical (State.setAt s c f) := by
  unfold State.setAt
  repeat' first | with_reducible assumption | with_reducible apply canon_State_setCh | with_reducible apply canon_foldl | with_reducible apply canon_ite | (fail_if_no_progress intros) | dsimp only | split | (fail_if_no_progress with_reducible refine canon_upd ?_ rfl rfl) | with_reducible rfl

theorem canon_fwCommitEff (c : Ch) (s : State) (hc : Canonical s) : Canonical (fwCommitEff c s) := by
  unfold fwCommitEff
  repeat' first | with_reducible assumption | with_reducible apply canon_State_setAt | with_reducible apply canon_foldl | with_reducible apply canon_ite | (fail_if_no_progress intros) | dsimp only | split | (fail_if_no_progress with_reducible refine canon_upd ?_ rfl rfl) | with_reducible rfl

theorem canon_esCommitEff (c : Ch) (s : State) (hc : Canonical s) : Canonical (esCommitEff c s) := by
  unfold esCommitEff
  repeat' first | with_reducible assumption | with_reducible apply canon_State_wr | with_reducible apply canon_State_setCh | with_reducible apply canon_foldl | with_reducible apply canon_ite | (fail_if_no_progress intros) | dsimp only | split | (fail_if_no_progress with_reducible refine canon_upd ?_ rfl rfl) | with_reducible rfl

theorem canon_fwApply (c : Ch) (s : State) (hc : Canonical s) : Canonical (fwApply c s) := by
  unfold fwApply
  repeat' first | with_reducible assumption | with_reducible apply canon_State_commit1 | with_reducible apply canon_State_setAt | with_reducible apply canon_foldl | with_reducible apply canon_ite | (fail_if_no_progress intros) | dsimp only | split | (fail_if_no_progress with_reducible refine canon_upd ?_ rfl rfl) | with_reducible rfl

theorem canon_esApply (c : Ch) (s : State) (hc : Canonical s) : Canonical (esApply c s) := by
  unfold esApply
  repeat' first | with_reducible assumption | with_reducible apply canon_State_commitAll | with_reducible apply canon_State_wr | with_reducible apply canon_State_setCh | with_reducible apply canon_foldl | with_reducible apply canon_ite | (fail_if_no_progress intros) | dsimp only | split | (fail_if_no_progress with_reducible refine canon_upd ?_ rfl rfl) | with_reducible rfl

theorem canon_fwTimeEff (c : Ch) (s : State) (hc : Canonical s) : Canonical (fwTimeEff c s) := by
  unfold fwTimeEff
  repeat' first | with_reducible assumption | with_reducible apply canon_State_wr | with_reducible apply canon_fwApply | with_reducible apply canon_State_setAt | with_reducible apply canon_foldl | with_reducible apply canon_ite | (fail_if_no_progress intros) | dsimp only | split | (fail_if_no_progress with_reducible refine canon_upd ?_ rfl rfl) | with_reducible rfl

theorem canon_coastEnd (c : Ch) (s : State) (hc : Canonical s) : Canonical (coastEnd c s) := by
  unfold coastEnd
  repeat' first | with_reducible assumption | with_reducible apply canon_fire | with_reducible apply canon_State_wr | with_reducible apply canon_atStop | with_reducible apply canon_squallRequest | with_reducible apply canon_setAtState | with_reducible apply canon_State_setAt | with_reducible apply canon_foldl | with_reducible apply canon_ite | (fail_if_no_progress intros) | dsimp only | split | (fail_if_no_progress with_reducible refine canon_upd ?_ rfl rfl) | with_reducible rfl

theorem canon_srcLost (c : Ch) (word : Int) (s : State) (hc : Canonical s) : Canonical (srcLost c word s) := by
  unfold srcLost
  repeat' first | with_reducible assumption | with_reducible apply canon_setAtState | with_reducible apply canon_State_setAt | with_reducible apply canon_State_wr | with_reducible apply canon_State_count | with_reducible apply canon_fire | with_reducible apply canon_coastEnd | with_reducible apply canon_foldl | with_reducible apply canon_ite | (fail_if_no_progress intros) | dsimp only | split | (fail_if_no_progress with_reducible refine canon_upd ?_ rfl rfl) | with_reducible rfl

theorem canon_atLock (c : Ch) (s : State) (hc : Canonical s) : Canonical (atLock c s) := by
  unfold atLock
  repeat' first | with_reducible assumption | with_reducible apply canon_State_wr | with_reducible apply canon_setAtState | with_reducible apply canon_fire | with_reducible apply canon_State_setAt | with_reducible apply canon_foldl | with_reducible apply canon_ite | (fail_if_no_progress intros) | dsimp only | split | (fail_if_no_progress with_reducible refine canon_upd ?_ rfl rfl) | with_reducible rfl

theorem canon_pllLoop (c : Ch) (e : Int) (s : State) (hc : Canonical s) : Canonical (pllLoop c e s) := by
  unfold pllLoop
  repeat' first | with_reducible assumption | with_reducible apply canon_State_setAt | with_reducible apply canon_State_wrB | with_reducible apply canon_foldl | with_reducible apply canon_ite | (fail_if_no_progress intros) | dsimp only | split | (fail_if_no_progress with_reducible refine canon_upd ?_ rfl rfl) | with_reducible rfl

theorem canon_pllJudge (c : Ch) (e : Int) (s : State) (hc : Canonical s) : Canonical (pllJudge c e s) := by
  unfold pllJudge
  repeat' first | with_reducible assumption | with_reducible apply canon_State_setAt | with_reducible apply canon_atLock | with_reducible apply canon_State_count | with_reducible apply canon_setAtState | with_reducible apply canon_fire | with_reducible apply canon_foldl | with_reducible apply canon_ite | (fail_if_no_progress intros) | dsimp only | split | (fail_if_no_progress with_reducible refine canon_upd ?_ rfl rfl) | with_reducible rfl

theorem canon_gridReturn (c : Ch) (s : State) (hc : Canonical s) : Canonical (gridReturn c s) := by
  unfold gridReturn
  repeat' first | with_reducible assumption | with_reducible apply canon_State_setAt | with_reducible apply canon_setAtState | with_reducible apply canon_foldl | with_reducible apply canon_ite | (fail_if_no_progress intros) | dsimp only | split | (fail_if_no_progress with_reducible refine canon_upd ?_ rfl rfl) | with_reducible rfl

theorem canon_gridFirst (c : Ch) (al : Int) (be : Int) (s : State) (hc : Canonical s) : Canonical (gridFirst c al be s) := by
  unfold gridFirst
  repeat' first | with_reducible assumption | with_reducible apply canon_State_drew | with_reducible apply canon_State_setAt | with_reducible apply canon_startPattern | with_reducible apply canon_foldl | with_reducible apply canon_ite | (fail_if_no_progress intros) | dsimp only | split | (fail_if_no_progress with_reducible refine canon_upd ?_ rfl rfl) | with_reducible rfl

theorem canon_pllUpdate (c : Ch) (s : State) (hc : Canonical s) : Canonical (pllUpdate c s) := by
  unfold pllUpdate
  repeat' first | with_reducible assumption | with_reducible apply canon_State_setAt | with_reducible apply canon_gridFirst | with_reducible apply canon_State_drew | with_reducible apply canon_State_wrS | with_reducible apply canon_gridReturn | with_reducible apply canon_srcLost | with_reducible apply canon_pllJudge | with_reducible apply canon_pllLoop | with_reducible apply canon_foldl | with_reducible apply canon_ite | (fail_if_no_progress intros) | dsimp only | split | (fail_if_no_progress with_reducible refine canon_upd ?_ rfl rfl) | with_reducible rfl

theorem canon_encIllegal (c : Ch) (s : State) (hc : Canonical s) : Canonical (encIllegal c s) := by
  unfold encIllegal
  repeat' first | with_reducible assumption | with_reducible apply canon_State_count | with_reducible apply canon_State_setAt | with_reducible apply canon_srcLost | with_reducible apply canon_foldl | with_reducible apply canon_ite | (fail_if_no_progress intros) | dsimp only | split | (fail_if_no_progress with_reducible refine canon_upd ?_ rfl rfl) | with_reducible rfl

theorem canon_encPlace (c : Ch) (pm : Int) (s : State) (hc : Canonical s) : Canonical (encPlace c pm s) := by
  unfold encPlace
  repeat' first | with_reducible assumption | with_reducible apply canon_State_setAt | with_reducible apply canon_foldl | with_reducible apply canon_ite | (fail_if_no_progress intros) | dsimp only | split | (fail_if_no_progress with_reducible refine canon_upd ?_ rfl rfl) | with_reducible rfl

theorem canon_encMove (c : Ch) (pm : Int) (s : State) (hc : Canonical s) : Canonical (encMove c pm s) := by
  unfold encMove
  repeat' first | with_reducible assumption | with_reducible apply canon_State_setAt | with_reducible apply canon_encPlace | with_reducible apply canon_atLock | with_reducible apply canon_foldl | with_reducible apply canon_ite | (fail_if_no_progress intros) | dsimp only | split | (fail_if_no_progress with_reducible refine canon_upd ?_ rfl rfl) | with_reducible rfl

theorem canon_encEdgeEff (c : Ch) (a : Bool) (b : Bool) (s : State) (hc : Canonical s) : Canonical (encEdgeEff c a b s) := by
  unfold encEdgeEff
  repeat' first | with_reducible assumption | with_reducible apply canon_State_setAt | with_reducible apply canon_encIllegal | with_reducible apply canon_encMove | with_reducible apply canon_foldl | with_reducible apply canon_ite | (fail_if_no_progress intros) | dsimp only | split | (fail_if_no_progress with_reducible refine canon_upd ?_ rfl rfl) | with_reducible rfl

theorem canon_encTimeoutEff (c : Ch) (s : State) (hc : Canonical s) : Canonical (encTimeoutEff c s) := by
  unfold encTimeoutEff
  repeat' first | with_reducible assumption | with_reducible apply canon_State_setAt | with_reducible apply canon_foldl | with_reducible apply canon_ite | (fail_if_no_progress intros) | dsimp only | split | (fail_if_no_progress with_reducible refine canon_upd ?_ rfl rfl) | with_reducible rfl

theorem canon_zSet (c : Ch) (s : State) (hc : Canonical s) : Canonical (zSet c s) := by
  unfold zSet
  repeat' first | with_reducible assumption | with_reducible apply canon_State_setAt | with_reducible apply canon_encPlace | with_reducible apply canon_foldl | with_reducible apply canon_ite | (fail_if_no_progress intros) | dsimp only | split | (fail_if_no_progress with_reducible refine canon_upd ?_ rfl rfl) | with_reducible rfl

theorem canon_encIndexEff (c : Ch) (s : State) (hc : Canonical s) : Canonical (encIndexEff c s) := by
  unfold encIndexEff
  repeat' first | with_reducible assumption | with_reducible apply canon_State_setAt | with_reducible apply canon_setAtState | with_reducible apply canon_zSet | with_reducible apply canon_State_count | with_reducible apply canon_srcLost | with_reducible apply canon_atLock | with_reducible apply canon_foldl | with_reducible apply canon_ite | (fail_if_no_progress intros) | dsimp only | split | (fail_if_no_progress with_reducible refine canon_upd ?_ rfl rfl) | with_reducible rfl

theorem canon_sincosUpdate (c : Ch) (s : State) (hc : Canonical s) : Canonical (sincosUpdate c s) := by
  unfold sincosUpdate
  repeat' first | with_reducible assumption | with_reducible apply canon_State_drew | with_reducible apply canon_encIllegal | with_reducible apply canon_State_setAt | with_reducible apply canon_encMove | with_reducible apply canon_foldl | with_reducible apply canon_ite | (fail_if_no_progress intros) | dsimp only | split | (fail_if_no_progress with_reducible refine canon_upd ?_ rfl rfl) | with_reducible rfl

theorem canon_patTurn (c : Ch) (k : PairIx) (s : State) (hc : Canonical s) : Canonical (patTurn c k s) := by
  unfold patTurn
  repeat' first | with_reducible assumption | with_reducible apply canon_State_setPat | with_reducible apply canon_patFireWhile | with_reducible apply canon_foldl | with_reducible apply canon_ite | (fail_if_no_progress intros) | dsimp only | split | (fail_if_no_progress with_reducible refine canon_upd ?_ rfl rfl) | with_reducible rfl

theorem canon_angleWrapEff (c : Ch) (s : State) (hc : Canonical s) : Canonical (angleWrapEff c s) := by
  unfold angleWrapEff
  repeat' first | with_reducible assumption | with_reducible apply canon_wrapLeave | with_reducible apply canon_fireLag | with_reducible apply canon_patTurn | with_reducible apply canon_State_setPat | with_reducible apply canon_fwApply | with_reducible apply canon_esApply | with_reducible apply canon_State_setAt | with_reducible apply canon_settle | with_reducible apply canon_foldl | with_reducible apply canon_ite | (fail_if_no_progress intros) | dsimp only | split | (fail_if_no_progress with_reducible refine canon_upd ?_ rfl rfl) | with_reducible rfl

theorem canon_bankSwapPointEff (c : Ch) (s : State) (hc : Canonical s) : Canonical (bankSwapPointEff c s) := by
  unfold bankSwapPointEff
  repeat' first | with_reducible assumption | with_reducible apply canon_swapNow | with_reducible apply canon_settle | with_reducible apply canon_State_setBatt | with_reducible apply canon_foldl | with_reducible apply canon_ite | (fail_if_no_progress intros) | dsimp only | split | (fail_if_no_progress with_reducible refine canon_upd ?_ rfl rfl) | with_reducible rfl

theorem canon_bankSramEff (c : Ch) (s : State) (hc : Canonical s) : Canonical (bankSramEff c s) := by
  unfold bankSramEff
  repeat' first | with_reducible assumption | with_reducible apply canon_squallRequest | with_reducible apply canon_State_wr | with_reducible apply canon_emptyBank | with_reducible apply canon_settle | with_reducible apply canon_pairsFollow | with_reducible apply canon_foldl | with_reducible apply canon_ite | (fail_if_no_progress intros) | dsimp only | split | (fail_if_no_progress with_reducible refine canon_upd ?_ rfl rfl) | with_reducible rfl

theorem canon_atTick (c : Ch) (s : State) (hc : Canonical s) : Canonical (atTick c s) := by
  unfold atTick
  repeat' first | with_reducible assumption | with_reducible apply canon_State_setAt | with_reducible apply canon_foldl | with_reducible apply canon_ite | (fail_if_no_progress intros) | dsimp only | split | (fail_if_no_progress with_reducible refine canon_upd ?_ rfl rfl) | with_reducible rfl

theorem canon_storeResult (c : Ch) (sb : Bool) (ix : Nat) (x : SeqEntry) (sum : Int) (clip : Bool) (split : Bool) (s : State) (hc : Canonical s) : Canonical (storeResult c sb ix x sum clip split s) := by
  unfold storeResult
  repeat' first | with_reducible assumption | with_reducible apply canon_State_wrS | with_reducible apply canon_State_wrB | with_reducible apply canon_State_wr | with_reducible apply canon_State_countMod | with_reducible apply canon_State_setCh | with_reducible apply canon_foldl | with_reducible apply canon_ite | (fail_if_no_progress intros) | dsimp only | split | (fail_if_no_progress with_reducible refine canon_upd ?_ rfl rfl) | with_reducible rfl

theorem canon_State_setSar (s : State) (c : Ch) (sb : Bool) (f : SarSt → SarSt) (hc : Canonical s) : Canonical (State.setSar s c sb f) := by
  unfold State.setSar
  repeat' first | with_reducible assumption | with_reducible apply canon_State_setCh | with_reducible apply canon_foldl | with_reducible apply canon_ite | (fail_if_no_progress intros) | dsimp only | split | (fail_if_no_progress with_reducible refine canon_upd ?_ rfl rfl) | with_reducible rfl

theorem canon_regApply (c : Ch) (sb : Bool) (s : State) (hc : Canonical s) : Canonical (regApply c sb s) := by
  unfold regApply
  repeat' first | with_reducible assumption | with_reducible apply canon_State_wr | with_reducible apply canon_State_commitAll | with_reducible apply canon_State_setSar | with_reducible apply canon_foldl | with_reducible apply canon_ite | (fail_if_no_progress intros) | dsimp only | split | (fail_if_no_progress with_reducible refine canon_upd ?_ rfl rfl) | with_reducible rfl

theorem canon_injApply (c : Ch) (sb : Bool) (s : State) (hc : Canonical s) : Canonical (injApply c sb s) := by
  unfold injApply
  repeat' first | with_reducible assumption | with_reducible apply canon_State_wr | with_reducible apply canon_State_commitAll | with_reducible apply canon_State_setSar | with_reducible apply canon_foldl | with_reducible apply canon_ite | (fail_if_no_progress intros) | dsimp only | split | (fail_if_no_progress with_reducible refine canon_upd ?_ rfl rfl) | with_reducible rfl

theorem canon_applyStopped (c : Ch) (sb : Bool) (s : State) (hc : Canonical s) : Canonical (applyStopped c sb s) := by
  unfold applyStopped
  repeat' first | with_reducible assumption | with_reducible apply canon_regApply | with_reducible apply canon_injApply | with_reducible apply canon_foldl | with_reducible apply canon_ite | (fail_if_no_progress intros) | dsimp only | split | (fail_if_no_progress with_reducible refine canon_upd ?_ rfl rfl) | with_reducible rfl

theorem canon_sarStop (c : Ch) (sb : Bool) (s : State) (hc : Canonical s) : Canonical (sarStop c sb s) := by
  unfold sarStop
  repeat' first | with_reducible assumption | with_reducible apply canon_State_setSar | with_reducible apply canon_applyStopped | with_reducible apply canon_State_wr | with_reducible apply canon_foldl | with_reducible apply canon_ite | (fail_if_no_progress intros) | dsimp only | split | (fail_if_no_progress with_reducible refine canon_upd ?_ rfl rfl) | with_reducible rfl

theorem canon_regStart (c : Ch) (sb : Bool) (s : State) (hc : Canonical s) : Canonical (regStart c sb s) := by
  unfold regStart
  repeat' first | with_reducible assumption | with_reducible apply canon_State_wr | with_reducible apply canon_State_setSar | with_reducible apply canon_foldl | with_reducible apply canon_ite | (fail_if_no_progress intros) | dsimp only | split | (fail_if_no_progress with_reducible refine canon_upd ?_ rfl rfl) | with_reducible rfl

theorem canon_sarStart (c : Ch) (sb : Bool) (s : State) (hc : Canonical s) : Canonical (sarStart c sb s) := by
  unfold sarStart
  repeat' first | with_reducible assumption | with_reducible apply canon_regStart | with_reducible apply canon_applyStopped | with_reducible apply canon_State_setSar | with_reducible apply canon_foldl | with_reducible apply canon_ite | (fail_if_no_progress intros) | dsimp only | split | (fail_if_no_progress with_reducible refine canon_upd ?_ rfl rfl) | with_reducible rfl

theorem canon_boundary (c : Ch) (sb : Bool) (s : State) (hc : Canonical s) : Canonical (boundary c sb s) := by
  unfold boundary
  repeat' first | with_reducible assumption | with_reducible apply canon_regApply | with_reducible apply canon_sarStop | with_reducible apply canon_State_wr | with_reducible apply canon_State_setSar | with_reducible apply canon_regStart | with_reducible apply canon_foldl | with_reducible apply canon_ite | (fail_if_no_progress intros) | dsimp only | split | (fail_if_no_progress with_reducible refine canon_upd ?_ rfl rfl) | with_reducible rfl

theorem canon_angleFeed (c : Ch) (sb : Bool) (e : Nat) (s : State) (hc : Canonical s) : Canonical (angleFeed c sb e s) := by
  unfold angleFeed
  repeat' first | with_reducible assumption | with_reducible apply canon_pllUpdate | with_reducible apply canon_State_setAt | with_reducible apply canon_sincosUpdate | with_reducible apply canon_foldl | with_reducible apply canon_ite | (fail_if_no_progress intros) | dsimp only | split | (fail_if_no_progress with_reducible refine canon_upd ?_ rfl rfl) | with_reducible rfl

theorem canon_injSample (c : Ch) (sb : Bool) (uv : Nat) (s : State) (hc : Canonical s) : Canonical (injSample c sb uv s) := by
  unfold injSample
  repeat' first | with_reducible assumption | with_reducible apply canon_boundary | with_reducible apply canon_State_setSar | with_reducible apply canon_storeResult | with_reducible apply canon_fire | with_reducible apply canon_injApply | with_reducible apply canon_foldl | with_reducible apply canon_ite | (fail_if_no_progress intros) | dsimp only | split | (fail_if_no_progress with_reducible refine canon_upd ?_ rfl rfl) | with_reducible rfl

theorem canon_regSample (c : Ch) (sb : Bool) (uv : Nat) (s : State) (hc : Canonical s) : Canonical (regSample c sb uv s) := by
  unfold regSample
  repeat' first | with_reducible assumption | with_reducible apply canon_boundary | with_reducible apply canon_State_setSar | with_reducible apply canon_storeResult | with_reducible apply canon_State_count | with_reducible apply canon_fire | with_reducible apply canon_regApply | with_reducible apply canon_angleFeed | with_reducible apply canon_foldl | with_reducible apply canon_ite | (fail_if_no_progress intros) | dsimp only | split | (fail_if_no_progress with_reducible refine canon_upd ?_ rfl rfl) | with_reducible rfl

theorem canon_sarEndEff (c : Ch) (sb : Bool) (uv : Nat) (s : State) (hc : Canonical s) : Canonical (sarEndEff c sb uv s) := by
  unfold sarEndEff
  repeat' first | with_reducible assumption | with_reducible apply canon_settle | with_reducible apply canon_injSample | with_reducible apply canon_regSample | with_reducible apply canon_foldl | with_reducible apply canon_ite | (fail_if_no_progress intros) | dsimp only | split | (fail_if_no_progress with_reducible refine canon_upd ?_ rfl rfl) | with_reducible rfl

theorem canon_commitRegEff (c : Ch) (sb : Bool) (s : State) (hc : Canonical s) : Canonical (commitRegEff c sb s) := by
  unfold commitRegEff
  repeat' first | with_reducible assumption | with_reducible apply canon_regApply | with_reducible apply canon_regStart | with_reducible apply canon_State_wr | with_reducible apply canon_foldl | with_reducible apply canon_ite | (fail_if_no_progress intros) | dsimp only | split | (fail_if_no_progress with_reducible refine canon_upd ?_ rfl rfl) | with_reducible rfl

theorem canon_commitInjEff (c : Ch) (sb : Bool) (s : State) (hc : Canonical s) : Canonical (commitInjEff c sb s) := by
  unfold commitInjEff
  repeat' first | with_reducible assumption | with_reducible apply canon_injApply | with_reducible apply canon_State_wr | with_reducible apply canon_foldl | with_reducible apply canon_ite | (fail_if_no_progress intros) | dsimp only | split | (fail_if_no_progress with_reducible refine canon_upd ?_ rfl rfl) | with_reducible rfl

theorem canon_runWriteEff (c : Ch) (sb : Bool) (was : Bool) (s : State) (hc : Canonical s) : Canonical (runWriteEff c sb was s) := by
  unfold runWriteEff
  repeat' first | with_reducible assumption | with_reducible apply canon_State_setSar | with_reducible apply canon_sarStart | with_reducible apply canon_sarStop | with_reducible apply canon_foldl | with_reducible apply canon_ite | (fail_if_no_progress intros) | dsimp only | split | (fail_if_no_progress with_reducible refine canon_upd ?_ rfl rfl) | with_reducible rfl

theorem canon_cmpChange (c : Ch) (j : Fin 16) (f : State → State) (s : State) (hf : ∀ a0, Canonical a0 → Canonical (f a0)) (hc : Canonical s) : Canonical (cmpChange c j f s) := by
  unfold cmpChange
  repeat' first | with_reducible assumption | with_reducible apply hf | with_reducible apply canon_protEdge | with_reducible apply canon_fire | with_reducible apply canon_ocAct | with_reducible apply canon_foldl | with_reducible apply canon_ite | (fail_if_no_progress intros) | dsimp only | split | (fail_if_no_progress with_reducible refine canon_upd ?_ rfl rfl) | with_reducible rfl

theorem canon_cmpRawEff (c : Ch) (j : Fin 16) (uv : Nat) (s : State) (hc : Canonical s) : Canonical (cmpRawEff c j uv s) := by
  unfold cmpRawEff
  repeat' first | with_reducible assumption | with_reducible apply canon_settle | with_reducible apply canon_cmpChange | with_reducible apply canon_rawTake | with_reducible apply canon_foldl | with_reducible apply canon_ite | (fail_if_no_progress intros) | dsimp only | split | (fail_if_no_progress with_reducible refine canon_upd ?_ rfl rfl) | with_reducible rfl

theorem canon_cmpSampleEff (c : Ch) (j : Fin 16) (uv : Nat) (s : State) (hc : Canonical s) : Canonical (cmpSampleEff c j uv s) := by
  unfold cmpSampleEff
  repeat' first | with_reducible assumption | with_reducible apply canon_rawTake | with_reducible apply canon_State_setCmp | with_reducible apply canon_foldl | with_reducible apply canon_ite | (fail_if_no_progress intros) | dsimp only | split | (fail_if_no_progress with_reducible refine canon_upd ?_ rfl rfl) | with_reducible rfl

theorem canon_filtTake (c : Ch) (j : Fin 16) (lvl : Bool) (s : State) (hc : Canonical s) : Canonical (filtTake c j lvl s) := by
  unfold filtTake
  repeat' first | with_reducible assumption | with_reducible apply canon_State_setCmp | with_reducible apply canon_State_wrBit | with_reducible apply canon_State_count | with_reducible apply canon_foldl | with_reducible apply canon_ite | (fail_if_no_progress intros) | dsimp only | split | (fail_if_no_progress with_reducible refine canon_upd ?_ rfl rfl) | with_reducible rfl

theorem canon_cmpFilterEff (c : Ch) (j : Fin 16) (s : State) (hc : Canonical s) : Canonical (cmpFilterEff c j s) := by
  unfold cmpFilterEff
  repeat' first | with_reducible assumption | with_reducible apply canon_settle | with_reducible apply canon_cmpChange | with_reducible apply canon_filtTake | with_reducible apply canon_foldl | with_reducible apply canon_ite | (fail_if_no_progress intros) | dsimp only | split | (fail_if_no_progress with_reducible refine canon_upd ?_ rfl rfl) | with_reducible rfl

theorem canon_thrCommitEff (c : Ch) (s : State) (hc : Canonical s) : Canonical (thrCommitEff c s) := by
  unfold thrCommitEff
  repeat' first | with_reducible assumption | with_reducible apply canon_settle | with_reducible apply canon_thrEvalAll | with_reducible apply canon_State_commitAll | with_reducible apply canon_foldl | with_reducible apply canon_ite | (fail_if_no_progress intros) | dsimp only | split | (fail_if_no_progress with_reducible refine canon_upd ?_ rfl rfl) | with_reducible rfl

theorem canon_windowSet (c : Ch) (j : Fin 16) (lag : Nat) (open_ : Bool) (s : State) (hc : Canonical s) : Canonical (windowSet c j lag open_ s) := by
  unfold windowSet
  repeat' first | with_reducible assumption | with_reducible apply canon_State_setCh | with_reducible apply canon_foldl | with_reducible apply canon_ite | (fail_if_no_progress intros) | dsimp only | split | (fail_if_no_progress with_reducible refine canon_upd ?_ rfl rfl) | with_reducible rfl

theorem canon_windowsTake (c : Ch) (s : State) (hc : Canonical s) : Canonical (windowsTake c s) := by
  unfold windowsTake
  repeat' first | with_reducible assumption | with_reducible apply canon_settle | with_reducible apply canon_cmpChange | with_reducible apply canon_State_wrBit | with_reducible apply canon_foldl | with_reducible apply canon_ite | (fail_if_no_progress intros) | dsimp only | split | (fail_if_no_progress with_reducible refine canon_upd ?_ rfl rfl) | with_reducible rfl

theorem canon_newPeriod (c : Ch) (x : Nat) (t : Nat) (lag : Nat) (s : State) (hc : Canonical s) : Canonical (newPeriod c x t lag s) := by
  unfold newPeriod
  repeat' first | with_reducible assumption | with_reducible apply canon_carrierFire | with_reducible apply canon_State_setPg | with_reducible apply canon_fireLag | with_reducible apply canon_State_setCh | with_reducible apply canon_thrEvalAll | with_reducible apply canon_cutEnd | with_reducible apply canon_foldl | with_reducible apply canon_ite | (fail_if_no_progress intros) | dsimp only | split | (fail_if_no_progress with_reducible refine canon_upd ?_ rfl rfl) | with_reducible rfl

theorem canon_periodStartEff (c : Ch) (s : State) (hc : Canonical s) : Canonical (periodStartEff c s) := by
  unfold periodStartEff
  repeat' first | with_reducible assumption | with_reducible apply canon_State_setPg | with_reducible apply canon_settle | with_reducible apply canon_newPeriod | with_reducible apply canon_foldl | with_reducible apply canon_ite | (fail_if_no_progress intros) | dsimp only | split | (fail_if_no_progress with_reducible refine canon_upd ?_ rfl rfl) | with_reducible rfl

theorem canon_setNow (c : Ch) (vals : List Nat) (s : State) (hc : Canonical s) : Canonical (setNow c vals s) := by
  unfold setNow
  repeat' first | with_reducible assumption | with_reducible apply canon_State_wr | with_reducible apply canon_foldl | with_reducible apply canon_ite | (fail_if_no_progress intros) | dsimp only | split | (fail_if_no_progress with_reducible refine canon_upd ?_ rfl rfl) | with_reducible rfl

theorem canon_rePattern (c : Ch) (s : State) (hc : Canonical s) : Canonical (rePattern c s) := by
  unfold rePattern
  repeat' first | with_reducible assumption | with_reducible apply canon_State_setPat | with_reducible apply canon_patFireWhile | with_reducible apply canon_foldl | with_reducible apply canon_ite | (fail_if_no_progress intros) | dsimp only | split | (fail_if_no_progress with_reducible refine canon_upd ?_ rfl rfl) | with_reducible rfl

theorem canon_applySet (c : Ch) (r : Reload) (vals : List Nat) (s : State) (hc : Canonical s) : Canonical (applySet c r vals s) := by
  unfold applySet
  repeat' first | with_reducible assumption | with_reducible apply canon_wrapLeave | with_reducible apply canon_State_countMod | with_reducible apply canon_setNow | with_reducible apply canon_rePattern | with_reducible apply canon_fireLag | with_reducible apply canon_State_setPg | with_reducible apply canon_carrierFire | with_reducible apply canon_foldl | with_reducible apply canon_ite | (fail_if_no_progress intros) | dsimp only | split | (fail_if_no_progress with_reducible refine canon_upd ?_ rfl rfl) | with_reducible rfl

theorem canon_reloadEff (c : Ch) (s : State) (hc : Canonical s) : Canonical (reloadEff c s) := by
  unfold reloadEff
  repeat' first | with_reducible assumption | with_reducible apply canon_missOne | with_reducible apply canon_State_setPg | with_reducible apply canon_State_wrB | with_reducible apply canon_settle | with_reducible apply canon_applySet | with_reducible apply canon_foldl | with_reducible apply canon_ite | (fail_if_no_progress intros) | dsimp only | split | (fail_if_no_progress with_reducible refine canon_upd ?_ rfl rfl) | with_reducible rfl

theorem canon_pgEdgeEff (c : Ch) (k : PairIx) (second : Bool) (s : State) (hc : Canonical s) : Canonical (pgEdgeEff c k second s) := by
  unfold pgEdgeEff
  repeat' first | with_reducible assumption | with_reducible apply canon_settle | with_reducible apply canon_carrierFire | with_reducible apply canon_foldl | with_reducible apply canon_ite | (fail_if_no_progress intros) | dsimp only | split | (fail_if_no_progress with_reducible refine canon_upd ?_ rfl rfl) | with_reducible rfl

theorem canon_patternEdgeEff (c : Ch) (k : PairIx) (s : State) (hc : Canonical s) : Canonical (patternEdgeEff c k s) := by
  unfold patternEdgeEff
  repeat' first | with_reducible assumption | with_reducible apply canon_settle | with_reducible apply canon_patFireWhile | with_reducible apply canon_foldl | with_reducible apply canon_ite | (fail_if_no_progress intros) | dsimp only | split | (fail_if_no_progress with_reducible refine canon_upd ?_ rfl rfl) | with_reducible rfl

theorem canon_ilkReleaseEff (c : Ch) (o : OutIx) (s : State) (hc : Canonical s) : Canonical (ilkReleaseEff c o s) := by
  unfold ilkReleaseEff
  repeat' first | with_reducible assumption | with_reducible apply canon_settle | with_reducible apply canon_rise4 | with_reducible apply canon_foldl | with_reducible apply canon_ite | (fail_if_no_progress intros) | dsimp only | split | (fail_if_no_progress with_reducible refine canon_upd ?_ rfl rfl) | with_reducible rfl

theorem canon_fltEff (c : Ch) (f : Fin 4) (asserted : Bool) (s : State) (hc : Canonical s) : Canonical (fltEff c f asserted s) := by
  unfold fltEff
  repeat' first | with_reducible assumption | with_reducible apply canon_State_setPg | with_reducible apply canon_settle | with_reducible apply canon_fltCut | with_reducible apply canon_foldl | with_reducible apply canon_ite | (fail_if_no_progress intros) | dsimp only | split | (fail_if_no_progress with_reducible refine canon_upd ?_ rfl rfl) | with_reducible rfl

theorem canon_haltEnd (c : Ch) (s : State) (hc : Canonical s) : Canonical (haltEnd c s) := by
  unfold haltEnd
  repeat' first | with_reducible assumption | with_reducible apply canon_channelHalt | with_reducible apply canon_foldl | with_reducible apply canon_ite | (fail_if_no_progress intros) | dsimp only | split | (fail_if_no_progress with_reducible refine canon_upd ?_ rfl rfl) | with_reducible rfl

theorem canon_dfbEff (c : Ch) (k : PairIx) (asserted : Bool) (s : State) (hc : Canonical s) : Canonical (dfbEff c k asserted s) := by
  unfold dfbEff
  repeat' first | with_reducible assumption | with_reducible apply canon_State_wrBit | with_reducible apply canon_settle | with_reducible apply canon_dfbAct | with_reducible apply canon_dfbRelease | with_reducible apply canon_foldl | with_reducible apply canon_ite | (fail_if_no_progress intros) | dsimp only | split | (fail_if_no_progress with_reducible refine canon_upd ?_ rfl rfl) | with_reducible rfl

theorem canon_enableSettleEff (c : Ch) (s : State) (hc : Canonical s) : Canonical (enableSettleEff c s) := by
  unfold enableSettleEff
  repeat' first | with_reducible assumption | with_reducible apply canon_State_setPg | with_reducible apply canon_settle | with_reducible apply canon_dfbAct | with_reducible apply canon_foldl | with_reducible apply canon_ite | (fail_if_no_progress intros) | dsimp only | split | (fail_if_no_progress with_reducible refine canon_upd ?_ rfl rfl) | with_reducible rfl

theorem canon_serviceEff (c : Ch) (s : State) (hc : Canonical s) : Canonical (serviceEff c s) := by
  unfold serviceEff
  repeat' first | with_reducible assumption | with_reducible apply canon_State_setPg | with_reducible apply canon_setGdi | with_reducible apply canon_foldl | with_reducible apply canon_ite | (fail_if_no_progress intros) | dsimp only | split | (fail_if_no_progress with_reducible refine canon_upd ?_ rfl rfl) | with_reducible rfl

theorem canon_recoveryExpireEff (c : Ch) (s : State) (hc : Canonical s) : Canonical (recoveryExpireEff c s) := by
  unfold recoveryExpireEff
  repeat' first | with_reducible assumption | with_reducible apply canon_leaveRecovery | with_reducible apply canon_State_setPg | with_reducible apply canon_foldl | with_reducible apply canon_ite | (fail_if_no_progress intros) | dsimp only | split | (fail_if_no_progress with_reducible refine canon_upd ?_ rfl rfl) | with_reducible rfl

theorem canon_squallDoneEff (c : Ch) (s : State) (hc : Canonical s) : Canonical (squallDoneEff c s) := by
  unfold squallDoneEff
  repeat' first | with_reducible assumption | with_reducible apply canon_settle | with_reducible apply canon_squallFinish | with_reducible apply canon_foldl | with_reducible apply canon_ite | (fail_if_no_progress intros) | dsimp only | split | (fail_if_no_progress with_reducible refine canon_upd ?_ rfl rfl) | with_reducible rfl

theorem canon_hbRefreshEff (c : Ch) (s : State) (hc : Canonical s) : Canonical (hbRefreshEff c s) := by
  unfold hbRefreshEff
  repeat' first | with_reducible assumption | with_reducible apply canon_settle | with_reducible apply canon_State_countMod | with_reducible apply canon_State_setPg | with_reducible apply canon_foldl | with_reducible apply canon_ite | (fail_if_no_progress intros) | dsimp only | split | (fail_if_no_progress with_reducible refine canon_upd ?_ rfl rfl) | with_reducible rfl

theorem canon_hbootEff (c : Ch) (low : Bool) (s : State) (hc : Canonical s) : Canonical (hbootEff c low s) := by
  unfold hbootEff
  repeat' first | with_reducible assumption | with_reducible apply canon_State_wr | with_reducible apply canon_fire | with_reducible apply canon_State_count | with_reducible apply canon_settle | with_reducible apply canon_State_setPg | with_reducible apply canon_foldl | with_reducible apply canon_ite | (fail_if_no_progress intros) | dsimp only | split | (fail_if_no_progress with_reducible refine canon_upd ?_ rfl rfl) | with_reducible rfl

theorem canon_vdrvUvEff (s : State) (hc : Canonical s) : Canonical (vdrvUvEff s) := by
  unfold vdrvUvEff
  repeat' first | with_reducible assumption | with_reducible apply canon_State_eachCh | with_reducible apply canon_settle | with_reducible apply canon_State_setPg | with_reducible apply canon_State_wr | with_reducible apply canon_foldl | with_reducible apply canon_ite | (fail_if_no_progress intros) | dsimp only | split | (fail_if_no_progress with_reducible refine canon_upd ?_ rfl rfl) | with_reducible rfl

theorem canon_vdrvReturnEff (s : State) (hc : Canonical s) : Canonical (vdrvReturnEff s) := by
  unfold vdrvReturnEff
  repeat' first | with_reducible assumption | with_reducible apply canon_State_eachCh | with_reducible apply canon_settle | with_reducible apply canon_State_wr | with_reducible apply canon_foldl | with_reducible apply canon_ite | (fail_if_no_progress intros) | dsimp only | split | (fail_if_no_progress with_reducible refine canon_upd ?_ rfl rfl) | with_reducible rfl

theorem canon_State_setMf (s : State) (c : Ch) (f : MfSt → MfSt) (hc : Canonical s) : Canonical (State.setMf s c f) := by
  unfold State.setMf
  repeat' first | with_reducible assumption | with_reducible apply canon_State_setCh | with_reducible apply canon_foldl | with_reducible apply canon_ite | (fail_if_no_progress intros) | dsimp only | split | (fail_if_no_progress with_reducible refine canon_upd ?_ rfl rfl) | with_reducible rfl

theorem canon_setMfState (c : Ch) (v : Nat) (s : State) (hc : Canonical s) : Canonical (setMfState c v s) := by
  unfold setMfState
  repeat' first | with_reducible assumption | with_reducible apply canon_State_wr | with_reducible apply canon_foldl | with_reducible apply canon_ite | (fail_if_no_progress intros) | dsimp only | split | (fail_if_no_progress with_reducible refine canon_upd ?_ rfl rfl) | with_reducible rfl

theorem canon_latchRec (c : Ch) (timer : Bool) (closed : Bool) (cause : Nat) (purpose : MPurpose) (s : State) (hc : Canonical s) : Canonical (latchRec c timer closed cause purpose s) := by
  unfold latchRec
  repeat' first | with_reducible assumption | with_reducible apply canon_State_count | with_reducible apply canon_State_setMf | with_reducible apply canon_foldl | with_reducible apply canon_ite | (fail_if_no_progress intros) | dsimp only | split | (fail_if_no_progress with_reducible refine canon_upd ?_ rfl rfl) | with_reducible rfl

theorem canon_meterMark (c : Ch) (timer : Bool) (s : State) (hc : Canonical s) : Canonical (meterMark c timer s) := by
  unfold meterMark
  repeat' first | with_reducible assumption | with_reducible apply canon_latchRec | with_reducible apply canon_State_setMf | with_reducible apply canon_foldl | with_reducible apply canon_ite | (fail_if_no_progress intros) | dsimp only | split | (fail_if_no_progress with_reducible refine canon_upd ?_ rfl rfl) | with_reducible rfl

theorem canon_firstRecord (c : Ch) (gap : Bool) (start : Nat) (s : State) (hc : Canonical s) : Canonical (firstRecord c gap start s) := by
  unfold firstRecord
  repeat' first | with_reducible assumption | with_reducible apply canon_State_count | with_reducible apply canon_State_setMf | with_reducible apply canon_foldl | with_reducible apply canon_ite | (fail_if_no_progress intros) | dsimp only | split | (fail_if_no_progress with_reducible refine canon_upd ?_ rfl rfl) | with_reducible rfl

theorem canon_mfClose (c : Ch) (cause : Nat) (next : Nat) (s : State) (hc : Canonical s) : Canonical (mfClose c cause next s) := by
  unfold mfClose
  repeat' first | with_reducible assumption | with_reducible apply canon_latchRec | with_reducible apply canon_State_setMf | with_reducible apply canon_setMfState | with_reducible apply canon_foldl | with_reducible apply canon_ite | (fail_if_no_progress intros) | dsimp only | split | (fail_if_no_progress with_reducible refine canon_upd ?_ rfl rfl) | with_reducible rfl

theorem canon_mfSuspend (c : Ch) (s : State) (hc : Canonical s) : Canonical (mfSuspend c s) := by
  unfold mfSuspend
  repeat' first | with_reducible assumption | with_reducible apply canon_State_setMf | with_reducible apply canon_setMfState | with_reducible apply canon_foldl | with_reducible apply canon_ite | (fail_if_no_progress intros) | dsimp only | split | (fail_if_no_progress with_reducible refine canon_upd ?_ rfl rfl) | with_reducible rfl

theorem canon_mfResume (c : Ch) (s : State) (hc : Canonical s) : Canonical (mfResume c s) := by
  unfold mfResume
  repeat' first | with_reducible assumption | with_reducible apply canon_firstRecord | with_reducible apply canon_setMfState | with_reducible apply canon_foldl | with_reducible apply canon_ite | (fail_if_no_progress intros) | dsimp only | split | (fail_if_no_progress with_reducible refine canon_upd ?_ rfl rfl) | with_reducible rfl

theorem canon_mfStart (c : Ch) (s : State) (hc : Canonical s) : Canonical (mfStart c s) := by
  unfold mfStart
  repeat' first | with_reducible assumption | with_reducible apply canon_setMfState | with_reducible apply canon_State_wr | with_reducible apply canon_firstRecord | with_reducible apply canon_foldl | with_reducible apply canon_ite | (fail_if_no_progress intros) | dsimp only | split | (fail_if_no_progress with_reducible refine canon_upd ?_ rfl rfl) | with_reducible rfl

theorem canon_mfTryStart (c : Ch) (s : State) (hc : Canonical s) : Canonical (mfTryStart c s) := by
  unfold mfTryStart
  repeat' first | with_reducible assumption | with_reducible apply canon_mfStart | with_reducible apply canon_State_setMf | with_reducible apply canon_foldl | with_reducible apply canon_ite | (fail_if_no_progress intros) | dsimp only | split | (fail_if_no_progress with_reducible refine canon_upd ?_ rfl rfl) | with_reducible rfl

theorem canon_State_drawS (s : State) (w : Nat) (hc : Canonical s) : Canonical (State.drawS s w).2 := by
  unfold State.drawS
  repeat' first | with_reducible assumption | with_reducible apply canon_State_drew | with_reducible apply canon_foldl | with_reducible apply canon_ite | (fail_if_no_progress intros) | dsimp only | split | (fail_if_no_progress with_reducible refine canon_upd ?_ rfl rfl) | with_reducible rfl

theorem canon_calibrate (c : Ch) (k : Nat) (raw : BitVec 24) (s : State) (hc : Canonical s) : Canonical (calibrate c k raw s).2 := by
  unfold calibrate
  repeat' first | with_reducible assumption | with_reducible apply canon_State_drawS | with_reducible apply canon_State_wr | with_reducible apply canon_foldl | with_reducible apply canon_ite | (fail_if_no_progress intros) | dsimp only | split | (fail_if_no_progress with_reducible refine canon_upd ?_ rfl rfl) | with_reducible rfl

theorem canon_calibrateAll (c : Ch) (x1 : List (Nat × BitVec 24)) (x2 : State) (hc : Canonical x2) : Canonical (calibrateAll c x1 x2).2 := by
  induction x1 generalizing x2 with
  | nil => unfold calibrateAll; repeat' first | with_reducible assumption | with_reducible apply canon_calibrate | with_reducible apply canon_foldl | with_reducible apply canon_ite | (fail_if_no_progress intros) | dsimp only | split | (fail_if_no_progress with_reducible refine canon_upd ?_ rfl rfl) | with_reducible rfl
  | cons a l ih =>
    unfold calibrateAll
    repeat' first | with_reducible assumption | with_reducible apply ih | with_reducible apply canon_calibrate | with_reducible apply canon_foldl | with_reducible apply canon_ite | (fail_if_no_progress intros) | dsimp only | split | (fail_if_no_progress with_reducible refine canon_upd ?_ rfl rfl) | with_reducible rfl

theorem canon_quadNext (c : Ch) (y : List Int) (s : State) (hc : Canonical s) : Canonical (quadNext c y s).2 := by
  unfold quadNext
  repeat' first | with_reducible assumption | with_reducible apply canon_State_setMf | with_reducible apply canon_foldl | with_reducible apply canon_ite | (fail_if_no_progress intros) | dsimp only | split | (fail_if_no_progress with_reducible refine canon_upd ?_ rfl rfl) | with_reducible rfl

theorem canon_pfOf (p : Int) (a : Int) (s : State) (hc : Canonical s) : Canonical (pfOf p a s).2 := by
  unfold pfOf
  repeat' first | with_reducible assumption | with_reducible apply canon_State_drew | with_reducible apply canon_foldl | with_reducible apply canon_ite | (fail_if_no_progress intros) | dsimp only | split | (fail_if_no_progress with_reducible refine canon_upd ?_ rfl rfl) | with_reducible rfl

theorem canon_writePf (c : Ch) (f : Fld) (ep : List Int) (es : List Int) (s : State) (hc : Canonical s) : Canonical (writePf c f ep es s) := by
  unfold writePf
  repeat' first | with_reducible assumption | with_reducible apply canon_pfOf | with_reducible apply canon_State_wr | with_reducible apply canon_foldl | with_reducible apply canon_ite | (fail_if_no_progress intros) | dsimp only | split | (fail_if_no_progress with_reducible refine canon_upd ?_ rfl rfl) | with_reducible rfl

theorem canon_writeAngle (c : Ch) (f : Fld) (i : Nat) (p : Option Nat) (q : Option Nat) (s : State) (hc : Canonical s) : Canonical (writeAngle c f i p q s) := by
  unfold writeAngle
  repeat' first | with_reducible assumption | with_reducible apply canon_State_wr | with_reducible apply canon_State_drew | with_reducible apply canon_foldl | with_reducible apply canon_ite | (fail_if_no_progress intros) | dsimp only | split | (fail_if_no_progress with_reducible refine canon_upd ?_ rfl rfl) | with_reducible rfl

theorem canon_writeAngles (c : Ch) (len : ℚ) (f : Nat) (wave : List (List Int)) (s : State) (hc : Canonical s) : Canonical (writeAngles c len f wave s) := by
  unfold writeAngles
  repeat' first | with_reducible assumption | with_reducible apply canon_writeAngle | with_reducible apply canon_foldl | with_reducible apply canon_ite | (fail_if_no_progress intros) | dsimp only | split | (fail_if_no_progress with_reducible refine canon_upd ?_ rfl rfl) | with_reducible rfl

theorem canon_close150 (c : Ch) (s : State) (hc : Canonical s) : Canonical (close150 c s) := by
  unfold close150
  repeat' first | with_reducible assumption | with_reducible apply canon_State_wr | with_reducible apply canon_State_setMf | with_reducible apply canon_State_wrBit | with_reducible apply canon_foldl | with_reducible apply canon_ite | (fail_if_no_progress intros) | dsimp only | split | (fail_if_no_progress with_reducible refine canon_upd ?_ rfl rfl) | with_reducible rfl

theorem canon_closeWindow (c : Ch) (s : State) (hc : Canonical s) : Canonical (closeWindow c s) := by
  unfold closeWindow
  repeat' first | with_reducible assumption | with_reducible apply canon_State_wr | with_reducible apply canon_writePf | with_reducible apply canon_State_wrBit | with_reducible apply canon_State_setMf | with_reducible apply canon_close150 | with_reducible apply canon_foldl | with_reducible apply canon_ite | (fail_if_no_progress intros) | dsimp only | split | (fail_if_no_progress with_reducible refine canon_upd ?_ rfl rfl) | with_reducible rfl

theorem canon_cycleEnd (c : Ch) (len : ℚ) (f : Nat) (endTime : Nat) (s : State) (hc : Canonical s) : Canonical (cycleEnd c len f endTime s) := by
  unfold cycleEnd
  repeat' first | with_reducible assumption | with_reducible apply canon_State_wr | with_reducible apply canon_State_wrS | with_reducible apply canon_writeAngles | with_reducible apply canon_writePf | with_reducible apply canon_State_countMod | with_reducible apply canon_State_wrB | with_reducible apply canon_State_setMf | with_reducible apply canon_State_count | with_reducible apply canon_closeWindow | with_reducible apply canon_foldl | with_reducible apply canon_ite | (fail_if_no_progress intros) | dsimp only | split | (fail_if_no_progress with_reducible refine canon_upd ?_ rfl rfl) | with_reducible rfl

theorem canon_crossing (c : Ch) (t : ℚ) (s : State) (hc : Canonical s) : Canonical (crossing c t s) := by
  unfold crossing
  repeat' first | with_reducible assumption | with_reducible apply canon_State_setMf | with_reducible apply canon_State_wr | with_reducible apply canon_cycleEnd | with_reducible apply canon_meterMark | with_reducible apply canon_foldl | with_reducible apply canon_ite | (fail_if_no_progress intros) | dsimp only | split | (fail_if_no_progress with_reducible refine canon_upd ?_ rfl rfl) | with_reducible rfl

theorem canon_detectCross (c : Ch) (s : State) (hc : Canonical s) : Canonical (detectCross c s) := by
  unfold detectCross
  repeat' first | with_reducible assumption | with_reducible apply canon_State_drawS | with_reducible apply canon_State_setMf | with_reducible apply canon_crossing | with_reducible apply canon_foldl | with_reducible apply canon_ite | (fail_if_no_progress intros) | dsimp only | split | (fail_if_no_progress with_reducible refine canon_upd ?_ rfl rfl) | with_reducible rfl

theorem canon_sampleChannel (c : Ch) (raw : List (BitVec 24)) (s : State) (hc : Canonical s) : Canonical (sampleChannel c raw s) := by
  unfold sampleChannel
  repeat' first | with_reducible assumption | with_reducible apply canon_calibrateAll | with_reducible apply canon_quadNext | with_reducible apply canon_State_setMf | with_reducible apply canon_latchRec | with_reducible apply canon_detectCross | with_reducible apply canon_cycleEnd | with_reducible apply canon_foldl | with_reducible apply canon_ite | (fail_if_no_progress intros) | dsimp only | split | (fail_if_no_progress with_reducible refine canon_upd ?_ rfl rfl) | with_reducible rfl

theorem canon_lullMeasEnd (c : Ch) (s : State) (hc : Canonical s) : Canonical (lullMeasEnd c s) := by
  unfold lullMeasEnd
  repeat' first | with_reducible assumption | with_reducible apply canon_State_setMf | with_reducible apply canon_mfClose | with_reducible apply canon_foldl | with_reducible apply canon_ite | (fail_if_no_progress intros) | dsimp only | split | (fail_if_no_progress with_reducible refine canon_upd ?_ rfl rfl) | with_reducible rfl

theorem canon_meterSampleEff (raw : List (List (BitVec 24))) (s : State) (hc : Canonical s) : Canonical (meterSampleEff raw s) := by
  unfold meterSampleEff
  repeat' first | with_reducible assumption | with_reducible apply canon_State_eachCh | with_reducible apply canon_lullMeasEnd | with_reducible apply canon_sampleChannel | with_reducible apply canon_foldl | with_reducible apply canon_ite | (fail_if_no_progress intros) | dsimp only | split | (fail_if_no_progress with_reducible refine canon_upd ?_ rfl rfl) | with_reducible rfl

theorem canon_noZcEff (c : Ch) (s : State) (hc : Canonical s) : Canonical (noZcEff c s) := by
  unfold noZcEff
  repeat' first | with_reducible assumption | with_reducible apply canon_State_setMf | with_reducible apply canon_State_wr | with_reducible apply canon_foldl | with_reducible apply canon_ite | (fail_if_no_progress intros) | dsimp only | split | (fail_if_no_progress with_reducible refine canon_upd ?_ rfl rfl) | with_reducible rfl

theorem canon_timerMarkEff (c : Ch) (s : State) (hc : Canonical s) : Canonical (timerMarkEff c s) := by
  unfold timerMarkEff
  repeat' first | with_reducible assumption | with_reducible apply canon_meterMark | with_reducible apply canon_foldl | with_reducible apply canon_ite | (fail_if_no_progress intros) | dsimp only | split | (fail_if_no_progress with_reducible refine canon_upd ?_ rfl rfl) | with_reducible rfl

theorem canon_recPurpose (c : Ch) (r : MRec) (s : State) (hc : Canonical s) : Canonical (recPurpose c r s) := by
  unfold recPurpose
  repeat' first | with_reducible assumption | with_reducible apply canon_completeW | with_reducible apply canon_State_setMf | with_reducible apply canon_State_wr | with_reducible apply canon_foldl | with_reducible apply canon_ite | (fail_if_no_progress intros) | dsimp only | split | (fail_if_no_progress with_reducible refine canon_upd ?_ rfl rfl) | with_reducible rfl

theorem canon_meterCommitEff (c : Ch) (s : State) (hc : Canonical s) : Canonical (meterCommitEff c s) := by
  unfold meterCommitEff
  repeat' first | with_reducible assumption | with_reducible apply canon_State_setMf | with_reducible apply canon_State_wr | with_reducible apply canon_State_raise | with_reducible apply canon_recPurpose | with_reducible apply canon_foldl | with_reducible apply canon_ite | (fail_if_no_progress intros) | dsimp only | split | (fail_if_no_progress with_reducible refine canon_upd ?_ rfl rfl) | with_reducible rfl

theorem canon_aggregate10Ch (c : Ch) (s : State) (hc : Canonical s) : Canonical (aggregate10Ch c s) := by
  unfold aggregate10Ch
  repeat' first | with_reducible assumption | with_reducible apply canon_State_wr | with_reducible apply canon_State_wrBit | with_reducible apply canon_State_drew | with_reducible apply canon_close150 | with_reducible apply canon_State_setMf | with_reducible apply canon_foldl | with_reducible apply canon_ite | (fail_if_no_progress intros) | dsimp only | split | (fail_if_no_progress with_reducible refine canon_upd ?_ rfl rfl) | with_reducible rfl

theorem canon_aggregate10Eff (s : State) (hc : Canonical s) : Canonical (aggregate10Eff s) := by
  unfold aggregate10Eff
  repeat' first | with_reducible assumption | with_reducible apply canon_State_eachCh | with_reducible apply canon_aggregate10Ch | with_reducible apply canon_foldl | with_reducible apply canon_ite | (fail_if_no_progress intros) | dsimp only | split | (fail_if_no_progress with_reducible refine canon_upd ?_ rfl rfl) | with_reducible rfl

theorem canon_frequency10Ch (c : Ch) (s : State) (hc : Canonical s) : Canonical (frequency10Ch c s) := by
  unfold frequency10Ch
  repeat' first | with_reducible assumption | with_reducible apply canon_State_wr | with_reducible apply canon_State_drew | with_reducible apply canon_State_setMf | with_reducible apply canon_foldl | with_reducible apply canon_ite | (fail_if_no_progress intros) | dsimp only | split | (fail_if_no_progress with_reducible refine canon_upd ?_ rfl rfl) | with_reducible rfl

theorem canon_frequency10Eff (s : State) (hc : Canonical s) : Canonical (frequency10Eff s) := by
  unfold frequency10Eff
  repeat' first | with_reducible assumption | with_reducible apply canon_State_eachCh | with_reducible apply canon_frequency10Ch | with_reducible apply canon_foldl | with_reducible apply canon_ite | (fail_if_no_progress intros) | dsimp only | split | (fail_if_no_progress with_reducible refine canon_upd ?_ rfl rfl) | with_reducible rfl

theorem canon_meterSnap (c : Ch) (lag : Nat) (s : State) (hc : Canonical s) : Canonical (meterSnap c lag s) := by
  unfold meterSnap
  repeat' first | with_reducible assumption | with_reducible apply canon_State_wr | with_reducible apply canon_State_wrB | with_reducible apply canon_foldl | with_reducible apply canon_ite | (fail_if_no_progress intros) | dsimp only | split | (fail_if_no_progress with_reducible refine canon_upd ?_ rfl rfl) | with_reducible rfl

theorem canon_meterEnWritten (c : Ch) (was : Bool) (s : State) (hc : Canonical s) : Canonical (meterEnWritten c was s) := by
  unfold meterEnWritten
  repeat' first | with_reducible assumption | with_reducible apply canon_mfTryStart | with_reducible apply canon_State_setMf | with_reducible apply canon_setMfState | with_reducible apply canon_foldl | with_reducible apply canon_ite | (fail_if_no_progress intros) | dsimp only | split | (fail_if_no_progress with_reducible refine canon_upd ?_ rfl rfl) | with_reducible rfl

theorem canon_mfBrownout (c : Ch) (s : State) (hc : Canonical s) : Canonical (mfBrownout c s) := by
  unfold mfBrownout
  repeat' first | with_reducible assumption | with_reducible apply canon_latchRec | with_reducible apply canon_State_setMf | with_reducible apply canon_setMfState | with_reducible apply canon_foldl | with_reducible apply canon_ite | (fail_if_no_progress intros) | dsimp only | split | (fail_if_no_progress with_reducible refine canon_upd ?_ rfl rfl) | with_reducible rfl

theorem canon_billStoredEff (c : Ch) (s : State) (hc : Canonical s) : Canonical (billStoredEff c s) := by
  unfold billStoredEff
  repeat' first | with_reducible assumption | with_reducible apply canon_State_setMf | with_reducible apply canon_State_drew | with_reducible apply canon_completeW | with_reducible apply canon_State_wr | with_reducible apply canon_foldl | with_reducible apply canon_ite | (fail_if_no_progress intros) | dsimp only | split | (fail_if_no_progress with_reducible refine canon_upd ?_ rfl rfl) | with_reducible rfl

theorem canon_startCommits (c : Ch) (s : State) (hc : Canonical s) : Canonical (startCommits c s) := by
  unfold startCommits
  repeat' first | with_reducible assumption | with_reducible apply canon_esApply | with_reducible apply canon_fwApply | with_reducible apply canon_State_commitAll | with_reducible apply canon_coefApply | with_reducible apply canon_progApply | with_reducible apply canon_hostApply | with_reducible apply canon_State_wr | with_reducible apply canon_setNow | with_reducible apply canon_foldl | with_reducible apply canon_ite | (fail_if_no_progress intros) | dsimp only | split | (fail_if_no_progress with_reducible refine canon_upd ?_ rfl rfl) | with_reducible rfl

theorem canon_startAt (c : Ch) (s : State) (hc : Canonical s) : Canonical (startAt c s) := by
  unfold startAt
  repeat' first | with_reducible assumption | with_reducible apply canon_setAtState | with_reducible apply canon_State_wr | with_reducible apply canon_State_setAt | with_reducible apply canon_foldl | with_reducible apply canon_ite | (fail_if_no_progress intros) | dsimp only | split | (fail_if_no_progress with_reducible refine canon_upd ?_ rfl rfl) | with_reducible rfl

theorem canon_startCe (c : Ch) (s : State) (hc : Canonical s) : Canonical (startCe c s) := by
  unfold startCe
  repeat' first | with_reducible assumption | with_reducible apply canon_ceStoreVars | with_reducible apply canon_State_setCh | with_reducible apply canon_State_wr | with_reducible apply canon_foldl | with_reducible apply canon_ite | (fail_if_no_progress intros) | dsimp only | split | (fail_if_no_progress with_reducible refine canon_upd ?_ rfl rfl) | with_reducible rfl

theorem canon_startWindows (c : Ch) (s : State) (hc : Canonical s) : Canonical (startWindows c s) := by
  unfold startWindows
  repeat' first | with_reducible assumption | with_reducible apply canon_cmpChange | with_reducible apply canon_State_wrBit | with_reducible apply canon_foldl | with_reducible apply canon_ite | (fail_if_no_progress intros) | dsimp only | split | (fail_if_no_progress with_reducible refine canon_upd ?_ rfl rfl) | with_reducible rfl

theorem canon_startPg (c : Ch) (s : State) (hc : Canonical s) : Canonical (startPg c s) := by
  unfold startPg
  repeat' first | with_reducible assumption | with_reducible apply canon_pgQuiet | with_reducible apply canon_State_wr | with_reducible apply canon_State_setPg | with_reducible apply canon_State_setCh | with_reducible apply canon_startPattern | with_reducible apply canon_carrierFire | with_reducible apply canon_newPeriod | with_reducible apply canon_foldl | with_reducible apply canon_ite | (fail_if_no_progress intros) | dsimp only | split | (fail_if_no_progress with_reducible refine canon_upd ?_ rfl rfl) | with_reducible rfl

theorem canon_startCuts (c : Ch) (s : State) (hc : Canonical s) : Canonical (startCuts c s) := by
  unfold startCuts
  repeat' first | with_reducible assumption | with_reducible apply canon_fltCut | with_reducible apply canon_cmpCut | with_reducible apply canon_foldl | with_reducible apply canon_ite | (fail_if_no_progress intros) | dsimp only | split | (fail_if_no_progress with_reducible refine canon_upd ?_ rfl rfl) | with_reducible rfl

theorem canon_channelGo (c : Ch) (late : Bool) (s : State) (hc : Canonical s) : Canonical (channelGo c late s) := by
  unfold channelGo
  repeat' first | with_reducible assumption | with_reducible apply canon_startAt | with_reducible apply canon_startCommits | with_reducible apply canon_State_wr | with_reducible apply canon_thrEvalAll | with_reducible apply canon_startPg | with_reducible apply canon_startCe | with_reducible apply canon_gdiStart | with_reducible apply canon_startCuts | with_reducible apply canon_startWindows | with_reducible apply canon_foldl | with_reducible apply canon_ite | (fail_if_no_progress intros) | dsimp only | split | (fail_if_no_progress with_reducible refine canon_upd ?_ rfl rfl) | with_reducible rfl

theorem canon_startAccepted (c : Ch) (w : Waiter) (s : State) (hc : Canonical s) : Canonical (startAccepted c w s) := by
  unfold startAccepted
  repeat' first | with_reducible assumption | with_reducible apply canon_State_setCh | with_reducible apply canon_channelGo | with_reducible apply canon_completeW | with_reducible apply canon_settle | with_reducible apply canon_foldl | with_reducible apply canon_ite | (fail_if_no_progress intros) | dsimp only | split | (fail_if_no_progress with_reducible refine canon_upd ?_ rfl rfl) | with_reducible rfl

theorem canon_startTry (c : Ch) (w : Waiter) (s : State) (hc : Canonical s) : Canonical (startTry c w s) := by
  unfold startTry
  repeat' first | with_reducible assumption | with_reducible apply canon_startAccepted | with_reducible apply canon_completeW | with_reducible apply canon_foldl | with_reducible apply canon_ite | (fail_if_no_progress intros) | dsimp only | split | (fail_if_no_progress with_reducible refine canon_upd ?_ rfl rfl) | with_reducible rfl

theorem canon_startCommand (c : Ch) (w : Waiter) (s : State) (hc : Canonical s) : Canonical (startCommand c w s) := by
  unfold startCommand
  repeat' first | with_reducible assumption | with_reducible apply canon_State_setCh | with_reducible apply canon_startTry | with_reducible apply canon_foldl | with_reducible apply canon_ite | (fail_if_no_progress intros) | dsimp only | split | (fail_if_no_progress with_reducible refine canon_upd ?_ rfl rfl) | with_reducible rfl

theorem canon_channelStartEff (c : Ch) (s : State) (hc : Canonical s) : Canonical (channelStartEff c s) := by
  unfold channelStartEff
  repeat' first | with_reducible assumption | with_reducible apply canon_State_setCh | with_reducible apply canon_channelGo | with_reducible apply canon_sendOrder | with_reducible apply canon_completeW | with_reducible apply canon_settle | with_reducible apply canon_foldl | with_reducible apply canon_ite | (fail_if_no_progress intros) | dsimp only | split | (fail_if_no_progress with_reducible refine canon_upd ?_ rfl rfl) | with_reducible rfl

theorem canon_settleEndEff (c : Ch) (s : State) (hc : Canonical s) : Canonical (settleEndEff c s) := by
  unfold settleEndEff
  repeat' first | with_reducible assumption | with_reducible apply canon_enableSettleEff | with_reducible apply canon_State_setCh | with_reducible apply canon_State_setSc | with_reducible apply canon_startTry | with_reducible apply canon_foldl | with_reducible apply canon_ite | (fail_if_no_progress intros) | dsimp only | split | (fail_if_no_progress with_reducible refine canon_upd ?_ rfl rfl) | with_reducible rfl

theorem canon_stopCommand (c : Ch) (w : Waiter) (s : State) (hc : Canonical s) : Canonical (stopCommand c w s) := by
  unfold stopCommand
  repeat' first | with_reducible assumption | with_reducible apply canon_completeW | with_reducible apply canon_settle | with_reducible apply canon_squallRequest | with_reducible apply canon_State_setCh | with_reducible apply canon_foldl | with_reducible apply canon_ite | (fail_if_no_progress intros) | dsimp only | split | (fail_if_no_progress with_reducible refine canon_upd ?_ rfl rfl) | with_reducible rfl

theorem canon_State_setGrid (s : State) (c : Ch) (f : GridSt → GridSt) (hc : Canonical s) : Canonical (State.setGrid s c f) := by
  unfold State.setGrid
  repeat' first | with_reducible assumption | with_reducible apply canon_State_setCh | with_reducible apply canon_foldl | with_reducible apply canon_ite | (fail_if_no_progress intros) | dsimp only | split | (fail_if_no_progress with_reducible refine canon_upd ?_ rfl rfl) | with_reducible rfl

theorem canon_setGridState (c : Ch) (v : Nat) (s : State) (hc : Canonical s) : Canonical (setGridState c v s) := by
  unfold setGridState
  repeat' first | with_reducible assumption | with_reducible apply canon_State_wr | with_reducible apply canon_foldl | with_reducible apply canon_ite | (fail_if_no_progress intros) | dsimp only | split | (fail_if_no_progress with_reducible refine canon_upd ?_ rfl rfl) | with_reducible rfl

theorem canon_perUnit (num : Nat) (den : Nat) (s : State) (hc : Canonical s) : Canonical (perUnit num den s).2 := by
  unfold perUnit
  repeat' first | with_reducible assumption | with_reducible apply canon_State_drew | with_reducible apply canon_foldl | with_reducible apply canon_ite | (fail_if_no_progress intros) | dsimp only | split | (fail_if_no_progress with_reducible refine canon_upd ?_ rfl rfl) | with_reducible rfl

theorem canon_gridVoltages (c : Ch) (s : State) (hc : Canonical s) : Canonical (gridVoltages c s).2 := by
  unfold gridVoltages
  repeat' first | with_reducible assumption | with_reducible apply canon_perUnit | with_reducible apply canon_foldl | with_reducible apply canon_ite | (fail_if_no_progress intros) | dsimp only | split | (fail_if_no_progress with_reducible refine canon_upd ?_ rfl rfl) | with_reducible rfl

theorem canon_writeCurrents (c : Ch) (id : Int) (iq : Int) (s : State) (hc : Canonical s) : Canonical (writeCurrents c id iq s) := by
  unfold writeCurrents
  repeat' first | with_reducible assumption | with_reducible apply canon_State_wrS | with_reducible apply canon_commitHostEff | with_reducible apply canon_foldl | with_reducible apply canon_ite | (fail_if_no_progress intros) | dsimp only | split | (fail_if_no_progress with_reducible refine canon_upd ?_ rfl rfl) | with_reducible rfl

theorem canon_droopRef (c : Ch) (f : Nat) (s : State) (hc : Canonical s) : Canonical (droopRef c f s) := by
  unfold droopRef
  repeat' first | with_reducible assumption | with_reducible apply canon_State_setGrid | with_reducible apply canon_foldl | with_reducible apply canon_ite | (fail_if_no_progress intros) | dsimp only | split | (fail_if_no_progress with_reducible refine canon_upd ?_ rfl rfl) | with_reducible rfl

theorem canon_enterRamp (c : Ch) (s : State) (hc : Canonical s) : Canonical (enterRamp c s) := by
  unfold enterRamp
  repeat' first | with_reducible assumption | with_reducible apply canon_State_wr | with_reducible apply canon_setGridState | with_reducible apply canon_State_setGrid | with_reducible apply canon_foldl | with_reducible apply canon_ite | (fail_if_no_progress intros) | dsimp only | split | (fail_if_no_progress with_reducible refine canon_upd ?_ rfl rfl) | with_reducible rfl

theorem canon_enterWait (c : Ch) (cause : Nat) (s : State) (hc : Canonical s) : Canonical (enterWait c cause s) := by
  unfold enterWait
  repeat' first | with_reducible assumption | with_reducible apply canon_State_wr | with_reducible apply canon_setGridState | with_reducible apply canon_writeCurrents | with_reducible apply canon_State_setGrid | with_reducible apply canon_foldl | with_reducible apply canon_ite | (fail_if_no_progress intros) | dsimp only | split | (fail_if_no_progress with_reducible refine canon_upd ?_ rfl rfl) | with_reducible rfl

theorem canon_reconFail (ms : List Ch) (s : State) (hc : Canonical s) : Canonical (reconFail ms s) := by
  unfold reconFail
  repeat' first | with_reducible assumption | with_reducible apply canon_enterWait | with_reducible apply canon_State_setGrid | with_reducible apply canon_State_count | with_reducible apply canon_foldl | with_reducible apply canon_ite | (fail_if_no_progress intros) | dsimp only | split | (fail_if_no_progress with_reducible refine canon_upd ?_ rfl rfl) | with_reducible rfl

theorem canon_unstart (started : List Ch) (s : State) (hc : Canonical s) : Canonical (unstart started s) := by
  unfold unstart
  repeat' first | with_reducible assumption | with_reducible apply canon_State_setCh | with_reducible apply canon_sendOrder | with_reducible apply canon_settle | with_reducible apply canon_squallRequest | with_reducible apply canon_foldl | with_reducible apply canon_ite | (fail_if_no_progress intros) | dsimp only | split | (fail_if_no_progress with_reducible refine canon_upd ?_ rfl rfl) | with_reducible rfl

theorem canon_gridNext (c : Ch) (lo : Nat) (hi : Nat) (s : State) (hc : Canonical s) : Canonical (gridNext c lo hi s) := by
  unfold gridNext
  repeat' first | with_reducible assumption | with_reducible apply canon_State_setGrid | with_reducible apply canon_State_wrB | with_reducible apply canon_enterWait | with_reducible apply canon_reconFail | with_reducible apply canon_unstart | with_reducible apply canon_setGridState | with_reducible apply canon_foldl | with_reducible apply canon_ite | (fail_if_no_progress intros) | dsimp only | split | (fail_if_no_progress with_reducible refine canon_upd ?_ rfl rfl) | with_reducible rfl

theorem canon_gridTimers (c : Ch) (dt : Nat) (lo : Nat) (hi : Nat) (f : Nat) (s : State) (hc : Canonical s) : Canonical (gridTimers c dt lo hi f s) := by
  unfold gridTimers
  repeat' first | with_reducible assumption | with_reducible apply canon_State_wrS | with_reducible apply canon_State_setMf | with_reducible apply canon_State_setGrid | with_reducible apply canon_foldl | with_reducible apply canon_ite | (fail_if_no_progress intros) | dsimp only | split | (fail_if_no_progress with_reducible refine canon_upd ?_ rfl rfl) | with_reducible rfl

theorem canon_gridChannel (c : Ch) (s : State) (hc : Canonical s) : Canonical (gridChannel c s) := by
  unfold gridChannel
  repeat' first | with_reducible assumption | with_reducible apply canon_State_setMf | with_reducible apply canon_gridVoltages | with_reducible apply canon_State_wr | with_reducible apply canon_gridNext | with_reducible apply canon_gridTimers | with_reducible apply canon_droopRef | with_reducible apply canon_writeCurrents | with_reducible apply canon_foldl | with_reducible apply canon_ite | (fail_if_no_progress intros) | dsimp only | split | (fail_if_no_progress with_reducible refine canon_upd ?_ rfl rfl) | with_reducible rfl

theorem canon_State_setMppt (s : State) (c : Ch) (f : MpptSt → MpptSt) (hc : Canonical s) : Canonical (State.setMppt s c f) := by
  unfold State.setMppt
  repeat' first | with_reducible assumption | with_reducible apply canon_State_setCh | with_reducible apply canon_foldl | with_reducible apply canon_ite | (fail_if_no_progress intros) | dsimp only | split | (fail_if_no_progress with_reducible refine canon_upd ?_ rfl rfl) | with_reducible rfl

theorem canon_setMpptState (c : Ch) (v : Nat) (s : State) (hc : Canonical s) : Canonical (setMpptState c v s) := by
  unfold setMpptState
  repeat' first | with_reducible assumption | with_reducible apply canon_State_wr | with_reducible apply canon_foldl | with_reducible apply canon_ite | (fail_if_no_progress intros) | dsimp only | split | (fail_if_no_progress with_reducible refine canon_upd ?_ rfl rfl) | with_reducible rfl

theorem canon_setVref (c : Ch) (v : Int) (s : State) (hc : Canonical s) : Canonical (setVref c v s) := by
  unfold setVref
  repeat' first | with_reducible assumption | with_reducible apply canon_State_wrS | with_reducible apply canon_commitHostEff | with_reducible apply canon_foldl | with_reducible apply canon_ite | (fail_if_no_progress intros) | dsimp only | split | (fail_if_no_progress with_reducible refine canon_upd ?_ rfl rfl) | with_reducible rfl

theorem canon_sweepStart (c : Ch) (s : State) (hc : Canonical s) : Canonical (sweepStart c s) := by
  unfold sweepStart
  repeat' first | with_reducible assumption | with_reducible apply canon_State_setMppt | with_reducible apply canon_setVref | with_reducible apply canon_setMpptState | with_reducible apply canon_foldl | with_reducible apply canon_ite | (fail_if_no_progress intros) | dsimp only | split | (fail_if_no_progress with_reducible refine canon_upd ?_ rfl rfl) | with_reducible rfl

theorem canon_mpptHoldCheck (c : Ch) (s : State) (hc : Canonical s) : Canonical (mpptHoldCheck c s) := by
  unfold mpptHoldCheck
  repeat' first | with_reducible assumption | with_reducible apply canon_setVref | with_reducible apply canon_setMpptState | with_reducible apply canon_sweepStart | with_reducible apply canon_State_setMppt | with_reducible apply canon_foldl | with_reducible apply canon_ite | (fail_if_no_progress intros) | dsimp only | split | (fail_if_no_progress with_reducible refine canon_upd ?_ rfl rfl) | with_reducible rfl

theorem canon_mpptHoldAll (s : State) (hc : Canonical s) : Canonical (mpptHoldAll s) := by
  unfold mpptHoldAll
  repeat' first | with_reducible assumption | with_reducible apply canon_State_eachCh | with_reducible apply canon_mpptHoldCheck | with_reducible apply canon_foldl | with_reducible apply canon_ite | (fail_if_no_progress intros) | dsimp only | split | (fail_if_no_progress with_reducible refine canon_upd ?_ rfl rfl) | with_reducible rfl

theorem canon_mpptStepEff (c : Ch) (s : State) (hc : Canonical s) : Canonical (mpptStepEff c s) := by
  unfold mpptStepEff
  repeat' first | with_reducible assumption | with_reducible apply canon_mpptHoldCheck | with_reducible apply canon_State_wr | with_reducible apply canon_State_setMppt | with_reducible apply canon_setMpptState | with_reducible apply canon_sweepStart | with_reducible apply canon_setVref | with_reducible apply canon_foldl | with_reducible apply canon_ite | (fail_if_no_progress intros) | dsimp only | split | (fail_if_no_progress with_reducible refine canon_upd ?_ rfl rfl) | with_reducible rfl

theorem canon_mpptSweepEff (c : Ch) (s : State) (hc : Canonical s) : Canonical (mpptSweepEff c s) := by
  unfold mpptSweepEff
  repeat' first | with_reducible assumption | with_reducible apply canon_State_setMppt | with_reducible apply canon_sweepStart | with_reducible apply canon_mpptHoldCheck | with_reducible apply canon_foldl | with_reducible apply canon_ite | (fail_if_no_progress intros) | dsimp only | split | (fail_if_no_progress with_reducible refine canon_upd ?_ rfl rfl) | with_reducible rfl

theorem canon_sweepDwellEff (c : Ch) (s : State) (hc : Canonical s) : Canonical (sweepDwellEff c s) := by
  unfold sweepDwellEff
  repeat' first | with_reducible assumption | with_reducible apply canon_mpptHoldCheck | with_reducible apply canon_State_wr | with_reducible apply canon_State_setMppt | with_reducible apply canon_setVref | with_reducible apply canon_State_countMod | with_reducible apply canon_State_wrS | with_reducible apply canon_setMpptState | with_reducible apply canon_foldl | with_reducible apply canon_ite | (fail_if_no_progress intros) | dsimp only | split | (fail_if_no_progress with_reducible refine canon_upd ?_ rfl rfl) | with_reducible rfl

theorem canon_mpptEnWritten (c : Ch) (was : Bool) (s : State) (hc : Canonical s) : Canonical (mpptEnWritten c was s) := by
  unfold mpptEnWritten
  repeat' first | with_reducible assumption | with_reducible apply canon_setMpptState | with_reducible apply canon_State_setMppt | with_reducible apply canon_mpptHoldCheck | with_reducible apply canon_setVref | with_reducible apply canon_foldl | with_reducible apply canon_ite | (fail_if_no_progress intros) | dsimp only | split | (fail_if_no_progress with_reducible refine canon_upd ?_ rfl rfl) | with_reducible rfl

theorem canon_gridEvalEff (s : State) (hc : Canonical s) : Canonical (gridEvalEff s) := by
  unfold gridEvalEff
  repeat' first | with_reducible assumption | with_reducible apply canon_mpptHoldAll | with_reducible apply canon_State_eachCh | with_reducible apply canon_settle | with_reducible apply canon_gridChannel | with_reducible apply canon_foldl | with_reducible apply canon_ite | (fail_if_no_progress intros) | dsimp only | split | (fail_if_no_progress with_reducible refine canon_upd ?_ rfl rfl) | with_reducible rfl

theorem canon_gridTripEff (c : Ch) (e : Elem) (s : State) (hc : Canonical s) : Canonical (gridTripEff c e s) := by
  unfold gridTripEff
  repeat' first | with_reducible assumption | with_reducible apply canon_State_eachCh | with_reducible apply canon_sendOrder | with_reducible apply canon_settle | with_reducible apply canon_squallRequest | with_reducible apply canon_mpptHoldAll | with_reducible apply canon_enterWait | with_reducible apply canon_State_setGrid | with_reducible apply canon_State_count | with_reducible apply canon_State_wr | with_reducible apply canon_foldl | with_reducible apply canon_ite | (fail_if_no_progress intros) | dsimp only | split | (fail_if_no_progress with_reducible refine canon_upd ?_ rfl rfl) | with_reducible rfl

theorem canon_memberStart (c : Ch) (s : State) (hc : Canonical s) : Canonical (memberStart c s).2 := by
  unfold memberStart
  repeat' first | with_reducible assumption | with_reducible apply canon_State_setCh | with_reducible apply canon_sendOrder | with_reducible apply canon_settle | with_reducible apply canon_channelGo | with_reducible apply canon_foldl | with_reducible apply canon_ite | (fail_if_no_progress intros) | dsimp only | split | (fail_if_no_progress with_reducible refine canon_upd ?_ rfl rfl) | with_reducible rfl

theorem canon_startMembers (x0 : List Ch) (x1 : State) (hc : Canonical x1) : Canonical (startMembers x0 x1).2.2 := by
  induction x0 generalizing x1 with
  | nil => unfold startMembers; repeat' first | with_reducible assumption | with_reducible apply canon_memberStart | with_reducible apply canon_foldl | with_reducible apply canon_ite | (fail_if_no_progress intros) | dsimp only | split | (fail_if_no_progress with_reducible refine canon_upd ?_ rfl rfl) | with_reducible rfl
  | cons a l ih =>
    unfold startMembers
    repeat' first | with_reducible assumption | with_reducible apply ih | with_reducible apply canon_memberStart | with_reducible apply canon_foldl | with_reducible apply canon_ite | (fail_if_no_progress intros) | dsimp only | split | (fail_if_no_progress with_reducible refine canon_upd ?_ rfl rfl) | with_reducible rfl

theorem canon_reconnectGroup (c : Ch) (s : State) (hc : Canonical s) : Canonical (reconnectGroup c s) := by
  unfold reconnectGroup
  repeat' first | with_reducible assumption | with_reducible apply canon_startMembers | with_reducible apply canon_reconFail | with_reducible apply canon_unstart | with_reducible apply canon_mpptHoldAll | with_reducible apply canon_enterRamp | with_reducible apply canon_foldl | with_reducible apply canon_ite | (fail_if_no_progress intros) | dsimp only | split | (fail_if_no_progress with_reducible refine canon_upd ?_ rfl rfl) | with_reducible rfl

theorem canon_reconnectAsk (c : Ch) (s : State) (hc : Canonical s) : Canonical (reconnectAsk c s) := by
  unfold reconnectAsk
  repeat' first | with_reducible assumption | with_reducible apply canon_State_setGrid | with_reducible apply canon_foldl | with_reducible apply canon_ite | (fail_if_no_progress intros) | dsimp only | split | (fail_if_no_progress with_reducible refine canon_upd ?_ rfl rfl) | with_reducible rfl

theorem canon_gridEnWritten (c : Ch) (was : Bool) (s : State) (hc : Canonical s) : Canonical (gridEnWritten c was s) := by
  unfold gridEnWritten
  repeat' first | with_reducible assumption | with_reducible apply canon_State_setGrid | with_reducible apply canon_mpptHoldAll | with_reducible apply canon_enterWait | with_reducible apply canon_State_wr | with_reducible apply canon_setGridState | with_reducible apply canon_foldl | with_reducible apply canon_ite | (fail_if_no_progress intros) | dsimp only | split | (fail_if_no_progress with_reducible refine canon_upd ?_ rfl rfl) | with_reducible rfl

theorem canon_esDisarm (c : Ch) (n : Nat) (i : Nat) (fwd : Bool) (s : State) (hc : Canonical s) : Canonical (esDisarm c n i fwd s) := by
  unfold esDisarm
  repeat' first | with_reducible assumption | with_reducible apply canon_State_setCh | with_reducible apply canon_foldl | with_reducible apply canon_ite | (fail_if_no_progress intros) | dsimp only | split | (fail_if_no_progress with_reducible refine canon_upd ?_ rfl rfl) | with_reducible rfl

theorem canon_esAction (c : Ch) (x : EsEntry) (lag : Nat) (s : State) (hc : Canonical s) : Canonical (esAction c x lag s) := by
  unfold esAction
  repeat' first | with_reducible assumption | with_reducible apply canon_actOn | with_reducible apply canon_State_setPg | with_reducible apply canon_windowSet | with_reducible apply canon_meterSnap | with_reducible apply canon_foldl | with_reducible apply canon_ite | (fail_if_no_progress intros) | dsimp only | split | (fail_if_no_progress with_reducible refine canon_upd ?_ rfl rfl) | with_reducible rfl

theorem canon_esFire1 (c : Ch) (i : Nat) (p : EsEntry × Nat) (s : State) (hc : Canonical s) : Canonical (esFire1 c i p s) := by
  unfold esFire1
  repeat' first | with_reducible assumption | with_reducible apply canon_esDisarm | with_reducible apply canon_fireLag | with_reducible apply canon_settle | with_reducible apply canon_esAction | with_reducible apply canon_foldl | with_reducible apply canon_ite | (fail_if_no_progress intros) | dsimp only | split | (fail_if_no_progress with_reducible refine canon_upd ?_ rfl rfl) | with_reducible rfl

theorem canon_esFireEff (c : Ch) (e : Fin 136) (occ : Nat) (s : State) (hc : Canonical s) : Canonical (esFireEff c e occ s) := by
  unfold esFireEff
  repeat' first | with_reducible assumption | with_reducible apply canon_esFire1 | with_reducible apply canon_foldl | with_reducible apply canon_ite | (fail_if_no_progress intros) | dsimp only | split | (fail_if_no_progress with_reducible refine canon_upd ?_ rfl rfl) | with_reducible rfl

theorem canon_esHystEff (c : Ch) (e : Fin 136) (occ : Nat) (s : State) (hc : Canonical s) : Canonical (esHystEff c e occ s) := by
  unfold esHystEff
  repeat' first | with_reducible assumption | with_reducible apply canon_State_setCh | with_reducible apply canon_foldl | with_reducible apply canon_ite | (fail_if_no_progress intros) | dsimp only | split | (fail_if_no_progress with_reducible refine canon_upd ?_ rfl rfl) | with_reducible rfl

theorem canon_State_setCan (s : State) (c : CanIx) (f : CanSt → CanSt) (hc : Canonical s) : Canonical (State.setCan s c f) := by
  unfold State.setCan
  repeat' first | with_reducible assumption | with_reducible apply canon_foldl | with_reducible apply canon_ite | (fail_if_no_progress intros) | dsimp only | split | (fail_if_no_progress with_reducible refine canon_upd ?_ rfl rfl) | with_reducible rfl

theorem canon_State_setBuf (s : State) (c : CanIx) (b : BufIx) (f : List CanTx → List CanTx) (hc : Canonical s) : Canonical (State.setBuf s c b f) := by
  unfold State.setBuf
  repeat' first | with_reducible assumption | with_reducible apply canon_State_setCan | with_reducible apply canon_foldl | with_reducible apply canon_ite | (fail_if_no_progress intros) | dsimp only | split | (fail_if_no_progress with_reducible refine canon_upd ?_ rfl rfl) | with_reducible rfl

theorem canon_canIdle (c : CanIx) (s : State) (hc : Canonical s) : Canonical (canIdle c s) := by
  unfold canIdle
  repeat' first | with_reducible assumption | with_reducible apply canon_State_setCan | with_reducible apply canon_foldl | with_reducible apply canon_ite | (fail_if_no_progress intros) | dsimp only | split | (fail_if_no_progress with_reducible refine canon_upd ?_ rfl rfl) | with_reducible rfl

theorem canon_canKick (s : State) (hc : Canonical s) : Canonical (canKick s) := by
  unfold canKick
  repeat' first | with_reducible assumption | with_reducible apply canon_canIdle | with_reducible apply canon_foldl | with_reducible apply canon_ite | (fail_if_no_progress intros) | dsimp only | split | (fail_if_no_progress with_reducible refine canon_upd ?_ rfl rfl) | with_reducible rfl

theorem canon_canErrors (c : CanIx) (tec : Nat) (rec : Nat) (s : State) (hc : Canonical s) : Canonical (canErrors c tec rec s) := by
  unfold canErrors
  repeat' first | with_reducible assumption | with_reducible apply canon_State_wrB | with_reducible apply canon_State_wr | with_reducible apply canon_State_raise | with_reducible apply canon_foldl | with_reducible apply canon_ite | (fail_if_no_progress intros) | dsimp only | split | (fail_if_no_progress with_reducible refine canon_upd ?_ rfl rfl) | with_reducible rfl

theorem canon_mirrorBuf (c : CanIx) (b : BufIx) (k : CanIx) (x3 : Nat) (x4 : State) (hc : Canonical x4) : Canonical (mirrorBuf c b k x3 x4) := by
  induction x3 generalizing x4 with
  | zero => unfold mirrorBuf; repeat' first | with_reducible assumption | with_reducible apply canon_State_setCan | with_reducible apply canon_State_setBuf | with_reducible apply canon_foldl | with_reducible apply canon_ite | (fail_if_no_progress intros) | dsimp only | split | (fail_if_no_progress with_reducible refine canon_upd ?_ rfl rfl) | with_reducible rfl
  | succ fuel ih =>
    unfold mirrorBuf
    repeat' first | with_reducible assumption | with_reducible apply ih | with_reducible apply canon_State_setCan | with_reducible apply canon_State_setBuf | with_reducible apply canon_foldl | with_reducible apply canon_ite | (fail_if_no_progress intros) | dsimp only | split | (fail_if_no_progress with_reducible refine canon_upd ?_ rfl rfl) | with_reducible rfl

theorem canon_mirrorFill (c : CanIx) (s : State) (hc : Canonical s) : Canonical (mirrorFill c s) := by
  unfold mirrorFill
  repeat' first | with_reducible assumption | with_reducible apply canon_mirrorBuf | with_reducible apply canon_foldl | with_reducible apply canon_ite | (fail_if_no_progress intros) | dsimp only | split | (fail_if_no_progress with_reducible refine canon_upd ?_ rfl rfl) | with_reducible rfl

theorem canon_mirrorAll (s : State) (hc : Canonical s) : Canonical (mirrorAll s) := by
  unfold mirrorAll
  repeat' first | with_reducible assumption | with_reducible apply canon_canKick | with_reducible apply canon_mirrorFill | with_reducible apply canon_foldl | with_reducible apply canon_ite | (fail_if_no_progress intros) | dsimp only | split | (fail_if_no_progress with_reducible refine canon_upd ?_ rfl rfl) | with_reducible rfl

theorem canon_dropCopy (k : CanIx) (m : MirTx) (s : State) (hc : Canonical s) : Canonical (dropCopy k m s) := by
  unfold dropCopy
  repeat' first | with_reducible assumption | with_reducible apply canon_State_setBuf | with_reducible apply canon_foldl | with_reducible apply canon_ite | (fail_if_no_progress intros) | dsimp only | split | (fail_if_no_progress with_reducible refine canon_upd ?_ rfl rfl) | with_reducible rfl

theorem canon_canOffer (c : CanIx) (b : BufIx) (t : CanTx) (s : State) (hc : Canonical s) : Canonical (canOffer c b t s).2 := by
  unfold canOffer
  repeat' first | with_reducible assumption | with_reducible apply canon_canKick | with_reducible apply canon_mirrorFill | with_reducible apply canon_State_setBuf | with_reducible apply canon_State_count | with_reducible apply canon_foldl | with_reducible apply canon_ite | (fail_if_no_progress intros) | dsimp only | split | (fail_if_no_progress with_reducible refine canon_upd ?_ rfl rfl) | with_reducible rfl

theorem canon_canReply (c : CanIx) (delivers : Option (Mbx × Nat × Nat)) (bs : List Byte) (s : State) (hc : Canonical s) : Canonical (canReply c delivers bs s) := by
  unfold canReply
  repeat' first | with_reducible assumption | with_reducible apply canon_State_setCan | with_reducible apply canon_canOffer | with_reducible apply canon_foldl | with_reducible apply canon_ite | (fail_if_no_progress intros) | dsimp only | split | (fail_if_no_progress with_reducible refine canon_upd ?_ rfl rfl) | with_reducible rfl

theorem canon_replyOut (t : Transport) (r : Reply) (s : State) (hc : Canonical s) : Canonical (replyOut t r s) := by
  unfold replyOut
  repeat' first | with_reducible assumption | with_reducible apply canon_canReply | with_reducible apply canon_hbSend | with_reducible apply canon_deliver | with_reducible apply canon_foldl | with_reducible apply canon_ite | (fail_if_no_progress intros) | dsimp only | split | (fail_if_no_progress with_reducible refine canon_upd ?_ rfl rfl) | with_reducible rfl

theorem canon_holdReply (t : Transport) (what : HeldReply) (s : State) (hc : Canonical s) : Canonical (holdReply t what s) := by
  unfold holdReply
  repeat' first | with_reducible assumption | with_reducible apply canon_foldl | with_reducible apply canon_ite | (fail_if_no_progress intros) | dsimp only | split | (fail_if_no_progress with_reducible refine canon_upd ?_ rfl rfl) | with_reducible rfl

theorem canon_sendReply (t : Transport) (r : Reply) (s : State) (hc : Canonical s) : Canonical (sendReply t r s) := by
  unfold sendReply
  repeat' first | with_reducible assumption | with_reducible apply canon_holdReply | with_reducible apply canon_hbSend | with_reducible apply canon_replyOut | with_reducible apply canon_foldl | with_reducible apply canon_ite | (fail_if_no_progress intros) | dsimp only | split | (fail_if_no_progress with_reducible refine canon_upd ?_ rfl rfl) | with_reducible rfl

theorem canon_releaseHeld (s : State) (hc : Canonical s) : Canonical (releaseHeld s) := by
  unfold releaseHeld
  repeat' first | with_reducible assumption | with_reducible apply canon_replyOut | with_reducible apply canon_foldl | with_reducible apply canon_ite | (fail_if_no_progress intros) | dsimp only | split | (fail_if_no_progress with_reducible refine canon_upd ?_ rfl rfl) | with_reducible rfl

theorem canon_sendStatus (c : CanIx) (kind : Nat) (s : State) (hc : Canonical s) : Canonical (sendStatus c kind s) := by
  unfold sendStatus
  repeat' first | with_reducible assumption | with_reducible apply canon_canOffer | with_reducible apply canon_foldl | with_reducible apply canon_ite | (fail_if_no_progress intros) | dsimp only | split | (fail_if_no_progress with_reducible refine canon_upd ?_ rfl rfl) | with_reducible rfl

theorem canon_dropPartial (c : CanIx) (s : State) (hc : Canonical s) : Canonical (dropPartial c s) := by
  unfold dropPartial
  repeat' first | with_reducible assumption | with_reducible apply canon_State_setCan | with_reducible apply canon_State_count | with_reducible apply canon_foldl | with_reducible apply canon_ite | (fail_if_no_progress intros) | dsimp only | split | (fail_if_no_progress with_reducible refine canon_upd ?_ rfl rfl) | with_reducible rfl

theorem canon_segTake (c : CanIx) (bs : List Byte) (s : State) (hc : Canonical s) : Canonical (segTake c bs s) := by
  unfold segTake
  repeat' first | with_reducible assumption | with_reducible apply canon_State_setCan | with_reducible apply canon_dropPartial | with_reducible apply canon_foldl | with_reducible apply canon_ite | (fail_if_no_progress intros) | dsimp only | split | (fail_if_no_progress with_reducible refine canon_upd ?_ rfl rfl) | with_reducible rfl

theorem canon_canService (c : CanIx) (s : State) (hc : Canonical s) : Canonical (canService c s) := by
  unfold canService
  repeat' first | with_reducible assumption | with_reducible apply canon_State_setCan | with_reducible apply canon_sendStatus | with_reducible apply canon_segTake | with_reducible apply canon_foldl | with_reducible apply canon_ite | (fail_if_no_progress intros) | dsimp only | split | (fail_if_no_progress with_reducible refine canon_upd ?_ rfl rfl) | with_reducible rfl

theorem canon_canHear (c : CanIx) (f : CanFrame) (s : State) (hc : Canonical s) : Canonical (canHear c f s) := by
  unfold canHear
  repeat' first | with_reducible assumption | with_reducible apply canon_State_wr | with_reducible apply canon_canErrors | with_reducible apply canon_State_drew | with_reducible apply canon_State_setCan | with_reducible apply canon_State_count | with_reducible apply canon_canService | with_reducible apply canon_foldl | with_reducible apply canon_ite | (fail_if_no_progress intros) | dsimp only | split | (fail_if_no_progress with_reducible refine canon_upd ?_ rfl rfl) | with_reducible rfl

theorem canon_canRxEff (c : CanIx) (f : CanFrame) (s : State) (hc : Canonical s) : Canonical (canRxEff c f s) := by
  unfold canRxEff
  repeat' first | with_reducible assumption | with_reducible apply canon_canIdle | with_reducible apply canon_canHear | with_reducible apply canon_foldl | with_reducible apply canon_ite | (fail_if_no_progress intros) | dsimp only | split | (fail_if_no_progress with_reducible refine canon_upd ?_ rfl rfl) | with_reducible rfl

theorem canon_segTimeoutEff (c : CanIx) (s : State) (hc : Canonical s) : Canonical (segTimeoutEff c s) := by
  unfold segTimeoutEff
  repeat' first | with_reducible assumption | with_reducible apply canon_dropPartial | with_reducible apply canon_foldl | with_reducible apply canon_ite | (fail_if_no_progress intros) | dsimp only | split | (fail_if_no_progress with_reducible refine canon_upd ?_ rfl rfl) | with_reducible rfl

theorem canon_statusPeriodEff (s : State) (hc : Canonical s) : Canonical (statusPeriodEff s) := by
  unfold statusPeriodEff
  repeat' first | with_reducible assumption | with_reducible apply canon_sendStatus | with_reducible apply canon_foldl | with_reducible apply canon_ite | (fail_if_no_progress intros) | dsimp only | split | (fail_if_no_progress with_reducible refine canon_upd ?_ rfl rfl) | with_reducible rfl

theorem canon_canPop (c : CanIx) (src : CanSrc) (s : State) (hc : Canonical s) : Canonical (canPop c src s) := by
  unfold canPop
  repeat' first | with_reducible assumption | with_reducible apply canon_State_setBuf | with_reducible apply canon_State_setCan | with_reducible apply canon_foldl | with_reducible apply canon_ite | (fail_if_no_progress intros) | dsimp only | split | (fail_if_no_progress with_reducible refine canon_upd ?_ rfl rfl) | with_reducible rfl

theorem canon_popOriginal (k : CanIx) (m : MirTx) (s : State) (hc : Canonical s) : Canonical (popOriginal k m s) := by
  unfold popOriginal
  repeat' first | with_reducible assumption | with_reducible apply canon_State_setBuf | with_reducible apply canon_State_setCan | with_reducible apply canon_State_count | with_reducible apply canon_foldl | with_reducible apply canon_ite | (fail_if_no_progress intros) | dsimp only | split | (fail_if_no_progress with_reducible refine canon_upd ?_ rfl rfl) | with_reducible rfl

theorem canon_replyDone (t : CanTx) (s : State) (hc : Canonical s) : Canonical (replyDone t s) := by
  unfold replyDone
  repeat' first | with_reducible assumption | with_reducible apply canon_deliver | with_reducible apply canon_foldl | with_reducible apply canon_ite | (fail_if_no_progress intros) | dsimp only | split | (fail_if_no_progress with_reducible refine canon_upd ?_ rfl rfl) | with_reducible rfl

theorem canon_replyLost (c : CanIx) (t : CanTx) (s : State) (hc : Canonical s) : Canonical (replyLost c t s) := by
  unfold replyLost
  repeat' first | with_reducible assumption | with_reducible apply canon_State_setBuf | with_reducible apply canon_foldl | with_reducible apply canon_ite | (fail_if_no_progress intros) | dsimp only | split | (fail_if_no_progress with_reducible refine canon_upd ?_ rfl rfl) | with_reducible rfl

theorem canon_canTxDoneEff (c : CanIx) (sof : Nat) (s : State) (hc : Canonical s) : Canonical (canTxDoneEff c sof s) := by
  unfold canTxDoneEff
  repeat' first | with_reducible assumption | with_reducible apply canon_State_wr | with_reducible apply canon_canErrors | with_reducible apply canon_canPop | with_reducible apply canon_popOriginal | with_reducible apply canon_canIdle | with_reducible apply canon_replyDone | with_reducible apply canon_mirrorAll | with_reducible apply canon_canHear | with_reducible apply canon_foldl | with_reducible apply canon_ite | (fail_if_no_progress intros) | dsimp only | split | (fail_if_no_progress with_reducible refine canon_upd ?_ rfl rfl) | with_reducible rfl

theorem canon_goBusOff (c : CanIx) (src : CanSrc) (s : State) (hc : Canonical s) : Canonical (goBusOff c src s) := by
  unfold goBusOff
  repeat' first | with_reducible assumption | with_reducible apply canon_State_count | with_reducible apply canon_dropCopy | with_reducible apply canon_State_setCan | with_reducible apply canon_mirrorAll | with_reducible apply canon_foldl | with_reducible apply canon_ite | (fail_if_no_progress intros) | dsimp only | split | (fail_if_no_progress with_reducible refine canon_upd ?_ rfl rfl) | with_reducible rfl

theorem canon_collision (c : CanIx) (src : CanSrc) (s : State) (hc : Canonical s) : Canonical (collision c src s) := by
  unfold collision
  repeat' first | with_reducible assumption | with_reducible apply canon_State_count | with_reducible apply canon_State_setCan | with_reducible apply canon_State_raise | with_reducible apply canon_State_wrBit | with_reducible apply canon_foldl | with_reducible apply canon_ite | (fail_if_no_progress intros) | dsimp only | split | (fail_if_no_progress with_reducible refine canon_upd ?_ rfl rfl) | with_reducible rfl

theorem canon_retry (c : CanIx) (src : CanSrc) (s : State) (hc : Canonical s) : Canonical (retry c src s) := by
  unfold retry
  repeat' first | with_reducible assumption | with_reducible apply canon_replyLost | with_reducible apply canon_State_count | with_reducible apply canon_canPop | with_reducible apply canon_State_setBuf | with_reducible apply canon_dropCopy | with_reducible apply canon_State_setCan | with_reducible apply canon_foldl | with_reducible apply canon_ite | (fail_if_no_progress intros) | dsimp only | split | (fail_if_no_progress with_reducible refine canon_upd ?_ rfl rfl) | with_reducible rfl

theorem canon_canTxFailEff (c : CanIx) (why : TxFail) (s : State) (hc : Canonical s) : Canonical (canTxFailEff c why s) := by
  unfold canTxFailEff
  repeat' first | with_reducible assumption | with_reducible apply canon_mirrorAll | with_reducible apply canon_State_setCan | with_reducible apply canon_retry | with_reducible apply canon_canErrors | with_reducible apply canon_collision | with_reducible apply canon_goBusOff | with_reducible apply canon_canIdle | with_reducible apply canon_foldl | with_reducible apply canon_ite | (fail_if_no_progress intros) | dsimp only | split | (fail_if_no_progress with_reducible refine canon_upd ?_ rfl rfl) | with_reducible rfl

theorem canon_canRxErrorEff (c : CanIx) (w : Nat) (s : State) (hc : Canonical s) : Canonical (canRxErrorEff c w s) := by
  unfold canRxErrorEff
  repeat' first | with_reducible assumption | with_reducible apply canon_canIdle | with_reducible apply canon_canErrors | with_reducible apply canon_foldl | with_reducible apply canon_ite | (fail_if_no_progress intros) | dsimp only | split | (fail_if_no_progress with_reducible refine canon_upd ?_ rfl rfl) | with_reducible rfl

theorem canon_busOffDoneEff (c : CanIx) (s : State) (hc : Canonical s) : Canonical (busOffDoneEff c s) := by
  unfold busOffDoneEff
  repeat' first | with_reducible assumption | with_reducible apply canon_canErrors | with_reducible apply canon_mirrorAll | with_reducible apply canon_State_setCan | with_reducible apply canon_foldl | with_reducible apply canon_ite | (fail_if_no_progress intros) | dsimp only | split | (fail_if_no_progress with_reducible refine canon_upd ?_ rfl rfl) | with_reducible rfl

theorem canon_recoverEff (c : CanIx) (s : State) (hc : Canonical s) : Canonical (recoverEff c s) := by
  unfold recoverEff
  repeat' first | with_reducible assumption | with_reducible apply canon_State_setCan | with_reducible apply canon_foldl | with_reducible apply canon_ite | (fail_if_no_progress intros) | dsimp only | split | (fail_if_no_progress with_reducible refine canon_upd ?_ rfl rfl) | with_reducible rfl

theorem canon_holdReleaseEff (c : CanIx) (mask : Nat) (s : State) (hc : Canonical s) : Canonical (holdReleaseEff c mask s) := by
  unfold holdReleaseEff
  repeat' first | with_reducible assumption | with_reducible apply canon_State_wr | with_reducible apply canon_canKick | with_reducible apply canon_State_setCan | with_reducible apply canon_foldl | with_reducible apply canon_ite | (fail_if_no_progress intros) | dsimp only | split | (fail_if_no_progress with_reducible refine canon_upd ?_ rfl rfl) | with_reducible rfl

theorem canon_canModeWritten (c : CanIx) (was : Nat) (s : State) (hc : Canonical s) : Canonical (canModeWritten c was s) := by
  unfold canModeWritten
  repeat' first | with_reducible assumption | with_reducible apply canon_State_setCan | with_reducible apply canon_canIdle | with_reducible apply canon_foldl | with_reducible apply canon_ite | (fail_if_no_progress intros) | dsimp only | split | (fail_if_no_progress with_reducible refine canon_upd ?_ rfl rfl) | with_reducible rfl

theorem canon_mirrorWritten (s : State) (hc : Canonical s) : Canonical (mirrorWritten s) := by
  unfold mirrorWritten
  repeat' first | with_reducible assumption | with_reducible apply canon_mirrorAll | with_reducible apply canon_foldl | with_reducible apply canon_ite | (fail_if_no_progress intros) | dsimp only | split | (fail_if_no_progress with_reducible refine canon_upd ?_ rfl rfl) | with_reducible rfl

theorem canon_canClockLost (s : State) (hc : Canonical s) : Canonical (canClockLost s) := by
  unfold canClockLost
  repeat' first | with_reducible assumption | with_reducible apply canon_State_setCan | with_reducible apply canon_foldl | with_reducible apply canon_ite | (fail_if_no_progress intros) | dsimp only | split | (fail_if_no_progress with_reducible refine canon_upd ?_ rfl rfl) | with_reducible rfl

theorem canon_canIntegrateEff (c : CanIx) (s : State) (hc : Canonical s) : Canonical (canIntegrateEff c s) := by
  unfold canIntegrateEff
  repeat' first | with_reducible assumption | with_reducible apply canon_canIdle | with_reducible apply canon_State_setCan | with_reducible apply canon_foldl | with_reducible apply canon_ite | (fail_if_no_progress intros) | dsimp only | split | (fail_if_no_progress with_reducible refine canon_upd ?_ rfl rfl) | with_reducible rfl

theorem canon_setSync (v : Nat) (s : State) (hc : Canonical s) : Canonical (setSync v s) := by
  unfold setSync
  repeat' first | with_reducible assumption | with_reducible apply canon_State_wr | with_reducible apply canon_releaseHeld | with_reducible apply canon_foldl | with_reducible apply canon_ite | (fail_if_no_progress intros) | dsimp only | split | (fail_if_no_progress with_reducible refine canon_upd ?_ rfl rfl) | with_reducible rfl

theorem canon_outputsFollow (s : State) (hc : Canonical s) : Canonical (outputsFollow s) := by
  unfold outputsFollow
  repeat' first | with_reducible assumption | with_reducible apply canon_State_eachCh | with_reducible apply canon_State_wrB | with_reducible apply canon_State_setPg | with_reducible apply canon_pinRise | with_reducible apply canon_State_setOut | with_reducible apply canon_blankEnd | with_reducible apply canon_safeEvalAll | with_reducible apply canon_settle | with_reducible apply canon_foldl | with_reducible apply canon_ite | (fail_if_no_progress intros) | dsimp only | split | (fail_if_no_progress with_reducible refine canon_upd ?_ rfl rfl) | with_reducible rfl

theorem canon_setRole (r : Nat) (s : State) (hc : Canonical s) : Canonical (setRole r s) := by
  unfold setRole
  repeat' first | with_reducible assumption | with_reducible apply canon_outputsFollow | with_reducible apply canon_State_raise | with_reducible apply canon_State_wr | with_reducible apply canon_foldl | with_reducible apply canon_ite | (fail_if_no_progress intros) | dsimp only | split | (fail_if_no_progress with_reducible refine canon_upd ?_ rfl rfl) | with_reducible rfl

theorem canon_peerTakes (r : BitVec 3) (s : State) (hc : Canonical s) : Canonical (peerTakes r s) := by
  unfold peerTakes
  repeat' first | with_reducible assumption | with_reducible apply canon_State_setHb | with_reducible apply canon_foldl | with_reducible apply canon_ite | (fail_if_no_progress intros) | dsimp only | split | (fail_if_no_progress with_reducible refine canon_upd ?_ rfl rfl) | with_reducible rfl

theorem canon_syncStart (s : State) (hc : Canonical s) : Canonical (syncStart s) := by
  unfold syncStart
  repeat' first | with_reducible assumption | with_reducible apply canon_State_wr | with_reducible apply canon_setSync | with_reducible apply canon_foldl | with_reducible apply canon_ite | (fail_if_no_progress intros) | dsimp only | split | (fail_if_no_progress with_reducible refine canon_upd ?_ rfl rfl) | with_reducible rfl

theorem canon_stopAllPg (s : State) (hc : Canonical s) : Canonical (stopAllPg s) := by
  unfold stopAllPg
  repeat' first | with_reducible assumption | with_reducible apply canon_State_eachCh | with_reducible apply canon_settle | with_reducible apply canon_channelHalt | with_reducible apply canon_setGdi | with_reducible apply canon_foldl | with_reducible apply canon_ite | (fail_if_no_progress intros) | dsimp only | split | (fail_if_no_progress with_reducible refine canon_upd ?_ rfl rfl) | with_reducible rfl

theorem canon_pairEval (s : State) (hc : Canonical s) : Canonical (pairEval s) := by
  unfold pairEval
  repeat' first | with_reducible assumption | with_reducible apply canon_State_wr | with_reducible apply canon_setRole | with_reducible apply canon_peerTakes | with_reducible apply canon_setSync | with_reducible apply canon_stopAllPg | with_reducible apply canon_State_count | with_reducible apply canon_syncStart | with_reducible apply canon_foldl | with_reducible apply canon_ite | (fail_if_no_progress intros) | dsimp only | split | (fail_if_no_progress with_reducible refine canon_upd ?_ rfl rfl) | with_reducible rfl

theorem canon_pairLinkLost (s : State) (hc : Canonical s) : Canonical (pairLinkLost s) := by
  unfold pairLinkLost
  repeat' first | with_reducible assumption | with_reducible apply canon_setSync | with_reducible apply canon_foldl | with_reducible apply canon_ite | (fail_if_no_progress intros) | dsimp only | split | (fail_if_no_progress with_reducible refine canon_upd ?_ rfl rfl) | with_reducible rfl

theorem canon_ownerRelease (s : State) (hc : Canonical s) : Canonical (ownerRelease s) := by
  unfold ownerRelease
  repeat' first | with_reducible assumption | with_reducible apply canon_setSync | with_reducible apply canon_setRole | with_reducible apply canon_foldl | with_reducible apply canon_ite | (fail_if_no_progress intros) | dsimp only | split | (fail_if_no_progress with_reducible refine canon_upd ?_ rfl rfl) | with_reducible rfl

theorem canon_xferAbandon (x : XferIn) (s : State) (hc : Canonical s) : Canonical (xferAbandon x s) := by
  unfold xferAbandon
  repeat' first | with_reducible assumption | with_reducible apply canon_State_count | with_reducible apply canon_hbSend | with_reducible apply canon_State_wr | with_reducible apply canon_foldl | with_reducible apply canon_ite | (fail_if_no_progress intros) | dsimp only | split | (fail_if_no_progress with_reducible refine canon_upd ?_ rfl rfl) | with_reducible rfl

theorem canon_xoutPortDown (p : HbIx) (s : State) (hc : Canonical s) : Canonical (xoutPortDown p s) := by
  unfold xoutPortDown
  repeat' first | with_reducible assumption | with_reducible apply canon_State_wr | with_reducible apply canon_foldl | with_reducible apply canon_ite | (fail_if_no_progress intros) | dsimp only | split | (fail_if_no_progress with_reducible refine canon_upd ?_ rfl rfl) | with_reducible rfl

theorem canon_xferPortDown (p : HbIx) (s : State) (hc : Canonical s) : Canonical (xferPortDown p s) := by
  unfold xferPortDown
  repeat' first | with_reducible assumption | with_reducible apply canon_xoutPortDown | with_reducible apply canon_xferAbandon | with_reducible apply canon_foldl | with_reducible apply canon_ite | (fail_if_no_progress intros) | dsimp only | split | (fail_if_no_progress with_reducible refine canon_upd ?_ rfl rfl) | with_reducible rfl

theorem canon_hbDown (p : HbIx) (to_ : Nat) (s : State) (hc : Canonical s) : Canonical (hbDown p to_ s) := by
  unfold hbDown
  repeat' first | with_reducible assumption | with_reducible apply canon_State_count | with_reducible apply canon_State_setHb | with_reducible apply canon_State_wr | with_reducible apply canon_xferPortDown | with_reducible apply canon_State_raise | with_reducible apply canon_pairLinkLost | with_reducible apply canon_foldl | with_reducible apply canon_ite | (fail_if_no_progress intros) | dsimp only | split | (fail_if_no_progress with_reducible refine canon_upd ?_ rfl rfl) | with_reducible rfl

theorem canon_notePeer (p : HbIx) (i : LinkInfo) (s : State) (hc : Canonical s) : Canonical (notePeer p i s) := by
  unfold notePeer
  repeat' first | with_reducible assumption | with_reducible apply canon_State_setHb | with_reducible apply canon_State_wr | with_reducible apply canon_foldl | with_reducible apply canon_ite | (fail_if_no_progress intros) | dsimp only | split | (fail_if_no_progress with_reducible refine canon_upd ?_ rfl rfl) | with_reducible rfl

theorem canon_trainingDoneEff (p : HbIx) (i : LinkInfo) (s : State) (hc : Canonical s) : Canonical (trainingDoneEff p i s) := by
  unfold trainingDoneEff
  repeat' first | with_reducible assumption | with_reducible apply canon_pairEval | with_reducible apply canon_notePeer | with_reducible apply canon_hbDown | with_reducible apply canon_State_count | with_reducible apply canon_State_wr | with_reducible apply canon_State_raise | with_reducible apply canon_foldl | with_reducible apply canon_ite | (fail_if_no_progress intros) | dsimp only | split | (fail_if_no_progress with_reducible refine canon_upd ?_ rfl rfl) | with_reducible rfl

theorem canon_laneLossEff (p : HbIx) (s : State) (hc : Canonical s) : Canonical (laneLossEff p s) := by
  unfold laneLossEff
  repeat' first | with_reducible assumption | with_reducible apply canon_hbDown | with_reducible apply canon_foldl | with_reducible apply canon_ite | (fail_if_no_progress intros) | dsimp only | split | (fail_if_no_progress with_reducible refine canon_upd ?_ rfl rfl) | with_reducible rfl

theorem canon_hbRefLost (s : State) (hc : Canonical s) : Canonical (hbRefLost s) := by
  unfold hbRefLost
  repeat' first | with_reducible assumption | with_reducible apply canon_hbDown | with_reducible apply canon_foldl | with_reducible apply canon_ite | (fail_if_no_progress intros) | dsimp only | split | (fail_if_no_progress with_reducible refine canon_upd ?_ rfl rfl) | with_reducible rfl

theorem canon_hbRefBack (s : State) (hc : Canonical s) : Canonical (hbRefBack s) := by
  unfold hbRefBack
  repeat' first | with_reducible assumption | with_reducible apply canon_hbDown | with_reducible apply canon_foldl | with_reducible apply canon_ite | (fail_if_no_progress intros) | dsimp only | split | (fail_if_no_progress with_reducible refine canon_upd ?_ rfl rfl) | with_reducible rfl

theorem canon_hbCfgWritten (old : State) (s : State) (hc : Canonical s) : Canonical (hbCfgWritten old s) := by
  unfold hbCfgWritten
  repeat' first | with_reducible assumption | with_reducible apply canon_hbDown | with_reducible apply canon_foldl | with_reducible apply canon_ite | (fail_if_no_progress intros) | dsimp only | split | (fail_if_no_progress with_reducible refine canon_upd ?_ rfl rfl) | with_reducible rfl

theorem canon_hbTake (p : HbIx) (f : HbFrame) (s : State) (hc : Canonical s) : Canonical (hbTake p f s) := by
  unfold hbTake
  repeat' first | with_reducible assumption | with_reducible apply canon_State_setHb | with_reducible apply canon_foldl | with_reducible apply canon_ite | (fail_if_no_progress intros) | dsimp only | split | (fail_if_no_progress with_reducible refine canon_upd ?_ rfl rfl) | with_reducible rfl

theorem canon_hbAnswer (p : HbIx) (fseq : Nat) (code : Nat) (s : State) (hc : Canonical s) : Canonical (hbAnswer p fseq code s) := by
  unfold hbAnswer
  repeat' first | with_reducible assumption | with_reducible apply canon_State_setHb | with_reducible apply canon_foldl | with_reducible apply canon_ite | (fail_if_no_progress intros) | dsimp only | split | (fail_if_no_progress with_reducible refine canon_upd ?_ rfl rfl) | with_reducible rfl

theorem canon_takeForwarded (p : HbIx) (s : State) (hc : Canonical s) : Canonical (takeForwarded p s) := by
  unfold takeForwarded
  repeat' first | with_reducible assumption | with_reducible apply canon_State_setHb | with_reducible apply canon_canReply | with_reducible apply canon_hbSend | with_reducible apply canon_foldl | with_reducible apply canon_ite | (fail_if_no_progress intros) | dsimp only | split | (fail_if_no_progress with_reducible refine canon_upd ?_ rfl rfl) | with_reducible rfl

theorem canon_hbReceiveEff (p : HbIx) (f : HbFrame) (s : State) (hc : Canonical s) : Canonical (hbReceiveEff p f s) := by
  unfold hbReceiveEff
  repeat' first | with_reducible assumption | with_reducible apply canon_hbAnswer | with_reducible apply canon_State_setHb | with_reducible apply canon_takeForwarded | with_reducible apply canon_hbTake | with_reducible apply canon_State_count | with_reducible apply canon_foldl | with_reducible apply canon_ite | (fail_if_no_progress intros) | dsimp only | split | (fail_if_no_progress with_reducible refine canon_upd ?_ rfl rfl) | with_reducible rfl

theorem canon_hbService (s : State) (hc : Canonical s) : Canonical (hbService s) := by
  unfold hbService
  repeat' first | with_reducible assumption | with_reducible apply canon_takeForwarded | with_reducible apply canon_hbAnswer | with_reducible apply canon_hbTake | with_reducible apply canon_State_setHb | with_reducible apply canon_foldl | with_reducible apply canon_ite | (fail_if_no_progress intros) | dsimp only | split | (fail_if_no_progress with_reducible refine canon_upd ?_ rfl rfl) | with_reducible rfl

theorem canon_hbConsume (p : HbIx) (typ : Nat) (s : State) (hc : Canonical s) : Canonical (hbConsume p typ s) := by
  unfold hbConsume
  repeat' first | with_reducible assumption | with_reducible apply canon_State_setHb | with_reducible apply canon_foldl | with_reducible apply canon_ite | (fail_if_no_progress intros) | dsimp only | split | (fail_if_no_progress with_reducible refine canon_upd ?_ rfl rfl) | with_reducible rfl

theorem canon_hbAttempt (p : HbIx) (fseq : Nat) (s : State) (hc : Canonical s) : Canonical (hbAttempt p fseq s) := by
  unfold hbAttempt
  repeat' first | with_reducible assumption | with_reducible apply canon_hbDown | with_reducible apply canon_State_count | with_reducible apply canon_State_setHb | with_reducible apply canon_foldl | with_reducible apply canon_ite | (fail_if_no_progress intros) | dsimp only | split | (fail_if_no_progress with_reducible refine canon_upd ?_ rfl rfl) | with_reducible rfl

theorem canon_hbCreditEff (p : HbIx) (fseq : Nat) (code : Nat) (check : Nat) (s : State) (hc : Canonical s) : Canonical (hbCreditEff p fseq code check s) := by
  unfold hbCreditEff
  repeat' first | with_reducible assumption | with_reducible apply canon_State_setHb | with_reducible apply canon_State_wr | with_reducible apply canon_State_count | with_reducible apply canon_releaseHeld | with_reducible apply canon_hbPump | with_reducible apply canon_hbAttempt | with_reducible apply canon_foldl | with_reducible apply canon_ite | (fail_if_no_progress intros) | dsimp only | split | (fail_if_no_progress with_reducible refine canon_upd ?_ rfl rfl) | with_reducible rfl

theorem canon_crTimeoutEff (p : HbIx) (s : State) (hc : Canonical s) : Canonical (crTimeoutEff p s) := by
  unfold crTimeoutEff
  repeat' first | with_reducible assumption | with_reducible apply canon_hbAttempt | with_reducible apply canon_State_count | with_reducible apply canon_foldl | with_reducible apply canon_ite | (fail_if_no_progress intros) | dsimp only | split | (fail_if_no_progress with_reducible refine canon_upd ?_ rfl rfl) | with_reducible rfl

theorem canon_hbBeatEff (p : HbIx) (s : State) (hc : Canonical s) : Canonical (hbBeatEff p s) := by
  unfold hbBeatEff
  repeat' first | with_reducible assumption | with_reducible apply canon_State_setHb | with_reducible apply canon_foldl | with_reducible apply canon_ite | (fail_if_no_progress intros) | dsimp only | split | (fail_if_no_progress with_reducible refine canon_upd ?_ rfl rfl) | with_reducible rfl

theorem canon_hbMissEff (p : HbIx) (s : State) (hc : Canonical s) : Canonical (hbMissEff p s) := by
  unfold hbMissEff
  repeat' first | with_reducible assumption | with_reducible apply canon_State_count | with_reducible apply canon_State_raise | with_reducible apply canon_foldl | with_reducible apply canon_ite | (fail_if_no_progress intros) | dsimp only | split | (fail_if_no_progress with_reducible refine canon_upd ?_ rfl rfl) | with_reducible rfl

theorem canon_hbSeenEff (p : HbIx) (s : State) (hc : Canonical s) : Canonical (hbSeenEff p s) := by
  unfold hbSeenEff
  repeat' first | with_reducible assumption | with_reducible apply canon_State_wr | with_reducible apply canon_State_drew | with_reducible apply canon_foldl | with_reducible apply canon_ite | (fail_if_no_progress intros) | dsimp only | split | (fail_if_no_progress with_reducible refine canon_upd ?_ rfl rfl) | with_reducible rfl

theorem canon_feideArriveEff (t : Transport) (ident : BitVec 29) (ide : Bool) (bs : List Byte) (s : State) (hc : Canonical s) : Canonical (feideArriveEff t ident ide bs s) := by
  unfold feideArriveEff
  repeat' first | with_reducible assumption | with_reducible apply canon_State_setCan | with_reducible apply canon_hbConsume | with_reducible apply canon_feideReceive | with_reducible apply canon_canService | with_reducible apply canon_foldl | with_reducible apply canon_ite | (fail_if_no_progress intros) | dsimp only | split | (fail_if_no_progress with_reducible refine canon_upd ?_ rfl rfl) | with_reducible rfl

theorem canon_feideProduceEff (c : Fin 16) (s : State) (hc : Canonical s) : Canonical (feideProduceEff c s) := by
  unfold feideProduceEff
  repeat' first | with_reducible assumption | with_reducible apply canon_State_setConn | with_reducible apply canon_canOffer | with_reducible apply canon_hbSend | with_reducible apply canon_foldl | with_reducible apply canon_ite | (fail_if_no_progress intros) | dsimp only | split | (fail_if_no_progress with_reducible refine canon_upd ?_ rfl rfl) | with_reducible rfl

theorem canon_setCk (v : Nat) (s : State) (hc : Canonical s) : Canonical (setCk v s) := by
  unfold setCk
  repeat' first | with_reducible assumption | with_reducible apply canon_State_wr | with_reducible apply canon_foldl | with_reducible apply canon_ite | (fail_if_no_progress intros) | dsimp only | split | (fail_if_no_progress with_reducible refine canon_upd ?_ rfl rfl) | with_reducible rfl

theorem canon_State_setClk (s : State) (f : ClkSt → ClkSt) (hc : Canonical s) : Canonical (State.setClk s f) := by
  unfold State.setClk
  repeat' first | with_reducible assumption | with_reducible apply canon_foldl | with_reducible apply canon_ite | (fail_if_no_progress intros) | dsimp only | split | (fail_if_no_progress with_reducible refine canon_upd ?_ rfl rfl) | with_reducible rfl

theorem canon_branchStop (c : Ch) (s : State) (hc : Canonical s) : Canonical (branchStop c s) := by
  unfold branchStop
  repeat' first | with_reducible assumption | with_reducible apply canon_State_wrBit | with_reducible apply canon_ceStop | with_reducible apply canon_atStop | with_reducible apply canon_pgHalt | with_reducible apply canon_sarStop | with_reducible apply canon_mfSuspend | with_reducible apply canon_State_setCh | with_reducible apply canon_settle | with_reducible apply canon_safeEval | with_reducible apply canon_foldl | with_reducible apply canon_ite | (fail_if_no_progress intros) | dsimp only | split | (fail_if_no_progress with_reducible refine canon_upd ?_ rfl rfl) | with_reducible rfl

theorem canon_branchRun (c : Ch) (s : State) (hc : Canonical s) : Canonical (branchRun c s) := by
  unfold branchRun
  repeat' first | with_reducible assumption | with_reducible apply canon_State_setCh | with_reducible apply canon_haltEnd | with_reducible apply canon_sarStart | with_reducible apply canon_cmpChange | with_reducible apply canon_cmpUnresolve | with_reducible apply canon_settle | with_reducible apply canon_mfTryStart | with_reducible apply canon_mfResume | with_reducible apply canon_foldl | with_reducible apply canon_ite | (fail_if_no_progress intros) | dsimp only | split | (fail_if_no_progress with_reducible refine canon_upd ?_ rfl rfl) | with_reducible rfl

theorem canon_State_setOutClk (s : State) (k : Fin 2) (f : ClkOutSt → ClkOutSt) (hc : Canonical s) : Canonical (State.setOutClk s k f) := by
  unfold State.setOutClk
  repeat' first | with_reducible assumption | with_reducible apply canon_State_setClk | with_reducible apply canon_foldl | with_reducible apply canon_ite | (fail_if_no_progress intros) | dsimp only | split | (fail_if_no_progress with_reducible refine canon_upd ?_ rfl rfl) | with_reducible rfl

theorem canon_clkoutRise (k : Fin 2) (late : Nat) (s : State) (hc : Canonical s) : Canonical (clkoutRise k late s) := by
  unfold clkoutRise
  repeat' first | with_reducible assumption | with_reducible apply canon_State_setOutClk | with_reducible apply canon_foldl | with_reducible apply canon_ite | (fail_if_no_progress intros) | dsimp only | split | (fail_if_no_progress with_reducible refine canon_upd ?_ rfl rfl) | with_reducible rfl

theorem canon_clkoutMode (s : State) (hc : Canonical s) : Canonical (clkoutMode s) := by
  unfold clkoutMode
  repeat' first | with_reducible assumption | with_reducible apply canon_State_setOutClk | with_reducible apply canon_foldl | with_reducible apply canon_ite | (fail_if_no_progress intros) | dsimp only | split | (fail_if_no_progress with_reducible refine canon_upd ?_ rfl rfl) | with_reducible rfl

theorem canon_clkoutTick (k : Fin 2) (s : State) (hc : Canonical s) : Canonical (clkoutTick k s) := by
  unfold clkoutTick
  repeat' first | with_reducible assumption | with_reducible apply canon_clkoutRise | with_reducible apply canon_State_setOutClk | with_reducible apply canon_foldl | with_reducible apply canon_ite | (fail_if_no_progress intros) | dsimp only | split | (fail_if_no_progress with_reducible refine canon_upd ?_ rfl rfl) | with_reducible rfl

theorem canon_leavePll (s : State) (hc : Canonical s) : Canonical (leavePll s) := by
  unfold leavePll
  repeat' first | with_reducible assumption | with_reducible apply canon_State_eachCh | with_reducible apply canon_branchStop | with_reducible apply canon_canClockLost | with_reducible apply canon_ownerRelease | with_reducible apply canon_State_raise | with_reducible apply canon_clkoutMode | with_reducible apply canon_foldl | with_reducible apply canon_ite | (fail_if_no_progress intros) | dsimp only | split | (fail_if_no_progress with_reducible refine canon_upd ?_ rfl rfl) | with_reducible rfl

theorem canon_acquire (s : State) (hc : Canonical s) : Canonical (acquire s) := by
  unfold acquire
  repeat' first | with_reducible assumption | with_reducible apply canon_State_setClk | with_reducible apply canon_setCk | with_reducible apply canon_foldl | with_reducible apply canon_ite | (fail_if_no_progress intros) | dsimp only | split | (fail_if_no_progress with_reducible refine canon_upd ?_ rfl rfl) | with_reducible rfl

theorem canon_toRc (s : State) (hc : Canonical s) : Canonical (toRc s) := by
  unfold toRc
  repeat' first | with_reducible assumption | with_reducible apply canon_State_setClk | with_reducible apply canon_State_wr | with_reducible apply canon_setCk | with_reducible apply canon_foldl | with_reducible apply canon_ite | (fail_if_no_progress intros) | dsimp only | split | (fail_if_no_progress with_reducible refine canon_upd ?_ rfl rfl) | with_reducible rfl

theorem canon_lockLossEff (s : State) (hc : Canonical s) : Canonical (lockLossEff s) := by
  unfold lockLossEff
  repeat' first | with_reducible assumption | with_reducible apply canon_acquire | with_reducible apply canon_leavePll | with_reducible apply canon_State_count | with_reducible apply canon_setCk | with_reducible apply canon_foldl | with_reducible apply canon_ite | (fail_if_no_progress intros) | dsimp only | split | (fail_if_no_progress with_reducible refine canon_upd ?_ rfl rfl) | with_reducible rfl

theorem canon_refLossEff (s : State) (hc : Canonical s) : Canonical (refLossEff s) := by
  unfold refLossEff
  repeat' first | with_reducible assumption | with_reducible apply canon_toRc | with_reducible apply canon_leavePll | with_reducible apply canon_State_count | with_reducible apply canon_hbRefLost | with_reducible apply canon_foldl | with_reducible apply canon_ite | (fail_if_no_progress intros) | dsimp only | split | (fail_if_no_progress with_reducible refine canon_upd ?_ rfl rfl) | with_reducible rfl

theorem canon_refPresentEff (s : State) (hc : Canonical s) : Canonical (refPresentEff s) := by
  unfold refPresentEff
  repeat' first | with_reducible assumption | with_reducible apply canon_State_wr | with_reducible apply canon_hbRefBack | with_reducible apply canon_acquire | with_reducible apply canon_foldl | with_reducible apply canon_ite | (fail_if_no_progress intros) | dsimp only | split | (fail_if_no_progress with_reducible refine canon_upd ?_ rfl rfl) | with_reducible rfl

theorem canon_pllTimeoutEff (s : State) (hc : Canonical s) : Canonical (pllTimeoutEff s) := by
  unfold pllTimeoutEff
  repeat' first | with_reducible assumption | with_reducible apply canon_State_setClk | with_reducible apply canon_setCk | with_reducible apply canon_foldl | with_reducible apply canon_ite | (fail_if_no_progress intros) | dsimp only | split | (fail_if_no_progress with_reducible refine canon_upd ?_ rfl rfl) | with_reducible rfl

theorem canon_pllLockEff (s : State) (hc : Canonical s) : Canonical (pllLockEff s) := by
  unfold pllLockEff
  repeat' first | with_reducible assumption | with_reducible apply canon_State_count | with_reducible apply canon_State_setClk | with_reducible apply canon_foldl | with_reducible apply canon_ite | (fail_if_no_progress intros) | dsimp only | split | (fail_if_no_progress with_reducible refine canon_upd ?_ rfl rfl) | with_reducible rfl

theorem canon_pllSettledEff (s : State) (hc : Canonical s) : Canonical (pllSettledEff s) := by
  unfold pllSettledEff
  repeat' first | with_reducible assumption | with_reducible apply canon_State_setClk | with_reducible apply canon_setCk | with_reducible apply canon_State_eachCh | with_reducible apply canon_State_raise | with_reducible apply canon_branchRun | with_reducible apply canon_foldl | with_reducible apply canon_ite | (fail_if_no_progress intros) | dsimp only | split | (fail_if_no_progress with_reducible refine canon_upd ?_ rfl rfl) | with_reducible rfl

theorem canon_relockEff (s : State) (hc : Canonical s) : Canonical (relockEff s) := by
  unfold relockEff
  repeat' first | with_reducible assumption | with_reducible apply canon_acquire | with_reducible apply canon_foldl | with_reducible apply canon_ite | (fail_if_no_progress intros) | dsimp only | split | (fail_if_no_progress with_reducible refine canon_upd ?_ rfl rfl) | with_reducible rfl

theorem canon_refChangedEff (s : State) (hc : Canonical s) : Canonical (refChangedEff s) := by
  unfold refChangedEff
  repeat' first | with_reducible assumption | with_reducible apply canon_toRc | with_reducible apply canon_hbRefLost | with_reducible apply canon_leavePll | with_reducible apply canon_foldl | with_reducible apply canon_ite | (fail_if_no_progress intros) | dsimp only | split | (fail_if_no_progress with_reducible refine canon_upd ?_ rfl rfl) | with_reducible rfl

theorem canon_monitorTripEff (c : Ch) (s : State) (hc : Canonical s) : Canonical (monitorTripEff c s) := by
  unfold monitorTripEff
  repeat' first | with_reducible assumption | with_reducible apply canon_branchStop | with_reducible apply canon_foldl | with_reducible apply canon_ite | (fail_if_no_progress intros) | dsimp only | split | (fail_if_no_progress with_reducible refine canon_upd ?_ rfl rfl) | with_reducible rfl

theorem canon_branchAgainEff (c : Ch) (s : State) (hc : Canonical s) : Canonical (branchAgainEff c s) := by
  unfold branchAgainEff
  repeat' first | with_reducible assumption | with_reducible apply canon_branchRun | with_reducible apply canon_foldl | with_reducible apply canon_ite | (fail_if_no_progress intros) | dsimp only | split | (fail_if_no_progress with_reducible refine canon_upd ?_ rfl rfl) | with_reducible rfl

theorem canon_clkoutCommitEff (k : Fin 2) (s : State) (hc : Canonical s) : Canonical (clkoutCommitEff k s) := by
  unfold clkoutCommitEff
  repeat' first | with_reducible assumption | with_reducible apply canon_State_wr | with_reducible apply canon_foldl | with_reducible apply canon_ite | (fail_if_no_progress intros) | dsimp only | split | (fail_if_no_progress with_reducible refine canon_upd ?_ rfl rfl) | with_reducible rfl

theorem canon_clkoutApplyEff (k : Fin 2) (s : State) (hc : Canonical s) : Canonical (clkoutApplyEff k s) := by
  unfold clkoutApplyEff
  repeat' first | with_reducible assumption | with_reducible apply canon_State_wr | with_reducible apply canon_State_commitAll | with_reducible apply canon_State_setOutClk | with_reducible apply canon_foldl | with_reducible apply canon_ite | (fail_if_no_progress intros) | dsimp only | split | (fail_if_no_progress with_reducible refine canon_upd ?_ rfl rfl) | with_reducible rfl

theorem canon_clkoutUnmuteEff (k : Fin 2) (s : State) (hc : Canonical s) : Canonical (clkoutUnmuteEff k s) := by
  unfold clkoutUnmuteEff
  repeat' first | with_reducible assumption | with_reducible apply canon_State_setOutClk | with_reducible apply canon_foldl | with_reducible apply canon_ite | (fail_if_no_progress intros) | dsimp only | split | (fail_if_no_progress with_reducible refine canon_upd ?_ rfl rfl) | with_reducible rfl

theorem canon_internalFail (s : State) (hc : Canonical s) : Canonical (internalFail s).2 := by
  unfold internalFail
  repeat' first | with_reducible assumption | with_reducible apply canon_State_drew | with_reducible apply canon_foldl | with_reducible apply canon_ite | (fail_if_no_progress intros) | dsimp only | split | (fail_if_no_progress with_reducible refine canon_upd ?_ rfl rfl) | with_reducible rfl

theorem canon_mramTransient (s : State) (hc : Canonical s) : Canonical (mramTransient s) := by
  unfold mramTransient
  repeat' first | with_reducible assumption | with_reducible apply canon_State_raise | with_reducible apply canon_State_count | with_reducible apply canon_foldl | with_reducible apply canon_ite | (fail_if_no_progress intros) | dsimp only | split | (fail_if_no_progress with_reducible refine canon_upd ?_ rfl rfl) | with_reducible rfl

theorem canon_mramRetire (blk : Nat) (s : State) (hc : Canonical s) : Canonical (mramRetire blk s) := by
  unfold mramRetire
  repeat' first | with_reducible assumption | with_reducible apply canon_State_wr | with_reducible apply canon_State_setMem | with_reducible apply canon_State_count | with_reducible apply canon_State_raise | with_reducible apply canon_foldl | with_reducible apply canon_ite | (fail_if_no_progress intros) | dsimp only | split | (fail_if_no_progress with_reducible refine canon_upd ?_ rfl rfl) | with_reducible rfl

theorem canon_loseBlock (blk : Nat) (s : State) (hc : Canonical s) : Canonical (loseBlock blk s) := by
  unfold loseBlock
  repeat' first | with_reducible assumption | with_reducible apply canon_State_setMem | with_reducible apply canon_State_eachCh | with_reducible apply canon_State_setBatt | with_reducible apply canon_foldl | with_reducible apply canon_ite | (fail_if_no_progress intros) | dsimp only | split | (fail_if_no_progress with_reducible refine canon_upd ?_ rfl rfl) | with_reducible rfl

theorem canon_loadTransient (blk : Nat) (s : State) (hc : Canonical s) : Canonical (loadTransient blk s) := by
  unfold loadTransient
  repeat' first | with_reducible assumption | with_reducible apply canon_State_eachCh | with_reducible apply canon_State_count | with_reducible apply canon_State_setBatt | with_reducible apply canon_foldl | with_reducible apply canon_ite | (fail_if_no_progress intros) | dsimp only | split | (fail_if_no_progress with_reducible refine canon_upd ?_ rfl rfl) | with_reducible rfl

theorem canon_blockRead (blk : Nat) (bad1 : Bool) (bad2 : Bool) (s : State) (hc : Canonical s) : Canonical (blockRead blk bad1 bad2 s) := by
  unfold blockRead
  repeat' first | with_reducible assumption | with_reducible apply canon_mramTransient | with_reducible apply canon_loseBlock | with_reducible apply canon_mramRetire | with_reducible apply canon_foldl | with_reducible apply canon_ite | (fail_if_no_progress intros) | dsimp only | split | (fail_if_no_progress with_reducible refine canon_upd ?_ rfl rfl) | with_reducible rfl

theorem canon_mramReadEff (blk : Nat) (bad1 : Bool) (bad2 : Bool) (s : State) (hc : Canonical s) : Canonical (mramReadEff blk bad1 bad2 s) := by
  unfold mramReadEff
  repeat' first | with_reducible assumption | with_reducible apply canon_blockRead | with_reducible apply canon_loadTransient | with_reducible apply canon_foldl | with_reducible apply canon_ite | (fail_if_no_progress intros) | dsimp only | split | (fail_if_no_progress with_reducible refine canon_upd ?_ rfl rfl) | with_reducible rfl

theorem canon_mramWriteEff (blk : Nat) (bad1 : Bool) (bad2 : Bool) (s : State) (hc : Canonical s) : Canonical (mramWriteEff blk bad1 bad2 s) := by
  unfold mramWriteEff
  repeat' first | with_reducible assumption | with_reducible apply canon_blockWritten | with_reducible apply canon_mramTransient | with_reducible apply canon_loseBlock | with_reducible apply canon_mramRetire | with_reducible apply canon_foldl | with_reducible apply canon_ite | (fail_if_no_progress intros) | dsimp only | split | (fail_if_no_progress with_reducible refine canon_upd ?_ rfl rfl) | with_reducible rfl

theorem canon_mramScrubEff (bad1 : Bool) (bad2 : Bool) (s : State) (hc : Canonical s) : Canonical (mramScrubEff bad1 bad2 s) := by
  unfold mramScrubEff
  repeat' first | with_reducible assumption | with_reducible apply canon_State_wr | with_reducible apply canon_blockRead | with_reducible apply canon_foldl | with_reducible apply canon_ite | (fail_if_no_progress intros) | dsimp only | split | (fail_if_no_progress with_reducible refine canon_upd ?_ rfl rfl) | with_reducible rfl

theorem canon_sramScrubEff (corrected : Bool) (uncorrectable : Bool) (s : State) (hc : Canonical s) : Canonical (sramScrubEff corrected uncorrectable s) := by
  unfold sramScrubEff
  repeat' first | with_reducible assumption | with_reducible apply canon_State_count | with_reducible apply canon_foldl | with_reducible apply canon_ite | (fail_if_no_progress intros) | dsimp only | split | (fail_if_no_progress with_reducible refine canon_upd ?_ rfl rfl) | with_reducible rfl

theorem canon_moveGrant (t : Target) (r : Nat) (s : State) (hc : Canonical s) : Canonical (moveGrant t r s) := by
  unfold moveGrant
  repeat' first | with_reducible assumption | with_reducible apply canon_State_setMem | with_reducible apply canon_foldl | with_reducible apply canon_ite | (fail_if_no_progress intros) | dsimp only | split | (fail_if_no_progress with_reducible refine canon_upd ?_ rfl rfl) | with_reducible rfl

theorem canon_arbitrate (t : Target) (wd : Nat) (x2 : Nat) (x3 : Nat) (x4 : State) (hc : Canonical x4) : Canonical (arbitrate t wd x2 x3 x4) := by
  induction x2 generalizing x3 x4 with
  | zero => unfold arbitrate; exact hc
  | succ fuel ih =>
    unfold arbitrate
    split
    · exact hc
    · dsimp only
      exact canon_ite (fun _ => ih _ _ (canon_State_count _ _ _ _ (canon_moveGrant _ _ _ hc))) (fun _ => canon_moveGrant _ _ _ hc)

theorem canon_arbitrateAll (t : Target) (reqs : BitVec 15) (wd : BitVec 15) (s : State) (hc : Canonical s) : Canonical (arbitrateAll t reqs wd s) := by
  unfold arbitrateAll
  repeat' first | with_reducible assumption | with_reducible apply canon_arbitrate | with_reducible apply canon_foldl | with_reducible apply canon_ite | (fail_if_no_progress intros) | dsimp only | split | (fail_if_no_progress with_reducible refine canon_upd ?_ rfl rfl) | with_reducible rfl

theorem canon_inactOpen (v : Nat) (s : State) (hc : Canonical s) : Canonical (inactOpen v s) := by
  unfold inactOpen
  repeat' first | with_reducible assumption | with_reducible apply canon_State_wr | with_reducible apply canon_foldl | with_reducible apply canon_ite | (fail_if_no_progress intros) | dsimp only | split | (fail_if_no_progress with_reducible refine canon_upd ?_ rfl rfl) | with_reducible rfl

theorem canon_inactVerified (isB : Bool) (s : State) (hc : Canonical s) : Canonical (inactVerified isB s) := by
  unfold inactVerified
  repeat' first | with_reducible assumption | with_reducible apply canon_State_wr | with_reducible apply canon_foldl | with_reducible apply canon_ite | (fail_if_no_progress intros) | dsimp only | split | (fail_if_no_progress with_reducible refine canon_upd ?_ rfl rfl) | with_reducible rfl

theorem canon_inactVerify (s : State) (hc : Canonical s) : Canonical (inactVerify s).2 := by
  unfold inactVerify
  repeat' first | with_reducible assumption | with_reducible apply canon_inactVerified | with_reducible apply canon_State_raise | with_reducible apply canon_State_wr | with_reducible apply canon_inactOpen | with_reducible apply canon_foldl | with_reducible apply canon_ite | (fail_if_no_progress intros) | dsimp only | split | (fail_if_no_progress with_reducible refine canon_upd ?_ rfl rfl) | with_reducible rfl

theorem canon_sendBlock (p : HbIx) (d : ImgDesc) (data : List Byte) (s : State) (hc : Canonical s) : Canonical (sendBlock p d data s) := by
  unfold sendBlock
  repeat' first | with_reducible assumption | with_reducible apply canon_hbSend | with_reducible apply canon_State_setLife | with_reducible apply canon_foldl | with_reducible apply canon_ite | (fail_if_no_progress intros) | dsimp only | split | (fail_if_no_progress with_reducible refine canon_upd ?_ rfl rfl) | with_reducible rfl

theorem canon_xoutPort (p : HbIx) (s : State) (hc : Canonical s) : Canonical (xoutPort p s) := by
  unfold xoutPort
  repeat' first | with_reducible assumption | with_reducible apply canon_sendBlock | with_reducible apply canon_State_setLife | with_reducible apply canon_State_wr | with_reducible apply canon_foldl | with_reducible apply canon_ite | (fail_if_no_progress intros) | dsimp only | split | (fail_if_no_progress with_reducible refine canon_upd ?_ rfl rfl) | with_reducible rfl

theorem canon_xoutPump (s : State) (hc : Canonical s) : Canonical (xoutPump s) := by
  unfold xoutPump
  repeat' first | with_reducible assumption | with_reducible apply canon_xoutPort | with_reducible apply canon_State_wr | with_reducible apply canon_State_setLife | with_reducible apply canon_foldl | with_reducible apply canon_ite | (fail_if_no_progress intros) | dsimp only | split | (fail_if_no_progress with_reducible refine canon_upd ?_ rfl rfl) | with_reducible rfl

theorem canon_transferEff (s : State) (hc : Canonical s) : Canonical (transferEff s) := by
  unfold transferEff
  repeat' first | with_reducible assumption | with_reducible apply canon_State_drew | with_reducible apply canon_State_setLife | with_reducible apply canon_State_wr | with_reducible apply canon_xoutPump | with_reducible apply canon_foldl | with_reducible apply canon_ite | (fail_if_no_progress intros) | dsimp only | split | (fail_if_no_progress with_reducible refine canon_upd ?_ rfl rfl) | with_reducible rfl

theorem canon_setXin (x : XferIn) (s : State) (hc : Canonical s) : Canonical (setXin x s) := by
  unfold setXin
  repeat' first | with_reducible assumption | with_reducible apply canon_State_setLife | with_reducible apply canon_foldl | with_reducible apply canon_ite | (fail_if_no_progress intros) | dsimp only | split | (fail_if_no_progress with_reducible refine canon_upd ?_ rfl rfl) | with_reducible rfl

theorem canon_askResend (p : HbIx) (d : ImgDesc) (s : State) (hc : Canonical s) : Canonical (askResend p d s) := by
  unfold askResend
  repeat' first | with_reducible assumption | with_reducible apply canon_hbSend | with_reducible apply canon_foldl | with_reducible apply canon_ite | (fail_if_no_progress intros) | dsimp only | split | (fail_if_no_progress with_reducible refine canon_upd ?_ rfl rfl) | with_reducible rfl

theorem canon_forwardBlock (p : HbIx) (d : ImgDesc) (data : List Byte) (s : State) (hc : Canonical s) : Canonical (forwardBlock p d data s) := by
  unfold forwardBlock
  repeat' first | with_reducible assumption | with_reducible apply canon_sendBlock | with_reducible apply canon_foldl | with_reducible apply canon_ite | (fail_if_no_progress intros) | dsimp only | split | (fail_if_no_progress with_reducible refine canon_upd ?_ rfl rfl) | with_reducible rfl

theorem canon_xferDone (x : XferIn) (s : State) (hc : Canonical s) : Canonical (xferDone x s) := by
  unfold xferDone
  repeat' first | with_reducible assumption | with_reducible apply canon_State_wr | with_reducible apply canon_inactVerify | with_reducible apply canon_State_raise | with_reducible apply canon_cAdd | with_reducible apply canon_foldl | with_reducible apply canon_ite | (fail_if_no_progress intros) | dsimp only | split | (fail_if_no_progress with_reducible refine canon_upd ?_ rfl rfl) | with_reducible rfl

theorem canon_stillStored (x : XferIn) (s : State) (hc : Canonical s) : Canonical (stillStored x s).2 := by
  unfold stillStored
  repeat' first | with_reducible assumption | with_reducible apply canon_State_wr | with_reducible apply canon_foldl | with_reducible apply canon_ite | (fail_if_no_progress intros) | dsimp only | split | (fail_if_no_progress with_reducible refine canon_upd ?_ rfl rfl) | with_reducible rfl

theorem canon_takeBlock (x : XferIn) (d : ImgDesc) (data : List Byte) (s : State) (hc : Canonical s) : Canonical (takeBlock x d data s) := by
  unfold takeBlock
  repeat' first | with_reducible assumption | with_reducible apply canon_State_count | with_reducible apply canon_stillStored | with_reducible apply canon_fwPut | with_reducible apply canon_storePut | with_reducible apply canon_State_wr | with_reducible apply canon_forwardBlock | with_reducible apply canon_State_setLife | with_reducible apply canon_xferDone | with_reducible apply canon_setXin | with_reducible apply canon_foldl | with_reducible apply canon_ite | (fail_if_no_progress intros) | dsimp only | split | (fail_if_no_progress with_reducible refine canon_upd ?_ rfl rfl) | with_reducible rfl

theorem canon_startXfer (p : HbIx) (d : ImgDesc) (data : List Byte) (resent : Bool) (s : State) (hc : Canonical s) : Canonical (startXfer p d data resent s) := by
  unfold startXfer
  repeat' first | with_reducible assumption | with_reducible apply canon_State_setLife | with_reducible apply canon_inactOpen | with_reducible apply canon_State_count | with_reducible apply canon_takeBlock | with_reducible apply canon_setXin | with_reducible apply canon_foldl | with_reducible apply canon_ite | (fail_if_no_progress intros) | dsimp only | split | (fail_if_no_progress with_reducible refine canon_upd ?_ rfl rfl) | with_reducible rfl

theorem canon_imageBlockEff (p : HbIx) (d : ImgDesc) (data : List Byte) (s : State) (hc : Canonical s) : Canonical (imageBlockEff p d data s) := by
  unfold imageBlockEff
  repeat' first | with_reducible assumption | with_reducible apply canon_hbConsume | with_reducible apply canon_startXfer | with_reducible apply canon_askResend | with_reducible apply canon_setXin | with_reducible apply canon_xferAbandon | with_reducible apply canon_takeBlock | with_reducible apply canon_foldl | with_reducible apply canon_ite | (fail_if_no_progress intros) | dsimp only | split | (fail_if_no_progress with_reducible refine canon_upd ?_ rfl rfl) | with_reducible rfl

theorem canon_imageResendEff (p : HbIx) (d : ImgDesc) (s : State) (hc : Canonical s) : Canonical (imageResendEff p d s) := by
  unfold imageResendEff
  repeat' first | with_reducible assumption | with_reducible apply canon_hbConsume | with_reducible apply canon_sendBlock | with_reducible apply canon_foldl | with_reducible apply canon_ite | (fail_if_no_progress intros) | dsimp only | split | (fail_if_no_progress with_reducible refine canon_upd ?_ rfl rfl) | with_reducible rfl

theorem canon_imageAbandonEff (p : HbIx) (d : ImgDesc) (s : State) (hc : Canonical s) : Canonical (imageAbandonEff p d s) := by
  unfold imageAbandonEff
  repeat' first | with_reducible assumption | with_reducible apply canon_hbConsume | with_reducible apply canon_xferAbandon | with_reducible apply canon_foldl | with_reducible apply canon_ite | (fail_if_no_progress intros) | dsimp only | split | (fail_if_no_progress with_reducible refine canon_upd ?_ rfl rfl) | with_reducible rfl

theorem canon_readClears (o : Obj) (n : Nat) (s : State) (hc : Canonical s) : Canonical (readClears o n s) := by
  unfold readClears
  repeat' first | with_reducible assumption | with_reducible apply canon_State_wr | with_reducible apply canon_State_setCh | with_reducible apply canon_foldl | with_reducible apply canon_ite | (fail_if_no_progress intros) | dsimp only | split | (fail_if_no_progress with_reducible refine canon_upd ?_ rfl rfl) | with_reducible rfl

theorem canon_putField (w : ObjW) (f : Fld) (i : Nat) (s : State) (hc : Canonical s) : Canonical (putField w f i s) := by
  unfold putField
  repeat' first | with_reducible assumption | with_reducible apply canon_State_wr | with_reducible apply canon_foldl | with_reducible apply canon_ite | (fail_if_no_progress intros) | dsimp only | split | (fail_if_no_progress with_reducible refine canon_upd ?_ rfl rfl) | with_reducible rfl

theorem canon_putFields (w : ObjW) (s : State) (hc : Canonical s) : Canonical (putFields w s) := by
  unfold putFields
  repeat' first | with_reducible assumption | with_reducible apply canon_putField | with_reducible apply canon_foldl | with_reducible apply canon_ite | (fail_if_no_progress intros) | dsimp only | split | (fail_if_no_progress with_reducible refine canon_upd ?_ rfl rfl) | with_reducible rfl

theorem canon_whenS (b : Bool) (f : State → State) (s : State) (hf : ∀ a0, Canonical a0 → Canonical (f a0)) (hc : Canonical s) : Canonical (whenS b f s) := by
  unfold whenS
  repeat' first | with_reducible assumption | with_reducible apply hf | with_reducible apply canon_foldl | with_reducible apply canon_ite | (fail_if_no_progress intros) | dsimp only | split | (fail_if_no_progress with_reducible refine canon_upd ?_ rfl rfl) | with_reducible rfl

theorem canon_rtcSetEff (v : Nat) (s : State) (hc : Canonical s) : Canonical (rtcSetEff v s) := by
  unfold rtcSetEff
  repeat' first | with_reducible assumption | with_reducible apply canon_State_wr | with_reducible apply canon_foldl | with_reducible apply canon_ite | (fail_if_no_progress intros) | dsimp only | split | (fail_if_no_progress with_reducible refine canon_upd ?_ rfl rfl) | with_reducible rfl

theorem canon_pairCfgWritten (wasEn : Bool) (wasPort : Nat) (s : State) (hc : Canonical s) : Canonical (pairCfgWritten wasEn wasPort s) := by
  unfold pairCfgWritten
  repeat' first | with_reducible assumption | with_reducible apply canon_pairEval | with_reducible apply canon_setRole | with_reducible apply canon_setSync | with_reducible apply canon_syncStart | with_reducible apply canon_foldl | with_reducible apply canon_ite | (fail_if_no_progress intros) | dsimp only | split | (fail_if_no_progress with_reducible refine canon_upd ?_ rfl rfl) | with_reducible rfl

theorem canon_handoverAsk (wt : Waiter) (s : State) (hc : Canonical s) : Canonical (handoverAsk wt s) := by
  unfold handoverAsk
  repeat' first | with_reducible assumption | with_reducible apply canon_sendAlign | with_reducible apply canon_foldl | with_reducible apply canon_ite | (fail_if_no_progress intros) | dsimp only | split | (fail_if_no_progress with_reducible refine canon_upd ?_ rfl rfl) | with_reducible rfl

theorem canon_cmpCfgWritten (old : State) (c : Ch) (put : State → State) (s : State) (hput : ∀ a0, Canonical a0 → Canonical (put a0)) (hc : Canonical s) : Canonical (cmpCfgWritten old c put s) := by
  unfold cmpCfgWritten
  have key : ∀ (l : List (Fin 16)) (f : State → State), (∀ a, Canonical a → Canonical (f a)) → ∀ a, Canonical a → Canonical (l.foldl (fun f j => cmpChange c j f) f a) := by
    intro l
    induction l with
    | nil => intro f hf a ha; exact hf a ha
    | cons j l ih => intro f hf a ha; exact ih _ (fun b hb => canon_cmpChange c j f b hf hb) a ha
  refine key allCmp _ (fun a ha => canon_foldl _ (hput a ha) fun b j hb => ?_) s hc
  exact canon_ite (fun _ => canon_cmpEnable c j b hb) (fun _ => canon_ite (fun _ => canon_cmpUnresolve c j b hb) (fun _ => hb))

theorem canon_hookCh (old : State) (w : ObjW) (s : State) (hc : Canonical s) : Canonical (hookCh old w s) := by
  unfold hookCh
  repeat' first | with_reducible assumption | with_reducible apply canon_whenS | with_reducible apply canon_fwCommitEff | with_reducible apply canon_esCommitEff | with_reducible apply canon_runWriteEff | with_reducible apply canon_commitInjEff | with_reducible apply canon_commitRegEff | with_reducible apply canon_thrCommitEff | with_reducible apply canon_slotDisableEff | with_reducible apply canon_clearStateEff | with_reducible apply canon_commitProgEff | with_reducible apply canon_commitCoefEff | with_reducible apply canon_commitHostEff | with_reducible apply canon_pgCommitSet | with_reducible apply canon_State_setPg | with_reducible apply canon_gridEnWritten | with_reducible apply canon_reconnectAsk | with_reducible apply canon_mpptHoldAll | with_reducible apply canon_mpptEnWritten | with_reducible apply canon_meterEnWritten | with_reducible apply canon_foldl | with_reducible apply canon_ite | (fail_if_no_progress intros) | dsimp only | split | (fail_if_no_progress with_reducible refine canon_upd ?_ rfl rfl) | with_reducible rfl

theorem canon_hookDev (wt : Waiter) (old : State) (w : ObjW) (s : State) (hc : Canonical s) : Canonical (hookDev wt old w s) := by
  unfold hookDev
  repeat' first | with_reducible assumption | with_reducible apply canon_whenS | with_reducible apply canon_refChangedEff | with_reducible apply canon_relockEff | with_reducible apply canon_clkoutCommitEff | with_reducible apply canon_clkoutMode | with_reducible apply canon_safetyWritten | with_reducible apply canon_mirrorWritten | with_reducible apply canon_canModeWritten | with_reducible apply canon_recoverEff | with_reducible apply canon_holdReleaseEff | with_reducible apply canon_pairEval | with_reducible apply canon_hbCfgWritten | with_reducible apply canon_pairCfgWritten | with_reducible apply canon_handoverAsk | with_reducible apply canon_State_wrB | with_reducible apply canon_rtcSetEff | with_reducible apply canon_transferEff | with_reducible apply canon_foldl | with_reducible apply canon_ite | (fail_if_no_progress intros) | dsimp only | split | (fail_if_no_progress with_reducible refine canon_upd ?_ rfl rfl) | with_reducible rfl

theorem canon_applyW (wt : Waiter) (w : ObjW) (s : State) (hc : Canonical s) : Canonical (applyW wt w s) := by
  unfold applyW
  repeat' first | with_reducible assumption | with_reducible apply canon_cmpCfgWritten | with_reducible apply canon_putFields | with_reducible apply canon_hookCh | with_reducible apply canon_settle | with_reducible apply canon_hookDev | with_reducible apply canon_foldl | with_reducible apply canon_ite | (fail_if_no_progress intros) | dsimp only | split | (fail_if_no_progress with_reducible refine canon_upd ?_ rfl rfl) | with_reducible rfl

theorem canon_recordApply (a : Author) (kind : Nat) (last : Bool) (oid : Nat) (wt : Waiter) (w : ObjW) (s : State) (hc : Canonical s) : Canonical (recordApply a kind last oid wt w s) := by
  unfold recordApply
  repeat' first | with_reducible assumption | with_reducible apply canon_putFields | with_reducible apply canon_cAdd | with_reducible apply canon_applyW | with_reducible apply canon_foldl | with_reducible apply canon_ite | (fail_if_no_progress intros) | dsimp only | split | (fail_if_no_progress with_reducible refine canon_upd ?_ rfl rfl) | with_reducible rfl

theorem canon_stageWrite (m : Mbx) (a : Author) (oid : Nat) (lo : Nat) (data : List Byte) (s : State) (hc : Canonical s) : Canonical (stageWrite m a oid lo data s).2 := by
  unfold stageWrite
  repeat' first | with_reducible assumption | with_reducible apply canon_State_setMb | with_reducible apply canon_foldl | with_reducible apply canon_ite | (fail_if_no_progress intros) | dsimp only | split | (fail_if_no_progress with_reducible refine canon_upd ?_ rfl rfl) | with_reducible rfl

theorem canon_objWriteAt (m : Mbx) (wt : Waiter) (a : Author) (oid : Nat) (o : Obj) (n : Nat) (lo : Nat) (data : List Byte) (layout : Nat) (bad : Option Nat) (s : State) (hc : Canonical s) : Canonical (objWriteAt m wt a oid o n lo data layout bad s).2 := by
  unfold objWriteAt
  repeat' first | with_reducible assumption | with_reducible apply canon_stageWrite | with_reducible apply canon_recordApply | with_reducible apply canon_foldl | with_reducible apply canon_ite | (fail_if_no_progress intros) | dsimp only | split | (fail_if_no_progress with_reducible refine canon_upd ?_ rfl rfl) | with_reducible rfl

theorem canon_objWriteWhole (m : Mbx) (wt : Waiter) (a : Author) (oid : Nat) (data : List Byte) (s : State) (hc : Canonical s) : Canonical (objWriteWhole m wt a oid data s).2 := by
  unfold objWriteWhole
  repeat' first | with_reducible assumption | with_reducible apply canon_objWriteAt | with_reducible apply canon_foldl | with_reducible apply canon_ite | (fail_if_no_progress intros) | dsimp only | split | (fail_if_no_progress with_reducible refine canon_upd ?_ rfl rfl) | with_reducible rfl

theorem canon_objWritePart (m : Mbx) (wt : Waiter) (a : Author) (oid : Nat) (off : Nat) (layout : Nat) (data : List Byte) (rsv : Option Nat) (s : State) (hc : Canonical s) : Canonical (objWritePart m wt a oid off layout data rsv s).2 := by
  unfold objWritePart
  repeat' first | with_reducible assumption | with_reducible apply canon_objWriteAt | with_reducible apply canon_foldl | with_reducible apply canon_ite | (fail_if_no_progress intros) | dsimp only | split | (fail_if_no_progress with_reducible refine canon_upd ?_ rfl rfl) | with_reducible rfl

theorem canon_endOf (wt : Waiter) (r : Option Done × State) (hc : Canonical r.2) : Canonical (endOf wt r) := by
  unfold endOf
  split
  · exact canon_completeW _ _ _ hc
  · exact hc

theorem canon_objectReadEff (m : Mbx) (oid : Nat) (s : State) (hc : Canonical s) : Canonical (objectReadEff m oid s).2 := by
  unfold objectReadEff
  repeat' first | with_reducible assumption | with_reducible apply canon_readClears | with_reducible apply canon_foldl | with_reducible apply canon_ite | (fail_if_no_progress intros) | dsimp only | split | (fail_if_no_progress with_reducible refine canon_upd ?_ rfl rfl) | with_reducible rfl

theorem canon_hostCmd (m : Mbx) (code : Nat) (p : List Byte) (f : State → Done × State) (s : State) (hf : ∀ a0, Canonical a0 → Canonical (f a0).2) (hc : Canonical s) : Canonical (hostCmd m code p f s) := by
  unfold hostCmd
  repeat' first | with_reducible assumption | with_reducible apply hf | with_reducible apply canon_complete | with_reducible apply canon_foldl | with_reducible apply canon_ite | (fail_if_no_progress intros) | dsimp only | split | (fail_if_no_progress with_reducible refine canon_upd ?_ rfl rfl) | with_reducible rfl

theorem canon_objWriteRow (m : Mbx) (oid : Nat) (image : List Byte) (s : State) (hc : Canonical s) : Canonical (objWriteRow m oid image s) := by
  unfold objWriteRow
  repeat' first | with_reducible assumption | with_reducible apply canon_processed | with_reducible apply canon_endOf | with_reducible apply canon_objWriteWhole | with_reducible apply canon_foldl | with_reducible apply canon_ite | (fail_if_no_progress intros) | dsimp only | split | (fail_if_no_progress with_reducible refine canon_upd ?_ rfl rfl) | with_reducible rfl

theorem canon_writePartEff (m : Mbx) (p : List Byte) (s : State) (hc : Canonical s) : Canonical (writePartEff m p s) := by
  unfold writePartEff
  repeat' first | with_reducible assumption | with_reducible apply canon_processed | with_reducible apply canon_completeW | with_reducible apply canon_endOf | with_reducible apply canon_objWritePart | with_reducible apply canon_foldl | with_reducible apply canon_ite | (fail_if_no_progress intros) | dsimp only | split | (fail_if_no_progress with_reducible refine canon_upd ?_ rfl rfl) | with_reducible rfl

theorem canon_regWrite (m : Mbx) (oid : Nat) (lo : Nat) (len : Nat) (edits : List (Fld × Nat × Nat)) (s : State) (hc : Canonical s) : Canonical (regWrite m oid lo len edits s) := by
  unfold regWrite
  repeat' first | with_reducible assumption | with_reducible apply canon_completeW | with_reducible apply canon_processed | with_reducible apply canon_endOf | with_reducible apply canon_objWritePart | with_reducible apply canon_foldl | with_reducible apply canon_ite | (fail_if_no_progress intros) | dsimp only | split | (fail_if_no_progress with_reducible refine canon_upd ?_ rfl rfl) | with_reducible rfl

theorem canon_mfReopen (c : Ch) (s : State) (hc : Canonical s) : Canonical (mfReopen c s) := by
  unfold mfReopen
  repeat' first | with_reducible assumption | with_reducible apply canon_setMfState | with_reducible apply canon_mfTryStart | with_reducible apply canon_foldl | with_reducible apply canon_ite | (fail_if_no_progress intros) | dsimp only | split | (fail_if_no_progress with_reducible refine canon_upd ?_ rfl rfl) | with_reducible rfl

theorem canon_idleEnter (c : Ch) (s : State) (hc : Canonical s) : Canonical (idleEnter c s) := by
  unfold idleEnter
  repeat' first | with_reducible assumption | with_reducible apply canon_mfClose | with_reducible apply canon_sarStop | with_reducible apply canon_atStop | with_reducible apply canon_settle | with_reducible apply canon_State_setCh | with_reducible apply canon_foldl | with_reducible apply canon_ite | (fail_if_no_progress intros) | dsimp only | split | (fail_if_no_progress with_reducible refine canon_upd ?_ rfl rfl) | with_reducible rfl

theorem canon_idleLeave (c : Ch) (s : State) (hc : Canonical s) : Canonical (idleLeave c s) := by
  unfold idleLeave
  repeat' first | with_reducible assumption | with_reducible apply canon_State_setCh | with_reducible apply canon_sarStart | with_reducible apply canon_settle | with_reducible apply canon_mfReopen | with_reducible apply canon_foldl | with_reducible apply canon_ite | (fail_if_no_progress intros) | dsimp only | split | (fail_if_no_progress with_reducible refine canon_upd ?_ rfl rfl) | with_reducible rfl

theorem canon_idleWake (c : Ch) (j : Fin 16) (was : Bool) (s : State) (hc : Canonical s) : Canonical (idleWake c j was s) := by
  unfold idleWake
  repeat' first | with_reducible assumption | with_reducible apply canon_idleLeave | with_reducible apply canon_State_wrBit | with_reducible apply canon_foldl | with_reducible apply canon_ite | (fail_if_no_progress intros) | dsimp only | split | (fail_if_no_progress with_reducible refine canon_upd ?_ rfl rfl) | with_reducible rfl

theorem canon_cmpFilterChangeEff (c : Ch) (j : Fin 16) (s : State) (hc : Canonical s) : Canonical (cmpFilterChangeEff c j s) := by
  unfold cmpFilterChangeEff
  repeat' first | with_reducible assumption | with_reducible apply canon_idleWake | with_reducible apply canon_cmpFilterEff | with_reducible apply canon_foldl | with_reducible apply canon_ite | (fail_if_no_progress intros) | dsimp only | split | (fail_if_no_progress with_reducible refine canon_upd ?_ rfl rfl) | with_reducible rfl

theorem canon_runReq (m : Mbx) (r : Req) (p : List Byte) (body : Waiter → State → State) (s : State) (hbody : ∀ a0 a1, Canonical a1 → Canonical (body a0 a1)) (hc : Canonical s) : Canonical (runReq m r p body s) := by
  unfold runReq
  repeat' first | with_reducible assumption | with_reducible apply hbody | with_reducible apply canon_processed | with_reducible apply canon_completeW | with_reducible apply canon_foldl | with_reducible apply canon_ite | (fail_if_no_progress intros) | dsimp only | split | (fail_if_no_progress with_reducible refine canon_upd ?_ rfl rfl) | with_reducible rfl

theorem canon_runNow (m : Mbx) (r : Req) (p : List Byte) (body : State → Done × State) (s : State) (hbody : ∀ a0, Canonical a0 → Canonical (body a0).2) (hc : Canonical s) : Canonical (runNow m r p body s) := by
  unfold runNow
  repeat' first | with_reducible assumption | with_reducible apply hbody | with_reducible apply canon_runReq | with_reducible apply canon_completeW | with_reducible apply canon_foldl | with_reducible apply canon_ite | (fail_if_no_progress intros) | dsimp only | split | (fail_if_no_progress with_reducible refine canon_upd ?_ rfl rfl) | with_reducible rfl

theorem canon_lockEff (m : Mbx) (p : List Byte) (s : State) (hc : Canonical s) : Canonical (lockEff m p s).2 := by
  unfold lockEff
  repeat' first | with_reducible assumption | with_reducible apply canon_jLock | with_reducible apply canon_State_setMb | with_reducible apply canon_renewLease | with_reducible apply canon_foldl | with_reducible apply canon_ite | (fail_if_no_progress intros) | dsimp only | split | (fail_if_no_progress with_reducible refine canon_upd ?_ rfl rfl) | with_reducible rfl

theorem canon_stagedAfter (ws : List Staged) (s : State) (hc : Canonical s) : Canonical (stagedAfter ws s) := by
  unfold stagedAfter
  repeat' first | with_reducible assumption | with_reducible apply canon_putFields | with_reducible apply canon_foldl | with_reducible apply canon_ite | (fail_if_no_progress intros) | dsimp only | split | (fail_if_no_progress with_reducible refine canon_upd ?_ rfl rfl) | with_reducible rfl

theorem canon_commitRecords (a : Author) (ws : List Staged) (s : State) (hc : Canonical s) : Canonical (commitRecords a ws s) := by
  unfold commitRecords
  repeat' first | with_reducible assumption | with_reducible apply canon_stagedAfter | with_reducible apply canon_cAdd | with_reducible apply canon_foldl | with_reducible apply canon_ite | (fail_if_no_progress intros) | dsimp only | split | (fail_if_no_progress with_reducible refine canon_upd ?_ rfl rfl) | with_reducible rfl

theorem canon_unlockEff (m : Mbx) (w : Waiter) (p : List Byte) (s : State) (hc : Canonical s) : Canonical (unlockEff m w p s).2 := by
  unfold unlockEff
  repeat' first | with_reducible assumption | with_reducible apply canon_State_setMb | with_reducible apply canon_jLock | with_reducible apply canon_commitRecords | with_reducible apply canon_applyW | with_reducible apply canon_foldl | with_reducible apply canon_ite | (fail_if_no_progress intros) | dsimp only | split | (fail_if_no_progress with_reducible refine canon_upd ?_ rfl rfl) | with_reducible rfl

theorem canon_storeWriteEff (m : Mbx) (p : List Byte) (s : State) (hc : Canonical s) : Canonical (storeWriteEff m p s).2 := by
  unfold storeWriteEff
  repeat' first | with_reducible assumption | with_reducible apply canon_internalFail | with_reducible apply canon_storePut | with_reducible apply canon_cAdd | with_reducible apply canon_foldl | with_reducible apply canon_ite | (fail_if_no_progress intros) | dsimp only | split | (fail_if_no_progress with_reducible refine canon_upd ?_ rfl rfl) | with_reducible rfl

theorem canon_storeReadEff (p : List Byte) (s : State) (hc : Canonical s) : Canonical (storeReadEff p s).2 := by
  unfold storeReadEff
  repeat' first | with_reducible assumption | with_reducible apply canon_internalFail | with_reducible apply canon_foldl | with_reducible apply canon_ite | (fail_if_no_progress intros) | dsimp only | split | (fail_if_no_progress with_reducible refine canon_upd ?_ rfl rfl) | with_reducible rfl

theorem canon_bankLoadEff (c : Ch) (w : Waiter) (isB : Bool) (slot : Nat) (s : State) (hc : Canonical s) : Canonical (bankLoadEff c w isB slot s) := by
  unfold bankLoadEff
  repeat' first | with_reducible assumption | with_reducible apply canon_completeW | with_reducible apply canon_loaderRun | with_reducible apply canon_State_setBatt | with_reducible apply canon_foldl | with_reducible apply canon_ite | (fail_if_no_progress intros) | dsimp only | split | (fail_if_no_progress with_reducible refine canon_upd ?_ rfl rfl) | with_reducible rfl

theorem canon_bankSwapEff (c : Ch) (w : Waiter) (isB : Bool) (s : State) (hc : Canonical s) : Canonical (bankSwapEff c w isB s) := by
  unfold bankSwapEff
  repeat' first | with_reducible assumption | with_reducible apply canon_swapWithdraw | with_reducible apply canon_State_setBatt | with_reducible apply canon_settle | with_reducible apply canon_swapProceed | with_reducible apply canon_foldl | with_reducible apply canon_ite | (fail_if_no_progress intros) | dsimp only | split | (fail_if_no_progress with_reducible refine canon_upd ?_ rfl rfl) | with_reducible rfl

theorem canon_swapCancelEff (c : Ch) (s : State) (hc : Canonical s) : Canonical (swapCancelEff c s).2 := by
  unfold swapCancelEff
  repeat' first | with_reducible assumption | with_reducible apply canon_swapWithdraw | with_reducible apply canon_State_setBatt | with_reducible apply canon_foldl | with_reducible apply canon_ite | (fail_if_no_progress intros) | dsimp only | split | (fail_if_no_progress with_reducible refine canon_upd ?_ rfl rfl) | with_reducible rfl

theorem canon_bankEraseEff (c : Ch) (w : Waiter) (isB : Bool) (s : State) (hc : Canonical s) : Canonical (bankEraseEff c w isB s) := by
  unfold bankEraseEff
  repeat' first | with_reducible assumption | with_reducible apply canon_State_setBatt | with_reducible apply canon_eraseNow | with_reducible apply canon_foldl | with_reducible apply canon_ite | (fail_if_no_progress intros) | dsimp only | split | (fail_if_no_progress with_reducible refine canon_upd ?_ rfl rfl) | with_reducible rfl

theorem canon_sessStartEff (c : Ch) (id : Nat) (w : Waiter) (s : State) (hc : Canonical s) : Canonical (sessStartEff c id w s) := by
  unfold sessStartEff
  repeat' first | with_reducible assumption | with_reducible apply canon_completeW | with_reducible apply canon_State_setMf | with_reducible apply canon_foldl | with_reducible apply canon_ite | (fail_if_no_progress intros) | dsimp only | split | (fail_if_no_progress with_reducible refine canon_upd ?_ rfl rfl) | with_reducible rfl

theorem canon_sessStopEff (c : Ch) (w : Waiter) (s : State) (hc : Canonical s) : Canonical (sessStopEff c w s) := by
  unfold sessStopEff
  repeat' first | with_reducible assumption | with_reducible apply canon_State_setMf | with_reducible apply canon_completeW | with_reducible apply canon_foldl | with_reducible apply canon_ite | (fail_if_no_progress intros) | dsimp only | split | (fail_if_no_progress with_reducible refine canon_upd ?_ rfl rfl) | with_reducible rfl

theorem canon_billReadEff (p : List Byte) (s : State) (hc : Canonical s) : Canonical (billReadEff p s).2 := by
  unfold billReadEff
  repeat' first | with_reducible assumption | with_reducible apply canon_foldl | with_reducible apply canon_ite | (fail_if_no_progress intros) | dsimp only | split | (fail_if_no_progress with_reducible refine canon_upd ?_ rfl rfl) | with_reducible rfl

theorem canon_billAckEff (p : List Byte) (s : State) (hc : Canonical s) : Canonical (billAckEff p s).2 := by
  unfold billAckEff
  repeat' first | with_reducible assumption | with_reducible apply canon_State_wr | with_reducible apply canon_foldl | with_reducible apply canon_ite | (fail_if_no_progress intros) | dsimp only | split | (fail_if_no_progress with_reducible refine canon_upd ?_ rfl rfl) | with_reducible rfl

theorem canon_cAddFree (a : Author) (kind : Nat) (s : State) (hc : Canonical s) : Canonical (cAddFree a kind s) := by
  unfold cAddFree
  repeat' first | with_reducible assumption | with_reducible apply canon_cAdd | with_reducible apply canon_State_drew | with_reducible apply canon_foldl | with_reducible apply canon_ite | (fail_if_no_progress intros) | dsimp only | split | (fail_if_no_progress with_reducible refine canon_upd ?_ rfl rfl) | with_reducible rfl

theorem canon_meterClearEff (c : Ch) (m : Mbx) (w : Waiter) (s : State) (hc : Canonical s) : Canonical (meterClearEff c m w s) := by
  unfold meterClearEff
  repeat' first | with_reducible assumption | with_reducible apply canon_completeW | with_reducible apply canon_cAddFree | with_reducible apply canon_State_setMf | with_reducible apply canon_latchRec | with_reducible apply canon_State_wr | with_reducible apply canon_foldl | with_reducible apply canon_ite | (fail_if_no_progress intros) | dsimp only | split | (fail_if_no_progress with_reducible refine canon_upd ?_ rfl rfl) | with_reducible rfl

theorem canon_feideCmdEff (p : List Byte) (s : State) (hc : Canonical s) : Canonical (feideCmdEff p s).2 := by
  unfold feideCmdEff
  repeat' first | with_reducible assumption | with_reducible apply canon_feideReceive | with_reducible apply canon_State_setConn | with_reducible apply canon_foldl | with_reducible apply canon_ite | (fail_if_no_progress intros) | dsimp only | split | (fail_if_no_progress with_reducible refine canon_upd ?_ rfl rfl) | with_reducible rfl

theorem canon_journalReadEff (p : List Byte) (s : State) (hc : Canonical s) : Canonical (journalReadEff p s).2 := by
  unfold journalReadEff
  repeat' first | with_reducible assumption | with_reducible apply canon_foldl | with_reducible apply canon_ite | (fail_if_no_progress intros) | dsimp only | split | (fail_if_no_progress with_reducible refine canon_upd ?_ rfl rfl) | with_reducible rfl

theorem canon_changeReadEff (p : List Byte) (s : State) (hc : Canonical s) : Canonical (changeReadEff p s).2 := by
  unfold changeReadEff
  repeat' first | with_reducible assumption | with_reducible apply canon_internalFail | with_reducible apply canon_foldl | with_reducible apply canon_ite | (fail_if_no_progress intros) | dsimp only | split | (fail_if_no_progress with_reducible refine canon_upd ?_ rfl rfl) | with_reducible rfl

theorem canon_unlockRun (m : Mbx) (w : Waiter) (p : List Byte) (s : State) (hc : Canonical s) : Canonical (unlockRun m w p s) := by
  unfold unlockRun
  repeat' first | with_reducible assumption | with_reducible apply canon_completeW | with_reducible apply canon_unlockEff | with_reducible apply canon_foldl | with_reducible apply canon_ite | (fail_if_no_progress intros) | dsimp only | split | (fail_if_no_progress with_reducible refine canon_upd ?_ rfl rfl) | with_reducible rfl

theorem canon_idleCommand (m : Mbx) (p : List Byte) (s : State) (hc : Canonical s) : Canonical (idleCommand m p s) := by
  unfold idleCommand
  repeat' first | with_reducible assumption | with_reducible apply canon_runNow | with_reducible apply canon_idleLeave | with_reducible apply canon_idleEnter | with_reducible apply canon_foldl | with_reducible apply canon_ite | (fail_if_no_progress intros) | dsimp only | split | (fail_if_no_progress with_reducible refine canon_upd ?_ rfl rfl) | with_reducible rfl

theorem canon_setDelivered (o : Obj) (n : Nat) (s : State) (hc : Canonical s) : Canonical (setDelivered o n s) := by
  unfold setDelivered
  repeat' first | with_reducible assumption | with_reducible apply canon_State_wr | with_reducible apply canon_foldl | with_reducible apply canon_ite | (fail_if_no_progress intros) | dsimp only | split | (fail_if_no_progress with_reducible refine canon_upd ?_ rfl rfl) | with_reducible rfl

theorem canon_migrateObj (isB : Bool) (o : Obj) (n : Nat) (s : State) (hc : Canonical s) : Canonical (migrateObj isB o n s) := by
  unfold migrateObj
  repeat' first | with_reducible assumption | with_reducible apply canon_State_wr | with_reducible apply canon_setDelivered | with_reducible apply canon_State_count | with_reducible apply canon_cAdd | with_reducible apply canon_foldl | with_reducible apply canon_ite | (fail_if_no_progress intros) | dsimp only | split | (fail_if_no_progress with_reducible refine canon_upd ?_ rfl rfl) | with_reducible rfl

theorem canon_migrateAll (isB : Bool) (s : State) (hc : Canonical s) : Canonical (migrateAll isB s) := by
  unfold migrateAll
  repeat' first | with_reducible assumption | with_reducible apply canon_migrateObj | with_reducible apply canon_foldl | with_reducible apply canon_ite | (fail_if_no_progress intros) | dsimp only | split | (fail_if_no_progress with_reducible refine canon_upd ?_ rfl rfl) | with_reducible rfl

theorem canon_runVersions (isB : Bool) (s : State) (hc : Canonical s) : Canonical (runVersions isB s) := by
  unfold runVersions
  repeat' first | with_reducible assumption | with_reducible apply canon_State_wr | with_reducible apply canon_foldl | with_reducible apply canon_ite | (fail_if_no_progress intros) | dsimp only | split | (fail_if_no_progress with_reducible refine canon_upd ?_ rfl rfl) | with_reducible rfl

theorem canon_firmwareStart (isB : Bool) (s : State) (hc : Canonical s) : Canonical (firmwareStart isB s) := by
  unfold firmwareStart
  repeat' first | with_reducible assumption | with_reducible apply canon_State_wr | with_reducible apply canon_runVersions | with_reducible apply canon_migrateAll | with_reducible apply canon_safetyWritten | with_reducible apply canon_foldl | with_reducible apply canon_ite | (fail_if_no_progress intros) | dsimp only | split | (fail_if_no_progress with_reducible refine canon_upd ?_ rfl rfl) | with_reducible rfl

theorem canon_State_setPow (s : State) (f : PowSt → PowSt) (hc : Canonical s) : Canonical (State.setPow s f) := by
  unfold State.setPow
  repeat' first | with_reducible assumption | with_reducible apply canon_foldl | with_reducible apply canon_ite | (fail_if_no_progress intros) | dsimp only | split | (fail_if_no_progress with_reducible refine canon_upd ?_ rfl rfl) | with_reducible rfl

theorem canon_unitsDown (s : State) (hc : Canonical s) : Canonical (unitsDown s) := by
  unfold unitsDown
  repeat' first | with_reducible assumption | with_reducible apply canon_stopAllPg | with_reducible apply canon_State_eachCh | with_reducible apply canon_State_wr | with_reducible apply canon_State_setMf | with_reducible apply canon_setMfState | with_reducible apply canon_settle | with_reducible apply canon_State_setCh | with_reducible apply canon_islandStop | with_reducible apply canon_setSync | with_reducible apply canon_foldl | with_reducible apply canon_ite | (fail_if_no_progress intros) | dsimp only | split | (fail_if_no_progress with_reducible refine canon_upd ?_ rfl rfl) | with_reducible rfl

theorem canon_crownTo (r : CrownRun) (s : State) (hc : Canonical s) : Canonical (crownTo r s) := by
  unfold crownTo
  repeat' first | with_reducible assumption | with_reducible apply canon_foldl | with_reducible apply canon_ite | (fail_if_no_progress intros) | dsimp only | split | (fail_if_no_progress with_reducible refine canon_upd ?_ rfl rfl) | with_reducible rfl

theorem canon_enterRecovery (s : State) (hc : Canonical s) : Canonical (enterRecovery s) := by
  unfold enterRecovery
  repeat' first | with_reducible assumption | with_reducible apply canon_State_setPow | with_reducible apply canon_crownTo | with_reducible apply canon_unitsDown | with_reducible apply canon_foldl | with_reducible apply canon_ite | (fail_if_no_progress intros) | dsimp only | split | (fail_if_no_progress with_reducible refine canon_upd ?_ rfl rfl) | with_reducible rfl

theorem canon_inactReject (code : Nat) (s : State) (hc : Canonical s) : Canonical (inactReject code s) := by
  unfold inactReject
  repeat' first | with_reducible assumption | with_reducible apply canon_State_wr | with_reducible apply canon_inactOpen | with_reducible apply canon_foldl | with_reducible apply canon_ite | (fail_if_no_progress intros) | dsimp only | split | (fail_if_no_progress with_reducible refine canon_upd ?_ rfl rfl) | with_reducible rfl

theorem canon_romStart (full : Bool) (s : State) (hc : Canonical s) : Canonical (romStart full s).2 := by
  unfold romStart
  repeat' first | with_reducible assumption | with_reducible apply canon_firmwareStart | with_reducible apply canon_State_wr | with_reducible apply canon_State_count | with_reducible apply canon_State_wrB | with_reducible apply canon_inactReject | with_reducible apply canon_enterRecovery | with_reducible apply canon_foldl | with_reducible apply canon_ite | (fail_if_no_progress intros) | dsimp only | split | (fail_if_no_progress with_reducible refine canon_upd ?_ rfl rfl) | with_reducible rfl

theorem canon_dropWaits (s : State) (hc : Canonical s) : Canonical (dropWaits s) := by
  unfold dropWaits
  repeat' first | with_reducible assumption | with_reducible apply canon_State_eachCh | with_reducible apply canon_emptyBank | with_reducible apply canon_setBank | with_reducible apply canon_State_setBatt | with_reducible apply canon_State_setCh | with_reducible apply canon_State_setMf | with_reducible apply canon_foldl | with_reducible apply canon_ite | (fail_if_no_progress intros) | dsimp only | split | (fail_if_no_progress with_reducible refine canon_upd ?_ rfl rfl) | with_reducible rfl

theorem canon_replayUnlock (m : Mbx) (s : State) (hc : Canonical s) : Canonical (replayUnlock m s) := by
  unfold replayUnlock
  repeat' first | with_reducible assumption | with_reducible apply canon_unlockRun | with_reducible apply canon_foldl | with_reducible apply canon_ite | (fail_if_no_progress intros) | dsimp only | split | (fail_if_no_progress with_reducible refine canon_upd ?_ rfl rfl) | with_reducible rfl

theorem canon_voidPass (s : State) (hc : Canonical s) : Canonical (voidPass s) := by
  unfold voidPass
  repeat' first | with_reducible assumption | with_reducible apply canon_State_setMem | with_reducible apply canon_foldl | with_reducible apply canon_ite | (fail_if_no_progress intros) | dsimp only | split | (fail_if_no_progress with_reducible refine canon_upd ?_ rfl rfl) | with_reducible rfl

theorem canon_restoreMb (m : Mbx) (s : State) (hc : Canonical s) : Canonical (restoreMb m s) := by
  unfold restoreMb
  repeat' first | with_reducible assumption | with_reducible apply canon_State_setMb | with_reducible apply canon_foldl | with_reducible apply canon_ite | (fail_if_no_progress intros) | dsimp only | split | (fail_if_no_progress with_reducible refine canon_upd ?_ rfl rfl) | with_reducible rfl

theorem canon_restoreNext (m : Mbx) (s : State) (hc : Canonical s) : Canonical (restoreNext m s) := by
  unfold restoreNext
  repeat' first | with_reducible assumption | with_reducible apply canon_State_wr | with_reducible apply canon_foldl | with_reducible apply canon_ite | (fail_if_no_progress intros) | dsimp only | split | (fail_if_no_progress with_reducible refine canon_upd ?_ rfl rfl) | with_reducible rfl

theorem canon_journalRestore (s : State) (hc : Canonical s) : Canonical (journalRestore s) := by
  unfold journalRestore
  repeat' first | with_reducible assumption | with_reducible apply canon_voidPass | with_reducible apply canon_State_wr | with_reducible apply canon_restoreNext | with_reducible apply canon_restoreMb | with_reducible apply canon_foldl | with_reducible apply canon_ite | (fail_if_no_progress intros) | dsimp only | split | (fail_if_no_progress with_reducible refine canon_upd ?_ rfl rfl) | with_reducible rfl

theorem canon_acceptAgain (m : Mbx) (k : Cmd) (s : State) (hc : Canonical s) : Canonical (acceptAgain m k s) := by
  unfold acceptAgain
  repeat' first | with_reducible assumption | with_reducible apply canon_State_setMb | with_reducible apply canon_foldl | with_reducible apply canon_ite | (fail_if_no_progress intros) | dsimp only | split | (fail_if_no_progress with_reducible refine canon_upd ?_ rfl rfl) | with_reducible rfl

theorem canon_waitOn (m : Mbx) (k : Cmd) (s : State) (hc : Canonical s) : Canonical (waitOn m k s) := by
  unfold waitOn
  repeat' first | with_reducible assumption | with_reducible apply canon_State_setMb | with_reducible apply canon_foldl | with_reducible apply canon_ite | (fail_if_no_progress intros) | dsimp only | split | (fail_if_no_progress with_reducible refine canon_upd ?_ rfl rfl) | with_reducible rfl

theorem canon_crownRestore (plan : List (Mbx × Cmd × Replay)) (s : State) (hc : Canonical s) : Canonical (crownRestore plan s) := by
  unfold crownRestore
  repeat' first | with_reducible assumption | with_reducible apply canon_journalRestore | with_reducible apply canon_replayUnlock | with_reducible apply canon_breakLock | with_reducible apply canon_acceptAgain | with_reducible apply canon_waitOn | with_reducible apply canon_completeW | with_reducible apply canon_foldl | with_reducible apply canon_ite | (fail_if_no_progress intros) | dsimp only | split | (fail_if_no_progress with_reducible refine canon_upd ?_ rfl rfl) | with_reducible rfl

theorem canon_keepAliveEff (s : State) (hc : Canonical s) : Canonical (keepAliveEff s) := by
  unfold keepAliveEff
  repeat' first | with_reducible assumption | with_reducible apply canon_State_eachCh | with_reducible apply canon_State_setCh | with_reducible apply canon_foldl | with_reducible apply canon_ite | (fail_if_no_progress intros) | dsimp only | split | (fail_if_no_progress with_reducible refine canon_upd ?_ rfl rfl) | with_reducible rfl

theorem canon_holdStartEff (c : Ch) (s : State) (hc : Canonical s) : Canonical (holdStartEff c s) := by
  unfold holdStartEff
  repeat' first | with_reducible assumption | with_reducible apply canon_State_setCh | with_reducible apply canon_foldl | with_reducible apply canon_ite | (fail_if_no_progress intros) | dsimp only | split | (fail_if_no_progress with_reducible refine canon_upd ?_ rfl rfl) | with_reducible rfl

theorem canon_holdExpireEff (c : Ch) (s : State) (hc : Canonical s) : Canonical (holdExpireEff c s) := by
  unfold holdExpireEff
  repeat' first | with_reducible assumption | with_reducible apply canon_settle | with_reducible apply canon_squallRequest | with_reducible apply canon_State_setCh | with_reducible apply canon_foldl | with_reducible apply canon_ite | (fail_if_no_progress intros) | dsimp only | split | (fail_if_no_progress with_reducible refine canon_upd ?_ rfl rfl) | with_reducible rfl

theorem canon_crownRestart (cause : Nat) (s : State) (hc : Canonical s) : Canonical (crownRestart cause s) := by
  unfold crownRestart
  repeat' first | with_reducible assumption | with_reducible apply canon_crownTo | with_reducible apply canon_ownerRelease | with_reducible apply canon_foldl | with_reducible apply canon_ite | (fail_if_no_progress intros) | dsimp only | split | (fail_if_no_progress with_reducible refine canon_upd ?_ rfl rfl) | with_reducible rfl

theorem canon_lockstepEff (s : State) (hc : Canonical s) : Canonical (lockstepEff s) := by
  unfold lockstepEff
  repeat' first | with_reducible assumption | with_reducible apply canon_crownRestart | with_reducible apply canon_State_wr | with_reducible apply canon_State_eachCh | with_reducible apply canon_State_setCh | with_reducible apply canon_foldl | with_reducible apply canon_ite | (fail_if_no_progress intros) | dsimp only | split | (fail_if_no_progress with_reducible refine canon_upd ?_ rfl rfl) | with_reducible rfl

theorem canon_crownBack (s : State) (hc : Canonical s) : Canonical (crownBack s) := by
  unfold crownBack
  repeat' first | with_reducible assumption | with_reducible apply canon_canKick | with_reducible apply canon_canService | with_reducible apply canon_keepAliveEff | with_reducible apply canon_hbService | with_reducible apply canon_foldl | with_reducible apply canon_ite | (fail_if_no_progress intros) | dsimp only | split | (fail_if_no_progress with_reducible refine canon_upd ?_ rfl rfl) | with_reducible rfl

theorem canon_restartDoneEff (s : State) (hc : Canonical s) : Canonical (restartDoneEff s) := by
  unfold restartDoneEff
  repeat' first | with_reducible assumption | with_reducible apply canon_romStart | with_reducible apply canon_crownBack | with_reducible apply canon_crownRestore | with_reducible apply canon_dropWaits | with_reducible apply canon_crownTo | with_reducible apply canon_foldl | with_reducible apply canon_ite | (fail_if_no_progress intros) | dsimp only | split | (fail_if_no_progress with_reducible refine canon_upd ?_ rfl rfl) | with_reducible rfl

theorem canon_stopOrderEff (c : Ch) (s : State) (hc : Canonical s) : Canonical (stopOrderEff c s) := by
  unfold stopOrderEff
  repeat' first | with_reducible assumption | with_reducible apply canon_sendOrder | with_reducible apply canon_settle | with_reducible apply canon_squallRequest | with_reducible apply canon_State_setSc | with_reducible apply canon_foldl | with_reducible apply canon_ite | (fail_if_no_progress intros) | dsimp only | split | (fail_if_no_progress with_reducible refine canon_upd ?_ rfl rfl) | with_reducible rfl

theorem canon_fwWriteEff (p : List Byte) (s : State) (hc : Canonical s) : Canonical (fwWriteEff p s).2 := by
  unfold fwWriteEff
  repeat' first | with_reducible assumption | with_reducible apply canon_internalFail | with_reducible apply canon_fwPut | with_reducible apply canon_inactOpen | with_reducible apply canon_foldl | with_reducible apply canon_ite | (fail_if_no_progress intros) | dsimp only | split | (fail_if_no_progress with_reducible refine canon_upd ?_ rfl rfl) | with_reducible rfl

theorem canon_fwVerifyEff (s : State) (hc : Canonical s) : Canonical (fwVerifyEff s).2 := by
  unfold fwVerifyEff
  repeat' first | with_reducible assumption | with_reducible apply canon_inactVerify | with_reducible apply canon_foldl | with_reducible apply canon_ite | (fail_if_no_progress intros) | dsimp only | split | (fail_if_no_progress with_reducible refine canon_upd ?_ rfl rfl) | with_reducible rfl

theorem canon_squallAll (s : State) (hc : Canonical s) : Canonical (squallAll s) := by
  unfold squallAll
  repeat' first | with_reducible assumption | with_reducible apply canon_State_eachCh | with_reducible apply canon_squallRequest | with_reducible apply canon_settle | with_reducible apply canon_squallFinish | with_reducible apply canon_foldl | with_reducible apply canon_ite | (fail_if_no_progress intros) | dsimp only | split | (fail_if_no_progress with_reducible refine canon_upd ?_ rfl rfl) | with_reducible rfl

theorem canon_activateEff (m : Mbx) (w : Waiter) (s : State) (hc : Canonical s) : Canonical (activateEff m w s) := by
  unfold activateEff
  repeat' first | with_reducible assumption | with_reducible apply canon_completeW | with_reducible apply canon_squallAll | with_reducible apply canon_cAddFree | with_reducible apply canon_crownTo | with_reducible apply canon_State_setLife | with_reducible apply canon_foldl | with_reducible apply canon_ite | (fail_if_no_progress intros) | dsimp only | split | (fail_if_no_progress with_reducible refine canon_upd ?_ rfl rfl) | with_reducible rfl

theorem canon_crownResume (plan : List (Mbx × Cmd × Replay)) (s : State) (hc : Canonical s) : Canonical (crownResume plan s) := by
  unfold crownResume
  repeat' first | with_reducible assumption | with_reducible apply canon_crownBack | with_reducible apply canon_crownRestore | with_reducible apply canon_dropWaits | with_reducible apply canon_crownTo | with_reducible apply canon_foldl | with_reducible apply canon_ite | (fail_if_no_progress intros) | dsimp only | split | (fail_if_no_progress with_reducible refine canon_upd ?_ rfl rfl) | with_reducible rfl

theorem canon_swapFirmware (s : State) (hc : Canonical s) : Canonical (swapFirmware s) := by
  unfold swapFirmware
  repeat' first | with_reducible assumption | with_reducible apply canon_State_count | with_reducible apply canon_firmwareStart | with_reducible apply canon_State_wrB | with_reducible apply canon_State_wr | with_reducible apply canon_inactReject | with_reducible apply canon_inactVerified | with_reducible apply canon_foldl | with_reducible apply canon_ite | (fail_if_no_progress intros) | dsimp only | split | (fail_if_no_progress with_reducible refine canon_upd ?_ rfl rfl) | with_reducible rfl

theorem canon_confirmEff (s : State) (hc : Canonical s) : Canonical (confirmEff s) := by
  unfold confirmEff
  repeat' first | with_reducible assumption | with_reducible apply canon_swapFirmware | with_reducible apply canon_State_setLife | with_reducible apply canon_completeW | with_reducible apply canon_crownResume | with_reducible apply canon_foldl | with_reducible apply canon_ite | (fail_if_no_progress intros) | dsimp only | split | (fail_if_no_progress with_reducible refine canon_upd ?_ rfl rfl) | with_reducible rfl

theorem canon_confirmTimeoutEff (s : State) (hc : Canonical s) : Canonical (confirmTimeoutEff s) := by
  unfold confirmTimeoutEff
  repeat' first | with_reducible assumption | with_reducible apply canon_State_setLife | with_reducible apply canon_State_count | with_reducible apply canon_inactReject | with_reducible apply canon_completeW | with_reducible apply canon_crownResume | with_reducible apply canon_firmwareStart | with_reducible apply canon_State_wr | with_reducible apply canon_enterRecovery | with_reducible apply canon_foldl | with_reducible apply canon_ite | (fail_if_no_progress intros) | dsimp only | split | (fail_if_no_progress with_reducible refine canon_upd ?_ rfl rfl) | with_reducible rfl

theorem canon_enterField (s : State) (hc : Canonical s) : Canonical (enterField s) := by
  unfold enterField
  repeat' first | with_reducible assumption | with_reducible apply canon_State_wr | with_reducible apply canon_State_setLife | with_reducible apply canon_foldl | with_reducible apply canon_ite | (fail_if_no_progress intros) | dsimp only | split | (fail_if_no_progress with_reducible refine canon_upd ?_ rfl rfl) | with_reducible rfl

theorem canon_enterReturn (s : State) (hc : Canonical s) : Canonical (enterReturn s) := by
  unfold enterReturn
  repeat' first | with_reducible assumption | with_reducible apply canon_State_setLife | with_reducible apply canon_squallAll | with_reducible apply canon_State_wr | with_reducible apply canon_foldl | with_reducible apply canon_ite | (fail_if_no_progress intros) | dsimp only | split | (fail_if_no_progress with_reducible refine canon_upd ?_ rfl rfl) | with_reducible rfl

theorem canon_enterMaker (s : State) (hc : Canonical s) : Canonical (enterMaker s) := by
  unfold enterMaker
  repeat' first | with_reducible assumption | with_reducible apply canon_State_setLife | with_reducible apply canon_State_wr | with_reducible apply canon_foldl | with_reducible apply canon_ite | (fail_if_no_progress intros) | dsimp only | split | (fail_if_no_progress with_reducible refine canon_upd ?_ rfl rfl) | with_reducible rfl

theorem canon_lcMove (a : Author) (target : Nat) (s : State) (hc : Canonical s) : Canonical (lcMove a target s) := by
  unfold lcMove
  repeat' first | with_reducible assumption | with_reducible apply canon_cAddFree | with_reducible apply canon_enterField | with_reducible apply canon_enterReturn | with_reducible apply canon_enterMaker | with_reducible apply canon_State_raise | with_reducible apply canon_foldl | with_reducible apply canon_ite | (fail_if_no_progress intros) | dsimp only | split | (fail_if_no_progress with_reducible refine canon_upd ?_ rfl rfl) | with_reducible rfl

theorem canon_lcRequestEff (m : Mbx) (p : List Byte) (s : State) (hc : Canonical s) : Canonical (lcRequestEff m p s).2 := by
  unfold lcRequestEff
  repeat' first | with_reducible assumption | with_reducible apply canon_lcMove | with_reducible apply canon_foldl | with_reducible apply canon_ite | (fail_if_no_progress intros) | dsimp only | split | (fail_if_no_progress with_reducible refine canon_upd ?_ rfl rfl) | with_reducible rfl

theorem canon_lcNonce (s : State) (hc : Canonical s) : Canonical (lcNonce s) := by
  unfold lcNonce
  repeat' first | with_reducible assumption | with_reducible apply canon_State_drew | with_reducible apply canon_State_wr | with_reducible apply canon_foldl | with_reducible apply canon_ite | (fail_if_no_progress intros) | dsimp only | split | (fail_if_no_progress with_reducible refine canon_upd ?_ rfl rfl) | with_reducible rfl

theorem canon_fuseBurn (item : Nat) (p : List Byte) (s : State) (hc : Canonical s) : Canonical (fuseBurn item p s) := by
  unfold fuseBurn
  repeat' first | with_reducible assumption | with_reducible apply canon_State_wr | with_reducible apply canon_State_setLife | with_reducible apply canon_State_drew | with_reducible apply canon_foldl | with_reducible apply canon_ite | (fail_if_no_progress intros) | dsimp only | split | (fail_if_no_progress with_reducible refine canon_upd ?_ rfl rfl) | with_reducible rfl

theorem canon_fuseEff (m : Mbx) (p : List Byte) (bad1 : Bool) (bad2 : Bool) (s : State) (hc : Canonical s) : Canonical (fuseEff m p bad1 bad2 s).2 := by
  unfold fuseEff
  repeat' first | with_reducible assumption | with_reducible apply canon_cAddFree | with_reducible apply canon_State_setLife | with_reducible apply canon_fuseBurn | with_reducible apply canon_foldl | with_reducible apply canon_ite | (fail_if_no_progress intros) | dsimp only | split | (fail_if_no_progress with_reducible refine canon_upd ?_ rfl rfl) | with_reducible rfl

theorem canon_debugAuthEff (pub : List Byte) (sig : List Byte) (s : State) (hc : Canonical s) : Canonical (debugAuthEff pub sig s) := by
  unfold debugAuthEff
  repeat' first | with_reducible assumption | with_reducible apply canon_State_drew | with_reducible apply canon_State_wr | with_reducible apply canon_foldl | with_reducible apply canon_ite | (fail_if_no_progress intros) | dsimp only | split | (fail_if_no_progress with_reducible refine canon_upd ?_ rfl rfl) | with_reducible rfl

theorem canon_channelDebugHalt (c : Ch) (s : State) (hc : Canonical s) : Canonical (channelDebugHalt c s) := by
  unfold channelDebugHalt
  repeat' first | with_reducible assumption | with_reducible apply canon_settle | with_reducible apply canon_safeEval | with_reducible apply canon_State_setPg | with_reducible apply canon_pgHalt | with_reducible apply canon_foldl | with_reducible apply canon_ite | (fail_if_no_progress intros) | dsimp only | split | (fail_if_no_progress with_reducible refine canon_upd ?_ rfl rfl) | with_reducible rfl

theorem canon_debugHaltEff (t : HaltTarget) (s : State) (hc : Canonical s) : Canonical (debugHaltEff t s) := by
  unfold debugHaltEff
  repeat' first | with_reducible assumption | with_reducible apply canon_channelDebugHalt | with_reducible apply canon_crownTo | with_reducible apply canon_State_eachCh | with_reducible apply canon_foldl | with_reducible apply canon_ite | (fail_if_no_progress intros) | dsimp only | split | (fail_if_no_progress with_reducible refine canon_upd ?_ rfl rfl) | with_reducible rfl

theorem canon_channelRelease (c : Ch) (s : State) (hc : Canonical s) : Canonical (channelRelease c s) := by
  unfold channelRelease
  repeat' first | with_reducible assumption | with_reducible apply canon_State_setPg | with_reducible apply canon_settle | with_reducible apply canon_haltEnd | with_reducible apply canon_foldl | with_reducible apply canon_ite | (fail_if_no_progress intros) | dsimp only | split | (fail_if_no_progress with_reducible refine canon_upd ?_ rfl rfl) | with_reducible rfl

theorem canon_haltReleaseEff (t : HaltTarget) (s : State) (hc : Canonical s) : Canonical (haltReleaseEff t s) := by
  unfold haltReleaseEff
  repeat' first | with_reducible assumption | with_reducible apply canon_channelRelease | with_reducible apply canon_crownTo | with_reducible apply canon_State_eachCh | with_reducible apply canon_foldl | with_reducible apply canon_ite | (fail_if_no_progress intros) | dsimp only | split | (fail_if_no_progress with_reducible refine canon_upd ?_ rfl rfl) | with_reducible rfl

theorem canon_auxOk (s : State) (hc : Canonical s) : Canonical (auxOk s).2 := by
  unfold auxOk
  repeat' first | with_reducible assumption | with_reducible apply canon_State_drew | with_reducible apply canon_foldl | with_reducible apply canon_ite | (fail_if_no_progress intros) | dsimp only | split | (fail_if_no_progress with_reducible refine canon_upd ?_ rfl rfl) | with_reducible rfl

theorem canon_harvOk (s : State) (hc : Canonical s) : Canonical (harvOk s).2 := by
  unfold harvOk
  repeat' first | with_reducible assumption | with_reducible apply canon_State_drew | with_reducible apply canon_foldl | with_reducible apply canon_ite | (fail_if_no_progress intros) | dsimp only | split | (fail_if_no_progress with_reducible refine canon_upd ?_ rfl rfl) | with_reducible rfl

theorem canon_lullSource (s : State) (hc : Canonical s) : Canonical (lullSource s).2 := by
  unfold lullSource
  repeat' first | with_reducible assumption | with_reducible apply canon_auxOk | with_reducible apply canon_foldl | with_reducible apply canon_ite | (fail_if_no_progress intros) | dsimp only | split | (fail_if_no_progress with_reducible refine canon_upd ?_ rfl rfl) | with_reducible rfl

theorem canon_frostSource (s : State) (hc : Canonical s) : Canonical (frostSource s).2 := by
  unfold frostSource
  repeat' first | with_reducible assumption | with_reducible apply canon_auxOk | with_reducible apply canon_harvOk | with_reducible apply canon_foldl | with_reducible apply canon_ite | (fail_if_no_progress intros) | dsimp only | split | (fail_if_no_progress with_reducible refine canon_upd ?_ rfl rfl) | with_reducible rfl

theorem canon_granted (mj : Nat) (s : State) (hc : Canonical s) : Canonical (granted mj s).2 := by
  unfold granted
  repeat' first | with_reducible assumption | with_reducible apply canon_auxOk | with_reducible apply canon_foldl | with_reducible apply canon_ite | (fail_if_no_progress intros) | dsimp only | split | (fail_if_no_progress with_reducible refine canon_upd ?_ rfl rfl) | with_reducible rfl

theorem canon_levelEvents (s : State) (hc : Canonical s) : Canonical (levelEvents s) := by
  unfold levelEvents
  repeat' first | with_reducible assumption | with_reducible apply canon_State_raise | with_reducible apply canon_State_setPow | with_reducible apply canon_foldl | with_reducible apply canon_ite | (fail_if_no_progress intros) | dsimp only | split | (fail_if_no_progress with_reducible refine canon_upd ?_ rfl rfl) | with_reducible rfl

theorem canon_chargerUpdate (s : State) (hc : Canonical s) : Canonical (chargerUpdate s) := by
  unfold chargerUpdate
  repeat' first | with_reducible assumption | with_reducible apply canon_auxOk | with_reducible apply canon_harvOk | with_reducible apply canon_State_wr | with_reducible apply canon_foldl | with_reducible apply canon_ite | (fail_if_no_progress intros) | dsimp only | split | (fail_if_no_progress with_reducible refine canon_upd ?_ rfl rfl) | with_reducible rfl

theorem canon_flushRecs (c : Ch) (s : State) (hc : Canonical s) : Canonical (flushRecs c s) := by
  unfold flushRecs
  repeat' first | with_reducible assumption | with_reducible apply canon_meterCommitEff | with_reducible apply canon_foldl | with_reducible apply canon_ite | (fail_if_no_progress intros) | dsimp only | split | (fail_if_no_progress with_reducible refine canon_upd ?_ rfl rfl) | with_reducible rfl

theorem canon_lullMeasClose (s : State) (hc : Canonical s) : Canonical (lullMeasClose s) := by
  unfold lullMeasClose
  repeat' first | with_reducible assumption | with_reducible apply canon_State_eachCh | with_reducible apply canon_State_setMf | with_reducible apply canon_flushRecs | with_reducible apply canon_mfClose | with_reducible apply canon_foldl | with_reducible apply canon_ite | (fail_if_no_progress intros) | dsimp only | split | (fail_if_no_progress with_reducible refine canon_upd ?_ rfl rfl) | with_reducible rfl

theorem canon_enterLull (cause : Nat) (s : State) (hc : Canonical s) : Canonical (enterLull cause s) := by
  unfold enterLull
  repeat' first | with_reducible assumption | with_reducible apply canon_State_eachCh | with_reducible apply canon_flushRecs | with_reducible apply canon_mfClose | with_reducible apply canon_State_wr | with_reducible apply canon_crownTo | with_reducible apply canon_unitsDown | with_reducible apply canon_State_setPow | with_reducible apply canon_foldl | with_reducible apply canon_ite | (fail_if_no_progress intros) | dsimp only | split | (fail_if_no_progress with_reducible refine canon_upd ?_ rfl rfl) | with_reducible rfl

theorem canon_enterFrost (s : State) (hc : Canonical s) : Canonical (enterFrost s) := by
  unfold enterFrost
  repeat' first | with_reducible assumption | with_reducible apply canon_State_setPow | with_reducible apply canon_crownTo | with_reducible apply canon_unitsDown | with_reducible apply canon_foldl | with_reducible apply canon_ite | (fail_if_no_progress intros) | dsimp only | split | (fail_if_no_progress with_reducible refine canon_upd ?_ rfl rfl) | with_reducible rfl

theorem canon_lullEnterEff (w : Waiter) (s : State) (hc : Canonical s) : Canonical (lullEnterEff w s) := by
  unfold lullEnterEff
  repeat' first | with_reducible assumption | with_reducible apply canon_completeW | with_reducible apply canon_enterLull | with_reducible apply canon_foldl | with_reducible apply canon_ite | (fail_if_no_progress intros) | dsimp only | split | (fail_if_no_progress with_reducible refine canon_upd ?_ rfl rfl) | with_reducible rfl

theorem canon_lullLostEff (s : State) (hc : Canonical s) : Canonical (lullLostEff s) := by
  unfold lullLostEff
  repeat' first | with_reducible assumption | with_reducible apply canon_enterFrost | with_reducible apply canon_lullMeasClose | with_reducible apply canon_foldl | with_reducible apply canon_ite | (fail_if_no_progress intros) | dsimp only | split | (fail_if_no_progress with_reducible refine canon_upd ?_ rfl rfl) | with_reducible rfl

theorem canon_wakeEff (src : WakeSrc) (s : State) (hc : Canonical s) : Canonical (wakeEff src s) := by
  unfold wakeEff
  repeat' first | with_reducible assumption | with_reducible apply canon_State_setPow | with_reducible apply canon_State_wr | with_reducible apply canon_lullMeasClose | with_reducible apply canon_State_count | with_reducible apply canon_foldl | with_reducible apply canon_ite | (fail_if_no_progress intros) | dsimp only | split | (fail_if_no_progress with_reducible refine canon_upd ?_ rfl rfl) | with_reducible rfl

theorem canon_lullMeasEff (s : State) (hc : Canonical s) : Canonical (lullMeasEff s) := by
  unfold lullMeasEff
  repeat' first | with_reducible assumption | with_reducible apply canon_granted | with_reducible apply canon_State_count | with_reducible apply canon_State_setMf | with_reducible apply canon_mfStart | with_reducible apply canon_foldl | with_reducible apply canon_ite | (fail_if_no_progress intros) | dsimp only | split | (fail_if_no_progress with_reducible refine canon_upd ?_ rfl rfl) | with_reducible rfl

theorem canon_burstAsk (kind : Nat) (s : State) (hc : Canonical s) : Canonical (burstAsk kind s) := by
  unfold burstAsk
  repeat' first | with_reducible assumption | with_reducible apply canon_granted | with_reducible apply canon_State_count | with_reducible apply canon_sendStatus | with_reducible apply canon_State_setPow | with_reducible apply canon_foldl | with_reducible apply canon_ite | (fail_if_no_progress intros) | dsimp only | split | (fail_if_no_progress with_reducible refine canon_upd ?_ rfl rfl) | with_reducible rfl

theorem canon_lullBurstEff (s : State) (hc : Canonical s) : Canonical (lullBurstEff s) := by
  unfold lullBurstEff
  repeat' first | with_reducible assumption | with_reducible apply canon_burstAsk | with_reducible apply canon_foldl | with_reducible apply canon_ite | (fail_if_no_progress intros) | dsimp only | split | (fail_if_no_progress with_reducible refine canon_upd ?_ rfl rfl) | with_reducible rfl

theorem canon_sagCheck (s : State) (hc : Canonical s) : Canonical (sagCheck s) := by
  unfold sagCheck
  repeat' first | with_reducible assumption | with_reducible apply canon_auxOk | with_reducible apply canon_State_setPow | with_reducible apply canon_State_count | with_reducible apply canon_lullMeasClose | with_reducible apply canon_foldl | with_reducible apply canon_ite | (fail_if_no_progress intros) | dsimp only | split | (fail_if_no_progress with_reducible refine canon_upd ?_ rfl rfl) | with_reducible rfl

theorem canon_storeMeasureEff (mv : Nat) (s : State) (hc : Canonical s) : Canonical (storeMeasureEff mv s) := by
  unfold storeMeasureEff
  repeat' first | with_reducible assumption | with_reducible apply canon_State_drew | with_reducible apply canon_State_wr | with_reducible apply canon_State_setPow | with_reducible apply canon_State_wrB | with_reducible apply canon_State_wrBit | with_reducible apply canon_sagCheck | with_reducible apply canon_chargerUpdate | with_reducible apply canon_levelEvents | with_reducible apply canon_foldl | with_reducible apply canon_ite | (fail_if_no_progress intros) | dsimp only | split | (fail_if_no_progress with_reducible refine canon_upd ?_ rfl rfl) | with_reducible rfl

theorem canon_brownStart (s : State) (hc : Canonical s) : Canonical (brownStart s) := by
  unfold brownStart
  repeat' first | with_reducible assumption | with_reducible apply canon_State_eachCh | with_reducible apply canon_State_count | with_reducible apply canon_mfBrownout | with_reducible apply canon_State_setPow | with_reducible apply canon_ownerRelease | with_reducible apply canon_settle | with_reducible apply canon_squallRequest | with_reducible apply canon_foldl | with_reducible apply canon_ite | (fail_if_no_progress intros) | dsimp only | split | (fail_if_no_progress with_reducible refine canon_upd ?_ rfl rfl) | with_reducible rfl

theorem canon_brownStopped (s : State) (hc : Canonical s) : Canonical (brownStopped s) := by
  unfold brownStopped
  repeat' first | with_reducible assumption | with_reducible apply canon_stopAllPg | with_reducible apply canon_State_eachCh | with_reducible apply canon_settle | with_reducible apply canon_squallFinish | with_reducible apply canon_foldl | with_reducible apply canon_ite | (fail_if_no_progress intros) | dsimp only | split | (fail_if_no_progress with_reducible refine canon_upd ?_ rfl rfl) | with_reducible rfl

theorem canon_brownRecords (s : State) (hc : Canonical s) : Canonical (brownRecords s) := by
  unfold brownRecords
  repeat' first | with_reducible assumption | with_reducible apply canon_State_eachCh | with_reducible apply canon_flushRecs | with_reducible apply canon_State_drew | with_reducible apply canon_State_setMf | with_reducible apply canon_foldl | with_reducible apply canon_ite | (fail_if_no_progress intros) | dsimp only | split | (fail_if_no_progress with_reducible refine canon_upd ?_ rfl rfl) | with_reducible rfl

theorem canon_setRunOk (b : Bool) (s : State) (hc : Canonical s) : Canonical (setRunOk b s) := by
  unfold setRunOk
  repeat' first | with_reducible assumption | with_reducible apply canon_State_setPow | with_reducible apply canon_State_wrB | with_reducible apply canon_foldl | with_reducible apply canon_ite | (fail_if_no_progress intros) | dsimp only | split | (fail_if_no_progress with_reducible refine canon_upd ?_ rfl rfl) | with_reducible rfl

theorem canon_brownoutEff (s : State) (hc : Canonical s) : Canonical (brownoutEff s) := by
  unfold brownoutEff
  repeat' first | with_reducible assumption | with_reducible apply canon_setRunOk | with_reducible apply canon_brownStart | with_reducible apply canon_State_setPow | with_reducible apply canon_State_raise | with_reducible apply canon_foldl | with_reducible apply canon_ite | (fail_if_no_progress intros) | dsimp only | split | (fail_if_no_progress with_reducible refine canon_upd ?_ rfl rfl) | with_reducible rfl

theorem canon_brownoutEndEff (s : State) (hc : Canonical s) : Canonical (brownoutEndEff s) := by
  unfold brownoutEndEff
  repeat' first | with_reducible assumption | with_reducible apply canon_brownRecords | with_reducible apply canon_brownStopped | with_reducible apply canon_State_eachCh | with_reducible apply canon_State_setPow | with_reducible apply canon_mfReopen | with_reducible apply canon_lullSource | with_reducible apply canon_enterLull | with_reducible apply canon_enterFrost | with_reducible apply canon_foldl | with_reducible apply canon_ite | (fail_if_no_progress intros) | dsimp only | split | (fail_if_no_progress with_reducible refine canon_upd ?_ rfl rfl) | with_reducible rfl

theorem canon_runOkEff (s : State) (hc : Canonical s) : Canonical (runOkEff s) := by
  unfold runOkEff
  repeat' first | with_reducible assumption | with_reducible apply canon_setRunOk | with_reducible apply canon_foldl | with_reducible apply canon_ite | (fail_if_no_progress intros) | dsimp only | split | (fail_if_no_progress with_reducible refine canon_upd ?_ rfl rfl) | with_reducible rfl

theorem canon_enterReset (s : State) (hc : Canonical s) : Canonical (enterReset s) := by
  unfold enterReset
  repeat' first | with_reducible assumption | with_reducible apply canon_State_setPow | with_reducible apply canon_crownTo | with_reducible apply canon_unitsDown | with_reducible apply canon_foldl | with_reducible apply canon_ite | (fail_if_no_progress intros) | dsimp only | split | (fail_if_no_progress with_reducible refine canon_upd ?_ rfl rfl) | with_reducible rfl

theorem canon_nrstLowEff (s : State) (hc : Canonical s) : Canonical (nrstLowEff s) := by
  unfold nrstLowEff
  repeat' first | with_reducible assumption | with_reducible apply canon_State_setPow | with_reducible apply canon_enterReset | with_reducible apply canon_ownerRelease | with_reducible apply canon_foldl | with_reducible apply canon_ite | (fail_if_no_progress intros) | dsimp only | split | (fail_if_no_progress with_reducible refine canon_upd ?_ rfl rfl) | with_reducible rfl

theorem canon_leaveReset (s : State) (hc : Canonical s) : Canonical (leaveReset s) := by
  unfold leaveReset
  repeat' first | with_reducible assumption | with_reducible apply canon_frostSource | with_reducible apply canon_State_setPow | with_reducible apply canon_foldl | with_reducible apply canon_ite | (fail_if_no_progress intros) | dsimp only | split | (fail_if_no_progress with_reducible refine canon_upd ?_ rfl rfl) | with_reducible rfl

theorem canon_nrstHighEff (s : State) (hc : Canonical s) : Canonical (nrstHighEff s) := by
  unfold nrstHighEff
  repeat' first | with_reducible assumption | with_reducible apply canon_State_setPow | with_reducible apply canon_leaveReset | with_reducible apply canon_foldl | with_reducible apply canon_ite | (fail_if_no_progress intros) | dsimp only | split | (fail_if_no_progress with_reducible refine canon_upd ?_ rfl rfl) | with_reducible rfl

theorem canon_resetHeldEff (seconds : Nat) (s : State) (hc : Canonical s) : Canonical (resetHeldEff seconds s) := by
  unfold resetHeldEff
  repeat' first | with_reducible assumption | with_reducible apply canon_State_setPow | with_reducible apply canon_foldl | with_reducible apply canon_ite | (fail_if_no_progress intros) | dsimp only | split | (fail_if_no_progress with_reducible refine canon_upd ?_ rfl rfl) | with_reducible rfl

theorem canon_heldFrameEff (s : State) (hc : Canonical s) : Canonical (heldFrameEff s) := by
  unfold heldFrameEff
  repeat' first | with_reducible assumption | with_reducible apply canon_auxOk | with_reducible apply canon_sendStatus | with_reducible apply canon_State_setPow | with_reducible apply canon_burstAsk | with_reducible apply canon_foldl | with_reducible apply canon_ite | (fail_if_no_progress intros) | dsimp only | split | (fail_if_no_progress with_reducible refine canon_upd ?_ rfl rfl) | with_reducible rfl

theorem canon_batLowEff (mv : Nat) (s : State) (hc : Canonical s) : Canonical (batLowEff mv s) := by
  unfold batLowEff
  repeat' first | with_reducible assumption | with_reducible apply canon_State_wrB | with_reducible apply canon_State_wr | with_reducible apply canon_foldl | with_reducible apply canon_ite | (fail_if_no_progress intros) | dsimp only | split | (fail_if_no_progress with_reducible refine canon_upd ?_ rfl rfl) | with_reducible rfl

theorem canon_vbatLossEff (s : State) (hc : Canonical s) : Canonical (vbatLossEff s) := by
  unfold vbatLossEff
  repeat' first | with_reducible assumption | with_reducible apply canon_State_setPow | with_reducible apply canon_foldl | with_reducible apply canon_ite | (fail_if_no_progress intros) | dsimp only | split | (fail_if_no_progress with_reducible refine canon_upd ?_ rfl rfl) | with_reducible rfl

theorem canon_tamperEff (s : State) (hc : Canonical s) : Canonical (tamperEff s) := by
  unfold tamperEff
  repeat' first | with_reducible assumption | with_reducible apply canon_State_wr | with_reducible apply canon_State_count | with_reducible apply canon_State_wrB | with_reducible apply canon_State_raise | with_reducible apply canon_State_setPow | with_reducible apply canon_foldl | with_reducible apply canon_ite | (fail_if_no_progress intros) | dsimp only | split | (fail_if_no_progress with_reducible refine canon_upd ?_ rfl rfl) | with_reducible rfl

theorem canon_thermalTripEff (s : State) (hc : Canonical s) : Canonical (thermalTripEff s) := by
  unfold thermalTripEff
  repeat' first | with_reducible assumption | with_reducible apply canon_brownStart | with_reducible apply canon_State_count | with_reducible apply canon_brownRecords | with_reducible apply canon_brownStopped | with_reducible apply canon_State_setPow | with_reducible apply canon_enterReset | with_reducible apply canon_foldl | with_reducible apply canon_ite | (fail_if_no_progress intros) | dsimp only | split | (fail_if_no_progress with_reducible refine canon_upd ?_ rfl rfl) | with_reducible rfl

theorem canon_thermalBackEff (s : State) (hc : Canonical s) : Canonical (thermalBackEff s) := by
  unfold thermalBackEff
  repeat' first | with_reducible assumption | with_reducible apply canon_State_setPow | with_reducible apply canon_foldl | with_reducible apply canon_ite | (fail_if_no_progress intros) | dsimp only | split | (fail_if_no_progress with_reducible refine canon_upd ?_ rfl rfl) | with_reducible rfl

theorem canon_temperatureEff (ctrl : Nat) (bcd : Nat) (s : State) (hc : Canonical s) : Canonical (temperatureEff ctrl bcd s) := by
  unfold temperatureEff
  repeat' first | with_reducible assumption | with_reducible apply canon_State_wr | with_reducible apply canon_State_setPow | with_reducible apply canon_State_wrS | with_reducible apply canon_foldl | with_reducible apply canon_ite | (fail_if_no_progress intros) | dsimp only | split | (fail_if_no_progress with_reducible refine canon_upd ?_ rfl rfl) | with_reducible rfl

theorem canon_runHourEff (s : State) (hc : Canonical s) : Canonical (runHourEff s) := by
  unfold runHourEff
  repeat' first | with_reducible assumption | with_reducible apply canon_State_count | with_reducible apply canon_State_drawS | with_reducible apply canon_State_setPow | with_reducible apply canon_State_wrS | with_reducible apply canon_foldl | with_reducible apply canon_ite | (fail_if_no_progress intros) | dsimp only | split | (fail_if_no_progress with_reducible refine canon_upd ?_ rfl rfl) | with_reducible rfl

theorem canon_readMeters (s : State) (hc : Canonical s) : Canonical (readMeters s) := by
  unfold readMeters
  repeat' first | with_reducible assumption | with_reducible apply canon_State_eachCh | with_reducible apply canon_State_setMf | with_reducible apply canon_State_wr | with_reducible apply canon_foldl | with_reducible apply canon_ite | (fail_if_no_progress intros) | dsimp only | split | (fail_if_no_progress with_reducible refine canon_upd ?_ rfl rfl) | with_reducible rfl

theorem canon_battRestore (c : Ch) (s : State) (hc : Canonical s) : Canonical (battRestore c s) := by
  unfold battRestore
  repeat' first | with_reducible assumption | with_reducible apply canon_pairsFollow | with_reducible apply canon_setBank | with_reducible apply canon_State_wr | with_reducible apply canon_fillBank | with_reducible apply canon_State_count | with_reducible apply canon_foldl | with_reducible apply canon_ite | (fail_if_no_progress intros) | dsimp only | split | (fail_if_no_progress with_reducible refine canon_upd ?_ rfl rfl) | with_reducible rfl

theorem canon_channelThaw (c : Ch) (s : State) (hc : Canonical s) : Canonical (channelThaw c s) := by
  unfold channelThaw
  repeat' first | with_reducible assumption | with_reducible apply canon_cmpEnable | with_reducible apply canon_sarStart | with_reducible apply canon_battRestore | with_reducible apply canon_mpptEnWritten | with_reducible apply canon_gridEnWritten | with_reducible apply canon_mfTryStart | with_reducible apply canon_foldl | with_reducible apply canon_ite | (fail_if_no_progress intros) | dsimp only | split | (fail_if_no_progress with_reducible refine canon_upd ?_ rfl rfl) | with_reducible rfl

theorem canon_thawFields (s : State) (hc : Canonical s) : Canonical (thawFields s) := by
  unfold thawFields
  repeat' first | with_reducible assumption | with_reducible apply canon_thawRegs | with_reducible apply canon_readMeters | with_reducible apply canon_State_eachCh | with_reducible apply canon_State_count | with_reducible apply canon_State_wr | with_reducible apply canon_State_drew | with_reducible apply canon_foldl | with_reducible apply canon_ite | (fail_if_no_progress intros) | dsimp only | split | (fail_if_no_progress with_reducible refine canon_upd ?_ rfl rfl) | with_reducible rfl

theorem canon_thawDraws (lost : Bool) (s : State) (hc : Canonical s) : Canonical (thawDraws lost s) := by
  unfold thawDraws
  repeat' first | with_reducible assumption | with_reducible apply canon_thawRegs | with_reducible apply canon_readMeters | with_reducible apply canon_State_eachCh | with_reducible apply canon_State_count | with_reducible apply canon_State_wr | with_reducible apply canon_State_drew | with_reducible apply canon_foldl | with_reducible apply canon_ite | (fail_if_no_progress intros) | dsimp only | split | (fail_if_no_progress with_reducible refine canon_upd ?_ rfl rfl) | with_reducible rfl

theorem canon_thawBase (s : State) (hc : Canonical s) : Canonical (thawBase s) := canon_thawDraws _ _ (canon_thawFields _ hc)

theorem canon_thawDue (afterReset : Bool) (s : State) (hc : Canonical s) : Canonical (thawDue afterReset s) := by
  unfold thawDue
  repeat' first | with_reducible assumption | with_reducible apply canon_State_wr | with_reducible apply canon_State_raise | with_reducible apply canon_State_setPow | with_reducible apply canon_foldl | with_reducible apply canon_ite | (fail_if_no_progress intros) | dsimp only | split | (fail_if_no_progress with_reducible refine canon_upd ?_ rfl rfl) | with_reducible rfl

theorem canon_linksThaw (s : State) (hc : Canonical s) : Canonical (linksThaw s) := by
  unfold linksThaw
  repeat' first | with_reducible assumption | with_reducible apply canon_State_setCan | with_reducible apply canon_State_wr | with_reducible apply canon_foldl | with_reducible apply canon_ite | (fail_if_no_progress intros) | dsimp only | split | (fail_if_no_progress with_reducible refine canon_upd ?_ rfl rfl) | with_reducible rfl

theorem canon_thawUp (afterReset : Bool) (plan : List (Mbx × Cmd × Replay)) (s : State) (hc : Canonical s) : Canonical (thawUp afterReset plan s) := by
  unfold thawUp
  repeat' first | with_reducible assumption | with_reducible apply canon_setsInForce | with_reducible apply canon_inactReject | with_reducible apply canon_State_setPow | with_reducible apply canon_State_eachCh | with_reducible apply canon_channelThaw | with_reducible apply canon_islandStart | with_reducible apply canon_outputsFollow | with_reducible apply canon_setRole | with_reducible apply canon_thawDue | with_reducible apply canon_linksThaw | with_reducible apply canon_crownRestore | with_reducible apply canon_enterLull | with_reducible apply canon_foldl | with_reducible apply canon_ite | (fail_if_no_progress intros) | dsimp only | split | (fail_if_no_progress with_reducible refine canon_upd ?_ rfl rfl) | with_reducible rfl

theorem canon_latchPins (nid : Nat) (pairId : Bool) (s : State) (hc : Canonical s) : Canonical (latchPins nid pairId s) := by
  unfold latchPins
  exact canon_State_wrB _ _ _ _ _ (canon_State_wrB _ _ _ _ _ (canon_State_wr _ _ _ _ hc))

theorem canon_thawEff (testmode nid : Nat) (pairId : Bool) (s : State) (hc : Canonical s) : Canonical (thawEff testmode nid pairId s) := by
  unfold thawEff
  repeat' first | with_reducible assumption | with_reducible apply canon_latchPins | with_reducible apply canon_enterReset | with_reducible apply canon_State_setLife | with_reducible apply canon_romStart | with_reducible apply canon_thawBase | with_reducible apply canon_thawUp | with_reducible apply canon_foldl | with_reducible apply canon_ite | (fail_if_no_progress intros) | dsimp only | split | (fail_if_no_progress with_reducible refine canon_upd ?_ rfl rfl) | with_reducible rfl

theorem canon_replySent (s : State) (hc : Canonical s) : Canonical (replySent s) := by
  unfold replySent
  repeat' first | with_reducible assumption | with_reducible apply canon_deliver | with_reducible apply canon_foldl | with_reducible apply canon_ite | (fail_if_no_progress intros) | dsimp only | split | (fail_if_no_progress with_reducible refine canon_upd ?_ rfl rfl) | with_reducible rfl

theorem canon_takeFrame (t : Transport) (f : HostFrame) (s : State) (hc : Canonical s) : ∀ x, takeFrame t f s = some x → Canonical x.2 := by
  intro x e
  unfold takeFrame at e
  split at e
  · split at e
    · cases e
    · cases e; exact canon_replySent _ hc
  · split at e
    · cases e
    · cases e; exact canon_State_setCan _ _ _ hc
  · obtain ⟨q, -, rfl⟩ := Option.map_eq_some_iff.mp e
    exact canon_hbConsume _ _ _ hc

theorem canon_frameRefuse (op : Nat) (t : Transport) (f : HostFrame) (d : Nat) (s : State) (hc : Canonical s) : Canonical (frameRefuse op t f d s) := by
  unfold frameRefuse
  repeat' first | with_reducible assumption | with_reducible apply canon_sendReply | with_reducible apply canon_State_count | with_reducible apply canon_foldl | with_reducible apply canon_ite | (fail_if_no_progress intros) | dsimp only | split | (fail_if_no_progress with_reducible refine canon_upd ?_ rfl rfl) | with_reducible rfl

theorem canon_acceptCmd (t : Transport) (f : HostFrame) (s : State) (hc : Canonical s) : Canonical (acceptCmd t f s) := by
  unfold acceptCmd
  repeat' first | with_reducible assumption | with_reducible apply canon_jAccept | with_reducible apply canon_State_setMb | with_reducible apply canon_State_wr | with_reducible apply canon_foldl | with_reducible apply canon_ite | (fail_if_no_progress intros) | dsimp only | split | (fail_if_no_progress with_reducible refine canon_upd ?_ rfl rfl) | with_reducible rfl

theorem canon_askAccept (t : Transport) (f : HostFrame) (s : State) (hc : Canonical s) : Canonical (askAccept t f s) := by
  unfold askAccept
  repeat' first | with_reducible assumption | with_reducible apply canon_jAccept | with_reducible apply canon_foldl | with_reducible apply canon_ite | (fail_if_no_progress intros) | dsimp only | split | (fail_if_no_progress with_reducible refine canon_upd ?_ rfl rfl) | with_reducible rfl

theorem canon_submitServe (t : Transport) (f : HostFrame) (s : State) (hc : Canonical s) : Canonical (submitServe t f s) := by
  unfold submitServe
  repeat' first | with_reducible assumption | with_reducible apply canon_sendReply | with_reducible apply canon_askAccept | with_reducible apply canon_acceptCmd | with_reducible apply canon_holdReply | with_reducible apply canon_replyOut | with_reducible apply canon_foldl | with_reducible apply canon_ite | (fail_if_no_progress intros) | dsimp only | split | (fail_if_no_progress with_reducible refine canon_upd ?_ rfl rfl) | with_reducible rfl

theorem canon_pollServe (t : Transport) (f : HostFrame) (s : State) (hc : Canonical s) : Canonical (pollServe t f s) := by
  unfold pollServe
  repeat' first | with_reducible assumption | with_reducible apply canon_sendReply | with_reducible apply canon_foldl | with_reducible apply canon_ite | (fail_if_no_progress intros) | dsimp only | split | (fail_if_no_progress with_reducible refine canon_upd ?_ rfl rfl) | with_reducible rfl

theorem canon_creditServe (t : Transport) (f : HostFrame) (s : State) (hc : Canonical s) : Canonical (creditServe t f s) := by
  unfold creditServe
  repeat' first | with_reducible assumption | with_reducible apply canon_sendReply | with_reducible apply canon_foldl | with_reducible apply canon_ite | (fail_if_no_progress intros) | dsimp only | split | (fail_if_no_progress with_reducible refine canon_upd ?_ rfl rfl) | with_reducible rfl

theorem canon_setLanes (t : Transport) (f : HostFrame) (s : State) (hc : Canonical s) : Canonical (setLanes t f s) := by
  unfold setLanes
  repeat' first | with_reducible assumption | with_reducible apply canon_State_wr | with_reducible apply canon_foldl | with_reducible apply canon_ite | (fail_if_no_progress intros) | dsimp only | split | (fail_if_no_progress with_reducible refine canon_upd ?_ rfl rfl) | with_reducible rfl

theorem canon_helloServe (journal : Bool) (t : Transport) (f : HostFrame) (s : State) (hc : Canonical s) : Canonical (helloServe journal t f s) := by
  unfold helloServe
  repeat' first | with_reducible assumption | with_reducible apply canon_State_countMod | with_reducible apply canon_State_wr | with_reducible apply canon_breakLock | with_reducible apply canon_jAdd | with_reducible apply canon_sendReply | with_reducible apply canon_setLanes | with_reducible apply canon_foldl | with_reducible apply canon_ite | (fail_if_no_progress intros) | dsimp only | split | (fail_if_no_progress with_reducible refine canon_upd ?_ rfl rfl) | with_reducible rfl

theorem canon_abortEffect (m : Mbx) (k : Cmd) (s : State) (hc : Canonical s) : ∀ t, abortEffect m k s = some t → Canonical t := by
  intro t e
  unfold abortEffect at e
  dsimp only at e
  repeat' split at e
  all_goals first
    | (cases e; done)
    | (obtain rfl := Option.some.inj e
       first
       | exact canon_State_setCh _ _ _ hc
       | exact canon_loaderRun _ _ _ (canon_State_setBatt _ _ _ (canon_emptyBank _ _ _ hc))
       | exact canon_State_setBatt _ _ _ hc
       | exact canon_swapWithdraw _ _ _ hc
       | exact canon_State_setMf _ _ _ hc)

theorem canon_abortEffect_getD (m : Mbx) (k : Cmd) (s : State) (hc : Canonical s) : Canonical ((abortEffect m k s).getD s) := by
  cases e : abortEffect m k s with
  | none => exact hc
  | some t => exact canon_abortEffect m k s hc t e

theorem canon_abortServe (t : Transport) (f : HostFrame) (s : State) (hc : Canonical s) : Canonical (abortServe t f s) := by
  unfold abortServe
  repeat' first | with_reducible assumption | (refine canon_abortEffect _ _ _ ?_ _ (by assumption)) | with_reducible apply canon_sendReply | with_reducible apply canon_jMark | with_reducible apply canon_completeW | with_reducible apply canon_foldl | with_reducible apply canon_ite | (fail_if_no_progress intros) | dsimp only | split | (fail_if_no_progress with_reducible refine canon_upd ?_ rfl rfl) | with_reducible rfl

theorem canon_recoveryActivate (m : Mbx) (sq : Nat) (s : State) (hc : Canonical s) : Canonical (recoveryActivate m sq s).2 := by
  unfold recoveryActivate
  repeat' first | with_reducible assumption | with_reducible apply canon_cAddFree | with_reducible apply canon_State_count | with_reducible apply canon_firmwareStart | with_reducible apply canon_State_wrB | with_reducible apply canon_State_wr | with_reducible apply canon_inactReject | with_reducible apply canon_thawUp | with_reducible apply canon_foldl | with_reducible apply canon_ite | (fail_if_no_progress intros) | dsimp only | split | (fail_if_no_progress with_reducible refine canon_upd ?_ rfl rfl) | with_reducible rfl

theorem canon_recoveryReq (r : Req) (m : Mbx) (p : List Byte) (body : State → Done × State) (s : State) (hbody : ∀ a0, Canonical a0 → Canonical (body a0).2) (hc : Canonical s) : Canonical (recoveryReq r m p body s).2 := by
  unfold recoveryReq
  repeat' first | with_reducible assumption | with_reducible apply hbody | with_reducible apply canon_foldl | with_reducible apply canon_ite | (fail_if_no_progress intros) | dsimp only | split | (fail_if_no_progress with_reducible refine canon_upd ?_ rfl rfl) | with_reducible rfl

theorem canon_recoverySubmit (f : HostFrame) (s : State) (hc : Canonical s) : Canonical (recoverySubmit f s).2 := by
  unfold recoverySubmit
  repeat' first | with_reducible assumption | with_reducible apply canon_recoveryReq | with_reducible apply canon_fwWriteEff | with_reducible apply canon_fwVerifyEff | with_reducible apply canon_recoveryActivate | with_reducible apply canon_objectReadEff | with_reducible apply canon_foldl | with_reducible apply canon_ite | (fail_if_no_progress intros) | dsimp only | split | (fail_if_no_progress with_reducible refine canon_upd ?_ rfl rfl) | with_reducible rfl

theorem canon_recoveryServe (op : Nat) (f : HostFrame) (s : State) (hc : Canonical s) : Canonical (recoveryServe op f s) := by
  unfold recoveryServe
  repeat' first | with_reducible assumption | with_reducible apply canon_recoverySubmit | with_reducible apply canon_sendReply | with_reducible apply canon_helloServe | with_reducible apply canon_creditServe | with_reducible apply canon_foldl | with_reducible apply canon_ite | (fail_if_no_progress intros) | dsimp only | split | (fail_if_no_progress with_reducible refine canon_upd ?_ rfl rfl) | with_reducible rfl

theorem canon_forwardFrame (op : Nat) (t : Transport) (f : HostFrame) (s : State) (hc : Canonical s) : Canonical (forwardFrame op t f s) := by
  unfold forwardFrame
  repeat' first | with_reducible assumption | with_reducible apply canon_setLanes | with_reducible apply canon_hbSend | with_reducible apply canon_foldl | with_reducible apply canon_ite | (fail_if_no_progress intros) | dsimp only | split | (fail_if_no_progress with_reducible refine canon_upd ?_ rfl rfl) | with_reducible rfl

theorem canon_frameServe (op : Nat) (t : Transport) (f : HostFrame) (s : State) (hc : Canonical s) : Canonical (frameServe op t f s) := by
  unfold frameServe
  repeat' first | with_reducible assumption | with_reducible apply canon_forwardFrame | with_reducible apply canon_submitServe | with_reducible apply canon_renewLease | with_reducible apply canon_pollServe | with_reducible apply canon_abortServe | with_reducible apply canon_helloServe | with_reducible apply canon_creditServe | with_reducible apply canon_foldl | with_reducible apply canon_ite | (fail_if_no_progress intros) | dsimp only | split | (fail_if_no_progress with_reducible refine canon_upd ?_ rfl rfl) | with_reducible rfl

theorem canon_frameAnswer (serve : Nat → HostFrame → State → State) (row : Nat) (t : Transport) (f : HostFrame) (s : State) (hserve : ∀ a0 a1 a2, Canonical a2 → Canonical (serve a0 a1 a2)) (hc : Canonical s) : Canonical (frameAnswer serve row t f s) := by
  unfold frameAnswer
  repeat' first | with_reducible assumption | with_reducible apply hserve | with_reducible apply canon_frameRefuse | with_reducible apply canon_foldl | with_reducible apply canon_ite | (fail_if_no_progress intros) | dsimp only | split | (fail_if_no_progress with_reducible refine canon_upd ?_ rfl rfl) | with_reducible rfl

theorem canon_frameEff (row : Nat) (t : Transport) (f : HostFrame) (s : State) (hc : Canonical s) : Canonical (frameEff row t f s) := by
  unfold frameEff
  refine canon_ite (fun _ => ?_) (fun _ => canon_ite (fun _ => ?_) (fun _ => hc))
  · split
    · rename_i x h
      exact canon_frameAnswer _ _ _ _ _ (fun op g a ha => canon_frameServe op t g a ha) (canon_takeFrame t f s hc x h)
    · exact hc
  · exact canon_frameAnswer _ _ _ _ _ (fun op g a ha => canon_recoveryServe op g a ha) (canon_replySent _ hc)

theorem canon_setExecuting (m : Mbx) (c : Cmd) (s : State) (hc : Canonical s) : Canonical (setExecuting m c s) := by
  unfold setExecuting
  repeat' first | with_reducible assumption | with_reducible apply canon_State_setMb | with_reducible apply canon_foldl | with_reducible apply canon_ite | (fail_if_no_progress intros) | dsimp only | split | (fail_if_no_progress with_reducible refine canon_upd ?_ rfl rfl) | with_reducible rfl

theorem canon_enterExec (m : Mbx) (c : Cmd) (s : State) (hc : Canonical s) : Canonical (enterExec m c s) := by
  unfold enterExec
  repeat' first | with_reducible assumption | with_reducible apply canon_setExecuting | with_reducible apply canon_completeW | with_reducible apply canon_foldl | with_reducible apply canon_ite | (fail_if_no_progress intros) | dsimp only | split | (fail_if_no_progress with_reducible refine canon_upd ?_ rfl rfl) | with_reducible rfl

theorem canon_execStartEff (m : Mbx) (s : State) (hc : Canonical s) : Canonical (execStartEff m s) := by
  unfold execStartEff
  repeat' first | with_reducible assumption | with_reducible apply canon_completeW | with_reducible apply canon_jMark | with_reducible apply canon_enterExec | with_reducible apply canon_foldl | with_reducible apply canon_ite | (fail_if_no_progress intros) | dsimp only | split | (fail_if_no_progress with_reducible refine canon_upd ?_ rfl rfl) | with_reducible rfl

theorem canon_leaseEff (m : Mbx) (s : State) (hc : Canonical s) : Canonical (leaseEff m s) := by
  unfold leaseEff
  repeat' first | with_reducible assumption | with_reducible apply canon_breakLock | with_reducible apply canon_foldl | with_reducible apply canon_ite | (fail_if_no_progress intros) | dsimp only | split | (fail_if_no_progress with_reducible refine canon_upd ?_ rfl rfl) | with_reducible rfl

theorem canon_directReadEff (addr : Byte) (s : State) (hc : Canonical s) : Canonical (directReadEff addr s) := by
  unfold directReadEff
  repeat' first | with_reducible assumption | with_reducible apply canon_foldl | with_reducible apply canon_ite | (fail_if_no_progress intros) | dsimp only | split | (fail_if_no_progress with_reducible refine canon_upd ?_ rfl rfl) | with_reducible rfl

theorem canon_forceSingleEff (addr : Byte) (data : Nat) (crc : Nat) (s : State) (hc : Canonical s) : Canonical (forceSingleEff addr data crc s) := by
  unfold forceSingleEff
  repeat' first | with_reducible assumption | with_reducible apply canon_State_wr | with_reducible apply canon_foldl | with_reducible apply canon_ite | (fail_if_no_progress intros) | dsimp only | split | (fail_if_no_progress with_reducible refine canon_upd ?_ rfl rfl) | with_reducible rfl

theorem canon_ncsRiseEff (clocked : Bool) (s : State) (hc : Canonical s) : Canonical (ncsRiseEff clocked s) := by
  unfold ncsRiseEff
  repeat' first | with_reducible assumption | with_reducible apply canon_replySent | with_reducible apply canon_foldl | with_reducible apply canon_ite | (fail_if_no_progress intros) | dsimp only | split | (fail_if_no_progress with_reducible refine canon_upd ?_ rfl rfl) | with_reducible rfl

theorem canon_State_setPair (s : State) (f : PairDev → PairDev) (hc : Canonical s) : Canonical (State.setPair s f) := by
  unfold State.setPair
  repeat' first | with_reducible assumption | with_reducible apply canon_foldl | with_reducible apply canon_ite | (fail_if_no_progress intros) | dsimp only | split | (fail_if_no_progress with_reducible refine canon_upd ?_ rfl rfl) | with_reducible rfl

theorem canon_State_setPc (s : State) (c : Ch) (f : PairCh → PairCh) (hc : Canonical s) : Canonical (State.setPc s c f) := by
  unfold State.setPc
  repeat' first | with_reducible assumption | with_reducible apply canon_State_setPair | with_reducible apply canon_foldl | with_reducible apply canon_ite | (fail_if_no_progress intros) | dsimp only | split | (fail_if_no_progress with_reducible refine canon_upd ?_ rfl rfl) | with_reducible rfl

theorem canon_aliveLostEff (s : State) (hc : Canonical s) : Canonical (aliveLostEff s) := by
  unfold aliveLostEff
  repeat' first | with_reducible assumption | with_reducible apply canon_State_wr | with_reducible apply canon_State_count | with_reducible apply canon_foldl | with_reducible apply canon_ite | (fail_if_no_progress intros) | dsimp only | split | (fail_if_no_progress with_reducible refine canon_upd ?_ rfl rfl) | with_reducible rfl

theorem canon_aliveBackEff (s : State) (hc : Canonical s) : Canonical (aliveBackEff s) := by
  unfold aliveBackEff
  repeat' first | with_reducible assumption | with_reducible apply canon_State_wr | with_reducible apply canon_foldl | with_reducible apply canon_ite | (fail_if_no_progress intros) | dsimp only | split | (fail_if_no_progress with_reducible refine canon_upd ?_ rfl rfl) | with_reducible rfl

theorem canon_becomeOwner (s : State) (hc : Canonical s) : Canonical (becomeOwner s) := by
  unfold becomeOwner
  repeat' first | with_reducible assumption | with_reducible apply canon_setRole | with_reducible apply canon_renewLease | with_reducible apply canon_State_setMb | with_reducible apply canon_finalise | with_reducible apply canon_foldl | with_reducible apply canon_ite | (fail_if_no_progress intros) | dsimp only | split | (fail_if_no_progress with_reducible refine canon_upd ?_ rfl rfl) | with_reducible rfl

theorem canon_takeoverEff (s : State) (hc : Canonical s) : Canonical (takeoverEff s) := by
  unfold takeoverEff
  repeat' first | with_reducible assumption | with_reducible apply canon_becomeOwner | with_reducible apply canon_setSync | with_reducible apply canon_State_count | with_reducible apply canon_foldl | with_reducible apply canon_ite | (fail_if_no_progress intros) | dsimp only | split | (fail_if_no_progress with_reducible refine canon_upd ?_ rfl rfl) | with_reducible rfl

theorem canon_aloneEff (s : State) (hc : Canonical s) : Canonical (aloneEff s) := by
  unfold aloneEff
  repeat' first | with_reducible assumption | with_reducible apply canon_setSync | with_reducible apply canon_setRole | with_reducible apply canon_foldl | with_reducible apply canon_ite | (fail_if_no_progress intros) | dsimp only | split | (fail_if_no_progress with_reducible refine canon_upd ?_ rfl rfl) | with_reducible rfl

theorem canon_handoverEff (s : State) (hc : Canonical s) : Canonical (handoverEff s) := by
  unfold handoverEff
  repeat' first | with_reducible assumption | with_reducible apply canon_State_setPair | with_reducible apply canon_setSync | with_reducible apply canon_setRole | with_reducible apply canon_State_count | with_reducible apply canon_completeO | with_reducible apply canon_syncStart | with_reducible apply canon_peerTakes | with_reducible apply canon_becomeOwner | with_reducible apply canon_foldl | with_reducible apply canon_ite | (fail_if_no_progress intros) | dsimp only | split | (fail_if_no_progress with_reducible refine canon_upd ?_ rfl rfl) | with_reducible rfl

theorem canon_hashAtWrap (c : Ch) (s : State) (hc : Canonical s) : Canonical (hashAtWrap c s) := by
  unfold hashAtWrap
  repeat' first | with_reducible assumption | with_reducible apply canon_State_setPc | with_reducible apply canon_sendAlign | with_reducible apply canon_foldl | with_reducible apply canon_ite | (fail_if_no_progress intros) | dsimp only | split | (fail_if_no_progress with_reducible refine canon_upd ?_ rfl rfl) | with_reducible rfl

theorem canon_wrapRowEff (c : Ch) (s : State) (hc : Canonical s) : Canonical (wrapRowEff c s) := by
  unfold wrapRowEff
  repeat' first | with_reducible assumption | with_reducible apply canon_hashAtWrap | with_reducible apply canon_angleWrapEff | with_reducible apply canon_foldl | with_reducible apply canon_ite | (fail_if_no_progress intros) | dsimp only | split | (fail_if_no_progress with_reducible refine canon_upd ?_ rfl rfl) | with_reducible rfl

theorem canon_hashCompare (c : Ch) (no : Nat) (h : Nat) (s : State) (hc : Canonical s) : Canonical (hashCompare c no h s) := by
  unfold hashCompare
  repeat' first | with_reducible assumption | with_reducible apply canon_State_setPc | with_reducible apply canon_State_count | with_reducible apply canon_setSync | with_reducible apply canon_foldl | with_reducible apply canon_ite | (fail_if_no_progress intros) | dsimp only | split | (fail_if_no_progress with_reducible refine canon_upd ?_ rfl rfl) | with_reducible rfl

theorem canon_alignSendEff (s : State) (hc : Canonical s) : Canonical (alignSendEff s) := by
  unfold alignSendEff
  repeat' first | with_reducible assumption | with_reducible apply canon_State_eachCh | with_reducible apply canon_sendAlign | with_reducible apply canon_foldl | with_reducible apply canon_ite | (fail_if_no_progress intros) | dsimp only | split | (fail_if_no_progress with_reducible refine canon_upd ?_ rfl rfl) | with_reducible rfl

theorem canon_alignAcc (c : Ch) (acc : Nat) (ownerTime : Nat) (s : State) (hc : Canonical s) : Canonical (alignAcc c acc ownerTime s) := by
  unfold alignAcc
  repeat' first | with_reducible assumption | with_reducible apply canon_State_setAt | with_reducible apply canon_State_wr | with_reducible apply canon_foldl | with_reducible apply canon_ite | (fail_if_no_progress intros) | dsimp only | split | (fail_if_no_progress with_reducible refine canon_upd ?_ rfl rfl) | with_reducible rfl

theorem canon_alignGrid (c : Ch) (state : Nat) (trip : Nat) (timers : List Nat) (id : Nat) (iq : Nat) (s : State) (hc : Canonical s) : Canonical (alignGrid c state trip timers id iq s) := by
  unfold alignGrid
  repeat' first | with_reducible assumption | with_reducible apply canon_State_wr | with_reducible apply canon_setGridState | with_reducible apply canon_State_setGrid | with_reducible apply canon_foldl | with_reducible apply canon_ite | (fail_if_no_progress intros) | dsimp only | split | (fail_if_no_progress with_reducible refine canon_upd ?_ rfl rfl) | with_reducible rfl

theorem canon_alignOrder (c : Ch) (start : Bool) (s : State) (hc : Canonical s) : Canonical (alignOrder c start s) := by
  unfold alignOrder
  repeat' first | with_reducible assumption | with_reducible apply canon_settle | with_reducible apply canon_channelGo | with_reducible apply canon_squallRequest | with_reducible apply canon_foldl | with_reducible apply canon_ite | (fail_if_no_progress intros) | dsimp only | split | (fail_if_no_progress with_reducible refine canon_upd ?_ rfl rfl) | with_reducible rfl

theorem canon_alignItem (i : AlignItem) (s : State) (hc : Canonical s) : Canonical (alignItem i s) := by
  unfold alignItem
  repeat' first | with_reducible assumption | with_reducible apply canon_alignOrder | with_reducible apply canon_alignAcc | with_reducible apply canon_State_setPc | with_reducible apply canon_alignGrid | with_reducible apply canon_State_wr | with_reducible apply canon_setMpptState | with_reducible apply canon_hashCompare | with_reducible apply canon_State_setPair | with_reducible apply canon_foldl | with_reducible apply canon_ite | (fail_if_no_progress intros) | dsimp only | split | (fail_if_no_progress with_reducible refine canon_upd ?_ rfl rfl) | with_reducible rfl

theorem canon_alignReceiveEff (i : AlignItem) (s : State) (hc : Canonical s) : Canonical (alignReceiveEff i s) := by
  unfold alignReceiveEff
  repeat' first | with_reducible assumption | with_reducible apply canon_alignItem | with_reducible apply canon_hbConsume | with_reducible apply canon_foldl | with_reducible apply canon_ite | (fail_if_no_progress intros) | dsimp only | split | (fail_if_no_progress with_reducible refine canon_upd ?_ rfl rfl) | with_reducible rfl

theorem canon_joinCmd (m : Mbx) (a : JRec) (p : List Byte) (s : State) (hc : Canonical s) : Canonical (joinCmd m a p s) := by
  unfold joinCmd
  repeat' first | with_reducible assumption | with_reducible apply canon_State_wr | with_reducible apply canon_State_setMb | with_reducible apply canon_foldl | with_reducible apply canon_ite | (fail_if_no_progress intros) | dsimp only | split | (fail_if_no_progress with_reducible refine canon_upd ?_ rfl rfl) | with_reducible rfl

theorem canon_joinFinal (m : Mbx) (r : JRec) (s : State) (hc : Canonical s) : Canonical (joinFinal m r s) := by
  unfold joinFinal
  repeat' first | with_reducible assumption | with_reducible apply canon_abortEffect_getD | with_reducible apply canon_execDiff | with_reducible apply canon_State_setMb | with_reducible apply canon_State_raise | with_reducible apply canon_foldl | with_reducible apply canon_ite | (fail_if_no_progress intros) | dsimp only | split | (fail_if_no_progress with_reducible refine canon_upd ?_ rfl rfl) | with_reducible rfl

theorem canon_jTake (r : JRec) (s : State) (hc : Canonical s) : Canonical (jTake r s) := by
  unfold jTake
  repeat' first | with_reducible assumption | with_reducible apply canon_State_wr | with_reducible apply canon_joinCmd | with_reducible apply canon_enterExec | with_reducible apply canon_setExecuting | with_reducible apply canon_joinFinal | with_reducible apply canon_State_setMb | with_reducible apply canon_foldl | with_reducible apply canon_ite | (fail_if_no_progress intros) | dsimp only | split | (fail_if_no_progress with_reducible refine canon_upd ?_ rfl rfl) | with_reducible rfl

theorem canon_journalOffer (rs : List JRec) (s : State) (hc : Canonical s) : Canonical (journalOffer rs s) := by
  unfold journalOffer
  refine canon_foldl _ (canon_jReserve _ _ hc) fun a r ha => ?_
  have hp := canon_jPut false r.typ r.mbx r.part r.body a ha
  dsimp only
  cases (jPut false r.typ r.mbx r.part r.body a).crown.journal.head? with
  | none => exact hp
  | some x => exact canon_jTake x _ hp

theorem canon_takeOffer (r : JRec) (s : State) (hc : Canonical s) : Canonical (takeOffer r s) := by
  unfold takeOffer
  repeat' first | with_reducible assumption | with_reducible apply canon_journalOffer | with_reducible apply canon_State_setPair | with_reducible apply canon_foldl | with_reducible apply canon_ite | (fail_if_no_progress intros) | dsimp only | split | (fail_if_no_progress with_reducible refine canon_upd ?_ rfl rfl) | with_reducible rfl

theorem canon_takeRecord (r : JRec) (s : State) (hc : Canonical s) : Canonical (takeRecord r s) := by
  unfold takeRecord
  repeat' first | with_reducible assumption | with_reducible apply canon_blockWritten | with_reducible apply canon_jTake | with_reducible apply canon_jBounds | with_reducible apply canon_foldl | with_reducible apply canon_ite | (fail_if_no_progress intros) | dsimp only | split | (fail_if_no_progress with_reducible refine canon_upd ?_ rfl rfl) | with_reducible rfl

theorem canon_journalMsgEff (j : JMsg) (s : State) (hc : Canonical s) : Canonical (journalMsgEff j s) := by
  unfold journalMsgEff
  repeat' first | with_reducible assumption | with_reducible apply canon_hbConsume | with_reducible apply canon_State_setMb | with_reducible apply canon_releaseHeld | with_reducible apply canon_takeRecord | with_reducible apply canon_takeOffer | with_reducible apply canon_foldl | with_reducible apply canon_ite | (fail_if_no_progress intros) | dsimp only | split | (fail_if_no_progress with_reducible refine canon_upd ?_ rfl rfl) | with_reducible rfl

theorem canon_resyncEff (s : State) (hc : Canonical s) : Canonical (resyncEff s) := by
  unfold resyncEff
  repeat' first | with_reducible assumption | with_reducible apply canon_State_eachCh | with_reducible apply canon_setSync | with_reducible apply canon_State_count | with_reducible apply canon_State_setPc | with_reducible apply canon_foldl | with_reducible apply canon_ite | (fail_if_no_progress intros) | dsimp only | split | (fail_if_no_progress with_reducible refine canon_upd ?_ rfl rfl) | with_reducible rfl

theorem canon_rtcTick (s : State) (hc : Canonical s) : Canonical (rtcTick s) := by
  unfold rtcTick
  repeat' first | with_reducible assumption | with_reducible apply canon_State_wr | with_reducible apply canon_foldl | with_reducible apply canon_ite | (fail_if_no_progress intros) | dsimp only | split | (fail_if_no_progress with_reducible refine canon_upd ?_ rfl rfl) | with_reducible rfl

theorem canon_chanTick (c : Ch) (s : State) (hc : Canonical s) : Canonical (chanTick c s) := by
  unfold chanTick
  repeat' first | with_reducible assumption | with_reducible apply canon_State_setCh | with_reducible apply canon_atTick | with_reducible apply canon_serviceEff | with_reducible apply canon_settle | with_reducible apply canon_cmpTick | with_reducible apply canon_foldl | with_reducible apply canon_ite | (fail_if_no_progress intros) | dsimp only | split | (fail_if_no_progress with_reducible refine canon_upd ?_ rfl rfl) | with_reducible rfl

theorem canon_timeTick (s : State) (hc : Canonical s) : Canonical (timeTick s) := by
  unfold timeTick
  repeat' first | with_reducible assumption | with_reducible apply canon_foldl | with_reducible apply canon_ite | (fail_if_no_progress intros) | dsimp only | split | (fail_if_no_progress with_reducible refine canon_upd ?_ rfl rfl) | with_reducible rfl

theorem canon_deviceTick (s : State) (hc : Canonical s) : Canonical (deviceTick s) := by
  unfold deviceTick
  repeat' first | with_reducible assumption | with_reducible apply canon_rtcTick | with_reducible apply canon_State_eachCh | with_reducible apply canon_windowsTake | with_reducible apply canon_clkoutTick | with_reducible apply canon_timeTick | with_reducible apply canon_chanTick | with_reducible apply canon_foldl | with_reducible apply canon_ite | (fail_if_no_progress intros) | dsimp only | split | (fail_if_no_progress with_reducible refine canon_upd ?_ rfl rfl) | with_reducible rfl

theorem canon_State_withFetchWord (s : State) (nbits : Nat) (w : Nat) (hc : Canonical s) : Canonical (State.withFetchWord s nbits w) := by
  unfold State.withFetchWord
  repeat' first | with_reducible assumption | with_reducible apply canon_foldl | with_reducible apply canon_ite | (fail_if_no_progress intros) | dsimp only | split | (fail_if_no_progress with_reducible refine canon_upd ?_ rfl rfl) | with_reducible rfl

theorem canon_writeDone (m : Mbx) (wt : Waiter) (a : Author) (oid : Nat) (o : Obj) (n : Nat) (lo : Nat) (data : List Byte) (s : State) (hc : Canonical s) : Canonical (Safety.writeDone m wt a oid o n lo data s) := by
  unfold Safety.writeDone
  repeat' first | with_reducible assumption | with_reducible apply canon_processed | with_reducible apply canon_completeW | with_reducible apply canon_recordApply | with_reducible apply canon_foldl | with_reducible apply canon_ite | (fail_if_no_progress intros) | dsimp only | split | (fail_if_no_progress with_reducible refine canon_upd ?_ rfl rfl) | with_reducible rfl

theorem canon_Row_done (r : Safety.Row) (o : Obj) (n : Nat) (s : State) (hc : Canonical s) : Canonical (Safety.Row.done r o n s) := by
  unfold Safety.Row.done
  repeat' first | with_reducible assumption | with_reducible apply canon_writeDone | with_reducible apply canon_foldl | with_reducible apply canon_ite | (fail_if_no_progress intros) | dsimp only | split | (fail_if_no_progress with_reducible refine canon_upd ?_ rfl rfl) | with_reducible rfl

end Sys2Proof.Laws
end

