-- ==== Sys2Proof/Laws/Crc.lean ====
section
/-! SUPPORT. The CRCs of the device fit 32 bits. -/

namespace Sys2Proof.Machine

theorem crcBit_lt {p c : Nat} (hp : p < 2 ^ 32) (hc : c < 2 ^ 32) : crcBit p c < 2 ^ 32 := by
  have h : c / 2 < 2 ^ 32 := by omega
  unfold crcBit
  split
  · exact Nat.xor_lt_two_pow h hp
  · exact h

theorem crcBitL_lt {p c : Nat} (hp : p < 2 ^ 32) (hc : c < 2 ^ 32) : crcBitL p c < 2 ^ 32 := by
  unfold crcBitL
  split
  · exact Nat.xor_lt_two_pow (Nat.mod_lt _ (by decide)) hp
  · omega

theorem foldl_lt {α : Type} {f : Nat → α → Nat} {n : Nat} (hf : ∀ c x, c < n → f c x < n) : ∀ (l : List α) (c : Nat), c < n → l.foldl f c < n
  | [], _, h => h
  | x :: l, c, h => foldl_lt hf l (f c x) (hf c x h)

theorem crcByte_lt {p c : Nat} (b : Byte) (hp : p < 2 ^ 32) (hc : c < 2 ^ 32) : crcByte p c b.toNat < 2 ^ 32 :=
  foldl_lt (fun _ _ h => crcBit_lt hp h) _ _ (Nat.xor_lt_two_pow hc (Nat.lt_of_lt_of_le b.isLt (by decide)))

theorem crcByteL_lt {p c : Nat} (b : Byte) (hp : p < 2 ^ 32) (hc : c < 2 ^ 32) : crcByteL p c b.toNat < 2 ^ 32 := by
  refine foldl_lt (fun _ _ h => crcBitL_lt hp h) _ _ (Nat.xor_lt_two_pow hc ?_)
  have := b.isLt
  omega

/-- A CRC-32C fits 32 bits. -/
theorem crc32c_lt (bs : List Byte) : crc32c bs < 2 ^ 32 :=
  Nat.xor_lt_two_pow (foldl_lt (fun _ b h => crcByte_lt b (by decide) h) _ _ (by decide)) (by decide)

/-- A CRC that shifts left fits 32 bits. -/
theorem crcLeft_lt {p i f : Nat} (hp : p < 2 ^ 32) (hi : i < 2 ^ 32) (hf : f < 2 ^ 32) (bs : List Byte) : crcLeft p i f bs < 2 ^ 32 :=
  Nat.xor_lt_two_pow (foldl_lt (fun _ b h => crcByteL_lt b hp h) _ _ hi) hf

end Sys2Proof.Machine
end

