-- ==== Sys2Proof/Laws/Firmware.lean ====
section
/-! SUPPORT. What the start of a firmware leaves of the two security versions (18_lifecycle_and_update.md R393, R406). -/

namespace Sys2Proof.Machine

/-- SEC_FLOOR and RUN_SEC read these values. -/
def Sec (a b : Nat) (s : State) : Prop := s.rd Reg.Life.SEC_FLOOR = a ∧ s.rd Reg.Fw.RUN_SEC = b

theorem sec_congr {a b : Nat} {s t : State} (h : Sec a b s) (e : t.regs = s.regs) : Sec a b t :=
  ⟨(State.rd_congr e ..).trans h.1, (State.rd_congr e ..).trans h.2⟩

/-- A write elsewhere keeps both. -/
theorem sec_wr {a b : Nat} {s : State} {f : Fld} {n i : Nat} (v : Nat) (h : Sec a b s)
    (hf : f.key 0 n i ≠ Reg.Life.SEC_FLOOR.key 0 0 0 ∧ f.key 0 n i ≠ Reg.Fw.RUN_SEC.key 0 0 0) : Sec a b (s.wr f n i v) :=
  ⟨(State.rd_wr_other _ _ hf.1).trans h.1, (State.rd_wr_other _ _ hf.2).trans h.2⟩

theorem sec_count {a b : Nat} {s : State} {f : Fld} {n i : Nat} (h : Sec a b s)
    (hf : f.key 0 n i ≠ Reg.Life.SEC_FLOOR.key 0 0 0 ∧ f.key 0 n i ≠ Reg.Fw.RUN_SEC.key 0 0 0) : Sec a b (s.count f n i) := sec_wr _ h hf

/-- A field of another object lies elsewhere. -/
theorem sec_at {a b : Nat} {s : State} {f : Fld} {n i : Nat} (v : Nat) (h : Sec a b s) (ho : f.base + n ≠ 0x6F00 ∧ f.base + n ≠ 0x6F01 ∧ f.pos i < 65536) : Sec a b (s.wr f n i v) := by
  refine sec_wr v h ?_
  unfold Fld.key
  have e : Reg.Life.SEC_FLOOR.base = 0x6F00 ∧ Reg.Fw.RUN_SEC.base = 0x6F01 ∧ Reg.Life.SEC_FLOOR.pos 0 = 24 ∧ Reg.Fw.RUN_SEC.pos 0 = 96 := by decide
  rw [e.1, e.2.1, e.2.2.1, e.2.2.2]
  omega

theorem sec_foldl {α : Type} {a b : Nat} {f : State → α → State} (l : List α) {s : State} (h : Sec a b s) (hf : ∀ s, ∀ x ∈ l, Sec a b s → Sec a b (f s x)) :
    Sec a b (l.foldl f s) := by
  induction l generalizing s with
  | nil => exact h
  | cons x l ih => exact ih (hf _ _ (List.mem_cons_self ..) h) fun s y hy => hf s y (List.mem_cons_of_mem _ hy)

theorem sec_completeW {a b : Nat} {s : State} (w : Waiter) (d : Done) (h : Sec a b s) : Sec a b (completeW w d s) :=
  ⟨((completeW_spec w d s).2 _ _ _ (by unfold BooksFree; decide)).trans h.1, ((completeW_spec w d s).2 _ _ _ (by unfold BooksFree; decide)).trans h.2⟩

theorem sec_testLost {a b : Nat} (c : Ch) {s : State} (h : Sec a b s) : Sec a b (testLost c s) := by
  unfold testLost
  split
  · dsimp only
    split
    · exact sec_foldl _ (sec_congr h rfl) fun s w _ h => sec_completeW w _ h
    · exact sec_congr h rfl
  · exact h


theorem sec_enablesUpdate {a b : Nat} (c : Ch) {s : State} (h : Sec a b s) : Sec a b (enablesUpdate c s) := by
  unfold enablesUpdate
  have k : Sec a b (((s.wrB Reg.GdiStat.GEN_A_RB (cI c) 0 (genLevel c false s)).wrB Reg.GdiStat.GEN_B_RB (cI c) 0 (genLevel c true s))) :=
    sec_at _ (sec_at _ h (by revert c; decide)) (by revert c; decide)
  dsimp only
  split
  · exact k
  · exact sec_congr k rfl

theorem sec_safeEval {a b : Nat} (c : Ch) {s : State} (h : Sec a b s) : Sec a b (safeEval c s) := by
  have hs : Reg.Safe.STATE.base = 0x3F02 ∧ Reg.Safe.STATE.pos c.val < 65536 := by decide +revert
  have he : Reg.Safe.E_PEND.base = 0x3F02 ∧ Reg.Safe.E_PEND.pos c.val < 65536 := by decide +revert
  have hd : Reg.Safe.DEMAND_CNT.base = 0x3F02 ∧ Reg.Safe.DEMAND_CNT.pos c.val < 65536 := by decide +revert
  have k : ∀ (f : Fld) (v : Nat) {t : State}, f.base = 0x3F02 ∧ f.pos c.val < 65536 → Sec a b t → Sec a b (t.wr f 0 c.val v) := fun f v t hf ht =>
    sec_at v ht ⟨by omega, by omega, hf.2⟩
  unfold safeEval
  split
  · exact sec_testLost c (sec_enablesUpdate c h)
  · dsimp only
    refine sec_testLost c (sec_enablesUpdate c ?_)
    split
    · have := sec_congr (t := (s.wr Reg.Safe.STATE 0 c.val sfHoldE).setSc c fun x => { x with stopDue := true }) (k _ sfHoldE hs h) rfl
      split
      · exact sec_congr (k _ _ hd (k _ 1 he this)) rfl
      · exact this
    · split <;> split <;> first | exact sec_congr (k _ sfPermit hs (k _ 1 he h)) rfl | exact sec_congr (k _ sfPermit hs h) rfl | exact k _ 1 he h | exact h

theorem sec_safeEvalAll {a b : Nat} {s : State} (h : Sec a b s) : Sec a b (safeEvalAll s) :=
  sec_wr _ (sec_foldl allCh h fun _ c _ h => sec_safeEval c h) (by decide)

theorem sec_conn {a b : Nat} (k : Ix16) (v : Nat) (f : ConnSt → ConnSt) {s : State} (h : Sec a b s) : Sec a b ((setConnState k v s).setConn k f) :=
  sec_congr (sec_at v h (by revert k; decide) : Sec a b (setConnState k v s)) rfl

theorem sec_enterCheck {a b : Nat} (c : Ch) {s : State} (h : Sec a b s) : Sec a b (enterCheck c s) := by
  unfold enterCheck
  refine sec_foldl _ (sec_foldl _ (sec_at _ h (by revert c; decide)) fun s i _ h => ?_) fun s i _ h => ?_
  · split
    · exact sec_congr h rfl
    · exact h
  · split
    · exact sec_conn _ _ _ h
    · exact h

/-- A safety configuration taken anew leaves both versions. -/
theorem sec_safetyWritten {a b : Nat} {s : State} (h : Sec a b s) : Sec a b (safetyWritten s) := by
  unfold safetyWritten safetyTake
  refine sec_safeEvalAll (sec_foldl _ (sec_foldl _ (sec_foldl allCh (sec_wr _ h (by decide)) fun s c _ h => sec_congr h rfl) fun s i _ h => sec_conn _ _ _ h) fun s c _ h => ?_)
  split
  · exact h
  · exact sec_enterCheck c h

/-- Where the settings of the device stand: none in the life-cycle and firmware objects, all within their object. -/
theorem stored_elsewhere : ∀ o ∈ objTable, ∀ n ∈ o.insts, ∀ f ∈ o.flds, f.setting = true → f.base + n ≠ 0x6F00 ∧ f.base + n ≠ 0x6F01 ∧ f.pos f.cnt < 65536 := by
  decide +kernel

theorem sec_setDelivered {a b : Nat} {o : Obj} (ho : o ∈ objTable) {n : Nat} (hn : n ∈ o.insts) {s : State} (h : Sec a b s) : Sec a b (setDelivered o n s) := by
  unfold setDelivered
  refine sec_foldl _ h fun s f hf h => ?_
  split
  · rename_i hm
    refine sec_foldl _ h fun s i hi h => sec_at _ h ?_
    obtain ⟨x, y, z⟩ := stored_elsewhere o ho n hn f hf hm
    refine ⟨x, y, Nat.lt_of_le_of_lt ?_ z⟩
    have := Nat.mul_le_mul_left f.stride (Nat.le_of_lt (List.mem_range.mp hi))
    unfold Fld.pos
    omega
  · exact h

theorem sec_layout {a b : Nat} (o : Obj) (n v : Nat) {s : State} (h : Sec a b s) : Sec a b (s.wr (layoutFld o) n 0 v) := by
  refine sec_wr v h ?_
  have e : Reg.Life.SEC_FLOOR.key 0 0 0 % 65536 = 24 ∧ Reg.Fw.RUN_SEC.key 0 0 0 % 65536 = 96 := by decide
  have l : (layoutFld o).key 0 n 0 % 65536 = 0 := by simp [Fld.key, Fld.pos, layoutFld]
  constructor <;> intro x <;> rw [x] at l <;> omega

theorem sec_migrateAll {a b : Nat} (isB : Bool) {s : State} (h : Sec a b s) : Sec a b (migrateAll isB s) := by
  unfold migrateAll
  refine sec_foldl _ h fun s o ho h => sec_foldl _ h fun s n hn h => ?_
  unfold migrateObj
  dsimp only
  split
  · exact h
  · split
    · exact sec_layout _ _ _ h
    · refine sec_wr _ (sec_wr _ (sec_congr (t := { State.count _ _ with crown := _ }) (sec_count (sec_layout _ _ _ ?_) ?_) rfl) (by decide)) (by decide)
      · split
        · exact h
        · exact sec_setDelivered ho hn h
      · split <;> decide

/-- A firmware that starts leaves SEC_FLOOR, and RUN_SEC is that of its bank. -/
theorem firmwareStart_sec (isB : Bool) (s : State) : (firmwareStart isB s).rd Reg.Life.SEC_FLOOR = s.rd Reg.Life.SEC_FLOOR ∧
    (firmwareStart isB s).rd Reg.Fw.RUN_SEC = (bankVersion isB s).2 % 2 ^ Reg.Fw.RUN_SEC.w := by
  have h : Sec (s.rd Reg.Life.SEC_FLOOR) ((bankVersion isB s).2 % 2 ^ Reg.Fw.RUN_SEC.w) (((runVersions isB s).wr Reg.Fw.MIGRATE_CNT 0 0 0).wr Reg.Fw.DEFAULTED_CNT 0 0 0) := by
    refine sec_wr _ (sec_wr _ ⟨?_, ?_⟩ (by decide)) (by decide)
    · unfold runVersions
      dsimp only
      rw [State.rd_wr_other _ _ (by decide), State.rd_wr_other _ _ (by decide)]
    · unfold runVersions
      exact State.rd_wr ..
  unfold firmwareStart
  dsimp only
  split
  · exact sec_safetyWritten (sec_migrateAll isB h)
  · exact sec_migrateAll isB h

end Sys2Proof.Machine
end

