-- ==== Sys2Proof/Laws/Runs.lean ====
section
/-! SUPPORT. How a command row comes to its next state: said once for the rows that Crown firmware processes and for the rows that act on every channel. -/

namespace Sys2Proof.Machine

open Sys2Proof.Safety

/-- A meaning that ends in `fin` runs to its state. -/
theorem runs_of_fin {i : Instr} {s u t : State} (h : exec i s = fin s u) (e : u = t) : Runs i s t := by subst e; exact h

/-- A run answers a next state with the properties of that state. -/
theorem next_of_runs {i : Instr} {s t : State} (h : Runs i s t) {P : State → Prop} (hp : P { t with pending := s.pending }) : ∃ t, exec i s = .next t ∧ P t := ⟨_, h, hp⟩

/-- A request row that Crown firmware takes and whose checks pass runs its body for the mailbox (R433). -/
theorem runs_of_request {i : Instr} {m : Mbx} {r : Req} {p : List Byte} {b : Waiter → State → State} {s : State} (h : reqOf i = some (m, r, p))
    (he : exec i s = fin s (runReq m r p b s)) (ht : Takes i s) : Runs i s (processed m (b (waiterOf m r.code s) s)) := by
  obtain ⟨h1, _, h3, h4⟩ := ht
  rw [h] at h3 h4
  simp only [Option.bind_some, Option.any_some] at h3 h4
  refine runs_of_fin he ?_
  simp [runReq, h1, h3, h4]

/-- A request row that finishes at once ends with the outcome of its body. -/
theorem ends_of_now {i : Instr} {m : Mbx} {r : Req} {p : List Byte} {b : State → Done × State} {s : State} (h : reqOf i = some (m, r, p))
    (he : exec i s = fin s (runNow m r p b s)) (ht : Takes i s) : Ends i s (b s) := by
  have := runs_of_request (b := fun w s => completeW w (b s).1 (b s).2) h he ht
  unfold Ends answers
  rw [h]
  exact this

/-- A property of the state that each channel's part keeps is kept by all of them. -/
theorem eachCh_keeps {α : Type} (g : State → α) (f : State → Ch → State) (h : ∀ s c, g (f s c) = g s) (s : State) : g (s.eachCh f) = g s :=
  foldl_keeps (P := fun x => g x = g s) (f := f) (fun x c hx => (h x c).trans hx) allCh s rfl

/-- Where every channel's part changes that channel alone, each channel has its own change. -/
theorem eachCh_setCh (f : Chan → Chan) (s : State) (c : Ch) : ((s.eachCh fun s c => s.setCh c f).ch c) = f (s.ch c) := by
  have key : ∀ (l : List Ch), l.Nodup → ∀ s : State, ((l.foldl (fun s c => s.setCh c f) s).ch c) = if c ∈ l then f (s.ch c) else s.ch c := by
    intro l
    induction l with
    | nil => intro _ s; simp
    | cons a l ih =>
      intro hn s
      rw [List.nodup_cons] at hn
      rw [List.foldl_cons, ih hn.2]
      by_cases h : c = a
      · subst h; simp [hn.1]
      · simp [h, State.ch_setCh_other _ _ (Ne.symm h)]
  have h := key allCh (by decide) s
  exact h.trans (if_pos (List.mem_finRange c))

end Sys2Proof.Machine
end

