-- ==== Sys2Proof/WellFormed.lean ====
section
/-! DEFINITION. Well-formed commands: the operands that the sender of each command can form at all (Table 12.2, Table 14.5, Table 18.9, 14_can_and_hatband.md, 10_metering.md). The meanings are total and also answer ill-formed commands. -/

namespace Sys2Proof

/-- A payload of a host frame: at most 1024 bytes (12_crown_mailboxes.md R266). -/
def wfPayload (p : List Byte) : Bool := decide (p.length ≤ 1024)

/-- A host frame carries at most 1024 bytes of payload (R266). The row names its OP; the frame names one only where no row of the table has it. -/
def HostFrame.wf (f : HostFrame) : Bool := wfPayload f.payload && f.op.all fun o => decide (o.toNat < 1) || decide (5 < o.toNat)

/-- Data bytes of a CAN frame by its DLC (14_can_and_hatband.md R316). -/
def dlcBytes (fdf : Bool) (dlc : Nat) : Nat :=
  if dlc ≤ 8 then dlc else if !fdf then 8 else [12, 16, 20, 24, 32, 48, 64].getD (dlc - 9) 64

/-- A CAN frame: data as the DLC says and none in a remote frame, no remote FD frame, an 11-bit identifier without IDE, BRS and ESI only in FD. -/
def CanFrame.wf (f : CanFrame) : Bool :=
  (f.data.length == if f.rtr then 0 else dlcBytes f.fdf f.dlc.toNat) && !(f.rtr && f.fdf)
    && (f.ide || decide (f.ident.toNat < 2 ^ 11)) && (f.fdf || (!f.brs && !f.esi))

/-- A Hatband frame always carries 64 payload bytes (R323). -/
def HbFrame.wf (f : HbFrame) : Bool := f.payload.length == 64

/-- Raw samples of the eight metering front ends, six each: VA, VB, VC, IA, IB, IC (10_metering.md). -/
def wfSamples (raw : List (List (BitVec 24))) : Bool := raw.length == 8 && raw.all fun l => l.length == 6

/-- A Feide frame travels in one CAN FD frame, so it is at most 64 bytes (11_safety.md R251, R252), under an 11-bit identifier without IDE. -/
def wfFeide (ide : Bool) (ident : BitVec 29) (bytes : List Byte) : Bool :=
  decide (bytes.length ≤ 64) && (ide || decide (ident.toNat < 2 ^ 11))

/-- An image block is 1024 bytes (Table 18.9); RESEND and ABANDON carry none. -/
def wfBlock (data : List Byte) : Bool := data.length == 1024

/-- A JOURNAL message carries a record of 64 bytes (Table 12.6). -/
def JMsg.wf : JMsg → Bool
  | .record bytes => bytes.length == 64
  | .mark _ _ => true

/-- An alignment item: the twelve times and counts of the grid functions, and 64 CE variables or none (Table 15.4). -/
def AlignItem.wf : AlignItem → Bool
  | .order _ _ => true
  | .accumulator _ _ _ => true
  | .ceState _ _ w => w.length == 64 || w.length == 0
  | .grid _ _ _ timers _ _ => timers.length == 12
  | .mppt _ _ _ => true
  | .hash _ _ _ => true
  | .handoverAt _ => true

/-- A well-formed command. -/
def Instr.wf (i : Instr) : Bool :=
  match i with
  | .objectRead _ _ => true
  | .objectWrite _ _ image => wfPayload image
  | .objWritePart _ p => wfPayload p
  | .lock _ p => wfPayload p
  | .unlock _ p => wfPayload p
  | .chStart _ p => wfPayload p
  | .chStop _ p => wfPayload p
  | .chIdleEnter _ p => wfPayload p && p.getD 1 1 != 0
  | .chIdleLeave _ p => wfPayload p && p.getD 1 0 == 0
  | .storeWrite _ p => wfPayload p
  | .storeRead _ p => wfPayload p
  | .bankLoad _ p => wfPayload p
  | .bankSwap _ p => wfPayload p
  | .swapCancel _ p => wfPayload p
  | .bankErase _ p => wfPayload p
  | .sessionStart _ p => wfPayload p
  | .sessionStop _ p => wfPayload p
  | .billRead _ p => wfPayload p
  | .billAck _ p => wfPayload p
  | .meterClear _ p => wfPayload p
  | .safetyAck _ p => wfPayload p
  | .feide _ p => wfPayload p
  | .journalRead _ p => wfPayload p
  | .changeRead _ p => wfPayload p
  | .fwWrite _ p => wfPayload p
  | .fwVerify _ p => wfPayload p
  | .activate _ p => wfPayload p
  | .lcRequest _ p => wfPayload p
  | .fuseProgram _ p _ _ => wfPayload p
  | .lullEnter _ p => wfPayload p
  | .submit _ f => f.wf
  | .poll _ f => f.wf
  | .abort _ f => f.wf
  | .hello _ f => f.wf
  | .credit _ f => f.wf
  | .directRead _ => true
  | .forceSingle _ _ _ => true
  | .commandExecStart _ => true
  | .leaseExpire _ => true
  | .relock _ => true
  | .referenceChange _ _ _ => true
  | .referenceLoss => true
  | .referencePresent => true
  | .pllAcquisitionTimeout => true
  | .pllLock => true
  | .pllSettled => true
  | .lockLoss => true
  | .clockMonitorTrip _ => true
  | .clkoutCommit _ _ => true
  | .clkoutSetApply _ => true
  | .clkoutUnmute _ => true
  | .fwCommit _ _ => true
  | .fwTimeReached _ => true
  | .channelStart _ => true
  | .angleWrap _ => true
  | .esFire _ _ _ => true
  | .esDirectCommit _ _ => true
  | .encEdge _ _ _ => true
  | .encIndex _ => true
  | .coastEnd _ => true
  | .bankLoadDone _ => true
  | .bankSwapPoint _ => true
  | .bankSramUncorrectable _ => true
  | .sarConversionEnd _ _ _ => true
  | .commitReg _ _ _ => true
  | .commitInj _ _ _ => true
  | .converterStop _ _ _ => true
  | .cmpRawChange _ _ _ => true
  | .cmpSample _ _ _ => true
  | .cmpFilterChange _ _ => true
  | .thresholdCommit _ _ => true
  | .ceEvalStart _ => true
  | .ceEvalEnd _ _ => true
  | .ceSramUncorrectable _ => true
  | .commitCoef _ _ _ => true
  | .commitProg _ _ _ => true
  | .commitHost _ _ => true
  | .clearState _ _ _ => true
  | .slotDisable _ _ _ => true
  | .pgCommit _ _ => true
  | .periodStart _ => true
  | .pgReload _ => true
  | .pgEdge _ _ _ => true
  | .patternEdgeFire _ _ => true
  | .interlockRelease _ _ => true
  | .fltAssert _ _ _ => true
  | .debugHalt _ => true
  | .haltRelease _ => true
  | .dfbAssert _ _ _ => true
  | .blankingEnd _ _ => true
  | .enableSettleEnd _ => true
  | .service _ _ _ => true
  | .recoveryExpire _ => true
  | .squallDone _ => true
  | .hbRefresh _ => true
  | .hbootUv _ _ => true
  | .vdrvUv => true
  | .gridEnable _ _ => true
  | .gridDisable _ _ => true
  | .gridEvaluation => true
  | .gridTrip _ _ => true
  | .gridReconnect _ => true
  | .reconnect _ _ => true
  | .mpptEnable _ _ => true
  | .mpptStep _ => true
  | .mpptSweep _ => true
  | .meterSample raw => wfSamples raw
  | .noZc _ => true
  | .meterTimerMark _ => true
  | .meterCommit _ => true
  | .aggregate10min => true
  | .frequency10s => true
  | .meterEnable _ _ => true
  | .meterDisable _ _ => true
  | .billingRecordStored _ => true
  | .sinChange _ _ => true
  | .sinDemandRecognised _ => true
  | .sinDemandEnd _ => true
  | .tpPulseStart _ => true
  | .tpPulseEnd _ => true
  | .testWindowClose _ => true
  | .tpPulseCheck _ => true
  | .tpLineFault _ => true
  | .discrepancyExpire _ => true
  | .spHeartbeat => true
  | .guardHeartbeatLoss _ => true
  | .enableReadbackFault _ _ => true
  | .configCrcCheck => true
  | .pathDisagree _ _ => true
  | .safetySelfTestFail _ => true
  | .sackRelease _ _ => true
  | .ackStuck => true
  | .checkComplete _ _ => true
  | .periodicStartTest _ _ => true
  | .safetyStopOrder _ => true
  | .safetyConfigWrite _ _ image => wfPayload image
  | .feideFrameReceive _ ident ide bytes => wfFeide ide ident bytes
  | .feideWatchdogExpire _ => true
  | .feideProduce _ => true
  | .keepAlive => true
  | .crownLossHoldStart _ => true
  | .crownLossHoldExpire _ => true
  | .crownLockstepMismatch => true
  | .crownWatchdogExpire => true
  | .crownSramUncorrectable => true
  | .crownRestartDone => true
  | .canFrameReceive _ f => f.wf
  | .segmentTimeout _ => true
  | .canTxDone _ _ => true
  | .canTxFail _ _ => true
  | .busOffRecoveryDone _ => true
  | .recover _ _ => true
  | .holdRelease _ _ _ => true
  | .canModeChange _ _ _ => true
  | .statusFramePeriod => true
  | .resetHeldFrame => true
  | .hbFrameReceive _ f => f.wf
  | .hbCreditReturn _ _ _ _ => true
  | .crTimeout _ => true
  | .hbHeartbeatSend _ => true
  | .hbMiss _ => true
  | .linkTrainingDone _ _ => true
  | .laneLockLoss _ => true
  | .hatbandRoleWrite _ _ _ _ _ => true
  | .pairAliveLost => true
  | .takeover => true
  | .waitingAloneTimeout => true
  | .pairEnable _ _ => true
  | .handover _ => true
  | .handoverInstant => true
  | .alignSend => true
  | .alignReceive item => item.wf
  | .journalMessageReceive msg => msg.wf
  | .resyncDone => true
  | .mramReadComplete _ _ _ _ _ => true
  | .mramWriteComplete _ _ _ _ _ => true
  | .mramScrub _ _ => true
  | .sramScrub _ _ _ _ _ => true
  | .fabricClassWrite _ _ _ => true
  | .brownout => true
  | .brownoutEnd => true
  | .lullSourceLost => true
  | .thaw _ _ _ => true
  | .runOkRise => true
  | .wakeEvent _ => true
  | .lullMeasurement => true
  | .lullBurst => true
  | .storeMeasure _ => true
  | .batLowCheck _ => true
  | .vbatLoss => true
  | .nrstLow => true
  | .nrstHigh => true
  | .resetHeld _ => true
  | .tamper => true
  | .tamperAck _ _ => true
  | .rtcSet _ _ => true
  | .thermalTrip => true
  | .thermalRecovery => true
  | .temperatureRead _ _ => true
  | .runHour => true
  | .transferStart _ _ _ => true
  | .imageBlockReceive _ _ data => wfBlock data
  | .activationConfirm => true
  | .activationConfirmTimeout => true
  | .debugAuth _ _ => true
  | .clockBranchRunsAgain _ => true
  | .canBusIntegration _ => true
  | .canReceiveError _ _ => true
  | .heartbeatReceive _ _ => true
  | .pairAliveReturn => true
  | .testAgeIncrement _ => true
  | .vdrvReturn => true
  | .sweepDwellEnd _ => true
  | .encEdgeTimeout _ => true
  | .esHystDistance _ _ _ => true
  | .imageResend _ _ => true
  | .imageAbandon _ _ => true
  | .hpNcsRise _ => true

end Sys2Proof
end

