-- ==== Sys2Proof/Tests/Slice0.lean ====
section
/-! SUPPORT. Tests of the model: ill-formed commands that the checks refuse, published check values of the CRCs and of SHA-384, and for each clause of an obligation that has
hypotheses a state and operands that meet all of them together (`test_<obligation>_<clause>`). -/

namespace Sys2Proof.Tests

open Sys2Proof.Machine Sys2Proof.Safety

set_option Elab.async false

/-! ### Commands that are not well-formed -/

theorem test_wf_payload : (Instr.lock 0 (List.replicate 1025 0)).wf = false := by decide +kernel
theorem test_wf_host_frame : (Instr.submit .host ⟨0, 0, 0, 0, 0, 0, List.replicate 1025 0, none, none, false⟩).wf = false := by decide +kernel
theorem test_wf_can_data : (Instr.canFrameReceive 0 ⟨5, false, false, false, false, false, 2, [0], 0⟩).wf = false := by decide +kernel
theorem test_wf_can_remote_fd : (Instr.canFrameReceive 0 ⟨5, false, true, false, false, true, 0, [], 0⟩).wf = false := by decide +kernel
theorem test_wf_can_identifier : (Instr.canFrameReceive 0 ⟨2048, false, false, false, false, false, 0, [], 0⟩).wf = false := by decide +kernel
theorem test_wf_can_brs : (Instr.canFrameReceive 0 ⟨5, false, false, true, false, false, 0, [], 0⟩).wf = false := by decide +kernel
theorem test_wf_hatband : (Instr.hbFrameReceive 0 ⟨0, 0, 0, 0, 0, 0, [], 0⟩).wf = false := by decide +kernel
theorem test_wf_samples : (Instr.meterSample [[0]]).wf = false := by decide +kernel
theorem test_wf_feide : (Instr.feideFrameReceive .host 0 false (List.replicate 65 0)).wf = false := by decide +kernel
theorem test_wf_feide_identifier : (Instr.feideFrameReceive (.can 0) 2048 false []).wf = false := by decide +kernel
theorem test_wf_block : (Instr.imageBlockReceive 0 ⟨0, 0, 0, 0, 0, 0, 0, 0, 0⟩ []).wf = false := by decide +kernel
theorem test_wf_record : (Instr.journalMessageReceive (.record [])).wf = false := by decide +kernel
theorem test_wf_align_ce : (Instr.alignReceive (.ceState 0 [] [1])).wf = false := by decide +kernel
theorem test_wf_align_grid : (Instr.alignReceive (.grid 0 0 0 [] 0 0)).wf = false := by decide +kernel
theorem test_wf_accepts : (Instr.lock 0 [1, 0, 16]).wf = true := by decide +kernel

/-! ### Published check values: CRC-32C of the digits 1 to 9, and SHA-384 of "abc" -/

theorem test_crc32c : crc32c [0x31, 0x32, 0x33, 0x34, 0x35, 0x36, 0x37, 0x38, 0x39] = 0xE3069283 := by decide +kernel
theorem test_sha384 : (sha384 [0x61, 0x62, 0x63]).take 4 = [0xCB, 0x00, 0x75, 0x3F] := by decide +kernel
/-- The image of the two safety objects after reset, and its parts of 66 bytes. -/
def cfgImage : List Byte := imageOf 136 0 Reg.SafeIn.fields State.reset ++ imageOf 260 0 Reg.Feide.fields State.reset
def cfgPart (k : Nat) : List Byte := (cfgImage.drop (66 * k)).take 66
theorem cfg_step (l : List Byte) (k : Nat) : l.drop k = (l.drop k).take 66 ++ l.drop (k + 66) := by rw [← List.drop_drop, List.take_append_drop]
theorem cfg_end : cfgImage.drop 396 = [] := List.drop_eq_nil_of_le (by decide +kernel)
theorem cut (l : List Byte) (h : l.drop 396 = []) : l = l.take 66 ++ ((l.drop 66).take 66 ++ ((l.drop 132).take 66 ++ ((l.drop 198).take 66 ++ ((l.drop 264).take 66 ++ (l.drop 330).take 66)))) := by
  have := (cfg_step l 0).trans (congrArg _ ((cfg_step l 66).trans (congrArg _ ((cfg_step l 132).trans (congrArg _ ((cfg_step l 198).trans (congrArg _ ((cfg_step l 264).trans (congrArg _ (cfg_step l 330))))))))))
  simpa [h] using this
theorem cfg_parts : cfgImage = cfgPart 0 ++ (cfgPart 1 ++ (cfgPart 2 ++ (cfgPart 3 ++ (cfgPart 4 ++ cfgPart 5)))) := cut cfgImage cfg_end
def cfgFold (c : Nat) (l : List Byte) : Nat := l.foldl (fun c b => crcByteL 0xF4ACFB13 c b.toNat) c
theorem cfg_fold_0 : cfgFold 4294967295 (cfgPart 0) = 3475462297 := by decide +kernel
theorem cfg_fold_1 : cfgFold 3475462297 (cfgPart 1) = 86671895 := by decide +kernel
theorem cfg_fold_2 : cfgFold 86671895 (cfgPart 2) = 2357914703 := by decide +kernel
theorem cfg_fold_3 : cfgFold 2357914703 (cfgPart 3) = 360952693 := by decide +kernel
theorem cfg_fold_4 : cfgFold 360952693 (cfgPart 4) = 4278366280 := by decide +kernel
theorem cfg_fold_5 : cfgFold 4278366280 (cfgPart 5) = 567241796 := by decide +kernel
theorem crc_of_parts {l a b c d e f : List Byte} {u v w x y z : Nat} (h : l = a ++ (b ++ (c ++ (d ++ (e ++ f))))) (ha : cfgFold 0xFFFFFFFF a = u) (hb : cfgFold u b = v)
    (hc : cfgFold v c = w) (hd : cfgFold w d = x) (he : cfgFold x e = y) (hf : cfgFold y f = z) : feideCrc l = z ^^^ 0xFFFFFFFF := by
  subst ha hb hc hd he hf h
  unfold feideCrc crcLeft cfgFold
  simp only [List.foldl_append]
/-- The configuration CRC that a delivered device holds is the CRC of its safety objects (R257). -/
theorem test_delivered_crc : safetyCrc State.reset = deliveredCfgCrc :=
  (crc_of_parts cfg_parts cfg_fold_0 cfg_fold_1 cfg_fold_2 cfg_fold_3 cfg_fold_4 cfg_fold_5 : feideCrc cfgImage = _).trans (by decide)
/-- No row of the table gives bits, so no word spells a command. -/
theorem test_decode_none : decodeTableWord 16 0 = none := by decide

/-! ### States the witnesses start from: the state after reset with one thing changed -/
abbrev r0 : State := State.reset
/-- A waiter that no mailbox command stands behind. -/
def nobody : Waiter := ⟨0, none⟩
/-- Reset with one field written. -/
def wr1 (f : Fld) (v : Nat) : State := r0.wr f 0 0 v
def acq (a : Nat) (st : Bool) : State := (wr1 Reg.ClkStat.STATE 2).setClk fun x => { x with attempt := a, settling := st }
/-- Channel 0 turns, and its angle has just passed 0 forward. -/
def turning : State := (wr1 Reg.AtStat.STATE 1).setAt 0 fun x => { x with accPrev := (2 ^ 32 - 16) * 2 ^ 16, acc := 16 * 2 ^ 16 }
/-- Channel 0 on an encoder. -/
def onEnc : State := (wr1 Reg.AtStat.STATE 1).wr Reg.AtCtl.SRC 0 0 2
def coasting (onExpire : Nat) : State := ((wr1 Reg.AtStat.COAST 1).wr Reg.AtStat.STATE 0 0 atCoast).wr Reg.AtCtl.ON_EXPIRE 0 0 onExpire
/-- Channel 0 waits with a CH_START and could start. -/
def startable : State := (((wr1 Reg.GdiStat.GEN_A_RB 1).wr Reg.GdiStat.GEN_B_RB 0 0 1).setPg 0 fun x => { x with settled := true }).setCh 0 fun x => { x with startWait := some nobody }
/-- The PG of channel 0 runs. -/
def pgOn : State := wr1 Reg.PgStat.STATE pgRunning
/-- It is the given time. -/
def at_ (t : Nat) (s : State) : State := { s with time := t }
def crownDown : State := crownTo .rom r0
def inPow (p : PowState) : State := r0.setPow fun x => { x with st := p }
def aRec (p : MPurpose) : MRec := ⟨false, false, false, false, false, false, 0, 1, 0, 0, 0, 0, false, List.replicate 28 0, p⟩
def aSess : SessInfo := ⟨0, 0, 0, 0, 0, false, false⟩
/-- A host frame with the CRC that belongs to it. -/
def frame (op : Nat) (seq : W32) (code : W16) (pl : List Byte) : HostFrame :=
  let f : HostFrame := ⟨0, seq, BitVec.ofNat 16 pl.length, code, 0, 0, pl, none, none, false⟩
  { f with crc := some (BitVec.ofNat 32 (crc32c (hfBytes f op))) }

/-- A safe frame of connection 0 with the CRC that belongs to it. -/
def safeFrame (seq : Nat) (permit : Byte) : List Byte :=
  let b := [1, 1] ++ leBytes 2 seq ++ leBytes 4 7 ++ leBytes 2 20 ++ [0, 0] ++ [permit]
  b ++ leBytes 4 (feideCrc b)
/-- Connection 0 is consumed over the host port, with CONN_ID 7 and WD_MS 20, in the given state. -/
def conn0 (st : Nat) : State := ((((wr1 Reg.Feide.DIR 1).wr Reg.Feide.TRANSPORT 0 0 6).wr Reg.Feide.CONN_ID 0 0 7).wr Reg.Feide.WD_MS 0 0 20).wr Reg.Safe.CONN_STATE 0 0 st
def aCmd (seq code : Nat) (broken : Bool) : Cmd := ⟨0, seq, code, [], 0, 0, 0, .accepted, stAccepted, 0, [], false, broken, none, false⟩
/-- Mailbox 0 holds these commands. -/
def queued0 (cs : List Cmd) : State := r0.setMb 0 fun x => { x with cmds := cs }
/-- Mailbox m holds a lock of a group, with the given number of staged writes. -/
def locked (m : Mbx) (g n : Nat) : State := r0.setMb m fun x => { x with lock := some ⟨0, [g], List.replicate n ⟨0, 1, [0], 0, 0⟩, 0⟩ }
def objs (oid : Nat) : Obj := ((objAt oid).map Prod.fst).getD ⟨0, false, 0, 0, []⟩

/-- A pair with its link up on port 0, in the given role and SYNC. -/
def paired (role sync : Nat) : State :=
  ((((wr1 Reg.PairCfg.EN 1).wr Reg.HbCfg.ROLE_A 0 0 1).wr Reg.HbStat.LINK 0 0 3).wr Reg.PairStat.ROLE 0 0 role).wr Reg.PairStat.SYNC 0 0 sync
/-- Port p of Hatband is up. -/
def hbOn : State := wr1 Reg.HbStat.LINK 3
def goodHb (fseq : Byte) : HbFrame :=
  let f : HbFrame := ⟨fseq, 4, 0, 0, 2, 4, List.replicate 64 0, 0⟩
  { f with crc := BitVec.ofNat 32 (crc32c (hbFrameBytes f)) }
def aLink : LinkInfo := ⟨0x4860, 1, true, 0, true, 0, true, 0⟩
def aTx : CanTx := ⟨5, false, false, false, [], 0, .none, none⟩
/-- CAN0 is on the bus, with one frame to send in buffer 0. -/
def canReady : State := (wr1 Reg.CanCfg.MODE 1).setBuf 0 0 fun _ => [aTx]
def lockRec : JRec := ⟨false, 7, 0, 0, 0, List.replicate 52 0⟩
def lullLow : State := setRunOk false (inPow .lull)

def block1k : List Byte := List.replicate 1024 0
/-- Block n of transfer 1, as it comes over port 0. -/
def aDesc (n : W16) : ImgDesc := ⟨0, 0, 0, 1, n, 9, BitVec.ofNat 32 (crc32c block1k), 0, 0⟩
theorem own_crc (bs : List Byte) : crc32c bs = (BitVec.ofNat 32 (crc32c bs)).toNat := by
  rw [BitVec.toNat_ofNat, Nat.mod_eq_of_lt (crc32c_lt bs)]
def aXfer : XferIn := ⟨1, 0, 0, 0, 9, 3, true, false, 0⟩
def receiving : State := hbOn.setLife fun x => { x with xin := [aXfer] }

/-- The write that a row makes passes its checks, and the mailbox executes it. -/
def rowAccepted (s : State) (i : Instr) : Bool :=
  match rowOf s i with
  | none => false
  | some r => match objAt r.oid with
    | none => false
    | some (o, n) => decide (WriteAccepted r.m (r.wt s) r.oid o n r.lo (r.data o n s) s) && regMay r.m r.oid r.lo r.len o n r.edits s
        && (o.base != 0x4F40 || !(mkObjW o n (mergeBase r.m r.oid o n s) r.lo (r.data o n s)).hit Reg.PairCfg.HANDOVER)
theorem row_ready {s : State} {i : Instr} (h : rowAccepted s i = true) : RowReady i s := by
  unfold rowAccepted at h
  split at h
  · cases h
  · rename_i r hr
    split at h
    · cases h
    · rename_i o n ho
      simp only [Bool.and_eq_true, decide_eq_true_eq, Bool.or_eq_true, bne_iff_ne, Bool.not_eq_true'] at h
      exact ⟨r, o, n, hr, h.1.1, h.1.2, h.2⟩
/-- A record slot of a channel whose MF runs. -/
def lullHigh : State := inPow .lull

def aChange : CRec := ⟨0, 1, 0, 0, 0, 0, 0, 0, 0, 0, 0, 0, true⟩

def doneCmd : Cmd := { aCmd 0 0x1030 false with st := .done, status := stDone }
def frame5 : CanFrame := ⟨5, false, false, false, false, false, 1, [0], 9⟩

/-! ### Register rows: each is accepted in some state -/

theorem test_rows_1 : ∀ i ∈ [Instr.relock 0, Instr.referenceChange 0 1 100, Instr.clkoutCommit 0 0, Instr.fwCommit 0 0, Instr.esDirectCommit 0 0, Instr.commitReg 0 0 false, Instr.commitInj 0 0 false, Instr.converterStop 0 0 false, Instr.thresholdCommit 0 0, Instr.commitCoef 0 0 0], rowAccepted r0 i = true := by decide +kernel
theorem test_rows_2 : ∀ i ∈ [Instr.commitProg 0 0 0, Instr.commitHost 0 0, Instr.clearState 0 0 0, Instr.slotDisable 0 0 0, Instr.pgCommit 0 0, Instr.service 0 0 true, Instr.gridDisable 0 0, Instr.meterEnable 0 0, Instr.meterDisable 0 0, Instr.recover 0 0], rowAccepted r0 i = true := by decide +kernel
theorem test_rows_3 : ∀ i ∈ [Instr.holdRelease 0 0 0, Instr.canModeChange 0 0 1, Instr.hatbandRoleWrite 0 1 0 0 0, Instr.pairEnable 0 true, Instr.fabricClassWrite 0 0 1, Instr.tamperAck 0 0, Instr.rtcSet 0 5], rowAccepted r0 i = true := by decide +kernel
theorem test_row_gridEnable : rowAccepted ((wr1 Reg.GridCfg.GROUP 1).wr Reg.AtCtl.SRC 0 0 1) (.gridEnable 0 0) = true := by decide +kernel
theorem test_row_reconnect : rowAccepted (wr1 Reg.GridStat.READY 1) (.reconnect 0 0) = true := by decide +kernel
theorem test_row_mpptEnable : rowAccepted ((wr1 Reg.MpptCfg.VMAX 0x4000).wr Reg.MpptCfg.DV 0 0 1) (.mpptEnable 0 0) = true := by decide +kernel
theorem test_row_transferStart : rowAccepted (wr1 Reg.Fw.INACT_STATE inVerified) (.transferStart 0 false 0) = true := by decide +kernel

/-! ### Cases inside clauses -/

/-- CAN reception: a Feide identifier with room, and with a full FIFO 0; a request with a full FIFO 1; a frame of neither kind. -/
def canFeide : State := ((canReady.wr Reg.Feide.DIR 0 0 1).wr Reg.Feide.TRANSPORT 0 0 0).wr Reg.Feide.CAN_ID 0 0 5
theorem test_CanReception_1_feide : canOnBus 0 canFeide = true ∧ canFrameOk frame5 = true ∧ canFeideId 0 frame5 canFeide = true ∧ (canFeide.can 0).fifo0.length < 64 := by decide +kernel
theorem test_CanReception_1_full : canFeideId 0 frame5 (canFeide.setCan 0 fun x => { x with fifo0 := List.replicate 64 frame5 }) = true ∧
    canOnBus 0 (canFeide.setCan 0 fun x => { x with fifo0 := List.replicate 64 frame5 }) = true := by decide +kernel
theorem test_CanReception_1_request :
    let s := (canReady.wr Reg.CanCfg.MBX_REQ_ID 0 0 5).setCan 0 fun x => { x with fifo1 := List.replicate 64 frame5 }
    let f : CanFrame := { frame5 with fdf := true, brs := true }
    canFeideId 0 f s = false ∧ canIsRequest 0 f s = true ∧ 64 ≤ (s.can 0).fifo1.length ∧ canFrameOk f = true := by decide +kernel
theorem test_CanReception_1_neither : canFeideId 0 { frame5 with ident := 6 } canReady = false ∧ canIsRequest 0 { frame5 with ident := 6 } canReady = false ∧
    canIsStatusReq 0 { frame5 with ident := 6 } canReady = false := by decide +kernel
/-- A SUBMIT with a wrong CRC, at its CRC and opcode, is refused with check 1. -/
theorem test_FramesServedOrRefused_2 : Brings .host { frame opSubmit 0 0x1030 [] with crc := some 0 } r0 { frame opSubmit 0 0x1030 [] with crc := some 0 } (replySent r0) ∧
    frameBad (hfOp { frame opSubmit 0 0x1030 [] with crc := some 0 } opSubmit) .host { frame opSubmit 0 0x1030 [] with crc := some 0 } (replySent r0) = some 1 := by unfold Brings; decide +kernel
/-- MRAM: a block that fails twice with a spare left and with none, and a life-cycle state in which a spare is left after reset. -/
theorem test_mram_spares : r0.rd Reg.MemStat.SPARES_LEFT ≠ 0 ∧ (wr1 Reg.MemStat.SPARES_LEFT 0).rd Reg.MemStat.SPARES_LEFT = 0 := by decide +kernel
/-- A produced host connection of FEIDE. -/
theorem test_feide_produced : let s := (wr1 Reg.Feide.DIR 2).wr Reg.Feide.TRANSPORT 0 0 6
    (feideReceive .host 0 false [] s).rd Reg.Feide.DIR = 2 ∧ (feideReceive .host 0 false [] s).rd Reg.Feide.TRANSPORT = 6 := by decide +kernel
theorem test_LockOutLocks_cases : bit 0xFF 0 = true ∧ safeState 0 (wr1 Reg.Safe.STATE sfLocked) = sfLocked ∧ safeState 0 (wr1 Reg.Safe.STATE sfPermit) ≠ sfLocked := by decide +kernel
theorem test_Tamper_cases : r0.pow.st = .run ∧ (inPow .lull).pow.st ≠ .run ∧ (inPow .lull).pow.st ≠ .off := by decide +kernel
/-- The ROM code starts the delivered firmware when its blocks read back (R382), and finds nothing to start when one is lost and the other bank is empty. -/
theorem romStart_ok {full : Bool} {s : State} (h : romCode full (runIsB s) s = 0) : (romStart full s).1 = true := by
  unfold romStart; rw [if_pos h]
theorem romStart_fails {full : Bool} {s : State} (h : romCode full (runIsB s) s ≠ 0) (hi : s.rd Reg.Fw.INACT_STATE = inEmpty) : (romStart full s).1 = false := by
  unfold romStart
  rw [if_neg h, if_neg fun x => x.1 (by unfold inactState; rw [State.rd_wr_other _ _ (by decide)]; exact hi)]
theorem rd_thawBase {s : State} (h : s.pow.islandLost = false) {g : Fld} {n i : Nat} (hg : Fld.key Reg.Life.LC_NONCE 0 0 0 ≠ g.key 0 n i) :
    (thawBase s).rd g n i = (thawFields s).rd g n i := by
  unfold thawBase thawDraws; rw [h]; exact State.rd_wr_other _ _ hg
def thawLost : State := { inPow .thaw with mem := { r0.mem with lost := [0] } }
theorem thaw_bank {s : State} (h : s.pow.islandLost = false) (hs : (thawFields s).rdB Reg.Fw.RUN_BANK = false) : runIsB (thawBase s) = false := by
  unfold runIsB State.rdB; rw [rd_thawBase h (by decide)]; exact hs
theorem test_ResetAndThaw_6 : ∃ (tm : BitVec 3) (nid : BitVec 4) (pid : Bool) (s : State), canThaw s = true ∧ testHeld tm.toNat s = false ∧ (romStart (!s.pow.fromLull) (thawBase (latchPins nid.toNat pid s))).1 = true :=
  ⟨0, 5, true, inPow .thaw, by decide +kernel, by decide +kernel, romStart_ok (by rw [thaw_bank rfl (by decide +kernel)]; decide +kernel)⟩
theorem test_ResetAndThaw_9 : ∃ (tm : BitVec 3) (nid : BitVec 4) (pid : Bool) (s : State), canThaw s = true ∧ testHeld tm.toNat s = false ∧ (romStart (!s.pow.fromLull) (thawBase (latchPins nid.toNat pid s))).1 = false :=
  ⟨0, 5, true, thawLost, by decide +kernel, by decide +kernel, romStart_fails (by rw [thaw_bank rfl (by decide +kernel)]; decide +kernel) (by rw [rd_thawBase rfl (by decide)]; decide +kernel)⟩

/-! ### Obligations.EmptyQueueTick -/

theorem test_EmptyQueueTick_1 : ∃ (s : State), s.pending = [] :=
  ⟨r0, by decide +kernel⟩
theorem test_EmptyQueueTick_2 : ∃ (s : State), s.pow.st = .off :=
  ⟨inPow .off, by decide +kernel⟩
theorem test_EmptyQueueTick_3 : ∃ (s : State), s.pow.st ≠ .off ∧ unitsOn (rtcTick s) = true :=
  ⟨r0, by decide +kernel⟩
theorem test_EmptyQueueTick_4 : ∃ (s : State), s.pow.st ≠ .off ∧ unitsOn (rtcTick s) = false ∧ measuring (rtcTick s) = true :=
  ⟨(inPow .lull).setMf 0 fun x => { x with lull := some 5 }, by decide +kernel⟩
theorem test_EmptyQueueTick_5 : ∃ (s : State), s.pow.st ≠ .off ∧ unitsOn (rtcTick s) = false ∧ measuring (rtcTick s) = false :=
  ⟨inPow .lull, by decide +kernel⟩

/-! ### Obligations.ResetState -/

theorem test_ResetState_7 : ∃ (f : Fld) (n : Nat) (i : Nat), f.key 0 n i ≠ Reg.Safe.CFG_CRC.key 0 0 0 :=
  ⟨Reg.AtCtl.FW, 0, 0, by decide +kernel⟩

/-! ### Obligations.CanonicalKept -/

theorem test_CanonicalKept_1 : ∃ (s : State) (t : State), Canonical s ∧ step s = .next t :=
  ⟨r0, _, by unfold Canonical; decide +kernel, rfl⟩

/-! ### Obligations.EventFifo -/

theorem test_EventFifo_1 : ∃ (c : Ch) (k : Nat) (s : State), s.rdB Reg.Route.TO_CROWN (cI c) k = true ∧ routed c k s = [] ∧ (s.ch c).fifo.length < 32 :=
  ⟨0, 0, wr1 Reg.Route.TO_CROWN 1, by decide +kernel⟩
theorem test_EventFifo_2 : ∃ (c : Ch) (k : Nat) (s : State), s.rdB Reg.Route.TO_CROWN (cI c) k = true ∧ routed c k s = [] ∧ 32 ≤ (s.ch c).fifo.length :=
  ⟨0, 0, (wr1 Reg.Route.TO_CROWN 1).setCh 0 fun x => { x with fifo := List.replicate 32 ⟨0, 0, 0⟩ }, by decide +kernel⟩
theorem test_EventFifo_3 : ∃ (c : Ch) (s : State), (s.ch c).fifo.length ≤ 32 :=
  ⟨0, r0, by decide +kernel⟩

/-! ### Obligations.CrownLossAndRestarts -/

theorem test_CrownLossAndRestarts_1 : ∃ (s : State), crownUp s = true :=
  ⟨r0, by decide +kernel⟩
theorem test_CrownLossAndRestarts_2 : ∃ (s : State), unitsOn s = true :=
  ⟨r0, by decide +kernel⟩
theorem test_CrownLossAndRestarts_3 : ∃ (c : Ch) (s : State), (s.ch c).hold = true :=
  ⟨0, r0.setCh 0 fun x => { x with hold := true }, by decide +kernel⟩
theorem test_CrownLossAndRestarts_4 : ∃ (s : State), crownAwake s = true ∧ pairRole s ≠ 2 :=
  ⟨r0, by decide +kernel⟩
theorem test_CrownLossAndRestarts_5 : ∃ (s : State), crownAwake s = true ∧ pairRole s ≠ 2 :=
  ⟨r0, by decide +kernel⟩
theorem test_CrownLossAndRestarts_6 : ∃ (s : State), crownAwake s = true ∧ pairRole s ≠ 2 :=
  ⟨r0, by decide +kernel⟩
theorem test_CrownLossAndRestarts_7 : ∃ (s : State), s.crown.restarting = true ∧ (romStart false { s with crown := { s.crown with restarting := false }, life := { s.life with activating := none } }).1 = true :=
  ⟨{ r0 with crown := { r0.crown with restarting := true } }, by decide +kernel⟩

/-! ### Obligations.ClockAndOutputs -/

theorem test_ClockAndOutputs_1 : ∃ (s : State), ckState s = 1 ∧ s.rdB Reg.ClkStat.REF_OK = true :=
  ⟨r0, by decide +kernel⟩
theorem test_ClockAndOutputs_2 : ∃ (s : State), ckState s = 1 ∧ s.rdB Reg.ClkStat.REF_OK = true :=
  ⟨r0, by decide +kernel⟩
theorem test_ClockAndOutputs_3 : ∃ (s : State), ckState s ≠ 1 ∧ s.rdB Reg.ClkStat.REF_OK = true :=
  ⟨wr1 Reg.ClkStat.STATE 2, by decide +kernel⟩
theorem test_ClockAndOutputs_5 : ∃ (c : Ch) (s : State), (s.ch c).branch = true ∧ (s.ch c).idle = false :=
  ⟨0, r0, by decide +kernel⟩
theorem test_ClockAndOutputs_6 : ∃ (s : State), ckState s = 1 :=
  ⟨r0, by decide +kernel⟩
theorem test_ClockAndOutputs_7 : ∃ (c : Ch) (s : State), (s.ch c).idle = false :=
  ⟨0, r0, by decide +kernel⟩
theorem test_ClockAndOutputs_8 : ∃ (c : Ch) (s : State), (s.ch c).branch = true :=
  ⟨0, r0, by decide +kernel⟩
theorem test_ClockAndOutputs_9 : ∃ (s : State), s.rdB Reg.ClkStat.REF_OK = false ∧ (ckState s = 0 ∨ ckState s = 4) :=
  ⟨(wr1 Reg.ClkStat.STATE 0).wr Reg.ClkStat.REF_OK 0 0 0, by decide +kernel⟩
theorem test_ClockAndOutputs_10 : ∃ (s : State), ckState s = 2 ∧ s.clk.settling = false ∧ s.clk.attempt = 1 :=
  ⟨acq 1 false, by decide +kernel⟩
theorem test_ClockAndOutputs_11 : ∃ (s : State), ckState s = 2 ∧ s.clk.settling = false ∧ s.clk.attempt = 2 :=
  ⟨acq 2 false, by decide +kernel⟩
theorem test_ClockAndOutputs_12 : ∃ (s : State), ckState s = 2 ∧ s.clk.settling = false ∧ s.clk.attempt = 1 :=
  ⟨acq 1 false, by decide +kernel⟩
theorem test_ClockAndOutputs_13 : ∃ (s : State), ckState s = 2 ∧ s.clk.settling = false ∧ s.clk.attempt = 2 :=
  ⟨acq 2 false, by decide +kernel⟩
theorem test_ClockAndOutputs_14 : ∃ (s : State), ckState s = 2 ∧ s.clk.settling = true :=
  ⟨acq 1 true, by decide +kernel⟩
theorem test_ClockAndOutputs_15 : ∃ (k : Fin 2) (s : State), s.rd Reg.ClkOut.PEND k.val = 1 :=
  ⟨0, wr1 Reg.ClkOut.PEND 1, by decide +kernel⟩
theorem test_ClockAndOutputs_16 : ∃ (k : Fin 2) (s : State), s.rdB Reg.ClkOut.PEND k.val = false :=
  ⟨0, r0, by decide +kernel⟩
theorem test_ClockAndOutputs_17 : ∃ (s : State), ckState s = 1 :=
  ⟨r0, by decide +kernel⟩

/-! ### Obligations.FrequencyAndEventCommitsApply -/

theorem test_FrequencyAndEventCommitsApply_1 : ∃ (c : Ch) (s : State), s.rdB Reg.AtCtl.FW_AT (cI c) = true ∧ (s.ch c).at_.fwWait ≠ .none ∧ atStopped c s = false ∧ s.odd = false ∧ s.rd Reg.AtCtl.FW_TIME (cI c) = s.time ∧ atSrc c s = 0 ∧ atSrc c (fwApply c s) = 0 :=
  ⟨0, ((wr1 Reg.AtCtl.FW_AT 1).wr Reg.AtStat.STATE 0 0 1).setAt 0 fun x => { x with fwWait := .waiting }, by decide +kernel⟩
theorem test_FrequencyAndEventCommitsApply_3 : ∃ (c : Ch) (s : State), wrapTick c s = true ∧ crossesFwd c 0 s = true ∧ ((s.pg c).wrapLeft = true ∨ pgIsRunning c s = false) ∧ pgIsRunning c (fireLag c evWrap (lagOf c 0 s) s) = false :=
  ⟨0, turning, by decide +kernel⟩

/-! ### Obligations.ChannelStartAndStop -/

theorem test_ChannelStartAndStop_1 : ∃ (c : Ch) (w : Waiter) (s : State), (s.ch c).startWait = some w ∧ s.rd Reg.AtCtl.START_TIME (cI c) ≤ s.time ∧ startDenied c true s = none :=
  ⟨0, nobody, startable, by decide +kernel⟩
theorem test_ChannelStartAndStop_2 : ∃ (c : Ch) (w : Waiter) (s : State), (s.ch c).startWait = some w ∧ s.rd Reg.AtCtl.START_TIME (cI c) ≤ s.time ∧ startCheck c true s ≠ 0 :=
  ⟨0, nobody, r0.setCh 0 fun x => { x with startWait := some nobody }, by decide +kernel⟩
theorem test_ChannelStartAndStop_3 : ∃ (m : Mbx) (p : List Byte) (s : State), Takes (.chStart m p) s :=
  ⟨0, [0, 0, 0, 0], r0, by unfold Takes; decide +kernel⟩
theorem test_ChannelStartAndStop_4 : ∃ (c : Ch) (s : State), (s.sc c).afterTest = true :=
  ⟨0, r0.setSc 0 fun x => { x with afterTest := true }, by decide +kernel⟩
theorem test_ChannelStartAndStop_5 : ∃ (m : Mbx) (p : List Byte) (s : State), Takes (.chStart m p) s ∧ (s.sc (chOf p)).afterTest = false ∧ startDenied (chOf p) false s = none ∧ s.rd Reg.AtCtl.START_TIME (cI (chOf p)) = 0 :=
  ⟨0, [0, 0, 0, 0], ((wr1 Reg.GdiStat.GEN_A_RB 1).wr Reg.GdiStat.GEN_B_RB 0 0 1).setPg 0 fun x => { x with settled := true }, by unfold Takes; decide +kernel⟩
theorem test_ChannelStartAndStop_6 : ∃ (m : Mbx) (p : List Byte) (s : State), Takes (.chStop m p) s ∧ s.rd Reg.PgStat.STATE (cI (chOf p)) = pgStopped :=
  ⟨0, [0, 0, 0, 0], r0, by unfold Takes; decide +kernel⟩
theorem test_ChannelStartAndStop_7 : ∃ (m : Mbx) (p : List Byte) (s : State), Takes (.chStop m p) s ∧ s.rd Reg.PgStat.STATE (cI (chOf p)) ≠ pgStopped :=
  ⟨0, [0, 0, 0, 0], pgOn, by unfold Takes; decide +kernel⟩
theorem test_ChannelStartAndStop_8 : ∃ (m : Mbx) (p : List Byte) (s : State), Takes (.chIdleEnter m p) s ∧ pb p 1 = 1 ∧ s.rd Reg.PgStat.STATE (cI (chOf p)) ≠ pgStopped :=
  ⟨0, [0, 1, 0, 0], pgOn, by unfold Takes; decide +kernel⟩
theorem test_ChannelStartAndStop_9 : ∃ (m : Mbx) (p : List Byte) (s : State), Takes (.chIdleEnter m p) s ∧ pb p 1 = 1 ∧ s.rd Reg.PgStat.STATE (cI (chOf p)) = pgStopped :=
  ⟨0, [0, 1, 0, 0], r0, by unfold Takes; decide +kernel⟩
theorem test_ChannelStartAndStop_10 : ∃ (m : Mbx) (p : List Byte) (s : State), Takes (.chIdleLeave m p) s ∧ pb p 1 = 0 :=
  ⟨0, [0, 0, 0, 0], r0, by unfold Takes; decide +kernel⟩
theorem test_ChannelStartAndStop_11 : ∃ (c : Ch) (s : State), (s.ch c).idle = true :=
  ⟨0, r0.setCh 0 fun x => { x with idle := true }, by decide +kernel⟩
theorem test_ChannelStartAndStop_12 : ∃ (c : Ch) (s : State), (s.ch c).idle = false :=
  ⟨0, r0, by decide +kernel⟩

/-! ### Obligations.EventScheduleFires -/

theorem test_EventScheduleFires_1 : ∃ (c : Ch) (e : Fin 136) (occ : Byte) (x : EsEntry) (n : Nat) (s : State), atStopped c s = false ∧ (esEntries c e occ.toNat s).find? (esDue c occ.toNat s) = some (x, n) :=
  ⟨0, 128, 0, directEs 0 0 ((turning.wrL Reg.Es.ENTRY_DIR 0 0 1).wrL Reg.Es.ENTRY_REGION_MASK 0 0 1), 128, ((turning.wrL Reg.Es.ENTRY_DIR 0 0 1).wrL Reg.Es.ENTRY_REGION_MASK 0 0 1), by decide +kernel⟩
theorem test_EventScheduleFires_2 : ∃ (c : Ch) (i : Nat) (n : Nat) (x : EsEntry) (s : State), i ≤ x.reps ∧ ((crossesFwd c (x.occ i) s = true ∧ bit x.dir 0 = true) ∨ (crossesRev c (x.occ i) s = true ∧ bit x.dir 1 = true)) ∧ (((s.ch c).disarmed.any fun d => d.entry == n && d.occ == i) = false) ∧ bit x.regions (s.ch c).regionTick = true :=
  ⟨0, 0, 128, directEs 0 0 ((turning.wrL Reg.Es.ENTRY_DIR 0 0 1).wrL Reg.Es.ENTRY_REGION_MASK 0 0 1), ((turning.wrL Reg.Es.ENTRY_DIR 0 0 1).wrL Reg.Es.ENTRY_REGION_MASK 0 0 1), by decide +kernel⟩
theorem test_EventScheduleFires_3 : ∃ (c : Ch) (e : Fin 136) (b : Bool) (s : State), e.val < 128 ∧ swapSides c s = none ∧ activeBank c s = some b :=
  ⟨0, 0, false, wr1 Reg.Batt.STATE_A bkActive, by decide +kernel⟩
theorem test_EventScheduleFires_4 : ∃ (c : Ch) (e : Fin 136) (occ : Byte) (x : EsEntry) (n : Nat) (s : State), esEntries c e occ.toNat s = [(x, n)] :=
  ⟨0, 128, 0, directEs 0 0 r0, 128, r0, by decide +kernel⟩

/-! ### Obligations.EncoderAndCoast -/

theorem test_EncoderAndCoast_1 : ∃ (c : Ch) (a : Bool) (b : Bool) (s : State), let d := (quadPos a b + 4 - quadPos (s.ch c).at_.encA (s.ch c).at_.encB) % 4; s.rd Reg.Enc.MODE (cI c) = 0 ∧ atStopped c s = false ∧ atSrc c s = 2 ∧ (d = 1 ∨ d = 3) :=
  ⟨0, true, false, onEnc, by decide +kernel⟩
theorem test_EncoderAndCoast_2 : ∃ (c : Ch) (a : Bool) (b : Bool) (s : State), s.rd Reg.Enc.MODE (cI c) = 0 ∧ atStopped c s = false ∧ atSrc c s = 2 ∧ (quadPos a b + 4 - quadPos (s.ch c).at_.encA (s.ch c).at_.encB) % 4 = 2 :=
  ⟨0, true, true, onEnc, by decide +kernel⟩
theorem test_EncoderAndCoast_3 : ∃ (c : Ch) (s : State), s.rdB Reg.Enc.Z_USE (cI c) = true ∧ atStopped c s = false ∧ atSrc c s = 2 ∧ atState c s ≠ atCoast ∧ atState c s ≠ atFree ∧ (s.ch c).at_.zSeen = false :=
  ⟨0, onEnc.wr Reg.Enc.Z_USE 0 0 1, by decide +kernel⟩
theorem test_EncoderAndCoast_4 : ∃ (c : Ch) (s : State), encRuns c s = true ∧ s.rd Reg.Enc.MODE (cI c) = 0 :=
  ⟨0, onEnc, by decide +kernel⟩
theorem test_EncoderAndCoast_5 : ∃ (c : Ch) (s : State), s.rdB Reg.AtStat.COAST (cI c) = true ∧ atState c s = atCoast ∧ (fire c evCoastEnd (s.wr Reg.AtStat.COAST (cI c) 0 0)).rdB Reg.AtCtl.ON_EXPIRE (cI c) = false :=
  ⟨0, coasting 0, by decide +kernel⟩
theorem test_EncoderAndCoast_6 : ∃ (c : Ch) (s : State), s.rdB Reg.AtStat.COAST (cI c) = true ∧ atState c s = atCoast ∧ (fire c evCoastEnd (s.wr Reg.AtStat.COAST (cI c) 0 0)).rdB Reg.AtCtl.ON_EXPIRE (cI c) = true :=
  ⟨0, coasting 1, by decide +kernel⟩

/-! ### Obligations.BankEventsAnswer -/

theorem test_BankEventsAnswer_1 : ∃ (c : Ch) (s : State), (s.batt c).load.isSome = true :=
  ⟨0, r0.setBatt 0 fun x => { x with load := some ⟨nobody, false, 0, 0, []⟩ }, by decide +kernel⟩
theorem test_BankEventsAnswer_2 : ∃ (c : Ch) (l : RunningLoad) (s : State), (s.batt c).load = some l ∧ (s.batt c).queue = [] :=
  ⟨0, ⟨nobody, false, 0, 0, []⟩, r0.setBatt 0 fun x => { x with load := some ⟨nobody, false, 0, 0, []⟩ }, by decide +kernel⟩
theorem test_BankEventsAnswer_3 : ∃ (c : Ch) (o : SwapOut) (s : State), (s.batt c).swap = some o ∧ bankState c o.bankB s = bkArmed ∧ swapAtWrap c s = true ∧ wrapTick c s = true :=
  ⟨0, ⟨nobody, true⟩, (turning.wr Reg.Batt.STATE_B 0 0 bkArmed).setBatt 0 fun x => { x with swap := some ⟨nobody, true⟩ }, by decide +kernel⟩
theorem test_BankEventsAnswer_5 : ∃ (c : Ch) (b : Bool) (s : State), activeBank c s = some b :=
  ⟨0, false, wr1 Reg.Batt.STATE_A bkActive, by decide +kernel⟩

/-! ### Obligations.SensingEvents -/

theorem test_SensingEvents_1 : ∃ (c : Ch) (sb : Bool) (s : State), (s.ch c).branch = true ∧ ((s.ch c).sar sb).conv = true ∧ ((s.ch c).sar sb).inj = false :=
  ⟨0, false, r0.setSar 0 false fun x => { x with conv := true }, by decide +kernel⟩
theorem test_SensingEvents_2 : ∃ (c : Ch) (sb : Bool) (s : State), (s.ch c).branch = true ∧ ((s.ch c).sar sb).conv = true ∧ ((s.ch c).sar sb).inj = true :=
  ⟨0, false, r0.setSar 0 false fun x => { x with conv := true, inj := true }, by decide +kernel⟩
theorem test_SensingEvents_4 : ∃ (c : Ch) (j : Fin 16) (s : State), cmpOn c j.val s = true ∧ s.rdB Reg.CmpCfg.SAMPLED (cI c) j.val = false :=
  ⟨0, 0, wr1 Reg.CmpCfg.EN 1, by decide +kernel⟩
theorem test_SensingEvents_5 : ∃ (c : Ch) (j : Fin 16) (s : State), cmpOn c j.val s = true ∧ s.rdB Reg.CmpCfg.SAMPLED (cI c) j.val = true :=
  ⟨0, 0, (wr1 Reg.CmpCfg.EN 1).wr Reg.CmpCfg.SAMPLED 0 0 1, by decide +kernel⟩
theorem test_SensingEvents_6 : ∃ (c : Ch) (j : Fin 16) (lvl : Bool) (s : State), cmpOn c j.val s = true ∧ filtLevel c j s = some lvl ∧ (s.cmp c j).filt ≠ some lvl ∧ ((settle c (cmpChange c j (filtTake c j lvl) s)).ch c).idle = false :=
  ⟨0, 0, true, (((wr1 Reg.CmpCfg.EN 1).wr Reg.CmpCfg.M 0 0 3).wr Reg.CmpCfg.N 0 0 2).setCmp 0 0 fun x => { x with hist := [some true, some true, some false] }, by decide +kernel⟩

/-! ### Obligations.EvaluationsRun -/

theorem test_EvaluationsRun_1 : ∃ (c : Ch) (j : Fin 4) (s : State), (s.ch c).branch = true ∧ (s.ch c).ce.running = none ∧ nextSlot c s = some j :=
  ⟨0, 0, at_ 5 (wr1 Reg.CeStat.PENDING 1), by decide +kernel⟩
theorem test_EvaluationsRun_3 : ∃ (c : Ch) (j : Fin 4) (s : State), (s.ch c).ce.running = some j :=
  ⟨0, 0, r0.setCh 0 fun x => { x with ce := { x.ce with running := some 0 } }, by decide +kernel⟩
theorem test_EvaluationsRun_4 : ∃ (c : Ch) (j : Fin 4) (s : State), (s.ch c).ce.running = some j :=
  ⟨0, 0, r0.setCh 0 fun x => { x with ce := { x.ce with running := some 0 } }, by decide +kernel⟩
theorem test_EvaluationsRun_5 : ∃ (c : Ch) (j : Fin 4) (s : State), nextSlot c s = some j :=
  ⟨0, 0, at_ 5 (wr1 Reg.CeStat.PENDING 1), by decide +kernel⟩

/-! ### Obligations.PulseEdges -/

theorem test_PulseEdges_1 : ∃ (c : Ch) (s : State), pgIsRunning c s = true ∧ (s.pg c).psTick = false ∧ angleCarrier c s = false :=
  ⟨0, pgOn, by decide +kernel⟩
theorem test_PulseEdges_2 : ∃ (c : Ch) (s : State), pgIsRunning c s = true ∧ (s.pg c).psTick = false ∧ angleCarrier c s = true ∧ wrapTick c s = true ∧ crossesFwd c 0 s = true :=
  ⟨0, (((turning.wr Reg.PgStat.STATE 0 0 pgRunning).wr Reg.PgCfg.CARRIER_SRC 0 0 1).wr Reg.PgStat.PERIOD_NOW 0 0 1000).wr Reg.PgStat.DUTY_NOW 0 0 0x80000000, by decide +kernel⟩
theorem test_PulseEdges_3 : ∃ (c : Ch) (r : Reload) (a : ArmedSet) (s : State), pgIsRunning c s = true ∧ reloadPoint c s = some r ∧ (s.pg c).armed = [a] ∧ a.tick + 3 ≤ s.tick :=
  ⟨0, ⟨0, 0, true⟩, ⟨0, false, []⟩, at_ 5 (pgOn.setPg 0 fun x => { x with armed := [⟨0, false, []⟩] }), by decide +kernel⟩
theorem test_PulseEdges_4 : ∃ (c : Ch) (r : Reload) (a : ArmedSet) (s : State), pgIsRunning c s = true ∧ reloadPoint c s = some r ∧ (s.pg c).armed = [a] ∧ s.tick < a.tick + 3 :=
  ⟨0, ⟨0, 0, true⟩, ⟨0, false, []⟩, pgOn.setPg 0 fun x => { x with armed := [⟨0, false, []⟩] }, by decide +kernel⟩
theorem test_PulseEdges_5 : ∃ (c : Ch) (k : Fin 6) (b : Bool) (x : Nat) (s : State), pgIsRunning c s = true ∧ patMode c k s = false ∧ ((s.pg c).prs[k]).first = b ∧ ((s.pg c).prs[k]).second = false ∧ ((if b then secondPos c k s else firstPos c k s) = some x) ∧ angleCarrier c s = false :=
  ⟨0, 0, false, 0, (pgOn.wr Reg.PgStat.PERIOD_NOW 0 0 1000).wr Reg.PgStat.DUTY_NOW 0 0 0x80000000, by decide +kernel⟩
theorem test_PulseEdges_6 : ∃ (c : Ch) (k : Fin 6) (b : Bool) (x : Nat) (s : State), pgIsRunning c s = true ∧ patMode c k s = false ∧ ((s.pg c).prs[k]).first = b ∧ ((s.pg c).prs[k]).second = false ∧ ((if b then secondPos c k s else firstPos c k s) = some x) ∧ angleCarrier c s = true ∧ crossesFwd c x s = true :=
  ⟨0, 0, false, 0, (((turning.wr Reg.PgStat.STATE 0 0 pgRunning).wr Reg.PgCfg.CARRIER_SRC 0 0 1).wr Reg.PgStat.PERIOD_NOW 0 0 1000).wr Reg.PgStat.DUTY_NOW 0 0 0x80000000, by decide +kernel⟩
theorem test_PulseEdges_7 : ∃ (c : Ch) (k : Fin 6) (s : State), pgIsRunning c s = true ∧ patMode c k s = true ∧ (s.pat c k).held = 0 :=
  ⟨0, 0, pgOn.wr Reg.PgStat.PAT_NOW 0 0 1, by decide +kernel⟩
theorem test_PulseEdges_8 : ∃ (c : Ch) (o : Fin 12) (f : Nat) (s : State), (s.out c o).held = true ∧ (s.out c (partner o)).lvl = false ∧ (s.out c (partner o)).fellAt = some f :=
  ⟨0, 0, 7, (r0.setOut 0 0 fun x => { x with held := true }).setOut 0 (partner 0) fun x => { x with fellAt := some 7 }, by decide +kernel⟩
theorem test_PulseEdges_9 : ∃ (c : Ch) (f : Fin 4) (s : State), fltAsserted c f.val s = false :=
  ⟨0, 0, r0, by decide +kernel⟩
theorem test_PulseEdges_10 : ∃ (c : Ch) (f : Fin 4) (s : State), fltAsserted c f.val s = true :=
  ⟨0, 0, (wr1 Reg.PgCut.EN 1).setPg 0 fun x => { x with flt := 1 }, by decide +kernel⟩

/-! ### Obligations.GateDrive -/

theorem test_GateDrive_1 : ∃ (c : Ch) (k : Fin 6) (s : State), dfbOn c k s = false :=
  ⟨0, 0, r0, by decide +kernel⟩
theorem test_GateDrive_2 : ∃ (c : Ch) (k : Fin 6) (s : State), dfbOn c k s = true :=
  ⟨0, 0, wr1 Reg.GdiStat.DFB_NOW 1, by decide +kernel⟩
theorem test_GateDrive_3 : ∃ (c : Ch) (o : Fin 12) (s : State), (s.out c o).blank = true :=
  ⟨0, 0, r0.setOut 0 0 fun x => { x with blank := true, masked := 1 }, by decide +kernel⟩
theorem test_GateDrive_4 : ∃ (c : Ch) (s : State), s.rdB Reg.GdiStat.GEN_A_RB (cI c) = true ∧ s.rdB Reg.GdiStat.GEN_B_RB (cI c) = true ∧ (s.pg c).settled = false ∧ ((enableSettleEff c s).sc c).afterTest = false :=
  ⟨0, (wr1 Reg.GdiStat.GEN_A_RB 1).wr Reg.GdiStat.GEN_B_RB 0 0 1, by decide +kernel⟩
theorem test_GateDrive_5 : ∃ (c : Ch) (s : State), gdiState c s = 3 :=
  ⟨0, wr1 Reg.GdiStat.STATE 3, by decide +kernel⟩
theorem test_GateDrive_6 : ∃ (c : Ch) (s : State), gdiState c s = 4 :=
  ⟨0, wr1 Reg.GdiStat.STATE 4, by decide +kernel⟩
theorem test_GateDrive_7 : ∃ (c : Ch) (s : State), gdiState c s = 0 :=
  ⟨0, r0, by decide +kernel⟩
theorem test_GateDrive_8 : ∃ (c : Ch) (s : State), gdiState c s = 1 :=
  ⟨0, wr1 Reg.GdiStat.STATE 1, by decide +kernel⟩
theorem test_GateDrive_9 : ∃ (c : Ch) (s : State), hbFollows c s = true ∧ (s.pg c).ho = true ∧ (s.pg c).refreshAt = none :=
  ⟨0, (wr1 Reg.Hb.EN 1).setPg 0 fun x => { x with ho := true }, by decide +kernel⟩

/-! ### Obligations.GridAndMppt -/

theorem test_GridAndMppt_2 : ∃ (c : Ch) (e : Elem) (s : State), crownUp s = true ∧ (s.ch c).hold = false ∧ gridOn c s = true ∧ bit (s.grid c).expired (elemIx e) = true :=
  ⟨0, .ov2, (wr1 Reg.GridCfg.EN 1).setGrid 0 fun x => { x with expired := 1 }, by decide +kernel⟩
theorem test_GridAndMppt_3 : ∃ (c : Ch) (s : State), gridOn c s = true ∧ (∀ x ∈ gridMembers c s, gridState x s = gsWait ∧ (s.grid x).due = true ∧ (s.grid x).expired = 0 ∧ s.rd Reg.PgStat.STATE (cI x) = pgRunning ∧ crownLeads x s = true) :=
  ⟨0, ((((wr1 Reg.GridCfg.EN 1).wr Reg.GridCfg.GROUP 0 0 1).wr Reg.GridStat.STATE 0 0 gsWait).wr Reg.PgStat.STATE 0 0 pgRunning).setGrid 0 fun x => { x with due := true }, by decide +kernel⟩
theorem test_GridAndMppt_4 : ∃ (c : Ch) (s : State), gridOn c s = true ∧ isStandby s = false ∧ (∀ x ∈ gridMembers c s, gridState x s = gsWait ∧ (s.grid x).due = true ∧ (s.grid x).expired = 0 ∧ s.rd Reg.PgStat.STATE (cI x) = pgStopped ∧ crownLeads x s = true) ∧ (((gridMembers c s).any fun x => (s.grid x).told) = true) :=
  ⟨0, (((wr1 Reg.GridCfg.EN 1).wr Reg.GridCfg.GROUP 0 0 1).wr Reg.GridStat.STATE 0 0 gsWait).setGrid 0 fun x => { x with due := true, told := true }, by decide +kernel⟩
theorem test_GridAndMppt_6 : ∃ (c : Ch) (s : State), crownUp s = true ∧ (s.ch c).hold = false ∧ mpptHoldCheck c s = s ∧ mpptState c s = mpTrack :=
  ⟨0, ((wr1 Reg.MpptCfg.EN 1).wr Reg.MpptStat.STATE 0 0 mpTrack).wr Reg.MpptCfg.SWEEP_MIN 0 0 1, by decide +kernel⟩
theorem test_GridAndMppt_7 : ∃ (c : Ch) (s : State), crownUp s = true ∧ (s.ch c).hold = false ∧ s.rdB Reg.MpptCfg.EN (cI c) = true ∧ mpptFrozen c s = false ∧ mpptState c s = mpTrack ∧ s.rd Reg.MpptCfg.SWEEP_MIN (cI c) ≠ 0 :=
  ⟨0, ((wr1 Reg.MpptCfg.EN 1).wr Reg.MpptStat.STATE 0 0 mpTrack).wr Reg.MpptCfg.SWEEP_MIN 0 0 1, by decide +kernel⟩
theorem test_GridAndMppt_8 : ∃ (c : Ch) (s : State), crownUp s = true ∧ (s.ch c).hold = false ∧ mpptHoldCheck c s = s ∧ mpptState c s = mpSweep ∧ (s.mppt c).sweepStep + 1 < s.rd Reg.MpptCfg.SWEEP_N (cI c) :=
  ⟨0, ((wr1 Reg.MpptCfg.EN 1).wr Reg.MpptStat.STATE 0 0 mpSweep).wr Reg.MpptCfg.SWEEP_N 0 0 4, by decide +kernel⟩
theorem test_GridAndMppt_9 : ∃ (c : Ch) (s : State), crownUp s = true ∧ (s.ch c).hold = false ∧ mpptHoldCheck c s = s ∧ mpptState c s = mpSweep ∧ s.rd Reg.MpptCfg.SWEEP_N (cI c) ≤ (s.mppt c).sweepStep + 1 :=
  ⟨0, ((wr1 Reg.MpptCfg.EN 1).wr Reg.MpptStat.STATE 0 0 mpSweep).wr Reg.MpptCfg.SWEEP_N 0 0 1, by decide +kernel⟩

/-! ### Obligations.MeterSamplesAndMarks -/

theorem test_MeterSamplesAndMarks_1 : ∃ (s : State), sampleInstant s = true :=
  ⟨r0, by decide +kernel⟩
theorem test_MeterSamplesAndMarks_2 : ∃ (c : Ch) (s : State), mfState c s ≠ 1 ∧ (s.mf c).closing = false :=
  ⟨0, r0, by decide +kernel⟩
theorem test_MeterSamplesAndMarks_4 : ∃ (acc : List Nat), acc.length = 28 :=
  ⟨List.replicate 28 0, by decide +kernel⟩
theorem test_MeterSamplesAndMarks_5 : ∃ (c : Ch) (s : State), mfState c s = 1 ∧ 160 ≤ (s.mf c).markCnt :=
  ⟨0, (wr1 Reg.MeterStat.STATE 1).setMf 0 fun x => { x with markCnt := 160 }, by decide +kernel⟩
theorem test_MeterSamplesAndMarks_7 : ∃ (c : Ch) (s : State), mfState c s = 1 ∧ mfDc c s = false ∧ s.rdB Reg.Cycle.NO_ZC (cI c) = false ∧ 500 ≤ (s.mf c).zcCnt :=
  ⟨0, (wr1 Reg.MeterStat.STATE 1).setMf 0 fun x => { x with zcCnt := 500 }, by decide +kernel⟩

/-! ### Obligations.MeterRecordsAndAggregates -/

theorem test_MeterRecordsAndAggregates_1 : ∃ (c : Ch) (r : MRec) (rest : List MRec) (s : State), (s.mf c).recQ = r :: rest :=
  ⟨0, aRec .mark, [], r0.setMf 0 fun x => { x with recQ := [aRec .mark] }, by decide +kernel⟩
theorem test_MeterRecordsAndAggregates_2 : ∃ (c : Ch) (r : MRec) (rest : List MRec) (s : State), (s.mf c).recQ = r :: rest ∧ r.seq < 2 ^ 32 :=
  ⟨0, aRec .mark, [], r0.setMf 0 fun x => { x with recQ := [aRec .mark] }, by decide +kernel⟩
theorem test_MeterRecordsAndAggregates_3 : ∃ (s : State), s.rd Reg.Rtc.RTC % (600 * 32768) = 0 ∧ (∀ c, (s.mf c).agg10At ≠ some (s.rd Reg.Rtc.RTC)) :=
  ⟨r0, by decide +kernel⟩
theorem test_MeterRecordsAndAggregates_4 : ∃ (s : State), s.rd Reg.Rtc.RTC % (10 * 32768) = 0 ∧ (∀ c, (s.mf c).f10At ≠ some (s.rd Reg.Rtc.RTC)) :=
  ⟨r0, by decide +kernel⟩
theorem test_MeterRecordsAndAggregates_5 : ∃ (c : Ch) (w : Waiter) (i : SessInfo) (r : MRec) (rest : List (Waiter × SessInfo × MRec)) (s : State), (s.mf c).signing = (w, i, r) :: rest ∧ billsHeld s < 4096 ∧ s.rd Reg.Bill.NEXT_RECORD + 1 < 2 ^ 32 :=
  ⟨0, nobody, aSess, aRec .mark, [], r0.setMf 0 fun x => { x with signing := [(nobody, aSess, aRec .mark)] }, by decide +kernel⟩

/-! ### Obligations.CycleFifo -/

theorem test_CycleFifo_1 : ∃ (c : Ch) (s : State), (s.mf c).fifo.length < 80 :=
  ⟨0, r0, by decide +kernel⟩
theorem test_CycleFifo_2 : ∃ (c : Ch) (s : State), 80 ≤ (s.mf c).fifo.length ∧ s.rd Reg.MeterStat.FIFO_DROP_CNT (cI c) < 2 ^ Reg.MeterStat.FIFO_DROP_CNT.w :=
  ⟨0, r0.setMf 0 fun x => { x with fifo := List.replicate 80 ⟨0, 0, false, []⟩ }, by decide +kernel⟩

/-! ### Obligations.SafetyInputsAndTestPulses -/

theorem test_SafetyInputsAndTestPulses_2 : ∃ (s : State), s.safe.on = true :=
  ⟨r0, by decide +kernel⟩
theorem test_SafetyInputsAndTestPulses_3 : ∃ (i : Fin 16) (s : State), s.safe.on = true ∧ sinAtDemand i s = true ∧ ownWindow i s = false :=
  ⟨0, r0, by decide +kernel⟩
theorem test_SafetyInputsAndTestPulses_4 : ∃ (i : Fin 16) (s : State), ownWindow i s = true :=
  ⟨0, { wr1 Reg.SafeIn.TP_SRC 0 with safe := { r0.safe with winOpen := 1 } }, by decide +kernel⟩
theorem test_SafetyInputsAndTestPulses_5 : ∃ (i : Fin 16) (s : State), s.safe.on = true ∧ sinAtDemand i s = false :=
  ⟨0, (wr1 Reg.Safe.SIN_UNRES 0).setSin 0 fun x => { x with high := true }, by decide +kernel⟩
theorem test_SafetyInputsAndTestPulses_6 : ∃ (s : State), s.safe.on = true :=
  ⟨r0, by decide +kernel⟩
theorem test_SafetyInputsAndTestPulses_7 : ∃ (s : State), s.safe.on = true :=
  ⟨r0, by decide +kernel⟩
theorem test_SafetyInputsAndTestPulses_8 : ∃ (s : State), s.safe.on = true :=
  ⟨r0, by decide +kernel⟩
theorem test_SafetyInputsAndTestPulses_9 : ∃ (i : Fin 16) (s : State), s.safe.on = true ∧ (s.sin i).startSeen = true :=
  ⟨0, r0.setSin 0 fun x => { x with startSeen := true }, by decide +kernel⟩

/-! ### Obligations.LockOutCauses -/

theorem test_LockOutCauses_1 : ∃ (s : State), s.safe.on = true :=
  ⟨r0, by decide +kernel⟩
theorem test_LockOutCauses_2 : ∃ (p : Fin 8) (s : State), let a : Fin 16 := ⟨2 * p.val, by omega⟩; let b : Fin 16 := ⟨2 * p.val + 1, by omega⟩; s.safe.on = true ∧ 2 ≤ sinType a s ∧ (sinPermits a s ≠ sinPermits b s ∨ sinUnres a s = true ∨ sinUnres b s = true) :=
  ⟨0, (wr1 Reg.SafeIn.TYPE 2).wr Reg.Safe.SIN_STATE 0 0 1, by decide +kernel⟩
theorem test_LockOutCauses_3 : ∃ (s : State), s.safe.on = true :=
  ⟨r0, by decide +kernel⟩
theorem test_LockOutCauses_4 : ∃ (s : State), s.safe.on = true :=
  ⟨r0, by decide +kernel⟩
theorem test_LockOutCauses_5 : ∃ (s : State), s.safe.on = true :=
  ⟨r0, by decide +kernel⟩
theorem test_LockOutCauses_6 : ∃ (s : State), s.safe.on = true :=
  ⟨r0, by decide +kernel⟩
theorem test_LockOutCauses_7 : ∃ (s : State), s.safe.on = true :=
  ⟨r0, by decide +kernel⟩
theorem test_LockOutCauses_8 : ∃ (k : Fin 16) (s : State), s.safe.on = true ∧ connState k s = 2 :=
  ⟨0, wr1 Reg.Safe.CONN_STATE 2, by decide +kernel⟩
theorem test_LockOutCauses_9 : ∃ (s : State), s.safe.on = true :=
  ⟨r0, by decide +kernel⟩

/-! ### Obligations.LockOutLocks -/

theorem test_LockOutLocks_1 : ∃ (cause : Nat) (detail : Nat) (s : State), s.safe.on = true ∧ cause < 256 ∧ detail < 256 :=
  ⟨0, 0, r0, by decide +kernel⟩

/-! ### Obligations.AcknowledgeAndChecks -/

theorem test_AcknowledgeAndChecks_1 : ∃ (s : State), s.safe.on = true :=
  ⟨r0, by decide +kernel⟩
theorem test_AcknowledgeAndChecks_2 : ∃ (held : Nat) (low : Nat) (s : State), s.safe.on = true ∧ 50000 ≤ held ∧ held ≤ 3000000 ∧ 50000 ≤ low :=
  ⟨60000, 60000, r0, by decide +kernel⟩
theorem test_AcknowledgeAndChecks_3 : ∃ (held : Nat) (low : Nat) (c : Ch) (s : State), 50000 ≤ held ∧ held ≤ 3000000 ∧ 50000 ≤ low ∧ safeState c s = sfHoldE ∧ demandOn c s = false :=
  ⟨60000, 60000, 0, wr1 Reg.Safe.STATE sfHoldE, by decide +kernel⟩
theorem test_AcknowledgeAndChecks_4 : ∃ (held : Nat) (low : Nat) (c : Ch) (s : State), (held < 50000 ∨ 3000000 < held ∨ low < 50000) ∧ s.rd Reg.Safe.E_PEND 0 c.val = 1 :=
  ⟨0, 0, 0, wr1 Reg.Safe.E_PEND 1, by decide +kernel⟩
theorem test_AcknowledgeAndChecks_5 : ∃ (s : State), s.safe.on = true :=
  ⟨r0, by decide +kernel⟩
theorem test_AcknowledgeAndChecks_6 : ∃ (c : Ch) (s : State), s.safe.on = true ∧ safeState c s = sfCheck ∧ sinCheckWaits c s = false ∧ sinCheckFails c s = none ∧ (s.sc c).guardCrc = s.rd Reg.Safe.CFG_CRC ∧ (s.rd Reg.SafeIn.EXPECT_CRC = 0 ∨ s.rd Reg.SafeIn.EXPECT_CRC = s.rd Reg.Safe.CFG_CRC) :=
  ⟨0, wr1 Reg.Safe.STATE sfCheck, by decide +kernel⟩
theorem test_AcknowledgeAndChecks_7 : ∃ (c : Ch) (s : State), s.safe.on = true ∧ safeState c s = sfCheck ∧ sinCheckWaits c s = false ∧ (s.sc c).guardCrc = s.rd Reg.Safe.CFG_CRC ∧ (s.rd Reg.SafeIn.EXPECT_CRC = 0 ∨ s.rd Reg.SafeIn.EXPECT_CRC = s.rd Reg.Safe.CFG_CRC) :=
  ⟨0, wr1 Reg.Safe.STATE sfCheck, by decide +kernel⟩
theorem test_AcknowledgeAndChecks_8 : ∃ (c : Ch) (i : Fin 16) (k : Nat) (s : State), s.safe.on = true ∧ safeState c s = sfCheck ∧ sinCheckWaits c s = false ∧ sinCheckFails c s = some (i, k) ∧ (s.sc c).guardCrc = s.rd Reg.Safe.CFG_CRC ∧ (s.rd Reg.SafeIn.EXPECT_CRC = 0 ∨ s.rd Reg.SafeIn.EXPECT_CRC = s.rd Reg.Safe.CFG_CRC) :=
  ⟨0, 0, 7, ((((wr1 Reg.Safe.STATE sfCheck).wr Reg.SafeIn.TYPE 0 0 1).wr Reg.SafeIn.CH_MASK 0 0 1).wr Reg.SafeIn.TP_SRC 0 0 0).setSin 0 fun x => { x with high := true, frame := some (true, false) }, by decide +kernel⟩
theorem test_AcknowledgeAndChecks_9 : ∃ (c : Ch) (s : State), s.safe.on = true ∧ safeState c s = sfCheck ∧ sinCheckWaits c s = false ∧ (s.sc c).guardCrc ≠ s.rd Reg.Safe.CFG_CRC :=
  ⟨0, (wr1 Reg.Safe.STATE sfCheck).setSc 0 fun x => { x with guardCrc := 0 }, by decide +kernel⟩
theorem test_AcknowledgeAndChecks_10 : ∃ (c : Ch) (s : State), s.safe.on = true ∧ safeState c s = sfPermit ∧ s.rd Reg.PgStat.STATE (cI c) = 0 ∧ 720 ≤ s.rd Reg.Safe.TEST_AGE_H 0 c.val :=
  ⟨0, (wr1 Reg.Safe.STATE sfPermit).wr Reg.Safe.TEST_AGE_H 0 0 720, by decide +kernel⟩
theorem test_AcknowledgeAndChecks_11 : ∃ (c : Ch) (s : State), s.safe.on = true ∧ s.rd Reg.Safe.TEST_AGE_H 0 c.val + 1 < 2 ^ Reg.Safe.TEST_AGE_H.w :=
  ⟨0, r0, by decide +kernel⟩
theorem test_AcknowledgeAndChecks_12 : ∃ (s : State), s.safe.on = true :=
  ⟨r0, by decide +kernel⟩
theorem test_AcknowledgeAndChecks_13 : ∃ (c : Ch) (s : State), crownUp s = true ∧ (s.sc c).stopDue = true ∧ isStandby s = false :=
  ⟨0, r0.setSc 0 fun x => { x with stopDue := true }, by decide +kernel⟩

/-! ### Obligations.FeideFrames -/

theorem test_FeideFrames_1 : ∃ (s : State), crownUp s = true :=
  ⟨r0, by decide +kernel⟩
theorem test_FeideFrames_2 : ∃ (s : State), crownUp s = true :=
  ⟨r0, by decide +kernel⟩
theorem test_FeideFrames_3 : ∃ (s : State), crownUp s = true :=
  ⟨r0, by decide +kernel⟩
theorem test_FeideFrames_4 : ∃ (ident : BitVec 29) (ide : Bool) (bs : List Byte) (k : Fin 16) (s : State), crownUp s = true ∧ s.safe.on = true ∧ feideConn .host ident ide bs s = some k ∧ feideValid k bs s = true ∧ connState k s = 2 ∧ leAt bs 2 2 = ((s.conn k).seq + 1) % 65536 :=
  ⟨0, false, safeFrame 1 1, 0, conn0 2, by decide +kernel⟩
theorem test_FeideFrames_5 : ∃ (t : Transport) (ident : BitVec 29) (ide : Bool) (bs : List Byte) (k : Fin 16) (s : State), s.safe.on = true ∧ feideConn t ident ide bs s = some k ∧ feideValid k bs s = true ∧ ((connState k s = 2 ∧ leAt bs 2 2 = ((s.conn k).seq + 1) % 65536) ∨ connState k s = 1) :=
  ⟨.host, 0, false, safeFrame 1 1, 0, conn0 2, by decide +kernel⟩
theorem test_FeideFrames_6 : ∃ (t : Transport) (ident : BitVec 29) (ide : Bool) (bs : List Byte) (k : Fin 16) (s : State), s.safe.on = true ∧ feideConn t ident ide bs s = some k ∧ feideValid k bs s = true ∧ connState k s = 2 ∧ leAt bs 2 2 = (s.conn k).seq :=
  ⟨.host, 0, false, safeFrame 0 1, 0, conn0 2, by decide +kernel⟩
theorem test_FeideFrames_7 : ∃ (t : Transport) (ident : BitVec 29) (ide : Bool) (bs : List Byte) (k : Fin 16) (s : State), s.safe.on = true ∧ feideConn t ident ide bs s = some k ∧ feideValid k bs s = false ∧ connState k s = 2 :=
  ⟨.host, 0, false, [1, 1, 0, 0, 7, 0, 0, 0], 0, conn0 2, by decide +kernel⟩
theorem test_FeideFrames_8 : ∃ (k : Fin 16) (s : State), s.safe.on = true ∧ s.rd Reg.Feide.DIR 0 k.val = 2 :=
  ⟨0, wr1 Reg.Feide.DIR 2, by decide +kernel⟩

/-! ### Obligations.FramesServedOrRefused -/

theorem test_FramesServedOrRefused_1 : ∃ (t : Transport) (f : HostFrame) (g : HostFrame) (s : State) (u : State), Brings t f s g u :=
  ⟨.host, frame opPoll 0 0 [], frame opPoll 0 0 [], r0, replySent r0, by unfold Brings; decide +kernel⟩
theorem test_FramesServedOrRefused_3 : ∃ (s : State), canServe s = true ∧ ((s.crown.held.any fun h => h.t == .host) = false) :=
  ⟨r0, by decide +kernel⟩
theorem test_FramesServedOrRefused_4 : ∃ (f : HostFrame), f.cut = false :=
  ⟨frame opPoll 0 0 [], by decide +kernel⟩
theorem test_FramesServedOrRefused_6 : ∃ (r : Reply) (m : Mbx) (ep : Nat) (sq : Nat) (s : State), s.crown.reply = some r ∧ r.delivers = some (m, ep, sq) :=
  ⟨⟨[], some (0, 0, 0)⟩, 0, 0, 0, { r0 with crown := { r0.crown with reply := some ⟨[], some (0, 0, 0)⟩ } }, by decide +kernel⟩
theorem test_FramesServedOrRefused_7 : ∃ (s : State), s.crown.reply.bind Reply.delivers = none :=
  ⟨r0, by decide +kernel⟩

/-! ### Obligations.SubmitsAndPolls -/

theorem test_SubmitsAndPolls_1 : ∃ (f : HostFrame) (s : State), let u := replySent s; HostReady opSubmit f s ∧ seqDiff f u = 0 ∧ (u.mb (hfMbx f)).queued < 8 ∧ standbyBooks u = false :=
  ⟨frame opSubmit 0 0x1030 [], r0, by unfold HostReady; decide +kernel⟩
theorem test_SubmitsAndPolls_2 : ∃ (f : HostFrame) (s : State), let u := replySent s; HostReady opPoll f s ∧ f.seq = 0 ∧ (u.mb (hfMbx f)).pendingResp = 0 :=
  ⟨frame opPoll 0 0 [], r0, by unfold HostReady; decide +kernel⟩
theorem test_SubmitsAndPolls_3 : ∃ (f : HostFrame) (k : Cmd) (s : State), let u := replySent s; HostReady opPoll f s ∧ f.seq = 0 ∧ (((u.mb (hfMbx f)).cmds.find? fun c => !c.live) = some k) ∧ booksFlow u = false :=
  ⟨frame opPoll 0 0 [], doneCmd, queued0 [doneCmd], by unfold HostReady; decide +kernel⟩
theorem test_SubmitsAndPolls_4 : ∃ (f : HostFrame) (k : Cmd) (s : State), let u := replySent s; HostReady opAbort f s ∧ seqDiff f u < 0 ∧ (((u.mb (hfMbx f)).cmds.find? fun c => c.epoch == u.epoch && c.seq == f.seq.toNat) = some k) ∧ k.live = true ∧ k.st = .accepted :=
  ⟨frame opAbort 0 0 [], aCmd 0 0x1030 false, (queued0 [aCmd 0 0x1030 false]).wr Reg.HostStat.NEXT 0 0 1, by unfold HostReady; decide +kernel⟩
theorem test_SubmitsAndPolls_5 : ∃ (f : HostFrame) (s : State), HostReady opHello f s :=
  ⟨frame opHello 0 0 (List.replicate 12 0), r0, by unfold HostReady; decide +kernel⟩
theorem test_SubmitsAndPolls_6 : ∃ (f : HostFrame) (s : State), HostReady opCredit f s :=
  ⟨frame opCredit 0 0 [], r0, by unfold HostReady; decide +kernel⟩
theorem test_SubmitsAndPolls_7 : ∃ (f : HostFrame) (s : State), seqDiff f s = 0 ∧ (s.mb (hfMbx f)).queued < 8 ∧ standbyBooks s = false :=
  ⟨frame opSubmit 0 0x1030 [], r0, by decide +kernel⟩
theorem test_SubmitsAndPolls_8 : ∃ (f : HostFrame) (s : State), seqDiff f s = 0 ∧ 8 ≤ (s.mb (hfMbx f)).queued :=
  ⟨frame opSubmit 0 0x1030 [], queued0 (List.replicate 8 (aCmd 0 0x1030 false)), by decide +kernel⟩
theorem test_SubmitsAndPolls_9 : ∃ (f : HostFrame) (s : State), 0 < seqDiff f s :=
  ⟨frame opSubmit 5 0x1030 [], r0, by decide +kernel⟩
theorem test_SubmitsAndPolls_10 : ∃ (f : HostFrame) (s : State), seqDiff f s < 0 ∧ booksFlow s = false :=
  ⟨frame opSubmit 0 0x1030 [], wr1 Reg.HostStat.NEXT 3, by decide +kernel⟩
theorem test_SubmitsAndPolls_11 : ∃ (f : HostFrame) (s : State), f.seq = 0 ∧ (s.mb (hfMbx f)).pendingResp = 0 :=
  ⟨frame opPoll 0 0 [], r0, by decide +kernel⟩

/-! ### Obligations.ExecutionStarts -/

theorem test_ExecutionStarts_1 : ∃ (m : Mbx) (k : Cmd) (s : State), crownUp s = true ∧ crownBusy s = false ∧ actsFor m s = true ∧ turnOf m s = some k ∧ othersFirst m k s = false ∧ k.broken = false ∧ standbyBooks (jMark 3 m k.epoch k.seq s) = false ∧ (k.code < 0x8000 ∨ knownCodes.contains k.code = true) :=
  ⟨0, aCmd 0 0x1030 false, queued0 [aCmd 0 0x1030 false], by decide +kernel⟩
theorem test_ExecutionStarts_2 : ∃ (m : Mbx) (k : Cmd) (s : State), crownUp s = true ∧ crownBusy s = false ∧ actsFor m s = true ∧ turnOf m s = some k ∧ othersFirst m k s = false ∧ k.broken = true :=
  ⟨0, aCmd 0 0x1030 true, queued0 [aCmd 0 0x1030 true], by decide +kernel⟩
theorem test_ExecutionStarts_3 : ∃ (m : Mbx) (k : Cmd) (s : State), crownUp s = true ∧ crownBusy s = false ∧ actsFor m s = true ∧ turnOf m s = some k ∧ othersFirst m k s = false ∧ k.broken = false ∧ standbyBooks (jMark 3 m k.epoch k.seq s) = false ∧ 0x8000 ≤ k.code ∧ knownCodes.contains k.code = false :=
  ⟨0, aCmd 0 0xFFFF false, queued0 [aCmd 0 0xFFFF false], by decide +kernel⟩
theorem test_ExecutionStarts_4 : ∃ (m : Mbx) (l : Lock) (s : State), crownUp s = true ∧ actsFor m s = true ∧ (s.mb m).lock = some l ∧ l.lease ≤ s.time :=
  ⟨0, ⟨0, [0x10], [], 0⟩, locked 0 0x10 0, by decide +kernel⟩
theorem test_ExecutionStarts_6 : ∃ (m : Mbx) (l : Lock) (s : State), (s.mb m).lock = some l :=
  ⟨0, ⟨0, [0x10], [], 0⟩, locked 0 0x10 0, by decide +kernel⟩

/-! ### Obligations.DirectWindow -/

theorem test_DirectWindow_1 : ∃ (s : State), portOn s = true :=
  ⟨r0, by decide +kernel⟩
theorem test_DirectWindow_2 : ∃ (a : Byte), 0x0F < a.toNat :=
  ⟨0x10, by decide +kernel⟩
theorem test_DirectWindow_4 : ∃ (d : W32) (k : W32) (s : State), portOn s = true ∧ k.toNat = crc32c (0x0F :: leBytes 4 d.toNat) ∧ bit d.toNat 0 = true :=
  ⟨1, BitVec.ofNat 32 (crc32c (0x0F :: leBytes 4 1)), r0, by decide +kernel⟩
theorem test_DirectWindow_5 : ∃ (a : Byte) (d : W32) (k : W32), (a ≠ 0x0F ∨ k.toNat ≠ crc32c (a :: leBytes 4 d.toNat)) :=
  ⟨0x0E, 0, 0, by decide +kernel⟩

/-! ### Obligations.RequestChecks -/

theorem test_RequestChecks_1 : ∃ (i : Instr) (m : Mbx) (r : Req) (p : List Byte) (d : Done) (s : State), reqOf i = some (m, r, p) ∧ crownUp s = true ∧ rowMay m r.code p s = true ∧ r.check m p s = some d :=
  ⟨.chStart 0 [], 0, chReq codeStart [3] false 0x10 1 [] [], [], .fail stBadLength 4, r0, by decide +kernel⟩
theorem test_RequestChecks_2 : ∃ (m : Mbx) (p : List Byte) (d : Done) (s : State), crownUp s = true ∧ rowMay m codeLcRequest p s = true ∧ (lcReq p).check m p s = some d :=
  ⟨0, [], .fail stBadLength 4, r0, by unfold lcReq; decide +kernel⟩
theorem test_RequestChecks_3 : ∃ (r : Req) (p : List Byte) (n : Nat), r.len.bad p.length = some n :=
  ⟨⟨codeStart, .exactly 4, [3], false, none, none⟩, [], 4, by decide +kernel⟩
theorem test_RequestChecks_4 : ∃ (r : Req) (p : List Byte) (s : State), r.len.bad p.length = none ∧ r.denied.contains (s.rd Reg.Life.LIFECYCLE) = true :=
  ⟨⟨codeStart, .exactly 4, [1], false, none, none⟩, [0, 0, 0, 0], r0, by decide +kernel⟩
theorem test_RequestChecks_5 : ∃ (r : Req) (m : Mbx) (p : List Byte) (g : Nat) (s : State), r.len.bad p.length = none ∧ r.denied.contains (s.rd Reg.Life.LIFECYCLE) = false ∧ scopeOk m r.loc s = true ∧ r.group = some g ∧ lockedByOther m g s = true :=
  ⟨⟨codeStart, .exactly 4, [3], false, some 0x10, none⟩, 0, [0, 0, 0, 0], 0x10, locked 1 0x10 0, by decide +kernel⟩
theorem test_RequestChecks_6 : ∃ (r : Req) (m : Mbx) (p : List Byte) (off : Nat) (s : State), r.len.bad p.length = none ∧ r.denied.contains (s.rd Reg.Life.LIFECYCLE) = false ∧ scopeOk m r.loc s = true ∧ (∀ g, r.group = some g → lockedByOther m g s = false) ∧ r.bad = some off :=
  ⟨⟨codeStart, .exactly 4, [3], false, none, some 1⟩, 0, [0, 0, 0, 0], 1, r0, by decide +kernel, by decide +kernel, by decide +kernel, fun g h => (by cases h), rfl⟩

/-! ### Obligations.LockCommands -/

theorem test_LockCommands_1 : ∃ (m : Mbx) (p : List Byte) (s : State), Takes (.lock m p) s :=
  ⟨0, [1, 0, 0x10], r0, by unfold Takes; decide +kernel⟩
theorem test_LockCommands_2 : ∃ (m : Mbx) (p : List Byte) (g : Nat) (s : State), (lockEff m p s).1.status = stDone ∧ g ∈ (p.drop 2).map BitVec.toNat :=
  ⟨0, [1, 0, 0x10], 0x10, r0, by decide +kernel⟩
theorem test_LockCommands_3 : ∃ (m : Mbx) (p : List Byte) (g : Nat) (s : State), 1 ≤ pb p 0 ∧ pb p 0 ≤ 16 ∧ p.length = 2 + pb p 0 ∧ pb p 1 = 0 ∧ (((p.drop 2).map BitVec.toNat).find? (fun g => lockedByOther m g s) = some g) :=
  ⟨0, [1, 0, 0x10], 0x10, locked 1 0x10 0, by decide +kernel⟩
theorem test_LockCommands_4 : ∃ (m : Mbx) (p : List Byte) (s : State), Takes (.lock m p) s ∧ (s.mb m).lock = none ∧ 1 ≤ pb p 0 ∧ pb p 0 ≤ 16 ∧ p.length = 2 + pb p 0 ∧ pb p 1 = 0 ∧ (∀ g ∈ (p.drop 2).map BitVec.toNat, lockedByOther m g s = false) :=
  ⟨0, [1, 0, 0x10], r0, by unfold Takes; decide +kernel⟩
theorem test_LockCommands_5 : ∃ (m : Mbx) (p : List Byte) (s : State), Takes (.unlock m p) s :=
  ⟨0, [0, 0, 0, 0], r0, by unfold Takes; decide +kernel⟩
theorem test_LockCommands_6 : ∃ (m : Mbx) (p : List Byte) (l : Lock) (s : State), Takes (.unlock m p) s ∧ (s.mb m).lock = some l ∧ pb p 0 = 0 :=
  ⟨0, [0, 0, 0, 0], ⟨0, [0x10], [⟨0, 1, [0], 0, 0⟩], 0⟩, locked 0 0x10 1, by unfold Takes; decide +kernel⟩
theorem test_LockCommands_7 : ∃ (m : Mbx) (p : List Byte) (l : Lock) (s : State), Takes (.unlock m p) s ∧ (s.mb m).lock = some l ∧ pb p 0 = 1 ∧ stagedRefused (waiterOf m codeUnlock s) s [] l.staged = none :=
  ⟨0, [1, 0, 0, 0], ⟨0, [0x10], [], 0⟩, locked 0 0x10 0, by unfold Takes; decide +kernel⟩
theorem test_LockCommands_8 : ∃ (m : Mbx) (s : State), (s.mb m).lock = none :=
  ⟨0, r0, by decide +kernel⟩
theorem test_LockCommands_10 : ∃ (m : Mbx) (w : Waiter) (p : List Byte) (l : Lock) (st : Nat) (k : Nat) (s : State), (s.mb m).lock = some l ∧ pb p 0 ≠ 0 ∧ stagedRefused w s [] l.staged = some (st, k) :=
  ⟨0, nobody, [1, 0, 0, 0], ⟨0, [0x10], [⟨0, 1, [0], 0, 0⟩], 0⟩, stUnknownObject, 0, locked 0 0x10 1, by decide +kernel⟩

/-! ### Obligations.StoreAndBankCommands -/

theorem test_StoreAndBankCommands_1 : ∃ (m : Mbx) (p : List Byte) (s : State), Takes (.storeWrite m p) s :=
  ⟨0, List.replicate 9 0, r0, by unfold Takes; decide +kernel⟩
theorem test_StoreAndBankCommands_2 : ∃ (m : Mbx) (p : List Byte) (s : State), Takes (.storeRead m p) s :=
  ⟨0, [0, 0, 0, 0, 0, 0, 0, 0, 4, 0, 0, 0], r0, by unfold Takes; decide +kernel⟩
theorem test_StoreAndBankCommands_3 : ∃ (p : List Byte) (s : State), leAt p 4 4 + leAt p 8 2 ≤ bankSize ∧ spanLost (storeBlock0 + 4096 * pb p 0) (leAt p 4 4) (leAt p 8 2) s = false :=
  ⟨[], r0, by decide +kernel⟩
theorem test_StoreAndBankCommands_4 : ∃ (m : Mbx) (p : List Byte) (s : State), Takes (.storeRead m p) s ∧ leAt p 4 4 + leAt p 8 2 ≤ bankSize ∧ spanLost (storeBlock0 + 4096 * pb p 0) (leAt p 4 4) (leAt p 8 2) s = false :=
  ⟨0, [0, 0, 0, 0, 0, 0, 0, 0, 4, 0, 0, 0], r0, by unfold Takes; decide +kernel⟩
theorem test_StoreAndBankCommands_5 : ∃ (m : Mbx) (p : List Byte) (s : State), Takes (.storeWrite m p) s ∧ leAt p 4 4 + (p.drop 8).length ≤ bankSize ∧ slotActive (pb p 0) s = false ∧ spanDead (storeBlock0 + 4096 * pb p 0) (leAt p 4 4) (p.drop 8).length s = false :=
  ⟨0, List.replicate 9 0, r0, by unfold Takes; decide +kernel⟩
theorem test_StoreAndBankCommands_6 : ∃ (m : Mbx) (p : List Byte) (s : State), Takes (.bankLoad m p) s :=
  ⟨0, [0, 0, 0, 0], r0, by unfold Takes; decide +kernel⟩
theorem test_StoreAndBankCommands_7 : ∃ (m : Mbx) (p : List Byte) (s : State), Takes (.bankLoad m p) s ∧ bankBusy (chOf p) (pb p 1 == 1) s = false ∧ (s.batt (chOf p)).load = none ∧ (s.batt (chOf p)).queue = [] :=
  ⟨0, [0, 0, 0, 0], r0, by unfold Takes; decide +kernel⟩
theorem test_StoreAndBankCommands_8 : ∃ (m : Mbx) (p : List Byte) (s : State), Takes (.bankLoad m p) s ∧ bankBusy (chOf p) (pb p 1 == 1) s = false ∧ (s.batt (chOf p)).load.isSome = true :=
  ⟨0, [0, 0, 0, 0], r0.setBatt 0 fun x => { x with load := some ⟨nobody, true, 0, 0, []⟩ }, by unfold Takes; decide +kernel⟩
theorem test_StoreAndBankCommands_9 : ∃ (c : Ch) (b : Bool) (s : State), bankBusy c b s = true :=
  ⟨0, false, wr1 Reg.Batt.STATE_A bkActive, by decide +kernel⟩
theorem test_StoreAndBankCommands_10 : ∃ (m : Mbx) (p : List Byte) (s : State), Takes (.bankSwap m p) s :=
  ⟨0, [0, 0, 0, 0], r0, by unfold Takes; decide +kernel⟩
theorem test_StoreAndBankCommands_11 : ∃ (m : Mbx) (p : List Byte) (s : State), let c := chOf p; let b := pb p 1 == 1; Takes (.bankSwap m p) s ∧ (s.batt c).swap = none ∧ bankState c b s = bkValid ∧ atStopped c s = true :=
  ⟨0, [0, 0, 0, 0], wr1 Reg.Batt.STATE_A bkValid, by unfold Takes; decide +kernel⟩
theorem test_StoreAndBankCommands_12 : ∃ (m : Mbx) (p : List Byte) (s : State), let c := chOf p; let b := pb p 1 == 1; Takes (.bankSwap m p) s ∧ (s.batt c).swap = none ∧ bankState c b s = bkValid ∧ atStopped c s = false :=
  ⟨0, [0, 0, 0, 0], (wr1 Reg.Batt.STATE_A bkValid).wr Reg.AtStat.STATE 0 0 1, by unfold Takes; decide +kernel⟩
theorem test_StoreAndBankCommands_13 : ∃ (c : Ch) (b : Bool) (s : State), (s.batt c).swap = none ∧ bankLoading c b s = false :=
  ⟨0, false, r0, by decide +kernel⟩
theorem test_StoreAndBankCommands_14 : ∃ (m : Mbx) (p : List Byte) (s : State), Takes (.swapCancel m p) s :=
  ⟨0, [0, 0, 0, 0], r0, by unfold Takes; decide +kernel⟩
theorem test_StoreAndBankCommands_15 : ∃ (c : Ch) (s : State), (s.batt c).swap = none ∧ (s.batt c).swapUnreported = false :=
  ⟨0, r0, by decide +kernel⟩
theorem test_StoreAndBankCommands_16 : ∃ (m : Mbx) (p : List Byte) (s : State), Takes (.swapCancel m p) s ∧ (s.batt (chOf p)).swap = none ∧ (s.batt (chOf p)).swapUnreported = false :=
  ⟨0, [0, 0, 0, 0], r0, by unfold Takes; decide +kernel⟩
theorem test_StoreAndBankCommands_17 : ∃ (m : Mbx) (p : List Byte) (s : State), Takes (.swapCancel m p) s ∧ (s.batt (chOf p)).swap.isSome = true :=
  ⟨0, [0, 0, 0, 0], r0.setBatt 0 fun x => { x with swap := some ⟨nobody, true⟩ }, by unfold Takes; decide +kernel⟩
theorem test_StoreAndBankCommands_18 : ∃ (m : Mbx) (p : List Byte) (s : State), Takes (.swapCancel m p) s ∧ (s.batt (chOf p)).swap = none ∧ (s.batt (chOf p)).swapUnreported = true :=
  ⟨0, [0, 0, 0, 0], r0.setBatt 0 fun x => { x with swapUnreported := true }, by unfold Takes; decide +kernel⟩
theorem test_StoreAndBankCommands_19 : ∃ (m : Mbx) (p : List Byte) (s : State), Takes (.bankErase m p) s ∧ bankLoading (chOf p) (pb p 1 == 1) s = false :=
  ⟨0, [0, 0, 0, 0], r0, by unfold Takes; decide +kernel⟩
theorem test_StoreAndBankCommands_20 : ∃ (m : Mbx) (p : List Byte) (s : State), Takes (.bankErase m p) s ∧ bankLoading (chOf p) (pb p 1 == 1) s = false ∧ bankBusy (chOf p) (pb p 1 == 1) s = false :=
  ⟨0, [0, 0, 0, 0], r0, by unfold Takes; decide +kernel⟩
theorem test_StoreAndBankCommands_21 : ∃ (m : Mbx) (p : List Byte) (s : State), Takes (.bankErase m p) s ∧ bankLoading (chOf p) (pb p 1 == 1) s = true :=
  ⟨0, [0, 0, 0, 0], wr1 Reg.Batt.STATE_A bkLoading, by unfold Takes; decide +kernel⟩
theorem test_StoreAndBankCommands_22 : ∃ (p : List Byte) (s : State), leAt p 4 4 + (p.drop 8).length ≤ bankSize ∧ slotActive (pb p 0) s = false ∧ spanDead (storeBlock0 + 4096 * pb p 0) (leAt p 4 4) (p.drop 8).length s = true :=
  ⟨List.replicate 9 0, { r0 with mem := { r0.mem with lost := [storeBlock0] } }, by decide +kernel⟩
theorem test_StoreAndBankCommands_23 : ∃ (p : List Byte) (s : State), leAt p 4 4 + leAt p 8 2 ≤ bankSize ∧ spanLost (storeBlock0 + 4096 * pb p 0) (leAt p 4 4) (leAt p 8 2) s = true :=
  ⟨[0, 0, 0, 0, 0, 0, 0, 0, 4, 0, 0, 0], { r0 with mem := { r0.mem with lost := [storeBlock0] } }, by decide +kernel⟩

/-! ### Obligations.StoreWriteRefusesActiveSlot -/

theorem test_StoreWriteRefusesActiveSlot_1 : ∃ (p : List Byte) (c : Ch) (s : State), leAt p 4 4 + (p.drop 8).length ≤ bankSize ∧ s.rd Reg.Batt.ACTIVE_SLOT (cI c) = pb p 0 :=
  ⟨List.replicate 9 0, 0, wr1 Reg.Batt.ACTIVE_SLOT 0, by decide +kernel⟩
theorem test_StoreWriteRefusesActiveSlot_2 : ∃ (p : List Byte) (s : State), leAt p 4 4 + (p.drop 8).length ≤ bankSize ∧ (∀ c : Ch, s.rd Reg.Batt.ACTIVE_SLOT (cI c) ≠ pb p 0) ∧ spanDead (storeBlock0 + 4096 * pb p 0) (leAt p 4 4) (p.drop 8).length s = false ∧ SMap.wf 0 s.store = true :=
  ⟨List.replicate 9 0, r0, by decide +kernel⟩

/-! ### Obligations.RecordAndSessionCommands -/

theorem test_RecordAndSessionCommands_1 : ∃ (m : Mbx) (p : List Byte) (s : State), Takes (.sessionStart m p) s ∧ sessRefused (chOf p) s = 0 :=
  ⟨0, List.replicate 16 0, ((wr1 Reg.MeterCfg.BILL 1).wr Reg.MeterStat.STATE 0 0 mfRun).wr Reg.PowStat.LEVEL 0 0 1, by unfold Takes; decide +kernel⟩
theorem test_RecordAndSessionCommands_2 : ∃ (m : Mbx) (p : List Byte) (s : State), Takes (.sessionStart m p) s ∧ sessRefused (chOf p) s ≠ 0 :=
  ⟨0, List.replicate 16 0, r0, by unfold Takes; decide +kernel⟩
theorem test_RecordAndSessionCommands_3 : ∃ (m : Mbx) (p : List Byte) (i : SessInfo) (s : State), Takes (.sessionStop m p) s ∧ (s.mf (chOf p)).sess = .opened i :=
  ⟨0, [0, 0, 0, 0], aSess, r0.setMf 0 fun x => { x with sess := .opened aSess }, by unfold Takes; decide +kernel⟩
theorem test_RecordAndSessionCommands_4 : ∃ (m : Mbx) (p : List Byte) (s : State), Takes (.sessionStop m p) s ∧ (s.mf (chOf p)).sess = .none :=
  ⟨0, [0, 0, 0, 0], r0, by unfold Takes; decide +kernel⟩
theorem test_RecordAndSessionCommands_5 : ∃ (m : Mbx) (p : List Byte) (s : State), Takes (.billRead m p) s :=
  ⟨0, [0, 0, 0, 0], r0, by unfold Takes; decide +kernel⟩
theorem test_RecordAndSessionCommands_6 : ∃ (m : Mbx) (p : List Byte) (r : Nat × List Byte) (s : State), Takes (.billRead m p) s ∧ ((s.bills.find? fun r => r.1 == leAt p 0 4) = some r) :=
  ⟨0, [0, 0, 0, 0], (0, []), { r0 with bills := [(0, [])] }, by unfold Takes; decide +kernel⟩
theorem test_RecordAndSessionCommands_7 : ∃ (m : Mbx) (p : List Byte) (s : State), Takes (.billAck m p) s ∧ leAt p 0 4 < s.rd Reg.Bill.NEXT_RECORD ∧ s.rd Reg.Bill.OLDEST_UNACK ≤ leAt p 0 4 :=
  ⟨0, [0, 0, 0, 0], wr1 Reg.Bill.NEXT_RECORD 1, by unfold Takes; decide +kernel⟩
theorem test_RecordAndSessionCommands_8 : ∃ (m : Mbx) (p : List Byte) (s : State), Takes (.meterClear m p) s ∧ sessOpen (chOf p) s = false :=
  ⟨0, [0, 0, 0, 0], r0, by unfold Takes; decide +kernel⟩
theorem test_RecordAndSessionCommands_9 : ∃ (m : Mbx) (p : List Byte) (s : State), Takes (.meterClear m p) s ∧ sessOpen (chOf p) s = true :=
  ⟨0, [0, 0, 0, 0], r0.setMf 0 fun x => { x with sess := .opened aSess }, by unfold Takes; decide +kernel⟩
theorem test_RecordAndSessionCommands_10 : ∃ (m : Mbx) (p : List Byte) (s : State), Takes (.journalRead m p) s :=
  ⟨0, [0, 0, 0, 0, 1, 0, 0, 0], r0, by unfold Takes; decide +kernel⟩
theorem test_RecordAndSessionCommands_11 : ∃ (m : Mbx) (p : List Byte) (rs : List (List Byte)) (s : State), Takes (.journalRead m p) s ∧ recordsFrom (s.rd Reg.HostStat.OLDEST_JSEQ) (leAt p 0 4) (pb p 4) (s.crown.journal.map JRec.bytes) = some rs :=
  ⟨0, [0, 0, 0, 0, 1, 0, 0, 0], [lockRec.bytes], { r0 with crown := { r0.crown with journal := [lockRec] } }, by unfold Takes; decide +kernel⟩
theorem test_RecordAndSessionCommands_12 : ∃ (m : Mbx) (p : List Byte) (rs : List (List Byte)) (s : State), Takes (.changeRead m p) s ∧ recordsFrom (s.rd Reg.HostStat.OLDEST_CSEQ) (leAt p 0 4) (pb p 4) (s.crown.changes.map CRec.bytes) = some rs ∧ changeLost p s = false :=
  ⟨0, [0, 0, 0, 0, 1, 0, 0, 0], [aChange.bytes], { r0 with crown := { r0.crown with changes := [aChange] } }, by unfold Takes; decide +kernel⟩
theorem test_RecordAndSessionCommands_13 : ∃ (m : Mbx) (p : List Byte) (s : State), Takes (.changeRead m p) s :=
  ⟨0, [0, 0, 0, 0, 1, 0, 0, 0], r0, by unfold Takes; decide +kernel⟩

/-! ### Obligations.SafetyCommands -/

theorem test_SafetyCommands_1 : ∃ (m : Mbx) (p : List Byte) (s : State), Takes (.safetyAck m p) s :=
  ⟨0, [0, 0, 0, 0], r0, by unfold Takes; decide +kernel⟩
theorem test_SafetyCommands_2 : ∃ (k : Nat) (s : State), (∀ c : Ch, safeState c s = sfLocked → s.rd Reg.Safe.TOKEN 0 c.val ≠ k) :=
  ⟨5, r0, by decide +kernel⟩
theorem test_SafetyCommands_3 : ∃ (k : Nat) (c : Ch) (s : State), k ≠ 0 ∧ safeState c s = sfLocked ∧ s.rd Reg.Safe.TOKEN 0 c.val = k :=
  ⟨5, 0, (wr1 Reg.Safe.STATE sfLocked).wr Reg.Safe.TOKEN 0 0 5, by decide +kernel⟩
theorem test_SafetyCommands_4 : ∃ (m : Mbx) (p : List Byte) (c : Ch) (s : State), Takes (.safetyAck m p) s ∧ leAt p 0 4 ≠ 0 ∧ safeState c s = sfLocked ∧ s.rd Reg.Safe.TOKEN 0 c.val = leAt p 0 4 :=
  ⟨0, [5, 0, 0, 0], 0, (wr1 Reg.Safe.STATE sfLocked).wr Reg.Safe.TOKEN 0 0 5, by unfold Takes; decide +kernel⟩
theorem test_SafetyCommands_5 : ∃ (m : Mbx) (p : List Byte) (s : State), Takes (.feide m p) s :=
  ⟨0, safeFrame 0 0, r0, by unfold Takes; decide +kernel⟩
theorem test_SafetyCommands_6 : ∃ (m : Mbx) (p : List Byte) (s : State), Takes (.feide m p) s :=
  ⟨0, safeFrame 0 0, r0, by unfold Takes; decide +kernel⟩

/-! ### Obligations.RegisterRowsWrite -/

theorem test_RegisterRowsWrite_1 : ∃ (i : Instr) (r : Row) (o : Obj) (n : Nat) (s : State), rowOf s i = some r ∧ WriteAccepted r.m (r.wt s) r.oid o n r.lo (r.data o n s) s ∧ regMay r.m r.oid r.lo r.len o n r.edits s = true ∧ (o.base ≠ 0x4F40 ∨ (mkObjW o n (mergeBase r.m r.oid o n s) r.lo (r.data o n s)).hit Reg.PairCfg.HANDOVER = false) :=
  ⟨.relock 0, ⟨0, 0x0F30, 3, 1, [(Reg.ClkRef.RELOCK, 0, 1)]⟩, objs 0x0F30, 0, r0, rfl, by decide +kernel⟩
theorem test_RegisterRowsWrite_2 : ∃ (m : Mbx) (s : State), RowReady (.relock m) s :=
  ⟨0, r0, row_ready (by decide +kernel)⟩
theorem test_RegisterRowsWrite_3 : ∃ (m : Mbx) (sel : Bool) (freq : BitVec 2) (s : State), RowReady (.referenceChange m sel freq) s :=
  ⟨0, false, 0, r0, row_ready (by decide +kernel)⟩
theorem test_RegisterRowsWrite_4 : ∃ (m : Mbx) (k : Fin 2) (s : State), RowReady (.clkoutCommit m k) s :=
  ⟨0, 0, r0, row_ready (by decide +kernel)⟩
theorem test_RegisterRowsWrite_5 : ∃ (m : Mbx) (c : Ch) (i : Instr) (s : State), i ∈ [.fwCommit m c, .esDirectCommit m c, .thresholdCommit m c, .commitHost m c, .pgCommit m c] ∧ RowReady i s :=
  ⟨0, 0, .fwCommit 0 0, r0, by decide, row_ready (by decide +kernel)⟩
theorem test_RegisterRowsWrite_6 : ∃ (m : Mbx) (c : Ch) (sb : Bool) (i : Instr) (s : State), i ∈ [.commitReg m c sb, .commitInj m c sb, .converterStop m c sb] ∧ RowReady i s :=
  ⟨0, 0, false, .commitReg 0 0 false, r0, by decide, row_ready (by decide +kernel)⟩
theorem test_RegisterRowsWrite_7 : ∃ (m : Mbx) (c : Ch) (j : Fin 4) (i : Instr) (s : State), i ∈ [.commitCoef m c j, .commitProg m c j, .clearState m c j, .slotDisable m c j] ∧ RowReady i s :=
  ⟨0, 0, 0, .commitCoef 0 0 0, r0, by decide, row_ready (by decide +kernel)⟩
theorem test_RegisterRowsWrite_8 : ∃ (m : Mbx) (c : Ch) (on : Bool) (s : State), RowReady (.service m c on) s :=
  ⟨0, 0, false, r0, row_ready (by decide +kernel)⟩
theorem test_RegisterRowsWrite_9 : ∃ (m : Mbx) (c : Ch) (i : Instr) (s : State), i ∈ [.gridEnable m c, .gridDisable m c, .reconnect m c, .mpptEnable m c, .meterEnable m c, .meterDisable m c] ∧ RowReady i s :=
  ⟨0, 0, .gridDisable 0 0, r0, by decide, row_ready (by decide +kernel)⟩
theorem test_RegisterRowsWrite_10 : ∃ (m : Mbx) (c : Fin 4) (s : State), RowReady (.recover m c) s :=
  ⟨0, 0, r0, row_ready (by decide +kernel)⟩
theorem test_RegisterRowsWrite_11 : ∃ (m : Mbx) (c : Fin 4) (b : Fin 32) (s : State), RowReady (.holdRelease m c b) s :=
  ⟨0, 0, 0, r0, row_ready (by decide +kernel)⟩
theorem test_RegisterRowsWrite_12 : ∃ (m : Mbx) (c : Fin 4) (mode : BitVec 2) (s : State), RowReady (.canModeChange m c mode) s :=
  ⟨0, 0, 0, r0, row_ready (by decide +kernel)⟩
theorem test_RegisterRowsWrite_13 : ∃ (m : Mbx) (a : BitVec 2) (b : BitVec 2) (tx : BitVec 4) (rx : BitVec 4) (s : State), RowReady (.hatbandRoleWrite m a b tx rx) s :=
  ⟨0, 1, 0, 0, 0, r0, row_ready (by decide +kernel)⟩
theorem test_RegisterRowsWrite_14 : ∃ (m : Mbx) (en : Bool) (s : State), RowReady (.pairEnable m en) s :=
  ⟨0, false, r0, row_ready (by decide +kernel)⟩
theorem test_RegisterRowsWrite_15 : ∃ (m : Mbx) (r : Fin 15) (cls : BitVec 2) (s : State), RowReady (.fabricClassWrite m r cls) s :=
  ⟨0, 0, 0, r0, row_ready (by decide +kernel)⟩
theorem test_RegisterRowsWrite_16 : ∃ (m : Mbx) (v : W16) (s : State), RowReady (.tamperAck m v) s :=
  ⟨0, 0, r0, row_ready (by decide +kernel)⟩
theorem test_RegisterRowsWrite_17 : ∃ (m : Mbx) (v : W64) (s : State), RowReady (.rtcSet m v) s :=
  ⟨0, 0, r0, row_ready (by decide +kernel)⟩
theorem test_RegisterRowsWrite_18 : ∃ (m : Mbx) (kind : Bool) (slot : Byte) (s : State), RowReady (.transferStart m kind slot) s :=
  ⟨0, false, 0, wr1 Reg.Fw.INACT_STATE inVerified, row_ready (by decide +kernel)⟩
theorem test_RegisterRowsWrite_19 : ∃ (m : Mbx) (o : Obj) (s : State), let wt := waiterOf m (rowCode m 0x4F40 s) s; let d := rowBytes m 0x4F40 o 0 1 1 [(Reg.PairCfg.HANDOVER, 0, 1)] s; WriteAccepted m wt 0x4F40 o 0 1 d s ∧ regMay m 0x4F40 1 1 o 0 [(Reg.PairCfg.HANDOVER, 0, 1)] s = true ∧ (mkObjW o 0 (mergeBase m 0x4F40 o 0 s) 1 d).hit Reg.PairCfg.HANDOVER = true ∧ o.base = 0x4F40 :=
  ⟨0, objs 0x4F40, (paired 2 2).wr Reg.PairCfg.MBX_SCOPE 0 0 1, by decide +kernel⟩

/-! ### Obligations.ObjectReadsAndWrites -/

theorem test_ObjectReadsAndWrites_1 : ∃ (m : Mbx) (oid : W16) (s : State), crownUp s = true ∧ rowMay m oid.toNat [] s = true :=
  ⟨0, 0x0F20, r0, by decide +kernel⟩
theorem test_ObjectReadsAndWrites_2 : ∃ (m : Mbx) (oid : W16) (o : Obj) (n : Nat) (s : State), crownUp s = true ∧ rowMay m oid.toNat [] s = true ∧ objAt oid.toNat = some (o, n) :=
  ⟨0, 0x0F20, objs 0x0F20, 0, r0, by decide +kernel⟩
theorem test_ObjectReadsAndWrites_3 : ∃ (oid : Nat), objAt oid = none :=
  ⟨0xFFFF, by decide +kernel⟩
theorem test_ObjectReadsAndWrites_4 : ∃ (m : Mbx) (oid : Nat) (o : Obj) (n : Nat) (s : State), objAt oid = some (o, n) ∧ holdsGroup m (groupOf oid) s = false :=
  ⟨0, 0x0F20, objs 0x0F20, 0, r0, by decide +kernel⟩
theorem test_ObjectReadsAndWrites_5 : ∃ (m : Mbx) (oid : W16) (o : Obj) (n : Nat) (image : List Byte) (s : State), let wt := waiterOf m oid.toNat s; WriteAccepted m wt oid.toNat o n 0 image s ∧ rowMay m oid.toNat image s = true ∧ image.length = o.len ∧ (image.headD 0).toNat = layoutOf o n s ∧ (o.base ≠ 0x4F40 ∨ (mkObjW o n (mergeBase m oid.toNat o n s) 0 image).hit Reg.PairCfg.HANDOVER = false) :=
  ⟨0, 0x0F20, objs 0x0F20, 0, imageOf (objs 0x0F20).len 0 (objs 0x0F20).flds r0, r0, by decide +kernel⟩
theorem test_ObjectReadsAndWrites_6 : ∃ (m : Mbx) (f : Bool) (o : Obj) (n : Nat) (image : List Byte) (s : State), let oid := if f then 0x3F01 else 0x3F00; WriteAccepted m (waiterOf m oid s) oid o n 0 image s ∧ rowMay m oid image s = true ∧ image.length = o.len ∧ (image.headD 0).toNat = layoutOf o n s :=
  ⟨0, false, objs 0x3F00, 0, imageOf 136 0 Reg.SafeIn.fields r0, r0, by decide +kernel⟩
theorem test_ObjectReadsAndWrites_7 : ∃ (m : Mbx) (p : List Byte) (o : Obj) (n : Nat) (s : State), let wt := waiterOf m codePart s; 9 ≤ p.length ∧ p.getD 5 0 = 0 ∧ p.getD 6 0 = 0 ∧ p.getD 7 0 = 0 ∧ rowMay m codePart p s = true ∧ leAt p 4 1 = layoutOf o n s ∧ leAt p 2 2 ≠ 0 ∧ WriteAccepted m wt (leAt p 0 2) o n (leAt p 2 2) (p.drop 8) s ∧ (o.base ≠ 0x4F40 ∨ (mkObjW o n (mergeBase m (leAt p 0 2) o n s) (leAt p 2 2) (p.drop 8)).hit Reg.PairCfg.HANDOVER = false) :=
  ⟨0, [0x20, 0x0F, 2, 0, 1, 0, 0, 0, 7], objs 0x0F20, 0, r0, by decide +kernel⟩
theorem test_ObjectReadsAndWrites_8 : ∃ (m : Mbx) (oid : W16) (o : Obj) (n : Nat) (image : List Byte) (s : State), crownUp s = true ∧ rowMay m oid.toNat image s = true ∧ objAt oid.toNat = some (o, n) ∧ image.length ≠ o.len :=
  ⟨0, 0x0F20, objs 0x0F20, 0, [], r0, by decide +kernel⟩
theorem test_ObjectReadsAndWrites_9 : ∃ (m : Mbx) (oid : W16) (o : Obj) (n : Nat) (image : List Byte) (s : State), crownUp s = true ∧ rowMay m oid.toNat image s = true ∧ objAt oid.toNat = some (o, n) ∧ image.length = o.len ∧ (image.headD 0).toNat ≠ layoutOf o n s ∧ s.rd Reg.Life.LIFECYCLE ≠ 3 ∧ lockedByOther m (groupOf oid.toNat) s = false :=
  ⟨0, 0x0F20, objs 0x0F20, 0, List.replicate (objs 0x0F20).len 0, r0, by decide +kernel⟩

/-! ### Obligations.RowWriteCarriesItsField -/

theorem test_RowWriteCarriesItsField_1 : ∃ (lo : Nat) (len : Nat) (f : Fld) (i : Nat), 8 * lo ≤ f.pos i ∧ f.pos i + f.w ≤ 8 * (lo + len) :=
  ⟨0, 100, Reg.AtCtl.FW, 0, by decide +kernel⟩

/-! ### Obligations.StagedWrites -/

theorem test_StagedWrites_1 : ∃ (m : Mbx) (oid : Nat) (o : Obj) (n : Nat) (lo : Nat) (data : List Byte) (l : Lock) (s : State), s.rd Reg.Life.LIFECYCLE ≠ 3 ∧ lockedByOther m (groupOf oid) s = false ∧ (s.mb m).lock = some l ∧ (groupOf oid) ∈ l.groups ∧ check6 (mkObjW o n (mergeBase m oid o n s) lo data) s = none ∧ scopeOk m (localObj oid) s = true ∧ l.staged.length < 64 :=
  ⟨0, 0x0F20, objs 0x0F20, 0, 2, [7], ⟨0, [0x0F], [], 0⟩, locked 0 0x0F 0, by decide +kernel⟩
theorem test_StagedWrites_2 : ∃ (m : Mbx) (oid : Nat) (o : Obj) (n : Nat) (lo : Nat) (data : List Byte) (l : Lock) (s : State), s.rd Reg.Life.LIFECYCLE ≠ 3 ∧ lockedByOther m (groupOf oid) s = false ∧ (s.mb m).lock = some l ∧ (groupOf oid) ∈ l.groups ∧ check6 (mkObjW o n (mergeBase m oid o n s) lo data) s = none ∧ scopeOk m (localObj oid) s = true ∧ 64 ≤ l.staged.length :=
  ⟨0, 0x0F20, objs 0x0F20, 0, 2, [7], ⟨0, [0x0F], List.replicate 64 ⟨0, 1, [0], 0, 0⟩, 0⟩, locked 0 0x0F 64, by decide +kernel⟩
theorem test_StagedWrites_3 : ∃ (m : Mbx) (oid : Nat) (s : State), s.rd Reg.Life.LIFECYCLE ≠ 3 ∧ lockedByOther m (groupOf oid) s = true :=
  ⟨0, 0x0F20, locked 1 0x0F 0, by decide +kernel⟩

/-! ### Obligations.CommitsStart -/

theorem test_CommitsStart_1 : ∃ (c : Ch) (s : State), wrapTick c s = false ∧ (s.ch c).at_.fwWait = .none :=
  ⟨0, r0, by decide +kernel⟩
theorem test_CommitsStart_6 : ∃ (s : State), ckState s = 5 :=
  ⟨wr1 Reg.ClkStat.STATE 5, by decide +kernel⟩
theorem test_CommitsStart_7 : ∃ (s : State), ckState s ≠ 5 :=
  ⟨r0, by decide +kernel⟩
theorem test_CommitsStart_8 : ∃ (c : Ch) (s : State), gdiState c s = 1 ∧ s.rdB Reg.GdiCfg.SERVICE (cI c) = true :=
  ⟨0, (wr1 Reg.GdiStat.STATE 1).wr Reg.GdiCfg.SERVICE 0 0 1, by decide +kernel⟩
theorem test_CommitsStart_9 : ∃ (c : Ch) (s : State), gdiState c s = 2 ∧ s.rdB Reg.GdiCfg.SERVICE (cI c) = false :=
  ⟨0, wr1 Reg.GdiStat.STATE 2, by decide +kernel⟩
theorem test_CommitsStart_10 : ∃ (v : Nat), v < 2 ^ 64 :=
  ⟨0, by decide +kernel⟩
theorem test_CommitsStart_11 : ∃ (c : Ch) (s : State), gridOn c s = false :=
  ⟨0, r0, by decide +kernel⟩
theorem test_CommitsStart_12 : ∃ (c : Ch) (s : State), s.rdB Reg.MeterCfg.EN (cI c) = false ∧ mfState c s = 1 :=
  ⟨0, wr1 Reg.MeterStat.STATE 1, by decide +kernel⟩
theorem test_CommitsStart_13 : ∃ (b : Fin 4) (s : State), canEstate b s = 2 :=
  ⟨0, wr1 Reg.CanStat.ESTATE 2, by decide +kernel⟩

/-! ### Obligations.CanTransmission -/

theorem test_CanTransmission_1 : ∃ (c : Fin 4) (src : CanSrc) (x : CanTx) (s : State), canMayOffer c s = true ∧ canPick c s = some (src, x) :=
  ⟨0, .buf 0, aTx, canReady, by decide +kernel⟩
theorem test_CanTransmission_2 : ∃ (c : Fin 4) (src : CanSrc) (x : CanTx) (s : State), (s.can c).sending = some src ∧ canHead c src s = some x :=
  ⟨0, .buf 0, aTx, (wr1 Reg.CanCfg.MODE 1).setCan 0 fun x => { x with bufs := x.bufs.set 0 [aTx], sending := some (.buf 0) }, by decide +kernel⟩
theorem test_CanTransmission_3 : ∃ (c : Fin 4) (src : CanSrc) (x : CanTx) (s : State), canSends c s = true ∧ canSent c s = some (src, x) ∧ canMode c s ≠ 3 :=
  ⟨0, .buf 0, aTx, (wr1 Reg.CanCfg.MODE 1).setCan 0 fun x => { x with bufs := x.bufs.set 0 [aTx], sending := some (.buf 0) }, by decide +kernel⟩
theorem test_CanTransmission_4 : ∃ (c : Fin 4) (b : BufIx) (x : CanTx) (s : State), canSends c s = true ∧ canSent c s = some (.buf b, x) ∧ canMode c s = 3 ∧ canBurst c s = false :=
  ⟨0, 0, aTx, (wr1 Reg.CanCfg.MODE 3).setCan 0 fun x => { x with bufs := x.bufs.set 0 [aTx], sending := some (.buf 0) }, by decide +kernel⟩
theorem test_CanTransmission_5 : ∃ (c : Fin 4) (src : CanSrc) (x : CanTx) (s : State), canSends c s = true ∧ canSent c s = some (src, x) :=
  ⟨0, .buf 0, aTx, canReady, by decide +kernel⟩
theorem test_CanTransmission_6 : ∃ (c : Fin 4) (why : TxFail) (src : CanSrc) (x : CanTx) (s : State), why ≠ .arbitrationLost ∧ canSends c s = true ∧ canSent c s = some (src, x) :=
  ⟨0, .error, .buf 0, aTx, canReady, by decide +kernel⟩
theorem test_CanTransmission_9 : ∃ (c : Fin 4) (s : State), canEstate c s = 2 ∧ (s.can c).recovering = true :=
  ⟨0, (wr1 Reg.CanStat.ESTATE 2).setCan 0 fun x => { x with recovering := true }, by decide +kernel⟩
theorem test_CanTransmission_10 : ∃ (s : State), ckState s = 1 :=
  ⟨r0, by decide +kernel⟩
theorem test_CanTransmission_11 : ∃ (c : Fin 4) (s : State), canOnBus c s = true :=
  ⟨0, canReady, by decide +kernel⟩

/-! ### Obligations.CanReception -/

theorem test_CanReception_1 : ∃ (c : Fin 4) (f : CanFrame) (s : State), canOnBus c s = true ∧ canFrameOk f = true :=
  ⟨0, ⟨5, false, false, false, false, false, 1, [0], 9⟩, canReady, by decide +kernel⟩
theorem test_CanReception_2 : ∃ (c : Fin 4) (s : State), (s.can c).fifo0 ≠ [] :=
  ⟨0, r0.setCan 0 fun x => { x with fifo0 := [frame5] }, by decide +kernel⟩
theorem test_CanReception_3 : ∃ (c : Fin 4) (s : State), (s.can c).partial_.isSome = true :=
  ⟨0, r0.setCan 0 fun x => { x with partial_ := some (1, []) }, by decide +kernel⟩
theorem test_CanReception_4 : ∃ (s : State), crownUp s = true ∧ s.pow.st = .run ∧ s.rd Reg.CanCfg.STATUS_MS ≠ 0 :=
  ⟨wr1 Reg.CanCfg.STATUS_MS 100, by decide +kernel⟩
theorem test_CanReception_5 : ∃ (s : State), (s.can 0).bufs[(17 : Fin 32)].length < 4 ∧ canEstate 0 s ≠ 2 :=
  ⟨r0, by decide +kernel⟩

/-! ### Obligations.HatbandFrames -/

theorem test_HatbandFrames_1 : ∃ (p : Fin 2) (f : HbFrame) (s : State), hbUp p s = true ∧ hbFrameOk f = false :=
  ⟨0, ⟨0, 0, 0, 0, 0, 0, [], 0⟩, hbOn, by decide +kernel⟩
theorem test_HatbandFrames_2 : ∃ (p : Fin 2) (f : HbFrame) (s : State), hbUp p s = true ∧ hbFrameOk f = true ∧ f.fseq.toNat = (s.hb p).expF ∧ crownUp s = true :=
  ⟨0, goodHb 0, hbOn, by decide +kernel⟩
theorem test_HatbandFrames_3 : ∃ (p : Fin 2) (f : HbFrame) (s : State), hbUp p s = true ∧ hbFrameOk f = true ∧ f.fseq.toNat ≠ (s.hb p).expF ∧ ((s.hb p).expF + 256 - f.fseq.toNat) % 256 ≤ 16 :=
  ⟨0, goodHb 255, hbOn, by decide +kernel⟩
theorem test_HatbandFrames_4 : ∃ (p : Fin 2) (f : HbFrame) (s : State), hbUp p s = true ∧ hbFrameOk f = true ∧ f.fseq.toNat ≠ (s.hb p).expF ∧ 16 < ((s.hb p).expF + 256 - f.fseq.toNat) % 256 :=
  ⟨0, goodHb 9, hbOn, by decide +kernel⟩
theorem test_HatbandFrames_5 : ∃ (p : Fin 2) (n : Byte) (k : Byte) (o : HbOut) (s : State), hbUp p s = true ∧ k.toNat = 255 - n.toNat ∧ (((s.hb p).flight.find? fun x => x.fseq == n.toNat) = some o) :=
  ⟨0, 0, 255, ⟨0, 4, 0, 0, true, [], 0⟩, hbOn.setHb 0 fun x => { x with flight := [⟨0, 4, 0, 0, true, [], 0⟩] }, by decide +kernel⟩
theorem test_HatbandFrames_6 : ∃ (p : Fin 2) (o : HbOut) (rest : List HbOut) (s : State), hbUp p s = true ∧ (s.hb p).flight = o :: rest :=
  ⟨0, ⟨0, 4, 0, 0, true, [], 0⟩, [], hbOn.setHb 0 fun x => { x with flight := [⟨0, 4, 0, 0, true, [], 0⟩] }, by decide +kernel⟩

/-! ### Obligations.SecondAttemptIsLasting -/

theorem test_SecondAttemptIsLasting_1 : ∃ (p : Fin 2) (n : Nat) (o : HbOut) (s : State), hbUp p s = true ∧ (((s.hb p).flight.find? fun x => x.fseq == n) = some o) ∧ 1 ≤ o.tries :=
  ⟨0, 0, ⟨0, 4, 0, 0, true, [], 1⟩, hbOn.setHb 0 fun x => { x with flight := [⟨0, 4, 0, 0, true, [], 1⟩] }, by decide +kernel⟩
theorem test_SecondAttemptIsLasting_2 : ∃ (p : Fin 2) (n : Nat) (o : HbOut) (s : State), (((s.hb p).flight.find? fun x => x.fseq == n) = some o) ∧ o.tries = 0 :=
  ⟨0, 0, ⟨0, 4, 0, 0, true, [], 0⟩, hbOn.setHb 0 fun x => { x with flight := [⟨0, 4, 0, 0, true, [], 0⟩] }, by decide +kernel⟩

/-! ### Obligations.HatbandLinks -/

theorem test_HatbandLinks_1 : ∃ (p : Fin 2) (i : LinkInfo) (s : State), unitsOn s = true ∧ s.rdB Reg.ClkStat.REF_OK = true ∧ i.deskewed = true ∧ (hbLink p s = 1 ∨ hbLink p s = 2) ∧ i.hwType = 0x4860 ∧ rolesFit (hbRole p (notePeer p i s)) i.role.toNat = true :=
  ⟨0, aLink, (wr1 Reg.HbCfg.ROLE_A 1).wr Reg.HbStat.LINK 0 0 1, by decide +kernel⟩
theorem test_HatbandLinks_2 : ∃ (p : Fin 2) (i : LinkInfo) (s : State), unitsOn s = true ∧ s.rdB Reg.ClkStat.REF_OK = true ∧ i.deskewed = true ∧ (hbLink p s = 1 ∨ hbLink p s = 2) ∧ (i.hwType ≠ 0x4860 ∨ rolesFit (hbRole p (notePeer p i s)) i.role.toNat = false) :=
  ⟨0, { aLink with hwType := 0 }, (wr1 Reg.HbCfg.ROLE_A 1).wr Reg.HbStat.LINK 0 0 1, by decide +kernel⟩
theorem test_HatbandLinks_3 : ∃ (p : Fin 2) (s : State), hbUp p s = true :=
  ⟨0, hbOn, by decide +kernel⟩
theorem test_HatbandLinks_4 : ∃ (p : Fin 2) (s : State), hbUp p s = true ∧ hbRole p s = 1 ∧ s.pair.released = false ∧ s.pow.nrst = true :=
  ⟨0, paired 2 2, by decide +kernel⟩
theorem test_HatbandLinks_5 : ∃ (p : Fin 2) (s : State), hbUp p s = true ∧ hbRole p s = 1 :=
  ⟨0, paired 2 2, by decide +kernel⟩
theorem test_HatbandLinks_6 : ∃ (p : Fin 2) (s : State), hbUp p s = true ∧ hbRole p s = 1 :=
  ⟨0, paired 2 2, by decide +kernel⟩

/-! ### Obligations.PairRoles -/

theorem test_PairRoles_1 : ∃ (s : State), unitsOn s = true ∧ s.rd Reg.PairStat.PA_IN = 1 :=
  ⟨wr1 Reg.PairStat.PA_IN 1, by decide +kernel⟩
theorem test_PairRoles_2 : ∃ (s : State), unitsOn s = true :=
  ⟨r0, by decide +kernel⟩
theorem test_PairRoles_3 : ∃ (s : State), unitsOn s = true ∧ isStandby s = true ∧ 5 ≤ s.rd Reg.HbStat.HB_MISS (pairPort s).val ∧ s.rd Reg.PairStat.PA_IN = 0 :=
  ⟨(paired 3 2).wr Reg.HbStat.HB_MISS 0 0 5, by decide +kernel⟩
theorem test_PairRoles_4 : ∃ (s : State), unitsOn s = true ∧ isStandby s = true ∧ s.rd Reg.PairStat.PA_IN = 1 :=
  ⟨(paired 3 2).wr Reg.PairStat.PA_IN 0 0 1, by decide +kernel⟩
theorem test_PairRoles_5 : ∃ (s : State), unitsOn s = true ∧ pairRole s = 1 ∧ pairUp s = false ∧ s.rd Reg.PairStat.PA_IN = 0 :=
  ⟨(wr1 Reg.PairCfg.EN 1).wr Reg.PairStat.ROLE 0 0 1, by decide +kernel⟩
theorem test_PairRoles_6 : ∃ (at_ : Nat) (w : Option Waiter) (s : State), s.pair.handover = some (at_, w) ∧ pairRole s = 2 :=
  ⟨9, none, (paired 2 2).setPair fun x => { x with handover := some (9, none) }, by decide +kernel⟩
theorem test_PairRoles_7 : ∃ (at_ : Nat) (w : Option Waiter) (s : State), s.pair.handover = some (at_, w) ∧ pairRole s = 3 :=
  ⟨9, none, (paired 3 2).setPair fun x => { x with handover := some (9, none) }, by decide +kernel⟩
theorem test_PairRoles_8 : ∃ (r : Nat) (s : State), pairRole s ≠ r :=
  ⟨2, r0, by decide +kernel⟩

/-! ### Obligations.PairAlignment -/

theorem test_PairAlignment_1 : ∃ (s : State), unitsOn s = true ∧ crownUp s = true ∧ pairRole s = 2 ∧ pairUp s = true :=
  ⟨paired 2 2, by decide +kernel⟩
theorem test_PairAlignment_2 : ∃ (s : State), unitsOn s = true ∧ crownUp s = true ∧ isStandby s = true ∧ pairUp s = true :=
  ⟨paired 3 2, by decide +kernel⟩
theorem test_PairAlignment_3 : ∃ (c : Ch) (s : State), atStopped c s = false :=
  ⟨0, turning, by decide +kernel⟩
theorem test_PairAlignment_4 : ∃ (st : Nat), st < 8 :=
  ⟨0, by decide +kernel⟩
theorem test_PairAlignment_5 : ∃ (st : Nat), st < 8 :=
  ⟨1, by decide +kernel⟩
theorem test_PairAlignment_7 : ∃ (s : State), unitsOn s = true ∧ crownUp s = true ∧ booksFlow s = true :=
  ⟨paired 2 2, by decide +kernel⟩
theorem test_PairAlignment_8 : ∃ (bs : List Byte) (r : JRec) (s : State), unitsOn s = true ∧ crownUp s = true ∧ booksFlow s = true ∧ isStandby s = true ∧ jParse bs = some r ∧ ((s.crown.journal.any fun x => x.jseq == r.jseq) = false) ∧ blockDead (journalBlock r.jseq) s = false ∧ s.crown.journal.length < journalSize ∧ r.typ = 7 :=
  ⟨lockRec.bytes, lockRec, paired 3 2, by decide +kernel⟩
theorem test_PairAlignment_9 : ∃ (s : State), pairLinked s = true ∧ s.rd Reg.PairStat.SYNC = 1 :=
  ⟨paired 2 1, by decide +kernel⟩

/-! ### Obligations.MemoryBlocks -/

theorem test_MemoryBlocks_3 : ∃ (t : Target) (reqs : Nat) (r : Nat) (s : State), fabricGrant t reqs s = some r :=
  ⟨4, 1, 0, r0, by decide +kernel⟩
theorem test_MemoryBlocks_4 : ∃ (t : Target) (reqs : Nat) (r : Nat) (s : State), fabricGrant t reqs s = some r :=
  ⟨4, 1, 0, r0, by decide +kernel⟩
theorem test_MemoryBlocks_7 : ∃ (b : BitVec 19) (s : State), blockDead b.toNat s = false :=
  ⟨0, r0, by decide +kernel⟩
theorem test_MemoryBlocks_8 : ∃ (s : State), s.rd Reg.MemStat.SPARES_LEFT ≠ 0 :=
  ⟨r0, by decide +kernel⟩
theorem test_MemoryBlocks_9 : ∃ (s : State), s.pow.st = .run ∧ s.crown.run = .running :=
  ⟨r0, by decide +kernel⟩

/-! ### Obligations.SupplyStates -/

theorem test_SupplyStates_1 : ∃ (s : State), s.pow.st = .run :=
  ⟨r0, by decide +kernel⟩
theorem test_SupplyStates_2 : ∃ (s : State), s.pow.st ≠ .run :=
  ⟨inPow .lull, by decide +kernel⟩
theorem test_SupplyStates_4 : ∃ (s : State), s.pow.st = .brownout :=
  ⟨inPow .brownout, by decide +kernel⟩
theorem test_SupplyStates_7 : ∃ (s : State), s.pow.st = .lull ∧ s.pow.runOk = false :=
  ⟨lullLow, by decide +kernel⟩
theorem test_SupplyStates_8 : ∃ (src : WakeSrc) (s : State), s.pow.st = .lull ∧ (wakeOf src s).2 = true ∧ s.pow.runOk = true :=
  ⟨.can, (inPow .lull).wr Reg.PowCfg.WAKE_CAN 0 0 1, by decide +kernel⟩
theorem test_SupplyStates_9 : ∃ (src : WakeSrc) (s : State), s.pow.st = .lull ∧ (wakeOf src s).2 = true ∧ s.pow.runOk = false :=
  ⟨.can, lullLow.wr Reg.PowCfg.WAKE_CAN 0 0 1, by decide +kernel⟩
theorem test_SupplyStates_10 : ∃ (s : State), s.pow.st = .frost :=
  ⟨inPow .frost, by decide +kernel⟩
theorem test_SupplyStates_11 : ∃ (m : Mbx) (p : List Byte) (s : State), Takes (.lullEnter m p) s ∧ anyPgBusy s = true :=
  ⟨0, [0, 0, 0, 0], pgOn, by unfold Takes; decide +kernel⟩
theorem test_SupplyStates_12 : ∃ (m : Mbx) (p : List Byte) (s : State), Takes (.lullEnter m p) s ∧ anyPgBusy s = false :=
  ⟨0, [0, 0, 0, 0], r0, by unfold Takes; decide +kernel⟩

/-! ### Obligations.StoreAndMeasurements -/

theorem test_StoreAndMeasurements_1 : ∃ (s : State), (unitsOn s = true ∨ s.pow.st = .lull) :=
  ⟨r0, by decide +kernel⟩
theorem test_StoreAndMeasurements_2 : ∃ (s : State), s.pow.st = .lull ∧ s.rd Reg.PowCfg.MEAS_S ≠ 0 :=
  ⟨(inPow .lull).wr Reg.PowCfg.MEAS_S 0 0 1, by decide +kernel⟩
theorem test_StoreAndMeasurements_3 : ∃ (s : State), s.pow.st = .lull :=
  ⟨inPow .lull, by decide +kernel⟩
theorem test_StoreAndMeasurements_4 : ∃ (s : State), s.pow.nrst = false ∧ 10 ≤ s.pow.heldS ∧ s.pow.runOk = true :=
  ⟨r0.setPow fun x => { x with nrst := false, heldS := 10 }, by decide +kernel⟩
theorem test_StoreAndMeasurements_5 : ∃ (s : State), s.pow.st = .run :=
  ⟨r0, by decide +kernel⟩
theorem test_StoreAndMeasurements_6 : ∃ (s : State), s.pow.st ≠ .off :=
  ⟨r0, by decide +kernel⟩
theorem test_StoreAndMeasurements_7 : ∃ (s : State), s.pow.st = .run ∧ crownUp s = true :=
  ⟨r0, by decide +kernel⟩
theorem test_StoreAndMeasurements_8 : ∃ (s : State), s.pow.st = .run ∧ crownUp s = true :=
  ⟨r0, by decide +kernel⟩

/-! ### Obligations.ResetAndThaw -/

theorem test_ResetAndThaw_2 : ∃ (s : State), s.pow.st = .reset ∧ s.pow.thermal = false :=
  ⟨inPow .reset, by decide +kernel⟩
theorem test_ResetAndThaw_3 : ∃ (s : State), s.pow.nrst = false :=
  ⟨r0.setPow fun x => { x with nrst := false }, by decide +kernel⟩
theorem test_ResetAndThaw_4 : ∃ (s : State), unitsOn s = true :=
  ⟨r0, by decide +kernel⟩
theorem test_ResetAndThaw_5 : ∃ (s : State), s.pow.thermal = true :=
  ⟨r0.setPow fun x => { x with thermal := true }, by decide +kernel⟩
theorem test_ResetAndThaw_7 : ∃ (tm : BitVec 3) (s : State), canThaw s = true ∧ tm.toNat ≠ 0 ∧ (lifeState s = lcMaker ∨ lifeState s = lcOem) :=
  ⟨1, inPow .thaw, by decide +kernel⟩
theorem test_ResetAndThaw_8 : ∃ (s : State), (lifeState s = lcField ∨ lifeState s = lcReturn) :=
  ⟨wr1 Reg.Life.LIFECYCLE 2, by decide +kernel⟩
theorem test_ResetAndThaw_10 : ∃ (s : State), canThaw s = false :=
  ⟨r0, by decide +kernel⟩

/-! ### Obligations.FirmwareAndActivation -/

theorem test_FirmwareAndActivation_1 : ∃ (m : Mbx) (p : List Byte) (s : State), Takes (.fwWrite m p) s :=
  ⟨0, List.replicate 516 0, r0, by unfold Takes; decide +kernel⟩
theorem test_FirmwareAndActivation_2 : ∃ (p : List Byte) (s : State), leAt p 0 4 % 512 = 0 ∧ leAt p 0 4 + 512 ≤ fwSize ∧ inactState s ≠ inReceiving ∧ spanDead (fwBlock0 (inactIsB s)) (leAt p 0 4) 512 s = false :=
  ⟨List.replicate 516 0, r0, by decide +kernel⟩
theorem test_FirmwareAndActivation_3 : ∃ (m : Mbx) (p : List Byte) (s : State), Takes (.fwWrite m p) s ∧ leAt p 0 4 % 512 = 0 ∧ leAt p 0 4 + 512 ≤ fwSize ∧ inactState s ≠ inReceiving ∧ spanDead (fwBlock0 (inactIsB s)) (leAt p 0 4) 512 s = false :=
  ⟨0, List.replicate 516 0, r0, by unfold Takes; decide +kernel⟩
theorem test_FirmwareAndActivation_4 : ∃ (m : Mbx) (p : List Byte) (s : State), Takes (.fwVerify m p) s ∧ inactState s ≠ inReceiving ∧ bankCode (inactIsB s) s = 0 :=
  ⟨0, [], wr1 Reg.Fw.RUN_BANK 1, by unfold Takes; decide +kernel⟩
theorem test_FirmwareAndActivation_5 : ∃ (p : List Byte) (s : State), leAt p 0 4 % 512 = 0 ∧ leAt p 0 4 + 512 ≤ fwSize ∧ inactState s = inReceiving :=
  ⟨List.replicate 516 0, wr1 Reg.Fw.INACT_STATE inReceiving, by decide +kernel⟩
theorem test_FirmwareAndActivation_6 : ∃ (m : Mbx) (p : List Byte) (s : State), Takes (.fwVerify m p) s :=
  ⟨0, [], r0, by unfold Takes; decide +kernel⟩
theorem test_FirmwareAndActivation_7 : ∃ (s : State), inactState s ≠ inReceiving ∧ bankCode (inactIsB s) s = 0 :=
  ⟨wr1 Reg.Fw.RUN_BANK 1, by decide +kernel⟩
theorem test_FirmwareAndActivation_8 : ∃ (s : State), inactState s ≠ inReceiving ∧ bankCode (inactIsB s) s ≠ 0 :=
  ⟨r0, by decide +kernel⟩
theorem test_FirmwareAndActivation_9 : ∃ (m : Mbx) (p : List Byte) (s : State), Takes (.activate m p) s ∧ activateRefused s = none :=
  ⟨0, [0, 0, 0, 0], wr1 Reg.Fw.INACT_STATE inVerified, by unfold Takes; decide +kernel⟩
theorem test_FirmwareAndActivation_10 : ∃ (m : Mbx) (p : List Byte) (d : Done) (s : State), Takes (.activate m p) s ∧ activateRefused s = some d :=
  ⟨0, [0, 0, 0, 0], .fail stImageRejected 10, r0, by unfold Takes; decide +kernel⟩
theorem test_FirmwareAndActivation_11 : ∃ (a : Activating) (s : State), s.life.activating = some a ∧ s.crown.run = .pause ∧ bankCode (inactIsB s) s = 0 :=
  ⟨⟨nobody, 0, 0⟩, { wr1 Reg.Fw.RUN_BANK 1 with life := { r0.life with activating := some ⟨nobody, 0, 0⟩ }, crown := { r0.crown with run := .pause } }, by decide +kernel⟩
theorem test_FirmwareAndActivation_12 : ∃ (a : Activating) (s : State), let b := inactReject 11 ((s.count Reg.Fw.FALLBACK_CNT).setLife fun l => { l with activating := none }); s.life.activating = some a ∧ s.crown.run = .pause ∧ romCode true (runIsB b) b = 0 :=
  ⟨⟨nobody, 0, 0⟩, { r0 with life := { r0.life with activating := some ⟨nobody, 0, 0⟩ }, crown := { r0.crown with run := .pause } }, by decide +kernel⟩

/-! ### Obligations.SecurityFloorRises -/

theorem test_SecurityFloorRises_1 : ∃ (s : State), s.rd Reg.Life.SEC_FLOOR < 2 ^ Reg.Life.SEC_FLOOR.w ∧ (bankVersion (inactIsB s) s).2 < 2 ^ Reg.Life.SEC_FLOOR.w :=
  ⟨r0, by decide +kernel⟩
theorem test_SecurityFloorRises_2 : ∃ (b : Bool) (s : State), fwLe b 5 1 s < s.rd Reg.Life.SEC_FLOOR :=
  ⟨true, wr1 Reg.Life.SEC_FLOOR 1, by decide +kernel⟩

/-! ### Obligations.LifeCycleAndDebug -/

theorem test_LifeCycleAndDebug_1 : ∃ (m : Mbx) (p : List Byte) (s : State), crownUp s = true ∧ rowMay m codeLcRequest p s = true ∧ (lcReq p).check m p s = none :=
  ⟨0, [2, 0, 0, 0], r0, by unfold lcReq; decide +kernel⟩
theorem test_LifeCycleAndDebug_2 : ∃ (m : Mbx) (p : List Byte) (s : State), crownUp s = true ∧ rowMay m codeLcRequest p s = true ∧ (lcReq p).check m p s = none ∧ (p.length = (if pb p 0 = lcField then 4 else 220)) ∧ lcRefused (pb p 0) p s = none :=
  ⟨0, [2, 0, 0, 0], (wr1 Reg.Life.BILL_KEY 1).setLife fun x => { x with oemHash := some [] }, by unfold lcReq; decide +kernel⟩
theorem test_LifeCycleAndDebug_3 : ∃ (t : Nat) (s : State), lcExists t s = false :=
  ⟨0, r0, by decide +kernel⟩
theorem test_LifeCycleAndDebug_4 : ∃ (m : Mbx) (p : List Byte) (b1 : Bool) (b2 : Bool) (s : State), Takes (.fuseProgram m p b1 b2) s :=
  ⟨0, [5, 0, 0, 0, 1], false, false, r0, by unfold Takes; decide +kernel⟩
theorem test_LifeCycleAndDebug_5 : ∃ (m : Mbx) (p : List Byte) (b1 : Bool) (b2 : Bool) (s : State), Takes (.fuseProgram m p b1 b2) s ∧ p.length = 4 + fuseLen (pb p 0) ∧ fuseBad (pb p 0) p = none ∧ fuseBurned (pb p 0) s = false ∧ (b1 = false ∨ b2 = false) :=
  ⟨0, [5, 0, 0, 0, 1], false, false, r0, by unfold Takes; decide +kernel⟩
theorem test_LifeCycleAndDebug_6 : ∃ (p : List Byte) (s : State), p.length = 4 + fuseLen (pb p 0) ∧ fuseBad (pb p 0) p = none ∧ fuseBurned (pb p 0) s = true :=
  ⟨[5, 0, 0, 0, 1], wr1 Reg.Life.BIND_REQUIRED 1, by decide +kernel⟩
theorem test_LifeCycleAndDebug_7 : ∃ (p : List Byte) (s : State), p.length = 4 + fuseLen (pb p 0) ∧ fuseBad (pb p 0) p = none ∧ fuseBurned (pb p 0) s = false :=
  ⟨[5, 0, 0, 0, 1], r0, by decide +kernel⟩
theorem test_LifeCycleAndDebug_8 : ∃ (p : List Byte) (s : State), pb p 0 = 1 ∧ p.length = 52 ∧ fuseBurned 1 s = false :=
  ⟨1 :: List.replicate 51 0, r0, by decide +kernel⟩
theorem test_LifeCycleAndDebug_9 : ∃ (p : List Byte) (s : State), p.length = 4 + fuseLen (pb p 0) ∧ fuseBad (pb p 0) p = none ∧ fuseBurned (pb p 0) s = false :=
  ⟨[5, 0, 0, 0, 1], r0, by decide +kernel⟩
theorem test_LifeCycleAndDebug_10 : ∃ (pub : List Byte) (s : State), lifeState s = lcOem ∧ s.life.debugFused = false ∧ s.life.debugHash = some (sha384 pub) :=
  ⟨[1], r0.setLife fun x => { x with debugHash := some (sha384 [1]) }, by decide +kernel⟩
theorem test_LifeCycleAndDebug_11 : ∃ (s : State), lifeState s = lcField :=
  ⟨wr1 Reg.Life.LIFECYCLE 2, by decide +kernel⟩
theorem test_LifeCycleAndDebug_12 : ∃ (s : State), debugOpen s = true ∧ unitsOn s = true :=
  ⟨wr1 Reg.Life.DEBUG_OPEN 1, by decide +kernel⟩
theorem test_LifeCycleAndDebug_13 : ∃ (s : State), debugOpen s = true ∧ unitsOn s = true ∧ crownUp s = true :=
  ⟨wr1 Reg.Life.DEBUG_OPEN 1, by decide +kernel⟩
theorem test_LifeCycleAndDebug_14 : ∃ (s : State), debugOpen s = false :=
  ⟨r0, by decide +kernel⟩
theorem test_LifeCycleAndDebug_15 : ∃ (c : Ch) (s : State), (s.pg c).dbgHalt = true :=
  ⟨0, r0.setPg 0 fun x => { x with dbgHalt := true }, by decide +kernel⟩
theorem test_LifeCycleAndDebug_16 : ∃ (s : State), s.crown.run = .halted :=
  ⟨crownTo .halted r0, by decide +kernel⟩

/-! ### Obligations.ImageTransfers -/

theorem test_ImageTransfers_1 : ∃ (p : Fin 2) (d : ImgDesc) (data : List Byte) (s : State), hbUp p s = true ∧ crownUp s = true ∧ d.kind.toNat ≤ 1 ∧ d.nBlocks ≠ 0 ∧ d.blockNo = 0 ∧ data.length = 1024 ∧ crc32c data = d.blockCrc.toNat ∧ ((s.life.xin.find? fun x => x.id == d.xferId.toNat && x.port == p) = none) ∧ s.life.seen.contains d.xferId.toNat = false :=
  ⟨0, aDesc 0, block1k, hbOn, by decide +kernel, by decide +kernel, by decide +kernel, by decide +kernel, by decide +kernel, by decide +kernel, own_crc block1k, by decide +kernel, by decide +kernel⟩
theorem test_ImageTransfers_2 : ∃ (p : Fin 2) (d : ImgDesc) (data : List Byte) (x : XferIn) (s : State), hbUp p s = true ∧ crownUp s = true ∧ d.kind.toNat ≤ 1 ∧ d.nBlocks ≠ 0 ∧ data.length = 1024 ∧ crc32c data = d.blockCrc.toNat ∧ ((s.life.xin.find? fun x => x.id == d.xferId.toNat && x.port == p) = some x) ∧ d.blockNo.toNat = x.next ∧ x.next ≠ 0 :=
  ⟨0, aDesc 3, block1k, aXfer, receiving, by decide +kernel, by decide +kernel, by decide +kernel, by decide +kernel, by decide +kernel, own_crc block1k, by decide +kernel, by decide +kernel, by decide +kernel⟩
theorem test_ImageTransfers_3 : ∃ (p : Fin 2) (d : ImgDesc) (data : List Byte) (x : XferIn) (s : State), hbUp p s = true ∧ crownUp s = true ∧ d.kind.toNat ≤ 1 ∧ d.nBlocks ≠ 0 ∧ crc32c data ≠ d.blockCrc.toNat ∧ ((s.life.xin.find? fun x => x.id == d.xferId.toNat && x.port == p) = some x) ∧ d.blockNo.toNat = x.next :=
  ⟨0, { aDesc 3 with blockCrc := 1 }, [], aXfer, receiving, by decide +kernel⟩
theorem test_ImageTransfers_4 : ∃ (p : Fin 2) (d : ImgDesc) (o : XferOut) (s : State), hbUp p s = true ∧ crownUp s = true ∧ s.life.xout = some o ∧ o.id = d.xferId.toNat ∧ d.blockNo.toNat < o.at_ p :=
  ⟨0, aDesc 3, ⟨1, 0, 0, 9, (5, 5)⟩, hbOn.setLife fun x => { x with xout := some ⟨1, 0, 0, 9, (5, 5)⟩ }, by decide +kernel⟩
theorem test_ImageTransfers_5 : ∃ (p : Fin 2) (d : ImgDesc) (x : XferIn) (s : State), hbUp p s = true ∧ crownUp s = true ∧ ((s.life.xin.find? fun x => x.id == d.xferId.toNat && x.port == p) = some x) :=
  ⟨0, aDesc 3, aXfer, receiving, by decide +kernel⟩

end Sys2Proof.Tests
end

/-! SUPPORT. What a register of the reset state reads, the differences of angles, and the statements of 00_scope.md: O4, O5 and O7. -/

namespace Sys2Proof

/-! ### Signed readings and differences of angles (R9) -/

/-- The signed value of `w` bits spans the range of a two's complement number. -/
theorem sgn_bounds {w : Nat} (hw : 0 < w) (x : Nat) : -((2 ^ (w - 1) : Nat) : Int) ≤ sgn w x ∧ sgn w x < ((2 ^ (w - 1) : Nat) : Int) := by
  have hlt : x % 2 ^ w < 2 ^ w := Nat.mod_lt _ (Nat.two_pow_pos w)
  have hpow : 2 ^ w = 2 * 2 ^ (w - 1) := by rw [← Nat.pow_succ', Nat.succ_eq_add_one, Nat.sub_add_cancel hw]
  unfold sgn
  split <;> omega

/-- Reading bits as a signed number keeps their residue. -/
theorem sgn_emod (w x : Nat) : sgn w x % ((2 ^ w : Nat) : Int) = (x : Int) % ((2 ^ w : Nat) : Int) := by
  unfold sgn
  split
  · rw [Int.natCast_mod, Int.emod_emod]
  · rw [Int.sub_emod_right, Int.natCast_mod, Int.emod_emod]

theorem angDiff_bounds (a b : Nat) : -(2 ^ 31 : Int) ≤ angDiff a b ∧ angDiff a b < 2 ^ 31 :=
  sgn_bounds (w := 32) (by decide) _

theorem angDiff_emod (a b : Nat) : angDiff a b % 2 ^ 32 = ((a : Int) - b) % 2 ^ 32 := by
  have hres : angDiff a b % 2 ^ 32 = ((a + (2 ^ 32 - b % 2 ^ 32) : Nat) : Int) % 2 ^ 32 := sgn_emod 32 _
  omega

/-! ### Sparse maps of one entry -/

/-- One entry that is not the default is a canonical map. -/
theorem SMap.wf_singleton {α : Type} [DecidableEq α] {d v : α} (k : Nat) (hv : v ≠ d) : SMap.wf d [(k, v)] = true := by
  simp [SMap.wf, SMap.wfFrom, hv]

/-- Every other key of a map of one entry reads the default. -/
theorem SMap.get_singleton_other {α : Type} (d v : α) {k j : Nat} (h : k ≠ j) : SMap.get d [(k, v)] j = d := by
  simp [SMap.get, h]

end Sys2Proof

namespace Sys2Proof.Machine

/-! ### Keys of fields -/

/-- Fields of different objects stand at different keys. -/
theorem Fld.key_ne_of_object_ne {f g : Fld} {n m i j : Nat} (hid : f.base + n ≠ g.base + m) (hf : f.pos i < 65536) (hg : g.pos j < 65536) :
    f.key 0 n i ≠ g.key 0 m j := by
  unfold Fld.key
  omega

/-- A reset value that is the same in every instance. -/
theorem Fld.reset_of_rstInst_zero {f : Fld} (h : f.rstInst = 0) (n i : Nat) : f.reset n i = f.reset 0 i := by
  simp [Fld.reset, h]

/-! ### Registers of the reset state -/

/-- The reset state lists CFG_CRC alone, so every other register reads its Reset column. -/
theorem State.rd_reset {f : Fld} {n i : Nat} (h : f.key 0 n i ≠ Reg.Safe.CFG_CRC.key 0 0 0) : State.reset.rd f n i = f.reset n i := by
  have hget : SMap.get 0 State.reset.regs (f.key 0 n i) = 0 := SMap.get_singleton_other 0 deliveredCfgCrc h.symm
  rw [State.rd, hget, Nat.zero_xor]

/-- A register of an object other than that of CFG_CRC, with one reset value for all instances. -/
theorem State.rd_reset_of_object_ne {f : Fld} {n : Nat} (hid : f.base + n ≠ 0x3F02) (hf : f.pos 0 < 65536 ∧ f.rstInst = 0 := by decide) :
    State.reset.rd f n = f.reset 0 0 := by
  obtain ⟨hpos, hinst⟩ := hf
  rw [State.rd_reset (Fld.key_ne_of_object_ne hid hpos (by decide)), Fld.reset_of_rstInst_zero hinst]

/-- A register of a channel: the low byte of its object id is not that of 0x3F02. -/
theorem State.rd_reset_channel {f : Fld} (c : Ch) (hid : f.base % 256 ≠ 2 := by decide) (hf : f.pos 0 < 65536 ∧ f.rstInst = 0 := by decide) :
    State.reset.rd f (cI c) = f.reset 0 0 :=
  State.rd_reset_of_object_ne (by unfold cI; omega) hf

/-- Channels wait in CHECK (Table 17.5, step 8). Their disconnect states stand in the object of CFG_CRC, so here the bit positions tell the keys apart. -/
theorem safeState_reset (c : Ch) : safeState c State.reset = sfCheck :=
  State.rd_reset (by revert c; decide)

theorem ePend_reset (c : Ch) : State.reset.rd Reg.Safe.E_PEND 0 c.val = 1 :=
  State.rd_reset (by revert c; decide)

/-! ### The parts of the reset state that no object holds -/

@[simp] theorem State.ch_reset (c : Ch) : State.reset.ch c = Chan.reset := by
  simp [State.ch, State.reset]

@[simp] theorem State.mb_reset (m : Mbx) : State.reset.mb m = ⟨[], none, false⟩ := by
  simp [State.mb, State.reset, Crown.reset]

/-- An angle is 32 bits wide (R9). -/
theorem Chan.angle_lt (x : Chan) : x.angle < 2 ^ 32 := Nat.mod_lt _ (Nat.two_pow_pos 32)

end Sys2Proof.Machine

namespace Sys2Proof.Scope

open Sys2Proof.Machine

/-! ### The reset state, part by part -/

/-- The registers of a channel: the units stopped, the banks empty, the disconnect state CHECK with the enable pending, the enables low. -/
theorem channel_reset (c : Ch) :
    State.reset.rd Reg.PgStat.STATE (cI c) = 0 ∧ gdiState c State.reset = 0 ∧ atState c State.reset = 0 ∧ gridState c State.reset = 0 ∧ mpptState c State.reset = 0 ∧
      bankState c false State.reset = bkEmpty ∧ bankState c true State.reset = bkEmpty ∧ State.reset.rd Reg.Batt.ACTIVE_SLOT (cI c) = 0xFF ∧
      safeState c State.reset = sfCheck ∧ State.reset.rd Reg.Safe.E_PEND 0 c.val = 1 ∧
      State.reset.rdB Reg.GdiStat.GEN_A_RB (cI c) = false ∧ State.reset.rdB Reg.GdiStat.GEN_B_RB (cI c) = false := by
  have hgenA : State.reset.rd Reg.GdiStat.GEN_A_RB (cI c) = 0 := State.rd_reset_channel c
  have hgenB : State.reset.rd Reg.GdiStat.GEN_B_RB (cI c) = 0 := State.rd_reset_channel c
  refine ⟨State.rd_reset_channel c, State.rd_reset_channel c, State.rd_reset_channel c, State.rd_reset_channel c, State.rd_reset_channel c,
    State.rd_reset_channel c, State.rd_reset_channel c, State.rd_reset_channel c, safeState_reset c, ePend_reset c, ?_, ?_⟩
  · simp [State.rdB, hgenA]
  · simp [State.rdB, hgenB]

/-- The registers of the device: the clock LOCKED with its reference, no pair role, life-cycle state OEM. -/
theorem device_reset :
    ckState State.reset = 1 ∧ State.reset.rd Reg.ClkStat.REF_OK = 1 ∧ pairRole State.reset = 0 ∧ State.reset.rd Reg.Life.LIFECYCLE = 1 ∧
      State.reset.pow.st = .run ∧ State.reset.crown.run = .running :=
  ⟨State.rd_reset_of_object_ne (by decide), State.rd_reset_of_object_ne (by decide), State.rd_reset_of_object_ne (by decide),
    State.rd_reset_of_object_ne (by decide), rfl, rfl⟩

/-- The registers of a CAN controller: OFF, with its error counters at 0. -/
theorem can_reset (b : Fin 4) :
    State.reset.rd Reg.CanCfg.MODE b.val = 0 ∧ State.reset.rd Reg.CanStat.TEC b.val = 0 ∧ State.reset.rd Reg.CanStat.REC b.val = 0 := by
  have hcfg : 0x4F20 + b.val ≠ 0x3F02 := by omega
  have hstat : 0x4F28 + b.val ≠ 0x3F02 := by omega
  exact ⟨State.rd_reset_of_object_ne hcfg, State.rd_reset_of_object_ne hstat, State.rd_reset_of_object_ne hstat⟩

/-- The register map of the reset state, with CFG_CRC as its one entry, is canonical. -/
theorem wf_resetRegs : SMap.wf 0 resetRegs = true := SMap.wf_singleton _ (by decide)

/-! ### The statements -/

/-- Settles O4: reset lists no register but CFG_CRC, so each one named reads its Reset column; the rest is hidden state as delivered. -/
theorem resetState : Obligations.ResetState := by
  refine ⟨channel_reset, device_reset, can_reset, fun m => ?_, fun c => ?_, ⟨rfl, rfl, rfl, rfl⟩, fun f n i hkey => State.rd_reset hkey⟩
  · simp [State.mb_reset]
  · simp [State.mf, Chan.reset, MfSt.reset]

/-- Settles O5: the register map has one entry that is not 0, and the store and both firmware banks are empty. -/
theorem canonicalReset : Obligations.CanonicalReset :=
  ⟨wf_resetRegs, rfl, rfl, rfl⟩

/-- Settles O7: the signed reading has the range and the residue of a 32-bit count. -/
theorem angleDifference : Obligations.AngleDifference := by
  refine ⟨fun a b => ?_, fun c s => (s.ch c).angle_lt, fun a b => ?_⟩
  · obtain ⟨hlo, hhi⟩ := angDiff_bounds a b
    exact ⟨hlo, hhi, Int.emod_eq_emod_iff_emod_sub_eq_zero.mp (angDiff_emod a b)⟩
  · calc ((b : Int) + angDiff a b) % 2 ^ 32 = (b + (a - b)) % 2 ^ 32 := Int.emod_add_cancel_left.mpr (angDiff_emod a b)
      _ = a % 2 ^ 32 := by rw [add_sub_cancel]

end Sys2Proof.Scope

/-! SUPPORT. What the channel event FIFO holds after a firing, what a Crown failure leaves, and the statements of 01_device_architecture.md: O8 and O9. -/

namespace Sys2Proof.Machine

/-! ### Channels after writes of registers and events -/

@[simp] theorem State.ch_wr (s : State) (f : Fld) (n i v : Nat) (c : Ch) : (s.wr f n i v).ch c = s.ch c := rfl
@[simp] theorem State.ch_wrB (s : State) (f : Fld) (n i : Nat) (b : Bool) (c : Ch) : (s.wrB f n i b).ch c = s.ch c := rfl
@[simp] theorem State.ch_wrBit (s : State) (f : Fld) (n i k : Nat) (b : Bool) (c : Ch) : (s.wrBit f n i k b).ch c = s.ch c := rfl
@[simp] theorem State.ch_count (s : State) (f : Fld) (n i : Nat) (c : Ch) : (s.count f n i).ch c = s.ch c := rfl
@[simp] theorem State.ch_raise (s : State) (e : Nat) (c : Ch) : (s.raise e).ch c = s.ch c := rfl

/-! ### Posting to the channel event FIFO (R26) -/

/-- Routing is read from the registers. -/
theorem routed_congr {s t : State} (h : t.regs = s.regs) (c : Ch) (k : Nat) : routed c k t = routed c k s := by
  unfold routed State.rdB
  rw [State.rd_congr h, State.rd_congr h, State.rd_congr h, State.rd_congr h]

theorem postFifo_of_room {c : Ch} {s : State} (h : (s.ch c).fifo.length < 32) (e lag : Nat) :
    postFifo c e lag s = s.setCh c fun x => { x with fifo := x.fifo ++ [⟨e, s.time, x.angleAt lag⟩] } := if_pos h

theorem postFifo_of_full {c : Ch} {s : State} (h : 32 ≤ (s.ch c).fifo.length) (e lag : Nat) :
    postFifo c e lag s = (s.setCh c fun x => { x with fifoOvf := x.fifoOvf + 1 }).raise (472 + c.val) := if_neg (Nat.not_lt.mpr h)

@[simp] theorem postFifo_regs (c : Ch) (e lag : Nat) (s : State) : (postFifo c e lag s).regs = s.regs := by
  unfold postFifo
  dsimp only
  split <;> rfl

/-- A source with TO_CROWN that triggers no consumer is raised and posted, and fires nothing further. -/
theorem fireLag_of_unrouted {c : Ch} {k : Nat} {s : State} (hto : s.rdB Reg.Route.TO_CROWN (cI c) k = true) (hroute : routed c k s = []) (lag : Nat) :
    fireLag c k lag s = postFifo c (c.val * 56 + k) lag (s.raise (c.val * 56 + k)) := by
  have hto' : (s.raise (c.val * 56 + k)).rdB Reg.Route.TO_CROWN (cI c) k = true := hto
  have hroute' : routed c k (postFifo c (c.val * 56 + k) lag (s.raise (c.val * 56 + k))) = [] := (routed_congr (postFifo_regs ..) c k).trans hroute
  simp only [fireLag, fireAll, hto', if_true, hroute', triggers, List.map_nil, List.append_nil]

/-! ### Consumers leave the FIFO alone -/

@[simp] theorem Chan.setSar_fifo (x : Chan) (sb : Bool) (f : SarSt → SarSt) : (x.setSar sb f).fifo = x.fifo := by
  cases sb <;> rfl

@[simp] theorem markTrig_fifo (c : Ch) (b : Nat) (s : State) : ((markTrig c b s).ch c).fifo = (s.ch c).fifo := by
  simp [markTrig]

@[simp] theorem ceTrig_fifo (c : Ch) (j : Fin 4) (s : State) : ((ceTrig c j s).ch c).fifo = (s.ch c).fifo := by
  unfold ceTrig
  split
  · rfl
  · split <;> simp

@[simp] theorem capStore_fifo (c : Ch) (j lag : Nat) (s : State) : ((capStore c j lag s).ch c).fifo = (s.ch c).fifo := by
  by_cases hunread : bit (s.ch c).capUnread j <;> simp [capStore, hunread]

@[simp] theorem injTake_fifo (c : Ch) (sb : Bool) (s : State) : ((injTake c sb s).ch c).fifo = (s.ch c).fifo := by
  unfold injTake
  dsimp only
  split <;> simp

@[simp] theorem injMiss_fifo (c : Ch) (sb : Bool) (s : State) : ((injMiss c sb s).ch c).fifo = (s.ch c).fifo := rfl

@[simp] theorem trigger_fifo (c : Ch) (b lag : Nat) (s : State) : ((trigger c b lag s).1.ch c).fifo = (s.ch c).fifo := by
  unfold trigger
  split
  · rfl
  · dsimp only
    split
    · simp
    · split
      · simp
      · split <;> simp

@[simp] theorem triggers_fifo (c : Ch) (lag : Nat) : ∀ (bs : List Nat) (s : State), ((triggers c lag bs s).1.ch c).fifo = (s.ch c).fifo
  | [], _ => rfl
  | b :: bs, s => (triggers_fifo c lag bs _).trans (trigger_fifo c b lag s)

/-! ### A firing appends, and never beyond 32 entries -/

/-- The FIFO of a channel keeps its entries in their order and does not pass 32. -/
def FifoGrows (c : Ch) (s t : State) : Prop :=
  ∃ l, (t.ch c).fifo = (s.ch c).fifo ++ l ∧ ((s.ch c).fifo.length ≤ 32 → (t.ch c).fifo.length ≤ 32)

theorem FifoGrows.of_eq {c : Ch} {s t : State} (h : (t.ch c).fifo = (s.ch c).fifo) : FifoGrows c s t :=
  ⟨[], by rw [h, List.append_nil], fun hs => by rw [h]; exact hs⟩

theorem FifoGrows.trans {c : Ch} {s t u : State} (hst : FifoGrows c s t) (htu : FifoGrows c t u) : FifoGrows c s u := by
  obtain ⟨l, hl, hlen⟩ := hst
  obtain ⟨l', hl', hlen'⟩ := htu
  exact ⟨l ++ l', by rw [hl', hl, List.append_assoc], fun hs => hlen' (hlen hs)⟩

theorem postFifo_grows (c : Ch) (e lag : Nat) (s : State) : FifoGrows c s (postFifo c e lag s) := by
  by_cases hroom : (s.ch c).fifo.length < 32
  · rw [postFifo_of_room hroom]
    exact ⟨[⟨e, s.time, (s.ch c).angleAt lag⟩], by simp, fun _ => by simp; omega⟩
  · rw [postFifo_of_full (Nat.le_of_not_lt hroom)]
    exact .of_eq (by simp)

/-- Every source of the chain posts at most its own entry; what it triggers posts none. -/
theorem fireAll_grows (c : Ch) : ∀ (fuel : Nat) (ks : List (Nat × Nat)) (s : State), FifoGrows c s (fireAll c fuel ks s)
  | 0, _, _ => .of_eq rfl
  | _ + 1, [], _ => .of_eq rfl
  | fuel + 1, (k, lag) :: ks, s => by
    have hraise : FifoGrows c s (s.raise (c.val * 56 + k)) := .of_eq rfl
    unfold fireAll
    refine .trans ?_ (fireAll_grows c fuel _ _)
    refine .trans ?_ (.of_eq (triggers_fifo ..))
    split
    · exact hraise.trans (postFifo_grows ..)
    · exact hraise

/-! ### The Crown fails and restarts (R17, R19, R20) -/

/-- A device that is not the owner of a pair has nothing to release. -/
theorem ownerRelease_of_ne {s : State} (h : pairRole s ≠ 2) : ownerRelease s = s := if_neg h

/-- Outside an owner a Crown restart touches the Crown alone. -/
theorem crownRestart_of_ne {s : State} (h : pairRole s ≠ 2) (cause : Nat) :
    crownRestart cause s = { s with crown := { s.crown with run := .starting, reply := none, held := [], resetCause := cause, restarting := true } } :=
  ownerRelease_of_ne h

/-! Holds set on every channel leave all that stands beside the channels. -/

theorem holdAll_crown (s : State) (b : Bool) : (s.eachCh fun s c => s.setCh c fun x => { x with hold := b }).crown = s.crown :=
  eachCh_keeps State.crown _ (fun _ _ => rfl) s

theorem holdAll_pair (s : State) (b : Bool) : (s.eachCh fun s c => s.setCh c fun x => { x with hold := b }).pair = s.pair :=
  eachCh_keeps State.pair _ (fun _ _ => rfl) s

theorem holdAll_rd (s : State) (b : Bool) (f : Fld) (n i : Nat) : (s.eachCh fun s c => s.setCh c fun x => { x with hold := b }).rd f n i = s.rd f n i :=
  State.rd_congr (eachCh_keeps State.regs _ (fun _ _ => rfl) s) f n i

/-- Outside an owner a lockstep mismatch restarts the Crown with cause 5, marks LOCKSTEP_SEEN, stops the heartbeat and starts every hold. -/
theorem lockstepEff_of_ne {s : State} (h : pairRole s ≠ 2) :
    (lockstepEff s).crown.run = .starting ∧ (lockstepEff s).crown.resetCause = 5 ∧ (lockstepEff s).rd Reg.CrownSup.LOCKSTEP_SEEN = 1 ∧
      (lockstepEff s).pair.released = true ∧ ∀ c, ((lockstepEff s).ch c).hold = true := by
  have hrole : pairRole (s.wr Reg.CrownSup.LOCKSTEP_SEEN 0 0 1) ≠ 2 := by
    rwa [pairRole, State.rd_wr_other s 1 (by decide)]
  unfold lockstepEff
  rw [crownRestart_of_ne hrole]
  refine ⟨by rw [holdAll_crown], by rw [holdAll_crown], ?_, by rw [holdAll_pair], fun c => by rw [eachCh_setCh]⟩
  rw [holdAll_rd]
  exact State.rd_wr s Reg.CrownSup.LOCKSTEP_SEEN 0 0 1

end Sys2Proof.Machine

namespace Sys2Proof.Architecture

open Sys2Proof.Machine Sys2Proof.Safety

/-! ### The commands of Crown loss and restart -/

theorem keepAlive_runs {s : State} (h : crownUp s = true) : Runs .keepAlive s (s.eachCh fun s c => s.setCh c fun x => { x with hold := false }) :=
  runs_of_fin (u := keepAliveEff s) rfl (if_pos h)

theorem crownLossHoldStart_runs (c : Ch) {s : State} (h : unitsOn s = true) : Runs (.crownLossHoldStart c) s (s.setCh c fun x => { x with hold := true }) :=
  runs_of_fin (u := holdStartEff c s) rfl (if_pos h)

theorem crownLossHoldExpire_runs {c : Ch} {s : State} (h : (s.ch c).hold = true) :
    Runs (.crownLossHoldExpire c) s (settle c (squallRequest c 2 (s.setCh c fun x => { x with hold := false }))) :=
  runs_of_fin (u := holdExpireEff c s) rfl (if_pos h)

theorem crownWatchdogExpire_runs {s : State} (h : crownAwake s = true) : Runs .crownWatchdogExpire s (crownRestart 4 s) :=
  runs_of_fin rfl (if_pos h)

theorem crownLockstepMismatch_runs {s : State} (h : crownAwake s = true) : Runs .crownLockstepMismatch s (lockstepEff s) :=
  runs_of_fin rfl (if_pos h)

theorem crownSramUncorrectable_runs {s : State} (h : crownAwake s = true) :
    Runs .crownSramUncorrectable s (lockstepEff (s.count Reg.MemStat.SRAM_UNCORR_CNT)) :=
  runs_of_fin rfl (if_pos h)

/-- A command that runs to a lockstep mismatch outside an owner answers what the mismatch leaves. -/
theorem lockstep_answers {i : Instr} {s u : State} (hrun : Runs i s (lockstepEff u)) (hrole : pairRole u ≠ 2) :
    ∃ t, exec i s = .next t ∧ t.crown.run = .starting ∧ t.crown.resetCause = 5 ∧ t.rd Reg.CrownSup.LOCKSTEP_SEEN = 1 ∧ t.pair.released = true ∧
      ∀ c, (t.ch c).hold = true := by
  have hleft := lockstepEff_of_ne hrole
  revert hrun hleft
  generalize lockstepEff u = v
  exact fun hrun hleft => next_of_runs hrun hleft

/-- A restart whose bank passes its check brings the Crown back with the plan that its journal gave before. -/
theorem restartDoneEff_of_passed {s : State} (hrun : s.crown.restarting = true) :
    let v := { s with life := { s.life with activating := none } }
    let u := { v with crown := { s.crown with restarting := false } }
    (romStart false u).1 = true → restartDoneEff s = crownBack (crownRestore (replayPlan v) (dropWaits (crownTo .running (romStart false u).2))) := by
  intro v u hrom
  have hbusy : ¬ (!s.crown.restarting) = true := by simp [hrun]
  exact (if_neg hbusy).trans (if_pos hrom)

/-! ### The statements -/

/-- Settles O8: a firing that triggers nothing is one posting, and every firing is a chain of postings, each of which appends below 32 entries and drops at 32. -/
theorem eventFifo : Obligations.EventFifo := by
  refine ⟨fun c k lag s hto hroute hroom => ?_, fun c k lag s hto hroute hfull => ?_, fun c k lag s hlen => ?_⟩
  · have hroom' : ((s.raise (c.val * 56 + k)).ch c).fifo.length < 32 := hroom
    rw [fireLag_of_unrouted hto hroute, postFifo_of_room hroom', State.ch_setCh_same]
    exact ⟨rfl, rfl⟩
  · have hfull' : 32 ≤ ((s.raise (c.val * 56 + k)).ch c).fifo.length := hfull
    rw [fireLag_of_unrouted hto hroute, postFifo_of_full hfull', State.ch_raise, State.ch_setCh_same]
    exact ⟨rfl, rfl, rfl⟩
  · obtain ⟨l, hfifo, hbound⟩ := fireAll_grows c 32 [(k, lag)] s
    exact ⟨l, hfifo, hbound hlen⟩

/-- Settles O9: each command runs to the state named, and outside an owner a failure of the Crown changes the Crown, and with a mismatch LOCKSTEP_SEEN,
the heartbeat and the holds. -/
theorem crownLossAndRestarts : Obligations.CrownLossAndRestarts := by
  refine ⟨fun s => keepAlive_runs, fun c s => crownLossHoldStart_runs c, fun c s => crownLossHoldExpire_runs, fun s hup hrole => ?_, fun s hup hrole => ?_,
    fun s hup hrole => ?_, fun s hrun hrom => ?_⟩
  · have hrun := crownWatchdogExpire_runs hup
    rw [crownRestart_of_ne hrole] at hrun
    exact next_of_runs hrun ⟨rfl, rfl, rfl, rfl, rfl, rfl⟩
  · exact lockstep_answers (crownLockstepMismatch_runs hup) hrole
  · have hrole' : pairRole (s.count Reg.MemStat.SRAM_UNCORR_CNT) ≠ 2 := by
      rwa [pairRole, State.count, State.rd_wr_other s _ (by decide)]
    exact lockstep_answers (crownSramUncorrectable_runs hup) hrole'
  · exact runs_of_fin rfl (restartDoneEff_of_passed hrun hrom)

end Sys2Proof.Architecture

/-! SUPPORT. What the clock states, the channel branches and the CLKOUT sets become, and the statement of 02_clock_synthesis.md: O10. -/

namespace Sys2Proof.Machine

/-! ### The disconnect state machine leaves the branch of a channel alone (R36) -/

@[simp] theorem State.ch_setSc (s : State) (a : Ch) (f : SafeCh → SafeCh) (c : Ch) : (s.setSc a f).ch c = s.ch c := rfl

/-- Channels stand in `chans` alone. -/
theorem State.ch_congr {s t : State} (h : t.chans = s.chans) (c : Ch) : t.ch c = s.ch c := by
  rw [State.ch, State.ch, h]

@[simp] theorem completeW_ch (w : Waiter) (d : Done) (s : State) (c : Ch) : (completeW w d s).ch c = s.ch c :=
  State.ch_congr (completeW_spec w d s).parts.1 c

/-- Ending a list of waiting commands with one outcome touches no channel. -/
theorem foldl_completeW_ch (d : Done) (c : Ch) : ∀ (ws : List Waiter) (s : State), (ws.foldl (fun s w => completeW w d s) s).ch c = s.ch c
  | [], _ => rfl
  | w :: ws, s => (foldl_completeW_ch d c ws (completeW w d s)).trans (completeW_ch w d s c)

@[simp] theorem enablesUpdate_branch (c : Ch) (s : State) : ((enablesUpdate c s).ch c).branch = (s.ch c).branch := by
  unfold enablesUpdate
  dsimp only
  split
  · rfl
  · rw [State.setPg, State.ch_setCh_same]
    rfl

@[simp] theorem testLost_branch (c : Ch) (s : State) : ((testLost c s).ch c).branch = (s.ch c).branch := by
  unfold testLost
  split
  · dsimp only
    split
    · rw [foldl_completeW_ch, State.ch_setCh_same, State.ch_setSc]
    · rw [State.ch_setCh_same, State.ch_setSc]
  · rfl

/-- An evaluation of the disconnect state machine works on registers and the safety island, and then updates the enables and a periodic start test. -/
theorem safeEval_eq (c : Ch) (s : State) : ∃ u, u.chans = s.chans ∧ safeEval c s = testLost c (enablesUpdate c u) := by
  unfold safeEval
  split
  · exact ⟨s, rfl, rfl⟩
  · refine ⟨_, ?_, rfl⟩
    split
    case isTrue => split <;> rfl
    case isFalse =>
      dsimp only
      split <;> split <;> rfl

@[simp] theorem safeEval_branch (c : Ch) (s : State) : ((safeEval c s).ch c).branch = (s.ch c).branch := by
  obtain ⟨u, hchans, heval⟩ := safeEval_eq c s
  rw [heval, testLost_branch, enablesUpdate_branch, State.ch_congr hchans]

/-! ### Clock branches of the channels (R36) -/

theorem branchStop_settles (c : Ch) (s : State) : ∃ u, branchStop c s = settle c u ∧ (u.ch c).branch = false := by
  refine ⟨safeEval c (State.setCh _ c fun x => { x with branch := false }), rfl, ?_⟩
  rw [safeEval_branch, State.ch_setCh_same]

theorem branchRun_of_running {c : Ch} {s : State} (h : (s.ch c).branch = true) : branchRun c s = s := if_pos h

theorem monitorTripEff_of_running {c : Ch} {s : State} (hbranch : (s.ch c).branch = true) (hidle : (s.ch c).idle = false) :
    monitorTripEff c s = branchStop c s := if_pos (by simp [hbranch, hidle])

theorem branchAgainEff_of_locked (c : Ch) {s : State} (h : ckState s = ckLocked) : branchAgainEff c s = branchRun c s := if_pos h

/-! ### The clock state is one register -/

/-- The hidden state of clock synthesis is no register. -/
theorem State.rd_setClk (s : State) (f : ClkSt → ClkSt) (g : Fld) (n i : Nat) : (s.setClk f).rd g n i = s.rd g n i := rfl

/-- A state entered is the state read, as the six values fit the three bits of STATE. -/
theorem ckState_setCk {v : Nat} (h : v < 8) (s : State) : ckState (setCk v s) = v :=
  (State.rd_wr s Reg.ClkStat.STATE 0 0 v).trans (Nat.mod_eq_of_lt h)

/-- A write of another field leaves the clock state. -/
theorem ckState_wr_other {f : Fld} {n i : Nat} (h : f.key 0 n i ≠ Reg.ClkStat.STATE.key 0 0 0) (v : Nat) (s : State) : ckState (s.wr f n i v) = ckState s :=
  State.rd_wr_other s v h

/-- An acquisition starts in RELOCK with its first attempt (R32). -/
theorem acquire_relocks (s : State) : ckState (acquire s) = ckRelock ∧ (acquire s).clk.attempt = 1 :=
  ⟨ckState_setCk (v := ckRelock) (by decide) s, rfl⟩

/-- RC bypass has no reference and a coarse time base (Table 2.2). -/
theorem toRc_registers (s : State) :
    (toRc s).rd Reg.ClkStat.REF_OK = 0 ∧ (toRc s).rd Reg.ClkStat.TIME_COARSE = 1 ∧ ckState (toRc s) = ckBypassRc := by
  unfold toRc
  refine ⟨State.rd_wr _ Reg.ClkStat.REF_OK 0 0 0, ?_, ?_⟩
  · rw [State.rd_setClk, State.rd_wr_other _ _ (by decide)]
    exact State.rd_wr _ Reg.ClkStat.TIME_COARSE 0 0 1
  · rw [ckState, State.rd_setClk]
    exact (ckState_wr_other (by decide) _ _).trans ((ckState_wr_other (by decide) _ _).trans (ckState_setCk (by decide) s))

/-! ### Loss and return of lock and reference (R31 to R33, Table 2.2) -/

theorem lockLossEff_of_locked {s : State} (hck : ckState s = ckLocked) (href : s.rdB Reg.ClkStat.REF_OK = true) :
    lockLossEff s = acquire (leavePll ((setCk ckBypassRef s).count Reg.ClkStat.LOCK_LOSS_CNT)) := if_pos ⟨hck, href⟩

theorem refLossEff_of_locked {s : State} (hck : ckState s = ckLocked) (href : s.rdB Reg.ClkStat.REF_OK = true) :
    refLossEff s = hbRefLost (leavePll ((toRc s).count Reg.ClkStat.REF_LOSS_CNT)) :=
  (if_pos href).trans (congrArg hbRefLost (if_pos hck))

/-- Off the PLL there is no PLL to leave. -/
theorem refLossEff_of_not_locked {s : State} (hck : ckState s ≠ ckLocked) (href : s.rdB Reg.ClkStat.REF_OK = true) :
    refLossEff s = hbRefLost (toRc s) :=
  (if_pos href).trans (congrArg hbRefLost (if_neg hck))

/-- The two flags of the reference are no part of the clock state, so START and BYPASS_RC are still read after their writes. -/
theorem refPresentEff_of_waiting {s : State} (href : s.rdB Reg.ClkStat.REF_OK = false) (hck : ckState s = ckStart ∨ ckState s = ckBypassRc) :
    refPresentEff s = hbRefBack (acquire ((s.wr Reg.ClkStat.REF_OK 0 0 1).wr Reg.ClkStat.TIME_COARSE 0 0 0)) := by
  have habsent : ¬ s.rdB Reg.ClkStat.REF_OK = true := by simp [href]
  have hstate : ckState ((s.wr Reg.ClkStat.REF_OK 0 0 1).wr Reg.ClkStat.TIME_COARSE 0 0 0) = ckState s := by
    rw [ckState_wr_other (by decide), ckState_wr_other (by decide)]
  exact (if_neg habsent).trans (congrArg hbRefBack (if_pos (by rwa [hstate])))

/-! ### An acquisition (R32) -/

section
variable {s : State} (hck : ckState s = ckRelock)
include hck

theorem pllTimeoutEff_of_first (hopen : s.clk.settling = false) (hfirst : s.clk.attempt = 1) :
    pllTimeoutEff s = s.setClk fun x => { x with attempt := 2 } :=
  (if_pos ⟨hck, hopen⟩).trans (if_pos hfirst)

theorem pllTimeoutEff_of_second (hopen : s.clk.settling = false) (hsecond : s.clk.attempt = 2) :
    pllTimeoutEff s = (setCk ckLockFail s).setClk fun x => { x with attempt := 0 } := by
  have hnotFirst : s.clk.attempt ≠ 1 := by omega
  exact ((if_pos ⟨hck, hopen⟩).trans (if_neg hnotFirst)).trans (if_pos hsecond)

theorem pllLockEff_of_first (hopen : s.clk.settling = false) (hfirst : s.clk.attempt = 1) :
    pllLockEff s = s.setClk fun x => { x with settling := true } := by
  have hrunning : s.clk.attempt ≠ 0 := by omega
  have hnotSecond : s.clk.attempt ≠ 2 := by omega
  exact (if_pos ⟨hck, hopen, hrunning⟩).trans (congrArg (State.setClk · fun x => { x with settling := true }) (if_neg hnotSecond))

theorem pllLockEff_of_second (hopen : s.clk.settling = false) (hsecond : s.clk.attempt = 2) :
    pllLockEff s = (s.count Reg.ClkStat.LOCK_TRANSIENT_CNT).setClk fun x => { x with settling := true } := by
  have hrunning : s.clk.attempt ≠ 0 := by omega
  exact (if_pos ⟨hck, hopen, hrunning⟩).trans (congrArg (State.setClk · fun x => { x with settling := true }) (if_pos hsecond))

theorem pllSettledEff_of_settling (hsettling : s.clk.settling = true) :
    pllSettledEff s = (((setCk ckLocked s).setClk fun x => { x with attempt := 0, settling := false }).raise 493).eachCh fun s c => branchRun c s :=
  if_pos ⟨hck, hsettling⟩

end

/-! ### The sets of a CLKOUT (R42, R43) -/

@[simp] theorem State.outs_setOutClk_same (s : State) (k : Fin 2) (f : ClkOutSt → ClkOutSt) : (s.setOutClk k f).clk.outs[k] = f s.clk.outs[k] := by
  simp [State.setOutClk, State.setClk]

/-- The registers of a CLKOUT once its shadow set has come into force. -/
def clkoutTaken (k : Fin 2) (s : State) : State := (s.commitAll [Reg.ClkOut.DIV, Reg.ClkOut.PHASE_STEP] k.val).wr Reg.ClkOut.PEND k.val 0 0

/-- DIV and PHASE_STEP hold one value each, so the set is two commits. -/
theorem clkoutTaken_eq (k : Fin 2) (s : State) :
    clkoutTaken k s = ((s.commit1 Reg.ClkOut.DIV k.val 0).commit1 Reg.ClkOut.PHASE_STEP k.val 0).wr Reg.ClkOut.PEND k.val 0 0 := rfl

theorem clkoutTaken_rdL_div (k : Fin 2) (s : State) : (clkoutTaken k s).rdL Reg.ClkOut.DIV k.val = s.rd Reg.ClkOut.DIV k.val % 2 ^ 16 := by
  rw [clkoutTaken_eq, State.rdL_wr_other _ _ (by decide +revert), State.commit1, State.rdL_wrL_other _ _ (by decide +revert)]
  exact State.rdL_wrL s Reg.ClkOut.DIV k.val 0 _

theorem clkoutTaken_rdL_phaseStep (k : Fin 2) (s : State) :
    (clkoutTaken k s).rdL Reg.ClkOut.PHASE_STEP k.val = s.rd Reg.ClkOut.PHASE_STEP k.val % 2 ^ 16 := by
  rw [clkoutTaken_eq, State.rdL_wr_other _ _ (by decide +revert), State.commit1, State.rdL_wrL, State.commit1, State.rd_wrL_other _ _ (by decide +revert)]
  rfl

theorem clkoutTaken_rd_pend (k : Fin 2) (s : State) : (clkoutTaken k s).rd Reg.ClkOut.PEND k.val = 0 :=
  State.rd_wr _ Reg.ClkOut.PEND k.val 0 0

/-- The instant of a set: its registers, and its phase count in place of one not yet spent. The low phase that runs only gets another length. -/
theorem clkoutApplyEff_of_pend {k : Fin 2} {s : State} (h : s.rdB Reg.ClkOut.PEND k.val = true) :
    (clkoutApplyEff k s).regs = (clkoutTaken k s).regs ∧ (clkoutApplyEff k s).chans = s.chans ∧
      (clkoutApplyEff k s).clk.outs[k].unspent = (clkoutTaken k s).rdLS Reg.ClkOut.PHASE_STEP k.val := by
  unfold clkoutApplyEff
  rw [if_pos h]
  dsimp only
  split
  · refine ⟨rfl, rfl, ?_⟩
    rw [State.outs_setOutClk_same, State.outs_setOutClk_same]
    rfl
  · refine ⟨rfl, rfl, ?_⟩
    rw [State.outs_setOutClk_same]
    rfl

theorem clkoutApplyEff_of_idle {k : Fin 2} {s : State} (h : s.rdB Reg.ClkOut.PEND k.val = false) : clkoutApplyEff k s = s :=
  if_neg (by simp [h])

theorem clkoutUnmuteEff_of_locked (k : Fin 2) {s : State} (h : ckState s = ckLocked) :
    clkoutUnmuteEff k s = s.setOutClk k fun x => { x with muted := false } := if_pos h

end Sys2Proof.Machine

namespace Sys2Proof.ClockSynthesis

open Sys2Proof.Machine Sys2Proof.Safety

/-! ### What the commands on the clock leave to read -/

/-- The second attempt that times out answers a state in LOCK_FAIL. -/
theorem pllAcquisitionTimeout_fails {s : State} (hck : ckState s = ckRelock) (hopen : s.clk.settling = false) (hsecond : s.clk.attempt = 2) :
    ∃ t, exec .pllAcquisitionTimeout s = .next t ∧ ckState t = ckLockFail :=
  next_of_runs (runs_of_fin rfl (pllTimeoutEff_of_second hck hopen hsecond)) (ckState_setCk (v := ckLockFail) (by decide) s)

/-- A committed set in force: DIV and PHASE_STEP together, PEND cleared, the phase count to be spent. -/
theorem clkoutSetApply_answers (k : Fin 2) {s : State} (hpend : s.rd Reg.ClkOut.PEND k.val = 1) :
    ∃ t, exec (.clkoutSetApply k) s = .next t ∧ t.rdL Reg.ClkOut.DIV k.val = s.rd Reg.ClkOut.DIV k.val % 2 ^ 16 ∧
      t.rdL Reg.ClkOut.PHASE_STEP k.val = s.rd Reg.ClkOut.PHASE_STEP k.val % 2 ^ 16 ∧ t.rd Reg.ClkOut.PEND k.val = 0 ∧
      t.clk.outs[k].unspent = sgn 16 (s.rd Reg.ClkOut.PHASE_STEP k.val % 2 ^ 16) ∧ t.chans = s.chans := by
  obtain ⟨hregs, hchans, hunspent⟩ := clkoutApplyEff_of_pend (k := k) (s := s) (by simp [State.rdB, hpend])
  have hrun : Runs (.clkoutSetApply k) s (clkoutApplyEff k s) := runs_of_fin rfl rfl
  have hdiv : (clkoutApplyEff k s).rdL Reg.ClkOut.DIV k.val = s.rd Reg.ClkOut.DIV k.val % 2 ^ 16 := by
    rw [← clkoutTaken_rdL_div, State.rdL, hregs, State.rdL]
  have hstep : (clkoutApplyEff k s).rdL Reg.ClkOut.PHASE_STEP k.val = s.rd Reg.ClkOut.PHASE_STEP k.val % 2 ^ 16 := by
    rw [← clkoutTaken_rdL_phaseStep, State.rdL, hregs, State.rdL]
  have hcleared : (clkoutApplyEff k s).rd Reg.ClkOut.PEND k.val = 0 := (State.rd_congr hregs ..).trans (clkoutTaken_rd_pend k s)
  have hcount : (clkoutApplyEff k s).clk.outs[k].unspent = sgn 16 (s.rd Reg.ClkOut.PHASE_STEP k.val % 2 ^ 16) := by
    rw [hunspent, State.rdLS, clkoutTaken_rdL_phaseStep]
    rfl
  exact next_of_runs hrun ⟨hdiv, hstep, hcleared, hcount, hchans⟩

/-- In LOCKED an unmuting ends the muting of its output and changes neither registers nor channels. -/
theorem clkoutUnmute_answers (k : Fin 2) {s : State} (hck : ckState s = ckLocked) :
    ∃ t, exec (.clkoutUnmute k) s = .next t ∧ t.clk.outs[k].muted = false ∧ t.regs = s.regs ∧ t.chans = s.chans := by
  have hmuted : (s.setOutClk k fun x => { x with muted := false }).clk.outs[k].muted = false := by rw [State.outs_setOutClk_same]
  exact next_of_runs (runs_of_fin rfl (clkoutUnmuteEff_of_locked k hck)) ⟨hmuted, rfl, rfl⟩

/-! ### The statement -/

/-- Settles O10: each command on the clock runs to the case of its effect that the clock state, the attempt and PEND select. -/
theorem clockAndOutputs : Obligations.ClockAndOutputs := by
  refine ⟨fun s hck href => ?lockLoss, fun s hck href => ?refLossLocked, fun s hck href => ?refLossUnlocked, toRc_registers, fun c s hbranch hidle => ?trip,
    fun c s hck => ?again, fun c s _ => branchStop_settles c s, fun c s => branchRun_of_running, fun s href hck => ?refPresent,
    fun s hck hopen hfirst => ?timeoutFirst, fun s => pllAcquisitionTimeout_fails, fun s hck hopen hfirst => ?lockFirst,
    fun s hck hopen hsecond => ?lockSecond, fun s hck hsettling => ?settled, fun k s => clkoutSetApply_answers k, fun k s hpend => ?notPending,
    fun k s => clkoutUnmute_answers k⟩
  case lockLoss =>
    obtain ⟨hrelock, hattempt⟩ := acquire_relocks s
    exact ⟨hrelock, hattempt, runs_of_fin rfl (lockLossEff_of_locked hck href)⟩
  case refLossLocked => exact runs_of_fin rfl (refLossEff_of_locked hck href)
  case refLossUnlocked => exact runs_of_fin rfl (refLossEff_of_not_locked hck href)
  case trip => exact runs_of_fin rfl (monitorTripEff_of_running hbranch hidle)
  case again => exact runs_of_fin rfl (branchAgainEff_of_locked c hck)
  case refPresent => exact runs_of_fin rfl (refPresentEff_of_waiting href hck)
  case timeoutFirst => exact runs_of_fin rfl (pllTimeoutEff_of_first hck hopen hfirst)
  case lockFirst => exact runs_of_fin rfl (pllLockEff_of_first hck hopen hfirst)
  case lockSecond => exact runs_of_fin rfl (pllLockEff_of_second hck hopen hsecond)
  case settled => exact runs_of_fin rfl (pllSettledEff_of_settling hck hsettling)
  case notPending => exact runs_of_fin rfl (clkoutApplyEff_of_idle hpend)

end Sys2Proof.ClockSynthesis

/-! SUPPORT. What a tick, a waiting commit, an event-schedule occurrence, an encoder and a coast hold lead to, and the statements of 03_angle_timebase.md:
O2, O11, O13 and O14. -/

namespace Sys2Proof.Machine

/-! ### A tick with nothing queued (R48) -/

theorem step_of_empty {s : State} (h : s.pending = []) : step s = .next (deviceTick s) := by
  unfold step
  rw [h]

theorem deviceTick_of_off {s : State} (h : s.pow.st = .off) : deviceTick s = s := if_pos (beq_iff_eq.mpr h)

section
variable {s : State} (hon : s.pow.st ≠ .off)
include hon

theorem deviceTick_of_units (hunits : unitsOn (rtcTick s) = true) :
    deviceTick s = ((List.finRange 2).foldl (fun s k => clkoutTick k s) (timeTick ((rtcTick s).eachCh fun s c => windowsTake c s))).eachCh fun s c => chanTick c s :=
  (if_neg (mt beq_iff_eq.mp hon)).trans (if_pos hunits)

theorem deviceTick_of_measuring (hunits : unitsOn (rtcTick s) = false) (hmeasuring : measuring (rtcTick s) = true) :
    deviceTick s = timeTick (rtcTick s) :=
  ((if_neg (mt beq_iff_eq.mp hon)).trans (if_neg (Bool.eq_false_iff.mp hunits))).trans (if_pos hmeasuring)

theorem deviceTick_of_unsupplied (hunits : unitsOn (rtcTick s) = false) (hmeasuring : measuring (rtcTick s) = false) :
    deviceTick s = rtcTick s :=
  ((if_neg (mt beq_iff_eq.mp hon)).trans (if_neg (Bool.eq_false_iff.mp hunits))).trans (if_neg (Bool.eq_false_iff.mp hmeasuring))

end

/-! ### Waiting commits (R49, R65) -/

/-- Fields of one object at different bits stand at different keys. -/
theorem Fld.key_ne_of_pos_ne {f g : Fld} {p n i j : Nat} (hbase : f.base = g.base) (hpos : f.pos i ≠ g.pos j) : f.key p n i ≠ g.key p n j := by
  unfold Fld.key
  omega

/-- FW_TIME comes into force beside FW and leaves it. -/
theorem fwApply_rdL_fw (c : Ch) (s : State) :
    (fwApply c s).rdL Reg.AtCtl.FW (cI c) = s.rd Reg.AtCtl.FW (cI c) % 2 ^ Reg.AtCtl.FW.w := by
  have hkey : Reg.AtCtl.FW_TIME.key 1 (cI c) 0 ≠ Reg.AtCtl.FW.key 1 (cI c) 0 := Fld.key_ne_of_pos_ne rfl (by decide)
  calc (fwApply c s).rdL Reg.AtCtl.FW (cI c)
      = ((s.commit1 Reg.AtCtl.FW (cI c) 0).commit1 Reg.AtCtl.FW_TIME (cI c) 0).rdL Reg.AtCtl.FW (cI c) := rfl
    _ = (s.commit1 Reg.AtCtl.FW (cI c) 0).rdL Reg.AtCtl.FW (cI c) := State.rdL_wrL_other _ _ hkey
    _ = s.rd Reg.AtCtl.FW (cI c) % 2 ^ Reg.AtCtl.FW.w := State.rdL_wrL ..

theorem fwApply_fwWait (c : Ch) (s : State) : ((fwApply c s).ch c).at_.fwWait = .none := by
  unfold fwApply
  rw [State.ch_setAt_same]

/-- At FW_TIME itself no start is late, and on a SYN source the tick adds the new word to where it began. -/
theorem fwTimeEff_of_due {c : Ch} {s : State} (hat : s.rdB Reg.AtCtl.FW_AT (cI c) = true) (hwait : (s.ch c).at_.fwWait ≠ .none)
    (hrun : atStopped c s = false) (heven : s.odd = false) (hnow : s.rd Reg.AtCtl.FW_TIME (cI c) = s.time) (hsyn : atSrc c (fwApply c s) = 0) :
    fwTimeEff c s = (fwApply c s).setAt c fun x => { x with acc := enc 48 ((x.accPrev : Int) + x.fw) } := by
  have hdue : (s.rdB Reg.AtCtl.FW_AT (cI c) && (s.ch c).at_.fwWait != .none && !atStopped c s && !s.odd && decide (s.rd Reg.AtCtl.FW_TIME (cI c) ≤ s.time)) = true := by
    simp [hat, hwait, hrun, heven, hnow]
  have hpunctual : ¬ s.rd Reg.AtCtl.FW_TIME (cI c) < s.time := by omega
  unfold fwTimeEff
  simp only [if_pos hdue, if_neg hpunctual, hsyn, decide_true, if_true]

/-! ### A forward wrap with the PG not running (R49, R52, R65) -/

/-- A frequency word that waits for a wrap comes into force. -/
def fwAtWrap (c : Ch) (s : State) : State :=
  if (s.ch c).at_.fwWait = .waiting ∧ s.rdB Reg.AtCtl.FW_AT (cI c) = false then fwApply c s else s

/-- Direct entries that wait for a wrap come into force. -/
def esAtWrap (c : Ch) (s : State) : State := if (s.ch c).esWait = .waiting then esApply c s else s

/-- The mean of a turn that began at a wrap is closed, and the next turn begins at one. -/
def AtSt.closeTurn (x : AtSt) : AtSt :=
  { x with turnMean := if x.turnFull = true ∧ 0 < x.turnCnt then some (rhu x.turnSum x.turnCnt) else x.turnMean, turnSum := 0, turnCnt := 0, turnFull := true }

/-- No pattern edge of the turn left is still to fire, or no PG runs to fire it. -/
theorem wrapLeave_of_idle {c : Ch} {s : State} (h : (s.pg c).wrapLeft = true ∨ pgIsRunning c s = false) : wrapLeave c s = s := by
  refine if_pos ?_
  rcases h with hleft | hidle
  · simp [hleft]
  · simp [hidle]

/-- Without a running PG a forward wrap raises WRAP, brings what waits into force and closes the turn. -/
theorem angleWrapEff_of_idle {c : Ch} {s : State} (hwrap : wrapTick c s = true) (hfwd : crossesFwd c 0 s = true)
    (hleave : (s.pg c).wrapLeft = true ∨ pgIsRunning c s = false) (hidle : pgIsRunning c (fireLag c evWrap (lagOf c 0 s) s) = false) :
    angleWrapEff c s = settle c ((esAtWrap c (fwAtWrap c (fireLag c evWrap (lagOf c 0 s) s))).setAt c AtSt.closeTurn) := by
  have hnoTurn : (swapAtWrap c (fireLag c evWrap (lagOf c 0 s) s) || !pgIsRunning c (fireLag c evWrap (lagOf c 0 s) s)) = true := by simp [hidle]
  unfold angleWrapEff
  simp only [hwrap, hfwd, Bool.not_true, Bool.false_eq_true, if_false, if_true, wrapLeave_of_idle hleave, if_pos hnoTurn]
  rfl

theorem wrapRowEff_of_wrap {c : Ch} {s : State} (h : wrapTick c s = true) : wrapRowEff c s = hashAtWrap c (angleWrapEff c s) := if_pos h

/-! ### Occurrences of the event schedule (R60 to R62) -/

theorem esFireEff_of_due {c : Ch} {e : Fin 136} {occ : Nat} {p : EsEntry × Nat} {s : State} (hrun : atStopped c s = false)
    (hdue : (esEntries c e occ s).find? (esDue c occ s) = some p) : esFireEff c e occ s = esFire1 c occ p s := by
  unfold esFireEff
  rw [hrun, hdue]
  rfl

/-- Crossed in an admitted direction, armed, and in a region of the entry: due. -/
theorem esDue_of_crossed {c : Ch} {i n : Nat} {x : EsEntry} {s : State} (hocc : i ≤ x.reps)
    (hcross : (crossesFwd c (x.occ i) s = true ∧ bit x.dir 0 = true) ∨ (crossesRev c (x.occ i) s = true ∧ bit x.dir 1 = true))
    (harmed : ((s.ch c).disarmed.any fun d => d.entry == n && d.occ == i) = false) (hregion : bit x.regions (s.ch c).regionTick = true) :
    esDue c i s (x, n) = true := by
  have hdir : ((crossesFwd c (x.occ i) s && bit x.dir 0) || (crossesRev c (x.occ i) s && bit x.dir 1)) = true := by
    simpa only [Bool.or_eq_true, Bool.and_eq_true] using hcross
  unfold esDue
  simp only [hocc, hdir, harmed, hregion, decide_true, Bool.not_false, Bool.and_self]

/-- With no swap in the tick a bank entry has one content, that of the active bank. -/
theorem esEntries_of_active {c : Ch} {e : Fin 136} {b : Bool} {s : State} (hbank : e.val < 128) (hswap : swapSides c s = none)
    (hactive : activeBank c s = some b) (i : Nat) : esEntries c e i s = [(bankEs c b e.val s, e.val)] := by
  have hsides : esSides c e s = [((bankEs c b e.val s, e.val), none)] := by
    unfold esSides
    rw [if_pos hbank, hswap, hactive]
    rfl
  unfold esEntries
  rw [hsides]
  rfl

/-- Where an occurrence stands under one entry, the disarmed list is filtered once. -/
theorem esHystEff_of_single {c : Ch} {e : Fin 136} {occ : Nat} {x : EsEntry} {n : Nat} {s : State} (h : esEntries c e occ s = [(x, n)]) :
    esHystEff c e occ s = s.setCh c fun y => { y with disarmed := y.disarmed.filter fun q => !(q.entry == n && q.occ == occ &&
      (if q.forward then decide ((s.rd Reg.AtCtl.ES_HYST (cI c) : Int) ≤ angDiff (s.ch c).angle (x.occ occ))
       else decide (angDiff (s.ch c).angle (x.occ occ) ≤ -(s.rd Reg.AtCtl.ES_HYST (cI c) : Int)))) } := by
  unfold esHystEff
  rw [h]
  rfl

/-! ### Encoder edges (R53, R54) -/

/-- Steps of the quadrature cycle from the levels known to those of an edge. -/
def quadStep (c : Ch) (a b : Bool) (s : State) : Nat := (quadPos a b + 4 - quadPos (s.ch c).at_.encA (s.ch c).at_.encB) % 4

/-- The levels of the encoder as an edge leaves them. -/
def levelsTaken (c : Ch) (a b : Bool) (s : State) : State := s.setAt c fun x => { x with encA := a, encB := b }

/-- An illegal transition, counted with its time. -/
def illegalNoted (c : Ch) (s : State) : State :=
  (s.count Reg.AtStat.QUAD_ERR_CNT (cI c)).setAt c fun x => { x with lastIllegal := some s.tick }

section
variable {c : Ch} {a b : Bool} {s : State} (hmode : s.rd Reg.Enc.MODE (cI c) = 0) (hrun : atStopped c s = false) (hsrc : atSrc c s = 2)
include hmode hrun hsrc

/-- In AB mode a running encoder channel heeds every edge that changes a level. -/
theorem encEdgeEff_of_heeded (hstep : quadStep c a b s ≠ 0) :
    encEdgeEff c a b s = if quadStep c a b s = 2 then encIllegal c (levelsTaken c a b s)
      else encMove c ((s.ch c).at_.pm + if (quadStep c a b s == 1) != s.rdB Reg.Enc.INVERT (cI c) then 1 else -1) (levelsTaken c a b s) := by
  have hheeded : ¬ (s.rd Reg.Enc.MODE (cI c) ≠ 0 ∨ quadStep c a b s = 0 ∨ atStopped c s = true ∨ atSrc c s ≠ 2) := by
    simp [hmode, hstep, hrun, hsrc]
  exact if_neg hheeded

theorem encEdgeEff_of_counted (hstep : quadStep c a b s = 1 ∨ quadStep c a b s = 3) :
    encEdgeEff c a b s =
      encMove c ((s.ch c).at_.pm + if (quadStep c a b s == 1) != s.rdB Reg.Enc.INVERT (cI c) then 1 else -1) (levelsTaken c a b s) := by
  have hmoved : quadStep c a b s ≠ 0 := by omega
  have hlegal : quadStep c a b s ≠ 2 := by omega
  rw [encEdgeEff_of_heeded hmode hrun hsrc hmoved, if_neg hlegal]

theorem encEdgeEff_of_illegal (hstep : quadStep c a b s = 2) : encEdgeEff c a b s = encIllegal c (levelsTaken c a b s) := by
  have hmoved : quadStep c a b s ≠ 0 := by omega
  rw [encEdgeEff_of_heeded hmode hrun hsrc hmoved, if_pos hstep]

end

/-- The levels taken are no part of what is known of errors. -/
theorem levelsTaken_lastIllegal (c : Ch) (a b : Bool) (s : State) :
    ((levelsTaken c a b s).ch c).at_.lastIllegal = (s.ch c).at_.lastIllegal := by
  rw [levelsTaken, State.ch_setAt_same]

theorem encIllegal_of_first {c : Ch} {s : State} (h : (s.ch c).at_.lastIllegal = none) : encIllegal c s = illegalNoted c s := by
  unfold encIllegal
  rw [h]
  rfl

/-- A second error within 1 ms loses the source (R54). -/
theorem encIllegal_of_again {c : Ch} {s : State} {u : Nat} (h : (s.ch c).at_.lastIllegal = some u) :
    encIllegal c s = if s.tick ≤ u + 200000 then srcLost c ((illegalNoted c s).ch c).at_.fw (illegalNoted c s) else illegalNoted c s := by
  unfold encIllegal
  rw [h]
  rfl

/-! ### Index and time-out of the encoder (R53, R55) -/

/-- The first index of a source in use sets the position, and in ACQUIRE locks. -/
theorem encIndexEff_of_first {c : Ch} {s : State} (huse : s.rdB Reg.Enc.Z_USE (cI c) = true) (hrun : atStopped c s = false) (hsrc : atSrc c s = 2)
    (hcoast : atState c s ≠ atCoast) (hfree : atState c s ≠ atFree) (hfirst : (s.ch c).at_.zSeen = false) :
    encIndexEff c s = if atState c (zSet c s) = atAcquire then atLock c (zSet c s) else zSet c s := by
  have hused : ¬ (s.rdB Reg.Enc.Z_USE (cI c) = false ∨ atStopped c s = true ∨ atSrc c s ≠ 2) := by simp [huse, hrun, hsrc]
  have hheld : ¬ (atState c s = atCoast ∨ atState c s = atFree) := not_or.mpr ⟨hcoast, hfree⟩
  unfold encIndexEff
  simp only [if_neg hused, if_neg hheld, hfirst, Bool.not_false, if_true]

theorem encTimeoutEff_of_running {c : Ch} {s : State} (hrun : encRuns c s = true) (hmode : s.rd Reg.Enc.MODE (cI c) = 0) :
    encTimeoutEff c s = s.setAt c fun x => { x with encRate := 0, fw := 0 } := if_pos (by simp [hrun, hmode])

/-! ### The coast hold ends (R56) -/

/-- The hold is over: COAST reads 0 and COAST_END is raised. -/
def holdOver (c : Ch) (s : State) : State := fire c evCoastEnd (s.wr Reg.AtStat.COAST (cI c) 0 0)

section
variable {c : Ch} {s : State} (hhold : s.rdB Reg.AtStat.COAST (cI c) = true) (hcoast : atState c s = atCoast)
include hhold hcoast

theorem coastEnd_of_coasting :
    coastEnd c s = if (holdOver c s).rdB Reg.AtCtl.ON_EXPIRE (cI c) then atStop c (squallRequest c 4 (holdOver c s))
      else (setAtState c atFree (holdOver c s)).setAt c fun x => { x with fw := x.coastWord } :=
  if_pos (by simp [hhold, hcoast])

theorem coastEnd_frees (hexpire : (holdOver c s).rdB Reg.AtCtl.ON_EXPIRE (cI c) = false) :
    coastEnd c s = (setAtState c atFree (holdOver c s)).setAt c fun x => { x with fw := x.coastWord } :=
  (coastEnd_of_coasting hhold hcoast).trans (if_neg (by simp [hexpire]))

theorem coastEnd_stops (hexpire : (holdOver c s).rdB Reg.AtCtl.ON_EXPIRE (cI c) = true) :
    coastEnd c s = atStop c (squallRequest c 4 (holdOver c s)) :=
  (coastEnd_of_coasting hhold hcoast).trans (if_pos hexpire)

end

end Sys2Proof.Machine

namespace Sys2Proof.AngleTimebase

open Sys2Proof.Machine Sys2Proof.Safety

/-! ### The row of an encoder edge -/

/-- An illegal transition runs to the error noted, and to the loss of the source where the last one is no more than 1 ms back. -/
theorem encEdge_of_illegal {c : Ch} {a b : Bool} {s : State} (hmode : s.rd Reg.Enc.MODE (cI c) = 0) (hrun : atStopped c s = false)
    (hsrc : atSrc c s = 2) (hstep : quadStep c a b s = 2) : Runs (.encEdge c a b) s (settle c (encIllegal c (levelsTaken c a b s))) :=
  runs_of_fin rfl (congrArg (settle c) (encEdgeEff_of_illegal hmode hrun hsrc hstep))

/-! ### The statements -/

/-- Settles O2: with an empty queue a step is a tick of the device, and the supply selects what the tick moves on. -/
theorem emptyQueueTick : Obligations.EmptyQueueTick :=
  ⟨fun _ => step_of_empty, fun _ => deviceTick_of_off, fun _ => deviceTick_of_units, fun _ => deviceTick_of_measuring,
    fun _ => deviceTick_of_unsupplied, fun _ => ⟨rfl, rfl, rfl, rfl⟩⟩

/-- Settles O11: a waiting word comes into force at FW_TIME or, with the waiting direct entries, at the wrap, whose turn is then closed and hashed. -/
theorem frequencyAndEventCommitsApply : Obligations.FrequencyAndEventCommitsApply := by
  refine ⟨fun c s hat hwait hrun heven hnow _ hsyn => ?atTime, fun c s => ⟨fwApply_rdL_fw c s, fwApply_fwWait c s⟩,
    fun c s hwrap hfwd hleave hidle => ?atWrap⟩
  case atTime => exact runs_of_fin rfl (fwTimeEff_of_due hat hwait hrun heven hnow hsyn)
  case atWrap =>
    have hrow : wrapRowEff c s = hashAtWrap c (settle c ((esAtWrap c (fwAtWrap c (fireLag c evWrap (lagOf c 0 s) s))).setAt c AtSt.closeTurn)) := by
      rw [wrapRowEff_of_wrap hwrap, angleWrapEff_of_idle hwrap hfwd hleave hidle]
    exact runs_of_fin rfl hrow

/-- Settles O13: the occurrence found due fires, an undivided tick tests under the active bank, and the distance re-arms under the one entry. -/
theorem eventScheduleFires : Obligations.EventScheduleFires := by
  refine ⟨fun c e occ x n s hrun hdue => ?fires, fun c i n x s => esDue_of_crossed, fun c e i b s hbank hswap hactive => ?active,
    fun c e occ x n s hentry => ?rearms⟩
  case fires =>
    have hfires : esFireEff c e occ.toNat s = esFire1 c occ.toNat (x, n) s := esFireEff_of_due hrun hdue
    exact runs_of_fin rfl hfires
  case active => exact esEntries_of_active hbank hswap hactive i
  case rearms => exact runs_of_fin rfl (esHystEff_of_single hentry)

/-- Settles O14: the quadrature step tells a count from an error, the state of the AT what an index does, and ON_EXPIRE how a hold ends. -/
theorem encoderAndCoast : Obligations.EncoderAndCoast := by
  refine ⟨fun c a b s hmode hrun hsrc hstep => ?counted, fun c a b s hmode hrun hsrc hstep => ?illegal,
    fun c s huse hrun hsrc hcoast hfree hfirst => ?index, fun c s hrun hmode => ?timeout, fun c s hhold hcoast hexpire => ?frees,
    fun c s hhold hcoast hexpire => ?stops⟩
  case counted => exact runs_of_fin rfl (congrArg (settle c) (encEdgeEff_of_counted hmode hrun hsrc hstep))
  case illegal =>
    have hedge := encEdge_of_illegal hmode hrun hsrc hstep
    have hlast := levelsTaken_lastIllegal c a b s
    cases hknown : (s.ch c).at_.lastIllegal with
    | none => rwa [encIllegal_of_first (hlast.trans hknown)] at hedge
    | some u => rwa [encIllegal_of_again (hlast.trans hknown)] at hedge
  case index => exact runs_of_fin rfl (congrArg (settle c) (encIndexEff_of_first huse hrun hsrc hcoast hfree hfirst))
  case timeout => exact runs_of_fin rfl (encTimeoutEff_of_running hrun hmode)
  case frees => exact runs_of_fin rfl (congrArg (settle c) (coastEnd_frees hhold hcoast hexpire))
  case stops => exact runs_of_fin rfl (congrArg (settle c) (coastEnd_stops hhold hcoast hexpire))

end Sys2Proof.AngleTimebase

/-! SUPPORT. What the loader, a swap and a write of a store slot leave, and the statements of 04_batt_tables.md: O15 and O37. -/

namespace Sys2Proof.Machine

/-! ### Banks and store after writes of registers, the change record and answers -/

@[simp] theorem State.batt_wr (s : State) (f : Fld) (n i v : Nat) (c : Ch) : (s.wr f n i v).batt c = s.batt c := rfl
@[simp] theorem State.batt_count (s : State) (f : Fld) (n i : Nat) (c : Ch) : (s.count f n i).batt c = s.batt c := rfl
@[simp] theorem setBank_batt (a : Ch) (isB : Bool) (v : Nat) (s : State) (c : Ch) : (setBank a isB v s).batt c = s.batt c := rfl

@[simp] theorem cAdd_batt (a : Author) (kind object item oldCrc newCrc : Nat) (last : Bool) (s : State) (c : Ch) :
    (cAdd a kind object item oldCrc newCrc last s).batt c = s.batt c := rfl

@[simp] theorem cAdd_store (a : Author) (kind object item oldCrc newCrc : Nat) (last : Bool) (s : State) :
    (cAdd a kind object item oldCrc newCrc last s).store = s.store := rfl

@[simp] theorem completeW_batt (w : Waiter) (d : Done) (s : State) (c : Ch) : (completeW w d s).batt c = s.batt c :=
  congrArg Chan.batt (completeW_ch w d s c)

/-! ### A bank filled or emptied (R69, R71) -/

@[simp] theorem fillBank_load (c : Ch) (isB : Bool) (slot : Nat) (img : SMap Byte) (s : State) : ((fillBank c isB slot img s).batt c).load = (s.batt c).load := by
  cases isB <;> simp [fillBank]

@[simp] theorem fillBank_queue (c : Ch) (isB : Bool) (slot : Nat) (img : SMap Byte) (s : State) : ((fillBank c isB slot img s).batt c).queue = (s.batt c).queue := by
  cases isB <;> simp [fillBank]

@[simp] theorem emptyBank_load (c : Ch) (isB : Bool) (s : State) : ((emptyBank c isB s).batt c).load = (s.batt c).load := by
  cases isB <;> simp [emptyBank]

@[simp] theorem emptyBank_queue (c : Ch) (isB : Bool) (s : State) : ((emptyBank c isB s).batt c).queue = (s.batt c).queue := by
  cases isB <;> simp [emptyBank]

theorem emptyBank_rd_id (c : Ch) (isB : Bool) (s : State) : (emptyBank c isB s).rd (bankIdF isB) (cI c) = 0 :=
  (State.rd_wr (setBank c isB bkEmpty s) (bankIdF isB) (cI c) 0 0).trans (Nat.zero_mod _)

/-- The id of a bank stands at another place of the object than its state. -/
theorem bankIdF_key_ne (c : Ch) (isB : Bool) : (bankIdF isB).key 0 (cI c) 0 ≠ (bankF isB).key 0 (cI c) 0 := by
  have hbase : (bankIdF isB).base = (bankF isB).base := by cases isB <;> rfl
  have hpos : (bankIdF isB).pos 0 ≠ (bankF isB).pos 0 := by cases isB <;> decide
  exact Fld.key_ne_of_pos_ne hbase hpos

theorem bankState_setBank (c : Ch) (isB : Bool) {v : Nat} (hv : v < 8) (s : State) : bankState c isB (setBank c isB v s) = v := by
  have hwidth : (bankF isB).w = 3 := by cases isB <;> rfl
  have hread : bankState c isB (setBank c isB v s) = v % 2 ^ (bankF isB).w := State.rd_wr ..
  rw [hread, hwidth]
  exact Nat.mod_eq_of_lt hv

theorem bankState_emptyBank (c : Ch) (isB : Bool) (s : State) : bankState c isB (emptyBank c isB s) = bkEmpty :=
  (State.rd_wr_other (setBank c isB bkEmpty s) 0 (bankIdF_key_ne c isB)).trans (bankState_setBank c isB (by decide) s)

theorem emptyBank_bank (c : Ch) (isB : Bool) (s : State) : ((emptyBank c isB s).batt c).bank isB = [] := by
  cases isB <;> simp [emptyBank, BattSt.bank]

/-! ### The end of a load (R75) -/

/-- Nothing runs and nothing waits in the loader of a channel. -/
def LoaderIdle (c : Ch) (s : State) : Prop := (s.batt c).load = none ∧ (s.batt c).queue = []

theorem loaderRun_of_idle {c : Ch} {s : State} (h : LoaderIdle c s) (fuel : Nat) : loaderRun c fuel s = s := by
  obtain ⟨hload, hqueue⟩ := h
  cases fuel with
  | zero => rfl
  | succ fuel => simp [loaderRun, hload, hqueue]

/-- Code of the first check of Table 4.8 that a load fails, a block that cannot be read among them; 0 when all pass. -/
def loadCode (c : Ch) (l : RunningLoad) (s : State) : Nat :=
  let chk := imageCheck c (SMap.scan 0 (slotImage l.slot s) 0 154624).toArray
  let bad := if l.badCode ≠ 0 then l.badCode else lostCode l.slot s
  if bad ≠ 0 ∧ (chk = 0 ∨ bad ≤ chk) then bad else chk

/-- The loader of a channel runs no load. -/
def loadOver (c : Ch) (s : State) : State := s.setBatt c fun b => { b with load := none }

/-- A load that passes every check leaves its bank VALID, with the image and its id. -/
def loadPassed (c : Ch) (l : RunningLoad) (s : State) : State :=
  let img := slotImage l.slot s
  let id := leVal (SMap.scan 0 img 8 4)
  let t := (setBank c l.bankB bkValid (fillBank c l.bankB l.slot img (loadOver c s))).wr (bankIdF l.bankB) (cI c) 0 id
  completeW l.w (.ok 0 (leBytes 4 id ++ leBytes 2 (leVal (SMap.scan 0 img 14 2)) ++ [0, 0]))
    (cAdd (authorW l.w t) 4 0xFFFF (bankItem c l.bankB) (bankCrc c l.bankB s) (bankCrc c l.bankB t) true t)

/-- A load that fails a check leaves its bank EMPTY, with the code in LAST_FAIL. -/
def loadFailed (c : Ch) (l : RunningLoad) (code : Nat) (s : State) : State :=
  let t := (emptyBank c l.bankB (loadOver c s)).wr Reg.Batt.LAST_FAIL (cI c) 0 code
  completeW l.w (.fail stTableCheckFail code)
    ((cAdd (authorW l.w t) 4 0xFFFF (bankItem c l.bankB) (bankCrc c l.bankB s) (bankCrc c l.bankB t) true t).count Reg.Batt.CHECK_FAIL_CNT (cI c))

/-- The load ends as its checks say, and the loader goes on with what waits. -/
theorem loadDone_of_load {c : Ch} {l : RunningLoad} {s : State} (h : (s.batt c).load = some l) :
    loadDone c s = loaderRun c loaderFuel (if loadCode c l s = 0 then loadPassed c l s else loadFailed c l (loadCode c l s) s) := by
  unfold loadDone
  rw [h]
  rfl

theorem loadPassed_idle {c : Ch} {s : State} (l : RunningLoad) (h : (s.batt c).queue = []) : LoaderIdle c (loadPassed c l s) := by
  simp [LoaderIdle, loadPassed, loadOver, h]

theorem loadFailed_idle {c : Ch} {s : State} (l : RunningLoad) (code : Nat) (h : (s.batt c).queue = []) : LoaderIdle c (loadFailed c l code s) := by
  simp [LoaderIdle, loadFailed, loadOver, h]

/-- A load that passes answers DONE with the id and the number of blocks of its image. -/
theorem loadPassed_report (c : Ch) (l : RunningLoad) (s : State) : (loadPassed c l s).report =
    some ⟨l.w.mbx.val, stDone, 0, leBytes 4 (leVal (SMap.scan 0 (slotImage l.slot s) 8 4)) ++ leBytes 2 (leVal (SMap.scan 0 (slotImage l.slot s) 14 2)) ++ [0, 0]⟩ :=
  completeW_report ..

theorem loadFailed_report (c : Ch) (l : RunningLoad) (code : Nat) (s : State) :
    (loadFailed c l code s).report = some ⟨l.w.mbx.val, stTableCheckFail, code, []⟩ :=
  completeW_report ..

theorem loadDone_of_passed {c : Ch} {l : RunningLoad} {s : State} (hload : (s.batt c).load = some l) (hqueue : (s.batt c).queue = []) (hcode : loadCode c l s = 0) :
    loadDone c s = loadPassed c l s := by
  rw [loadDone_of_load hload, if_pos hcode]
  exact loaderRun_of_idle (loadPassed_idle l hqueue) loaderFuel

theorem loadDone_of_failed {c : Ch} {l : RunningLoad} {s : State} (hload : (s.batt c).load = some l) (hqueue : (s.batt c).queue = []) (hcode : loadCode c l s ≠ 0) :
    loadDone c s = loadFailed c l (loadCode c l s) s := by
  rw [loadDone_of_load hload, if_neg hcode]
  exact loaderRun_of_idle (loadFailed_idle l _ hqueue) loaderFuel

/-- With an empty queue no load runs after the end of one. -/
theorem loadDone_load {c : Ch} {l : RunningLoad} {s : State} (hload : (s.batt c).load = some l) (hqueue : (s.batt c).queue = []) :
    ((loadDone c s).batt c).load = none := by
  by_cases hcode : loadCode c l s = 0
  · rw [loadDone_of_passed hload hqueue hcode]
    exact (loadPassed_idle l hqueue).1
  · rw [loadDone_of_failed hload hqueue hcode]
    exact (loadFailed_idle l _ hqueue).1

/-! ### The swap point and a bank that cannot be read (R69, R78) -/

theorem bankSwapPointEff_of_wrap {c : Ch} {o : SwapOut} {s : State} (hswap : (s.batt c).swap = some o) (harmed : bankState c o.bankB s = bkArmed)
    (hpoint : swapAtWrap c s = true) (hwrap : wrapTick c s = true) : bankSwapPointEff c s = settle c (swapNow c o.bankB true (some o.w) s) := by
  simp [bankSwapPointEff, hswap, harmed, hpoint, hwrap]

/-- A swap that a command waits for answers it DONE. -/
theorem swapNow_status (c : Ch) (isB retire : Bool) (w : Waiter) (s : State) : (swapNow c isB retire (some w) s).report.map Report.status = some stDone := by
  unfold swapNow
  dsimp only
  rw [completeW_report]
  rfl

theorem bankSramEff_of_active {c : Ch} {b : Bool} {s : State} (h : activeBank c s = some b) :
    bankSramEff c s = settle c (pairsFollow c ((emptyBank c b (squallRequest c 3 s)).wr Reg.Batt.ACTIVE_SLOT (cI c) 0 noSlot)) := by
  unfold bankSramEff
  rw [h]

/-! ### Writes of a store slot (R70) -/

/-- A slot is active when some channel records it. -/
theorem slotActive_iff (slot : Nat) (s : State) : slotActive slot s = true ↔ ∃ c : Ch, s.rd Reg.Batt.ACTIVE_SLOT (cI c) = slot := by
  simp [slotActive, allCh]

/-- The bytes put into a slot read as written, every other byte of the store as before. -/
theorem storePut_get (slot off : Nat) (bs : List Byte) (s : State) (a : Nat) :
    SMap.get 0 (storePut slot off bs s).store a =
      if bankSize * slot + off ≤ a ∧ a < bankSize * slot + off + bs.length then bs.getD (a - (bankSize * slot + off)) 0 else SMap.get 0 s.store a :=
  SMap.get_setRun 0 bs s.store (bankSize * slot + off) a

theorem storeWriteEff_of_active (m : Mbx) {p : List Byte} {s : State} (hfits : leAt p 4 4 + (p.drop 8).length ≤ bankSize) (hactive : slotActive (pb p 0) s = true) :
    storeWriteEff m p s = (.fail stBankActive 0, s) := by
  simp only [storeWriteEff, if_neg (Nat.not_lt.mpr hfits), if_pos hactive]

/-- A write that is not refused puts the data into the slot, records the change and answers the new CRC. -/
theorem storeWriteEff_of_taken (m : Mbx) {p : List Byte} {s : State} (hfits : leAt p 4 4 + (p.drop 8).length ≤ bankSize) (hfree : slotActive (pb p 0) s = false)
    (halive : spanDead (storeBlock0 + 4096 * pb p 0) (leAt p 4 4) (p.drop 8).length s = false) :
    let t := storePut (pb p 0) (leAt p 4 4) (p.drop 8) s
    storeWriteEff m p s = (.ok 0 (leBytes 4 (slotCrc (pb p 0) t)),
      cAdd (authorOf m codeStoreWrite s) 3 0xFFFF (pb p 0) (slotCrc (pb p 0) s) (slotCrc (pb p 0) t) true t) := by
  simp only [storeWriteEff, if_neg (Nat.not_lt.mpr hfits), hfree, halive, Bool.false_eq_true, if_false]

end Sys2Proof.Machine

namespace Sys2Proof.BattTables

open Sys2Proof.Machine Sys2Proof.Safety

/-- Settles O37: the check of ACTIVE_SLOT comes before anything is written, and a write that passes it changes the run of bytes it carries. -/
theorem storeWriteRefusesActiveSlot : Obligations.StoreWriteRefusesActiveSlot := by
  refine ⟨fun m p c s hfits hslot => ?refused, fun m p a s hfits hother halive _ => ?written⟩
  case refused => exact storeWriteEff_of_active m hfits ((slotActive_iff _ s).mpr ⟨c, hslot⟩)
  case written =>
    have hfree : slotActive (pb p 0) s = false := by
      rw [Bool.eq_false_iff, Ne, slotActive_iff]
      exact fun ⟨c, hslot⟩ => hother c hslot
    rw [storeWriteEff_of_taken m hfits hfree halive]
    refine ⟨rfl, ?_⟩
    rw [cAdd_store, storePut_get, List.getD_eq_getElem?_getD, List.getElem?_drop, ← List.getD_eq_getElem?_getD]

/-- Settles O15: the first check that fails tells how a load ends, a swap completes its command as it takes effect, and a bank that cannot be read is emptied
after the Squall request. -/
theorem bankEventsAnswer : Obligations.BankEventsAnswer := by
  refine ⟨fun c s _ => runs_of_fin rfl rfl, fun c l s hload hqueue => ?loadDone, fun c o s hswap harmed hpoint hwrap => ?swapPoint,
    fun c o s => swapNow_status c o.bankB true o.w s, fun c b s hactive => ?unreadable, fun c b s => ?emptied⟩
  case loadDone =>
    refine ⟨loadDone c s, runs_of_fin rfl rfl, loadDone_load hload hqueue, fun hcode => ?_, fun hcode => ?_⟩
    · rw [loadDone_of_passed hload hqueue hcode]
      exact loadPassed_report c l s
    · rw [loadDone_of_failed hload hqueue hcode]
      exact loadFailed_report c l _ s
  case swapPoint => exact runs_of_fin rfl (bankSwapPointEff_of_wrap hswap harmed hpoint hwrap)
  case unreadable => exact runs_of_fin rfl (bankSramEff_of_active hactive)
  case emptied => exact ⟨bankState_emptyBank c b s, emptyBank_rd_id c b s, emptyBank_bank c b s⟩

end Sys2Proof.BattTables

/-! SUPPORT. How a conversion ends and what a comparator takes at its rows, and the statement of 05_sensing.md: O16. -/

namespace Sys2Proof.Machine

/-! ### Conversions (R91, R92) -/

/-- Below the full span no code is held back. -/
theorem sampleCode_of_lt {uv : Nat} (h : uv < 3000000) : sampleCode uv = 65536 * uv / 3000000 := by
  have hcode : 65536 * uv / 3000000 ≤ 65535 := by omega
  exact min_eq_left hcode

theorem sampleCode_le (uv : Nat) : sampleCode uv ≤ 65535 := min_le_right _ _

/-- On a running branch a conversion ends with a sample of the sequence that it belongs to. -/
theorem sarEndEff_of_converting {c : Ch} {sb : Bool} {s : State} (hbranch : (s.ch c).branch = true) (hconv : ((s.ch c).sar sb).conv = true) (uv : Nat) :
    sarEndEff c sb uv s = settle c (if ((s.ch c).sar sb).inj then injSample c sb uv s else regSample c sb uv s) := by
  simp [sarEndEff, hbranch, hconv]

/-! ### One comparator of a channel -/

@[simp] theorem State.cmp_setCmp_same (s : State) (c : Ch) (j : Fin 16) (f : CmpSt → CmpSt) : (s.setCmp c j f).cmp c j = f (s.cmp c j) := by
  simp [State.setCmp, State.cmp]

@[simp] theorem State.cmp_wrBit (s : State) (f : Fld) (n i k : Nat) (b : Bool) (c : Ch) (j : Fin 16) : (s.wrBit f n i k b).cmp c j = s.cmp c j := rfl

@[simp] theorem State.cmp_count (s : State) (f : Fld) (n i : Nat) (c : Ch) (j : Fin 16) : (s.count f n i).cmp c j = s.cmp c j := rfl

/-- A bit within the width of its mask reads as it was set or cleared. -/
theorem State.bit_rd_wrBit (s : State) {f : Fld} {k : Nat} (hk : k < f.w) (n i : Nat) (b : Bool) : bit ((s.wrBit f n i k b).rd f n i) k = b := by
  rw [State.rd_wrBit, bit, Nat.testBit_mod_two_pow]
  have hset : Nat.testBit (setBit (s.rd f n i) k b) k = b := (bit_setBit _ k k b).trans (if_pos rfl)
  simp [hk, hset]

/-! ### The raw output (R103, R105) -/

/-- The raw output follows the decision, a voltage in the band leaves it, and the voltage stands as the one last seen. -/
theorem rawTake_cmp (c : Ch) (j : Fin 16) (uv : Nat) (s : State) :
    (rawTake c j uv s).cmp c j = { s.cmp c j with raw := (cmpDecide c j uv s).orElse fun _ => (s.cmp c j).raw, vin := some uv } := by
  simp [rawTake]

theorem cmpRawEff_of_continuous {c : Ch} {j : Fin 16} {s : State} (hon : cmpOn c j s = true) (hcont : s.rdB Reg.CmpCfg.SAMPLED (cI c) j.val = false) (uv : Nat) :
    cmpRawEff c j uv s = settle c (cmpChange c j (rawTake c j uv) s) := by
  simp [cmpRawEff, hon, hcont]

theorem cmpSampleEff_of_sampled {c : Ch} {j : Fin 16} {s : State} (hon : cmpOn c j s = true) (hsampled : s.rdB Reg.CmpCfg.SAMPLED (cI c) j.val = true) (uv : Nat) :
    cmpSampleEff c j uv s = (rawTake c j uv s).setCmp c j fun x => { x with sync1 := some x.raw } := by
  simp [cmpSampleEff, hon, hsampled]

/-! ### The filtered output (R106) -/

theorem filtTake_cmp (c : Ch) (j : Fin 16) (lvl : Bool) (s : State) : (filtTake c j lvl s).cmp c j = { s.cmp c j with filt := some lvl } := by
  cases lvl <;> simp [filtTake]

/-- The counts of assertions stand beside UNRES in the object. -/
theorem assertCnt_key_ne (c : Ch) (j : Fin 16) : Reg.CmpStat.ASSERT_CNT.key 0 (cI c) j.val ≠ Reg.CmpStat.UNRES.key 0 (cI c) 0 :=
  have hpos : Reg.CmpStat.ASSERT_CNT.pos j.val ≠ Reg.CmpStat.UNRES.pos 0 := by revert j; decide
  Fld.key_ne_of_pos_ne rfl hpos

/-- A comparator whose filtered output takes a level is resolved: its bit of UNRES reads 0, whether its assertion is counted or not. -/
theorem filtTake_resolves (c : Ch) (j : Fin 16) (lvl : Bool) (s : State) : bit ((filtTake c j lvl s).rd Reg.CmpStat.UNRES (cI c)) j.val = false := by
  have hcleared (t : State) : bit ((t.wrBit Reg.CmpStat.UNRES (cI c) 0 j.val false).rd Reg.CmpStat.UNRES (cI c)) j.val = false :=
    State.bit_rd_wrBit t j.isLt ..
  cases lvl with
  | false => exact hcleared _
  | true =>
    rw [filtTake, if_pos rfl, State.count, State.rd_wr_other _ _ (assertCnt_key_ne c j)]
    exact hcleared _

theorem cmpFilterEff_of_turned {c : Ch} {j : Fin 16} {lvl : Bool} {s : State} (hon : cmpOn c j s = true) (hlvl : filtLevel c j s = some lvl)
    (hfilt : (s.cmp c j).filt ≠ some lvl) : cmpFilterEff c j s = settle c (cmpChange c j (filtTake c j lvl) s) := by
  simp [cmpFilterEff, hon, hlvl, hfilt]

/-- A channel out of Idle has nothing to wake. -/
theorem idleWake_of_not_idle {c : Ch} {s : State} (h : (s.ch c).idle = false) (j : Fin 16) (was : Bool) : idleWake c j was s = s := by
  simp [idleWake, h]

theorem cmpFilterChangeEff_of_turned {c : Ch} {j : Fin 16} {lvl : Bool} {s : State} (hon : cmpOn c j s = true) (hlvl : filtLevel c j s = some lvl)
    (hfilt : (s.cmp c j).filt ≠ some lvl) (hidle : ((settle c (cmpChange c j (filtTake c j lvl) s)).ch c).idle = false) :
    cmpFilterChangeEff c j s = settle c (cmpChange c j (filtTake c j lvl) s) := by
  rw [cmpFilterChangeEff, cmpFilterEff_of_turned hon hlvl hfilt]
  exact idleWake_of_not_idle hidle j _

end Sys2Proof.Machine

namespace Sys2Proof.Sensing

open Sys2Proof.Machine Sys2Proof.Safety

/-- Settles O16: a conversion's sample follows the sequence it belongs to, each comparator row acts on its kind of comparator, and what the raw and the filtered
output take stands in the comparator. -/
theorem sensingEvents : Obligations.SensingEvents := by
  refine ⟨fun c sb uv s hbranch hconv hregular => ?regular, fun c sb uv s hbranch hconv hinjected => ?injected,
    fun uv => ⟨sampleCode_le uv, sampleCode_of_lt⟩, fun c j uv s hon hcont => ?raw, fun c j uv s hon hsampled => ?sample,
    fun c j lvl s hon hlvl hfilt hidle => ?filter, fun c j lvl s => ?filtered, fun c j uv s => ?taken⟩
  case regular => exact runs_of_fin rfl (by rw [sarEndEff_of_converting hbranch hconv, hregular, if_neg Bool.false_ne_true])
  case injected => exact runs_of_fin rfl (by rw [sarEndEff_of_converting hbranch hconv, if_pos hinjected])
  case raw => exact runs_of_fin rfl (cmpRawEff_of_continuous hon hcont uv)
  case sample => exact runs_of_fin rfl (cmpSampleEff_of_sampled hon hsampled uv)
  case filter => exact runs_of_fin rfl (cmpFilterChangeEff_of_turned hon hlvl hfilt hidle)
  case filtered => exact ⟨by rw [filtTake_cmp], filtTake_resolves c j lvl s⟩
  case taken => exact ⟨by rw [rawTake_cmp], by rw [rawTake_cmp]⟩

end Sys2Proof.Sensing

/-! SUPPORT. How an evaluation of the control engine starts, ends and fails, and the statement of 06_control_engine.md: O17. -/

namespace Sys2Proof.Machine

/-! ### The slot that starts next (R127) -/

/-- The slot found pends, and its trigger came in an earlier tick. -/
theorem nextSlot_spec {c : Ch} {j : Fin 4} {s : State} (h : nextSlot c s = some j) :
    bit (s.rd Reg.CeStat.PENDING (cI c)) j.val = true ∧ (s.ch c).ce.trigTick[j] < s.tick := by
  have hfound := List.find?_some h
  rwa [Bool.and_eq_true, decide_eq_true_eq] at hfound

/-! ### A start marks its slot as the one running (R119, R127) -/

theorem evalStart_running (c : Ch) (j : Fin 4) (s : State) : ((evalStart c j s).ch c).ce.running = some j := by
  simp [evalStart]

/-- The waits of a slot stand beside RUNNING in the object (Table 6.6). -/
theorem wait_pos_ne_running (j : Fin 4) :
    Reg.CeStat.LAST_WAIT.pos j.val ≠ Reg.CeStat.RUNNING.pos 0 ∧ Reg.CeStat.MAX_WAIT.pos j.val ≠ Reg.CeStat.RUNNING.pos 0 := by
  revert j; decide

/-- RUNNING is the mask of the one slot that runs: the waits noted after it leave it. -/
theorem evalStart_rd_running (c : Ch) (j : Fin 4) (s : State) : (evalStart c j s).rd Reg.CeStat.RUNNING (cI c) = 2 ^ j.val := by
  obtain ⟨hlastPos, hmaxPos⟩ := wait_pos_ne_running j
  have hlast : Reg.CeStat.LAST_WAIT.key 0 (cI c) j.val ≠ Reg.CeStat.RUNNING.key 0 (cI c) 0 := Fld.key_ne_of_pos_ne rfl hlastPos
  have hmax : Reg.CeStat.MAX_WAIT.key 0 (cI c) j.val ≠ Reg.CeStat.RUNNING.key 0 (cI c) 0 := Fld.key_ne_of_pos_ne rfl hmaxPos
  have hmask : 2 ^ j.val % 2 ^ Reg.CeStat.RUNNING.w = 2 ^ j.val := Nat.mod_eq_of_lt (Nat.pow_lt_pow_right Nat.one_lt_two j.isLt)
  simp [evalStart, State.rd_wr_other _ _ hmax, State.rd_wr_other _ _ hlast, hmask]

/-! ### The rows of the control engine (R127, R131, R132) -/

theorem ceEvalStartEff_of_idle {c : Ch} {j : Fin 4} {s : State} (hbranch : (s.ch c).branch = true) (hidle : (s.ch c).ce.running = none)
    (hnext : nextSlot c s = some j) : ceEvalStartEff c s = settle c (evalStart c j s) := by
  simp [ceEvalStartEff, hbranch, hidle, hnext]

theorem ceEvalEndEff_of_running {c : Ch} {j : Fin 4} {s : State} (hrun : (s.ch c).ce.running = some j) (corr : Nat) :
    ceEvalEndEff c corr s = settle c (startNext c (evalEnd c j (s.setCh c fun x => { x with sramErr := x.sramErr + corr }))) := by
  simp [ceEvalEndEff, hrun]

theorem ceSramEff_of_running {c : Ch} {j : Fin 4} {s : State} (hrun : (s.ch c).ce.running = some j) :
    ceSramEff c s = settle c (squallRequest c 3 (retireEnd c
      ((s.setCh c fun x => { x with ce := { x.ce with running := none } }).wr Reg.CeStat.RUNNING (cI c) 0 0))) := by
  simp [ceSramEff, hrun]

end Sys2Proof.Machine

namespace Sys2Proof.ControlEngine

open Sys2Proof.Machine Sys2Proof.Safety

/-- Settles O17: with the engine idle, or running a slot, each row takes its one branch; a start leaves its slot in the engine and in RUNNING; and the search for
the next slot finds only one that pends since an earlier tick. -/
theorem evaluationsRun : Obligations.EvaluationsRun := by
  refine ⟨fun c j s hbranch hidle hnext => ?start, fun c j s => ?started, fun c j e s hrun => ?ended, fun c j s hrun => ?failed,
    fun c j s hnext => nextSlot_spec hnext⟩
  case start => exact runs_of_fin rfl (ceEvalStartEff_of_idle hbranch hidle hnext)
  case started => exact ⟨evalStart_running c j s, evalStart_rd_running c j s⟩
  case ended => exact runs_of_fin rfl (ceEvalEndEff_of_running hrun e.toNat)
  case failed => exact runs_of_fin rfl (ceSramEff_of_running hrun)

end Sys2Proof.ControlEngine

/-! SUPPORT. Which branch the rows of the pulse generator take, and the statement of 07_pulse_generation.md: O18. -/

namespace Sys2Proof.Machine

/-! ### Period starts (R142, R143) -/

theorem periodStartEff_of_time {c : Ch} {s : State} (hrun : pgIsRunning c s = true) (hfirst : (s.pg c).psTick = false)
    (htime : angleCarrier c s = false) :
    periodStartEff c s =
      let t := (s.pg c).periodEnd
      let a := s.setPg c fun p => { p with psTick := true, periodStart := t, periodEnd := t + s.rd Reg.PgStat.PERIOD_NOW (cI c) }
      settle c (newPeriod c 0 t (lagFrom t a) a) := by
  simp [periodStartEff, hrun, hfirst, htime]

theorem periodStartEff_of_wrap {c : Ch} {s : State} (hrun : pgIsRunning c s = true) (hfirst : (s.pg c).psTick = false)
    (hangle : angleCarrier c s = true) (hwrap : wrapTick c s = true) (hfwd : crossesFwd c 0 s = true) :
    periodStartEff c s =
      let t := stampAt (lagOf c 0 s) s
      settle c (newPeriod c 0 t (lagOf c 0 s) (s.setPg c fun p => { p with psTick := true, periodStart := t })) := by
  simp [periodStartEff, hrun, hfirst, hangle, hwrap, hfwd]

/-! ### Reload points (R147, R148) -/

/-- PG_RELOAD with its reload point taken: the sets in `armed` stay armed. -/
def reloadTaken (c : Ch) (armed : List ArmedSet) (s : State) : State :=
  (s.setPg c fun p => { p with
    reloadTick := true
    armed := armed
    esLoad := if s.rd Reg.PgCfg.RELOAD_SRC (cI c) = 3 then p.esLoad.tail else p.esLoad }).wrB Reg.PgSet.PEND (cI c) 0 (!armed.isEmpty)

theorem reloadEff_of_due {c : Ch} {r : Reload} {a : ArmedSet} {s : State} (hrun : pgIsRunning c s = true) (hpoint : reloadPoint c s = some r)
    (harmed : (s.pg c).armed = [a]) (hdue : a.tick + 3 ≤ s.tick) :
    reloadEff c s = settle c (applySet c r a.vals (reloadTaken c [] s)) := by
  have hkept : ¬ s.tick < a.tick + 3 := hdue.not_gt
  simp [reloadEff, reloadTaken, hrun, hpoint, harmed, hdue, hkept]

theorem reloadEff_of_late {c : Ch} {r : Reload} {a : ArmedSet} {s : State} (hrun : pgIsRunning c s = true) (hpoint : reloadPoint c s = some r)
    (harmed : (s.pg c).armed = [a]) (hlate : s.tick < a.tick + 3) :
    reloadEff c s = settle c (reloadTaken c [{ a with late := true }] (missOne c a s)) := by
  have hnotDue : ¬ a.tick + 3 ≤ s.tick := hlate.not_ge
  simp [reloadEff, reloadTaken, hrun, hpoint, harmed, hlate, hnotDue]

/-! ### Edges of carrier and pattern pairs (R144, R86) -/

/-- An edge whose turn it is in a running carrier pair: what is left to decide is whether its position is reached. -/
theorem pgEdgeEff_of_next {c : Ch} {k : Fin 6} {b : Bool} {x : Nat} {s : State} (hrun : pgIsRunning c s = true) (hcarrier : patMode c k s = false)
    (hfirst : ((s.pg c).prs[k]).first = b) (hsecond : ((s.pg c).prs[k]).second = false)
    (hpos : (if b then secondPos c k s else firstPos c k s) = some x) :
    pgEdgeEff c k b s =
      if !angleCarrier c s then settle c (carrierFire c k x ((s.pg c).periodStart + x) s)
      else if crossesFwd c x s then settle c (carrierFire c k x (stampAt (lagOf c x s) s) s)
      else s := by
  have hturn : (if b then ((s.pg c).prs[k]).second || !((s.pg c).prs[k]).first else ((s.pg c).prs[k]).first) = false := by
    rw [hfirst, hsecond]; cases b <;> rfl
  simp only [pgEdgeEff, hrun, hcarrier, hturn, hpos, Bool.not_true, Bool.or_self, Bool.false_eq_true, if_false]

theorem patternEdgeEff_of_free {c : Ch} {k : Fin 6} {s : State} (hrun : pgIsRunning c s = true) (hpat : patMode c k s = true)
    (hfree : (s.pat c k).held = 0) :
    patternEdgeEff c k s = settle c (patFireWhile c k (fun e => crossesFwd c e s) (fun e => lagOf c e s) false 1 s) := by
  simp [patternEdgeEff, hrun, hpat, hfree]

/-! ### Held rises and fault inputs (R154, R156, R158) -/

theorem ilkReleaseEff_of_fallen {c : Ch} {o : Fin 12} {f : Nat} {s : State} (hheld : (s.out c o).held = true)
    (hpartner : (s.out c (partner o)).lvl = false) (hfell : (s.out c (partner o)).fellAt = some f) :
    ilkReleaseEff c o s = settle c (rise4 c o (f + s.rd Reg.PgOut.ILK_GAP (cI c) (pairOf o).val) s) := by
  simp [ilkReleaseEff, hheld, hpartner, hfell]

/-- The level of a FLT input after its filter. -/
def fltTaken (c : Ch) (f : Fin 4) (asserted : Bool) (s : State) : State := s.setPg c fun p => { p with flt := setBit p.flt f.val asserted }

theorem fltEff_of_clear {c : Ch} {f : Fin 4} {s : State} (h : fltAsserted c f.val s = false) (asserted : Bool) :
    fltEff c f asserted s = settle c (fltCut c f.val (fltTaken c f asserted s)) := by
  simp [fltEff, fltTaken, h]

theorem fltEff_of_asserted {c : Ch} {f : Fin 4} {s : State} (h : fltAsserted c f.val s = true) (asserted : Bool) :
    fltEff c f asserted s = settle c (fltTaken c f asserted s) := by
  simp [fltEff, fltTaken, h]

end Sys2Proof.Machine

namespace Sys2Proof.PulseGeneration

open Sys2Proof.Machine Sys2Proof.Safety

/-- Settles O18: under the conditions of a clause each row of the pulse generator takes one branch, and that branch answers the state named. -/
theorem pulseEdges : Obligations.PulseEdges := by
  refine ⟨fun c s hrun hfirst htime => ?timeStart, fun c s hrun hfirst hangle hwrap hfwd => ?angleStart,
    fun c r a s hrun hpoint harmed hdue => ?applied, fun c r a s hrun hpoint harmed hlate => ?missed,
    fun c k b x s hrun hcarrier hfirst hsecond hpos htime => ?timeEdge,
    fun c k b x s hrun hcarrier hfirst hsecond hpos hangle hfwd => ?angleEdge,
    fun c k s hrun hpat hfree => ?patternEdge, fun c o f s hheld hpartner hfell => ?released,
    fun c f s hclear => ?asserts, fun c f s hasserted => ?ends⟩
  case timeStart => exact runs_of_fin rfl (periodStartEff_of_time hrun hfirst htime)
  case angleStart => exact runs_of_fin rfl (periodStartEff_of_wrap hrun hfirst hangle hwrap hfwd)
  case applied => exact runs_of_fin rfl (reloadEff_of_due hrun hpoint harmed hdue)
  case missed => exact runs_of_fin rfl (reloadEff_of_late hrun hpoint harmed hlate)
  case timeEdge => exact runs_of_fin rfl ((pgEdgeEff_of_next hrun hcarrier hfirst hsecond hpos).trans (by simp [htime]))
  case angleEdge => exact runs_of_fin rfl ((pgEdgeEff_of_next hrun hcarrier hfirst hsecond hpos).trans (by simp [hangle, hfwd]))
  case patternEdge => exact runs_of_fin rfl (patternEdgeEff_of_free hrun hpat hfree)
  case released => exact runs_of_fin rfl (ilkReleaseEff_of_fallen hheld hpartner hfell)
  case asserts => exact runs_of_fin rfl (fltEff_of_clear hclear true)
  case ends => exact runs_of_fin rfl (fltEff_of_asserted hasserted false)

end Sys2Proof.PulseGeneration

/-! SUPPORT. Which branch the rows of the gate-drive interface and of the half-bridge driver take, and the statement of 08_gate_drive.md: O19. -/

namespace Sys2Proof.Machine

/-! ### Feedback inputs (R166, R167, R170) -/

theorem dfbEff_of_asserting {c : Ch} {k : PairIx} {s : State} (h : dfbOn c k s = false) :
    dfbEff c k true s = settle c (dfbAct c k (dfbInstant c k s) (s.wrBit Reg.GdiStat.DFB_NOW (cI c) 0 k.val true)) := by
  simp [dfbEff, h]

theorem dfbEff_of_releasing {c : Ch} {k : PairIx} {s : State} (h : dfbOn c k s = true) :
    dfbEff c k false s = settle c (dfbRelease c k (s.wrBit Reg.GdiStat.DFB_NOW (cI c) 0 k.val false)) := by
  simp [dfbEff, h]

theorem enableSettleEff_of_high {c : Ch} {s : State} (hgenA : s.rdB Reg.GdiStat.GEN_A_RB (cI c) = true) (hgenB : s.rdB Reg.GdiStat.GEN_B_RB (cI c) = true)
    (hopen : (s.pg c).settled = false) :
    enableSettleEff c s = settle c (allPair.foldl (fun s k => if dfbOn c k s then dfbAct c k s.now s else s) (s.setPg c fun p => { p with settled := true })) := by
  simp [enableSettleEff, hgenA, hgenB, hopen]

/-- Where no start waits for a periodic start test, ENABLE_SETTLE_END does no more than take the inputs (R250). -/
theorem settleEndEff_of_no_test {c : Ch} {s : State} (h : ((enableSettleEff c s).sc c).afterTest = false) : settleEndEff c s = enableSettleEff c s := by
  simp [settleEndEff, h]

/-! ### Ends of blanking intervals (R169, R170) -/

/-- The output with its blanking interval over and its masked events, if it counted any, signalled. -/
def blankClosed (c : Ch) (o : OutIx) (s : State) : State :=
  let a := s.setOut c o fun x => { x with blank := false, recAt := none, masked := 0 }
  if 0 < (s.out c o).masked then fire c evMasked a else a

theorem blankEnd_of_recorded {c : Ch} {o : OutIx} {t : Nat} {s : State} (hblank : (s.out c o).blank = true) (hrec : (s.out c o).recAt = some t) :
    blankEnd c o s = if dfbOn c (pairOf o) (blankClosed c o s) && fbLive c (blankClosed c o s)
      then gdiFault c (.desat (pairOf o)) (2 ^ o.val) t (blankClosed c o s) else blankClosed c o s := by
  simp [blankEnd, blankClosed, hblank, hrec]

theorem blankEnd_of_unrecorded {c : Ch} {o : OutIx} {s : State} (hblank : (s.out c o).blank = true) (hrec : (s.out c o).recAt = none) :
    blankEnd c o s = blankClosed c o s := by
  simp [blankEnd, blankClosed, hblank, hrec]

/-! ### Recovery and Squall shutdown (Table 8.1, R176, R177) -/

theorem recoveryExpireEff_of_recovery {c : Ch} {s : State} (h : gdiState c s = 3) :
    recoveryExpireEff c s = leaveRecovery c (s.setPg c fun p => { p with recovExpired := true }) :=
  if_pos h

theorem squallDoneEff_of_squall {c : Ch} {s : State} (h : gdiState c s = 4) : squallDoneEff c s = settle c (squallFinish c s) :=
  if_pos h

theorem squallRequest_of_idle {c : Ch} {s : State} (h : gdiState c s = 0) (cause : Nat) : squallRequest c cause s = s := by
  simp [squallRequest, h]

theorem squallRequest_of_guarded {c : Ch} {s : State} (h : gdiState c s = 1) (cause : Nat) : squallRequest c cause s = squallStep1 c cause s :=
  if_pos (.inl h)

/-! ### The half-bridge driver (R182) -/

theorem hbRefreshEff_of_on {c : Ch} {s : State} (hfollows : hbFollows c s = true) (hon : (s.pg c).ho = true) (hfree : (s.pg c).refreshAt = none) :
    hbRefreshEff c s = settle c ((s.setPg c fun p => { p with refreshAt := some s.now, ho := false, hoFell := s.now }).countMod Reg.Hb.REFRESH_CNT (cI c)) := by
  simp [hbRefreshEff, hfollows, hon, hfree]

end Sys2Proof.Machine

namespace Sys2Proof.GateDrive

open Sys2Proof.Machine Sys2Proof.Safety

/-- Settles O19: each row of the gate drive takes the branch that the feedback input, the blanking interval, the GDI state or the high side selects; the rows of the
driver's supplies have no other branch. -/
theorem gateDrive : Obligations.GateDrive := by
  refine ⟨fun c k s hclear => ?asserted, fun c k s hset => ?released, fun c o s hblank => ?blankingEnds,
    fun c s hgenA hgenB hopen htest => ?enablesSettled, fun c s hrecovery => ?recoveryExpires, fun c s hsquall => ?squallDone,
    fun c cause s hidle => ?requestInIdle, fun c cause s hguarded => ?requestInGuarded, fun c s hfollows hon hfree => ?refresh,
    fun c s => ?bootLow, fun c s => ?bootBack, fun s => ?supplyLow, fun s => ?supplyBack⟩
  case asserted => exact runs_of_fin rfl (dfbEff_of_asserting hclear)
  case released => exact runs_of_fin rfl (dfbEff_of_releasing hset)
  case blankingEnds =>
    intro a b
    cases hrec : (s.out c o).recAt with
    | some t => exact runs_of_fin rfl (congrArg (settle c) (blankEnd_of_recorded hblank hrec))
    | none => exact runs_of_fin rfl (congrArg (settle c) (blankEnd_of_unrecorded hblank hrec))
  case enablesSettled => exact runs_of_fin rfl ((settleEndEff_of_no_test htest).trans (enableSettleEff_of_high hgenA hgenB hopen))
  case recoveryExpires => exact runs_of_fin rfl (congrArg (settle c) (recoveryExpireEff_of_recovery hrecovery))
  case squallDone => exact runs_of_fin rfl (squallDoneEff_of_squall hsquall)
  case requestInIdle => exact squallRequest_of_idle hidle cause
  case requestInGuarded => exact squallRequest_of_guarded hguarded cause
  case refresh => exact runs_of_fin rfl (hbRefreshEff_of_on hfollows hon hfree)
  case bootLow => exact runs_of_fin rfl rfl
  case bootBack => exact runs_of_fin rfl rfl
  case supplyLow => exact runs_of_fin rfl rfl
  case supplyBack => exact runs_of_fin rfl rfl

end Sys2Proof.GateDrive

/-! SUPPORT. Which branch the rows of the grid functions and of maximum-power-point tracking take, and the statement of 09_grid_functions.md: O20. -/

namespace Sys2Proof.Machine

/-! ### Who coordinates a channel (R16, R197) -/

theorem crownLeads_of_up {c : Ch} {s : State} (hup : crownUp s = true) (hhold : (s.ch c).hold = false) : crownLeads c s = true := by
  simp [crownLeads, hup, hhold]

/-! ### Trips of a group (R193) -/

/-- The group's running channels stopped, as a trip of channel `c` orders it. -/
def groupStopped (c : Ch) (s : State) : State :=
  s.eachCh fun x d => if bit (s.rd Reg.GridCfg.GROUP (cI c)) d.val && pgIsRunning d x && !isStandby x then sendOrder d false (settle d (squallRequest d 1 x)) else x

/-- Member `x` taken out by a trip of element `e` of channel `c`. -/
def memberTripped (c : Ch) (e : Elem) (s : State) (x : Ch) : State :=
  let w := enterWait x (if x = c then elemIx e + 1 else lowestCause (s.grid x).expired) s
  settle x (((w.wr Reg.GridStat.TRIP_TIME (cI x) 0 w.time).count Reg.GridStat.TRIP_CNT (cI x)).setGrid x fun g => { g with expired := 0 })

theorem gridTripEff_of_expired {c : Ch} {e : Elem} {s : State} (hlead : crownLeads c s = true) (hon : gridOn c s = true)
    (hexpired : bit (s.grid c).expired (elemIx e) = true) :
    gridTripEff c e s = mpptHoldAll ((gridMembers c (groupStopped c s)).foldl (memberTripped c e) (groupStopped c s)) := by
  have hacts : (crownLeads c s && gridOn c s && bit (s.grid c).expired (elemIx e)) = true := by simp [hlead, hon, hexpired]
  exact if_pos hacts

/-! ### Reconnection of a group (R195) -/

/-- Channel `x` has waited out its reconnection delay with no trip standing, and its PG is in state `pg`. -/
def WaitedOut (pg : Nat) (x : Ch) (s : State) : Prop :=
  gridState x s = gsWait ∧ (s.grid x).due = true ∧ (s.grid x).expired = 0 ∧ s.rd Reg.PgStat.STATE (cI x) = pg ∧ crownLeads x s = true

/-- The members whose PG a reconnection has to start. -/
def membersStopped (c : Ch) (s : State) : List Ch := (gridMembers c s).filter fun x => s.rd Reg.PgStat.STATE (cI x) == pgStopped

/-- The reconnection has been asked for, or may follow by itself (R196). -/
def mayReconnect (c : Ch) (s : State) : Bool :=
  (gridMembers c s).any (fun x => (s.grid x).told)
    || (membersStopped c s).all fun x => s.rdB Reg.GridCfg.AUTO_RECON (cI x) && s.rd Reg.GridStat.TRIP_CAUSE (cI x) != 13

/-- The reconnection itself: the stopped members start, and unless one is refused every member enters RAMP. -/
def reconnected (c : Ch) (s : State) : State :=
  let r := startMembers (membersStopped c s) s
  if r.1 then reconFail (gridMembers c s) (unstart r.2.1 r.2.2) else mpptHoldAll ((gridMembers c s).foldl (fun s x => enterRamp x s) r.2.2)

/-- Where all members have waited out and none is halted, the group reconnects. -/
theorem reconnectGroup_of_due {c : Ch} {pg : Nat} {s : State} (hon : gridOn c s = true) (hwaited : ∀ x ∈ gridMembers c s, WaitedOut pg x s) (hpg : pg ≠ pgHalted)
    (hmay : mayReconnect c s = true) (howner : (isStandby s && !(membersStopped c s).isEmpty) = false) : reconnectGroup c s = reconnected c s := by
  have hdue : ((gridMembers c s).all fun x => gridState x s == gsWait && (s.grid x).due && (s.grid x).expired == 0
      && s.rd Reg.PgStat.STATE (cI x) != pgHalted) = true := by
    refine List.all_eq_true.mpr fun x hx => ?_
    obtain ⟨hstate, hdue, hexpired, hpgState, _⟩ := hwaited x hx
    simp [hstate, hdue, hexpired, hpgState, hpg]
  have hlead : ((gridMembers c s).all fun x => crownLeads x s) = true := by
    refine List.all_eq_true.mpr fun x hx => ?_
    obtain ⟨_, _, _, _, hlead⟩ := hwaited x hx
    exact hlead
  unfold membersStopped at howner
  unfold mayReconnect membersStopped at hmay
  refine if_neg ?_
  simp only [hon, hdue, hmay, howner, hlead]
  decide

theorem membersStopped_of_running {c : Ch} {s : State} (hwaited : ∀ x ∈ gridMembers c s, WaitedOut pgRunning x s) : membersStopped c s = [] := by
  refine List.filter_eq_nil_iff.mpr fun x hx => ?_
  obtain ⟨_, _, _, hrunning, _⟩ := hwaited x hx
  rw [hrunning]
  decide

theorem membersStopped_of_stopped {c : Ch} {s : State} (hwaited : ∀ x ∈ gridMembers c s, WaitedOut pgStopped x s) : membersStopped c s = gridMembers c s := by
  refine List.filter_eq_self.mpr fun x hx => ?_
  obtain ⟨_, _, _, hstopped, _⟩ := hwaited x hx
  exact beq_iff_eq.mpr hstopped

theorem reconnectGroup_of_running {c : Ch} {s : State} (hon : gridOn c s = true) (hwaited : ∀ x ∈ gridMembers c s, WaitedOut pgRunning x s) :
    reconnectGroup c s = mpptHoldAll ((gridMembers c s).foldl (fun s x => enterRamp x s) s) := by
  have hnone := membersStopped_of_running hwaited
  rw [reconnectGroup_of_due hon hwaited (by decide) (by simp [mayReconnect, hnone]) (by simp [hnone]), reconnected, hnone]
  rfl

theorem reconnectGroup_of_stopped {c : Ch} {s : State} (hon : gridOn c s = true) (howner : isStandby s = false)
    (hwaited : ∀ x ∈ gridMembers c s, WaitedOut pgStopped x s) (htold : ((gridMembers c s).any fun x => (s.grid x).told) = true) :
    reconnectGroup c s =
      let r := startMembers (gridMembers c s) s
      if r.1 then reconFail (gridMembers c s) (unstart r.2.1 r.2.2) else mpptHoldAll ((gridMembers c s).foldl (fun s x => enterRamp x s) r.2.2) := by
  rw [reconnectGroup_of_due hon hwaited (by decide) (by simp [mayReconnect, htold]) (by simp [howner]), reconnected, membersStopped_of_stopped hwaited]

theorem enterRamp_ready (c : Ch) (s : State) : (enterRamp c s).rd Reg.GridStat.READY (cI c) = 0 := by
  simp [enterRamp]

theorem enterRamp_gridState (c : Ch) (s : State) : gridState c (enterRamp c s) = gsRamp := by
  have hkey : Reg.GridStat.READY.key 0 (cI c) 0 ≠ Reg.GridStat.STATE.key 0 (cI c) 0 := Fld.key_ne_of_pos_ne rfl (by decide)
  calc gridState c (enterRamp c s)
    _ = ((setGridState c gsRamp s).wr Reg.GridStat.READY (cI c) 0 0).rd Reg.GridStat.STATE (cI c) := rfl
    _ = (setGridState c gsRamp s).rd Reg.GridStat.STATE (cI c) := State.rd_wr_other _ _ hkey
    _ = gsRamp := State.rd_wr s Reg.GridStat.STATE (cI c) 0 gsRamp

/-! ### A step of MPPT (R201) -/

/-- The power of the step that ends now. -/
def stepPower (c : Ch) (s : State) : Nat := mpptPower (netEnergy c s - (s.mppt c).energy) (s.rd Reg.MpptCfg.STEP_MS (cI c))

/-- Its power stands in P_LAST. -/
def stepMeasured (c : Ch) (s : State) : State := s.wr Reg.MpptStat.P_LAST (cI c) 0 (stepPower c s)

/-- State, direction and move that the power calls for. -/
def stepMove (c : Ch) (s : State) : Nat × Bool × Int := mpptMove c (stepPower c s) (stepMeasured c s)

/-- The step judged, its reference still to move. -/
def stepJudged (c : Ch) (s : State) : State :=
  setMpptState c (stepMove c s).1 ((stepMeasured c s).setMppt c fun m => { m with energy := netEnergy c s, pPrev := some (stepPower c s), up := (stepMove c s).2.1 })

theorem mpptStepEff_of_track {c : Ch} {s : State} (hlead : crownLeads c s = true) (hheld : mpptHoldCheck c s = s) (htrack : mpptState c s = mpTrack) :
    mpptStepEff c s =
      sweepStart c (setVref c ((stepJudged c s).rdS Reg.MpptStat.VREF (cI c) + (stepMove c s).2.2 * (stepJudged c s).rdS Reg.MpptCfg.DV (cI c)) (stepJudged c s)) := by
  have hmoves : ¬(mpTrack = mpOff ∨ mpTrack = mpSweep) := by decide
  have hfree : mpTrack ≠ mpHold := by decide
  simp only [mpptStepEff, hlead, hheld, htrack, if_neg hmoves, if_neg hfree]
  rfl

/-! ### Sweeps (R202) -/

theorem mpptHoldCheck_of_free {c : Ch} {s : State} (hfrozen : mpptFrozen c s = false) (hstate : mpptState c s ≠ mpHold) : mpptHoldCheck c s = s := by
  simp [mpptHoldCheck, hfrozen, hstate]

theorem sweepStart_of_due {c : Ch} {s : State} (hdue : (s.mppt c).due = true) (htrack : mpptState c s = mpTrack) (hsweeps : s.rd Reg.MpptCfg.SWEEP_MIN (cI c) ≠ 0) :
    sweepStart c s = setVref c (s.rdS Reg.MpptCfg.VMAX (cI c)) (setMpptState c mpSweep (s.setMppt c fun m =>
      { m with before := s.rdS Reg.MpptStat.VREF (cI c), sweepStep := 0, best := none, energy := netEnergy c s, due := false })) := by
  have hstarts : ((s.mppt c).due && mpptState c s == mpTrack) = true := by simp [hdue, htrack]
  exact (if_pos hstarts).trans (if_neg hsweeps)

@[simp] theorem netEnergy_setMppt (c : Ch) (f : MpptSt → MpptSt) (s : State) : netEnergy c (s.setMppt c f) = netEnergy c s := by
  simp [netEnergy, State.mf, State.setMppt]

@[simp] theorem crownLeads_setMppt (c : Ch) (f : MpptSt → MpptSt) (s : State) : crownLeads c (s.setMppt c f) = crownLeads c s := by
  simp [crownLeads, crownUp, State.setMppt]

theorem mpptSweepEff_of_track {c : Ch} {s : State} (hlead : crownLeads c s = true) (hfrozen : mpptFrozen c s = false) (htrack : mpptState c s = mpTrack)
    (hsweeps : s.rd Reg.MpptCfg.SWEEP_MIN (cI c) ≠ 0) :
    mpptSweepEff c s = setVref c (s.rdS Reg.MpptCfg.VMAX (cI c)) (setMpptState c mpSweep ((s.setMppt c fun m => { m with due := true }).setMppt c fun m =>
      { m with before := s.rdS Reg.MpptStat.VREF (cI c), sweepStep := 0, best := none, energy := netEnergy c s, due := false })) := by
  let a := s.setMppt c fun m => { m with due := true }
  have hfalls : ¬(s.rd Reg.MpptCfg.SWEEP_MIN (cI c) = 0 ∨ mpptState c s = mpOff ∨ mpptState c s = mpSweep) := by
    rw [htrack]
    simp [hsweeps, mpTrack, mpOff, mpSweep]
  have hleads : crownLeads c a = true := (crownLeads_setMppt ..).trans hlead
  have htracks : mpptState c a = mpTrack := htrack
  have hheld : mpptHoldCheck c a = a := mpptHoldCheck_of_free hfrozen (by rw [htracks]; decide)
  have hdue : (a.mppt c).due = true := by simp [a]
  have henergy : netEnergy c a = netEnergy c s := netEnergy_setMppt ..
  calc mpptSweepEff c s
    _ = sweepStart c (mpptHoldCheck c a) := (if_neg hfalls).trans (if_pos hleads)
    _ = sweepStart c a := by rw [hheld]
    _ = _ := by rw [sweepStart_of_due hdue htracks hsweeps, henergy]; rfl

/-- An encoded number fits its width. -/
theorem enc_lt (w : Nat) (x : Int) : enc w x < 2 ^ w := by
  have hpos : (0 : Int) < ((2 ^ w : Nat) : Int) := by exact_mod_cast Nat.two_pow_pos w
  have hnonneg := Int.emod_nonneg x hpos.ne'
  have hlt := Int.emod_lt_of_pos x hpos
  unfold enc
  omega

/-- The power over the dwell that ends now. -/
def dwellPower (c : Ch) (s : State) : Nat := mpptPower (netEnergy c s - (s.mppt c).energy) (s.rd Reg.MpptCfg.SWEEP_MS (cI c))

/-- The best step so far, with the one that ends now: its power and its reference. -/
def dwellBest (c : Ch) (s : State) : Nat × Int :=
  match (s.mppt c).best with
  | some b => if b.1 < dwellPower c s then (dwellPower c s, s.rdS Reg.MpptStat.VREF (cI c)) else b
  | none => (dwellPower c s, s.rdS Reg.MpptStat.VREF (cI c))

/-- The step measured and counted. -/
def dwellMeasured (c : Ch) (s : State) : State :=
  (s.setMppt c fun m => { m with energy := netEnergy c s, best := some (dwellBest c s), sweepStep := (s.mppt c).sweepStep + 1 }).wr
    Reg.MpptStat.P_LAST (cI c) 0 (dwellPower c s)

/-- The sweep finished in TRACK, its reference still to move to V_BEST. -/
def sweepFinished (c : Ch) (s : State) : State :=
  (setMpptState c mpTrack (((dwellMeasured c s).wrS Reg.MpptStat.V_BEST (cI c) 0 (dwellBest c s).2).countMod Reg.MpptStat.SWEEP_CNT (cI c))).setMppt c fun m => { m with pPrev := none }

theorem dwellMeasured_sweepStep (c : Ch) (s : State) : ((dwellMeasured c s).mppt c).sweepStep = (s.mppt c).sweepStep + 1 := by
  have hmppt : (dwellMeasured c s).mppt c =
      (s.setMppt c fun m => { m with energy := netEnergy c s, best := some (dwellBest c s), sweepStep := (s.mppt c).sweepStep + 1 }).mppt c := rfl
  rw [hmppt, State.mppt_setMppt_same]

theorem dwellMeasured_pLast (c : Ch) (s : State) : (dwellMeasured c s).rd Reg.MpptStat.P_LAST (cI c) = dwellPower c s % 2 ^ Reg.MpptStat.P_LAST.w :=
  State.rd_wr ..

/-- Measuring a step writes the status object and leaves the number of steps in the configuration. -/
theorem dwellMeasured_sweepN (c : Ch) (s : State) : (dwellMeasured c s).rd Reg.MpptCfg.SWEEP_N (cI c) = s.rd Reg.MpptCfg.SWEEP_N (cI c) := by
  have hobject : Reg.MpptStat.P_LAST.base + cI c ≠ Reg.MpptCfg.SWEEP_N.base + cI c := by simp [Reg.MpptStat.P_LAST, Reg.MpptCfg.SWEEP_N]
  exact State.rd_wr_other _ _ (Fld.key_ne_of_object_ne hobject (by decide) (by decide))

theorem sweepFinished_mpptState (c : Ch) (s : State) : mpptState c (sweepFinished c s) = mpTrack :=
  State.rd_wr _ Reg.MpptStat.STATE (cI c) 0 mpTrack

theorem sweepFinished_vBest (c : Ch) (s : State) : (sweepFinished c s).rd Reg.MpptStat.V_BEST (cI c) = enc Reg.MpptStat.V_BEST.w (dwellBest c s).2 := by
  have hstate : Reg.MpptStat.STATE.key 0 (cI c) 0 ≠ Reg.MpptStat.V_BEST.key 0 (cI c) 0 := Fld.key_ne_of_pos_ne rfl (by decide)
  have hcount : Reg.MpptStat.SWEEP_CNT.key 0 (cI c) 0 ≠ Reg.MpptStat.V_BEST.key 0 (cI c) 0 := Fld.key_ne_of_pos_ne rfl (by decide)
  let v := (dwellMeasured c s).wrS Reg.MpptStat.V_BEST (cI c) 0 (dwellBest c s).2
  calc (sweepFinished c s).rd Reg.MpptStat.V_BEST (cI c)
    _ = (v.countMod Reg.MpptStat.SWEEP_CNT (cI c)).rd Reg.MpptStat.V_BEST (cI c) := State.rd_wr_other _ _ hstate
    _ = v.rd Reg.MpptStat.V_BEST (cI c) := State.rd_wr_other _ _ hcount
    _ = enc Reg.MpptStat.V_BEST.w (dwellBest c s).2 % 2 ^ Reg.MpptStat.V_BEST.w := State.rd_wr ..
    _ = enc Reg.MpptStat.V_BEST.w (dwellBest c s).2 := Nat.mod_eq_of_lt (enc_lt ..)

section
variable {c : Ch} {s : State} (hlead : crownLeads c s = true) (hheld : mpptHoldCheck c s = s) (hsweep : mpptState c s = mpSweep)
include hlead hheld hsweep

theorem sweepDwellEff_of_sweep : sweepDwellEff c s =
    if (s.mppt c).sweepStep + 1 < (dwellMeasured c s).rd Reg.MpptCfg.SWEEP_N (cI c) then
      setVref c (sweepRef c ((s.mppt c).sweepStep + 1) (dwellMeasured c s)) (dwellMeasured c s)
    else setVref c (dwellBest c s).2 (sweepFinished c s) := by
  simp only [sweepDwellEff, hlead, hheld, hsweep]
  rfl

theorem sweepDwellEff_of_more (hmore : (s.mppt c).sweepStep + 1 < s.rd Reg.MpptCfg.SWEEP_N (cI c)) :
    sweepDwellEff c s = setVref c (sweepRef c ((s.mppt c).sweepStep + 1) (dwellMeasured c s)) (dwellMeasured c s) := by
  rw [sweepDwellEff_of_sweep hlead hheld hsweep, dwellMeasured_sweepN, if_pos hmore]

theorem sweepDwellEff_of_last (hlast : s.rd Reg.MpptCfg.SWEEP_N (cI c) ≤ (s.mppt c).sweepStep + 1) :
    sweepDwellEff c s = setVref c (dwellBest c s).2 (sweepFinished c s) := by
  rw [sweepDwellEff_of_sweep hlead hheld hsweep, dwellMeasured_sweepN, if_neg (Nat.not_lt.mpr hlast)]

end

end Sys2Proof.Machine

namespace Sys2Proof.GridFunctions

open Sys2Proof.Machine Sys2Proof.Safety

/-- Settles O20: a trip acts on its expired element, a reconnection on members that have all waited out, with those to start either none or every one, and each row of
MPPT takes the branch that its state, the hold and the count of sweep steps select. -/
theorem gridAndMppt : Obligations.GridAndMppt := by
  refine ⟨fun s => ?evaluation, fun c e s hup hhold hon hexpired => ?trip, fun c s hon hwaited => ?runningReconnect,
    fun c s hon howner hwaited htold => ?stoppedReconnect, fun c s => ⟨enterRamp_gridState c s, enterRamp_ready c s⟩,
    fun c s hup hhold hheld htrack => ?step, fun c s hup hhold _ hfrozen htrack hsweeps => ?sweepBegins,
    fun c s hup hhold hheld hsweep hmore => ?nextStep, fun c s hup hhold hheld hsweep hlast => ?lastStep⟩
  case evaluation => exact runs_of_fin rfl rfl
  case trip => exact runs_of_fin rfl (gridTripEff_of_expired (crownLeads_of_up hup hhold) hon hexpired)
  case runningReconnect => exact runs_of_fin rfl (reconnectGroup_of_running hon hwaited)
  case stoppedReconnect => exact runs_of_fin rfl (reconnectGroup_of_stopped hon howner hwaited htold)
  case step => exact runs_of_fin rfl (congrArg (settle c) (mpptStepEff_of_track (crownLeads_of_up hup hhold) hheld htrack))
  case sweepBegins => exact runs_of_fin rfl (congrArg (settle c) (mpptSweepEff_of_track (crownLeads_of_up hup hhold) hfrozen htrack hsweeps))
  case nextStep =>
    have hruns := congrArg (settle c) (sweepDwellEff_of_more (crownLeads_of_up hup hhold) hheld hsweep hmore)
    exact ⟨_, dwellMeasured c s, runs_of_fin rfl hruns, rfl, dwellMeasured_sweepStep c s, dwellMeasured_pLast c s⟩
  case lastStep =>
    have hruns := congrArg (settle c) (sweepDwellEff_of_last (crownLeads_of_up hup hhold) hheld hsweep hlast)
    exact ⟨sweepFinished c s, runs_of_fin rfl hruns, sweepFinished_mpptState c s, sweepFinished_vBest c s⟩

end Sys2Proof.GridFunctions

/-! SUPPORT. What the end of a cycle, a commit record, an aggregate and a stored billing record change of the metering of a channel, and the statements of
10_metering.md: O22 and O23. -/

namespace Sys2Proof.Machine

/-! ### Metering after writes of registers and answers -/

@[simp] theorem State.mf_wr (s : State) (f : Fld) (n i v : Nat) (c : Ch) : (s.wr f n i v).mf c = s.mf c := rfl

@[simp] theorem completeW_mf (w : Waiter) (d : Done) (s : State) (c : Ch) : (completeW w d s).mf c = s.mf c :=
  congrArg Chan.mf (completeW_ch w d s c)

@[simp] theorem completeW_bills (w : Waiter) (d : Done) (s : State) : (completeW w d s).bills = s.bills := by
  rw [(completeW_spec w d s).1]

/-- A saturated number fits its width. -/
theorem satU_lt (w : Nat) (x : Int) : satU w x < 2 ^ w := by
  have hpos : (0 : Int) < ((2 ^ w : Nat) : Int) := by exact_mod_cast Nat.two_pow_pos w
  have hcast : ((2 ^ w : Nat) : Int) = 2 ^ w := by push_cast; rfl
  unfold satU clampI
  omega

/-! ### Changes that stay inside the metering of one channel and one of its objects -/

/-- From `s` to `t` the metering state of channel `c` becomes `m` and that of the others stays; so do all registers outside the channel's object of that base, which is
0x2002 for the quantities of a cycle and 0x2005 for the aggregates. -/
structure MeterChange (c : Ch) (base : Nat) (m : MfSt) (s t : State) : Prop where
  own : t.mf c = m
  others : ∀ d, d ≠ c → t.mf d = s.mf d
  regs : ∀ (g : Fld) (n i : Nat), g.base + n ≠ base + cI c → g.pos i < 65536 → t.rd g n i = s.rd g n i

/-- A change of registers of that object alone. -/
abbrev ObjectChange (c : Ch) (base : Nat) (s t : State) : Prop := MeterChange c base (s.mf c) s t

section
variable {c : Ch} {base : Nat} {m m' : MfSt} {s t u : State}

theorem MeterChange.refl (c : Ch) (base : Nat) (s : State) : ObjectChange c base s s := ⟨rfl, fun _ _ => rfl, fun _ _ _ _ _ => rfl⟩

theorem MeterChange.trans (hst : MeterChange c base m s t) (htu : MeterChange c base m' t u) : MeterChange c base m' s u :=
  ⟨htu.own, fun d hd => (htu.others d hd).trans (hst.others d hd), fun g n i hid hpos => (htu.regs g n i hid hpos).trans (hst.regs g n i hid hpos)⟩

/-- A change of registers after another change. -/
theorem MeterChange.object (hst : MeterChange c base m s t) (htu : ObjectChange c base t u) : MeterChange c base m s u :=
  hst.trans (by rw [← hst.own]; exact htu)

theorem MeterChange.setMf (hst : MeterChange c base m s t) (f : MfSt → MfSt) : MeterChange c base (f m) s (t.setMf c f) :=
  ⟨by rw [State.mf_setMf_same, hst.own], fun d hd => (State.mf_setMf_other t f (Ne.symm hd)).trans (hst.others d hd), hst.regs⟩

/-- Fields of an object of the meter stand in its first bytes. -/
theorem objectChange_wr {f : Fld} {i : Nat} (v : Nat) (hf : f.base = base ∧ f.pos 4 < 65536 := by decide) (hi : i < 4 := by decide) :
    ObjectChange c base s (s.wr f (cI c) i v) := by
  obtain ⟨hbase, hlast⟩ := hf
  have hstride : f.stride * i ≤ f.stride * 4 := Nat.mul_le_mul_left _ hi.le
  have hpos : f.pos i < 65536 := by unfold Fld.pos at hlast ⊢; omega
  exact ⟨rfl, fun _ _ => rfl, fun g n j hid hg => State.rd_wr_other s v (Fld.key_ne_of_object_ne (hbase ▸ hid.symm) hpos hg)⟩

theorem objectChange_drew : ObjectChange c base s s.drew := ⟨rfl, fun _ _ => rfl, fun _ _ _ _ _ => rfl⟩

theorem objectChange_range {f : State → Nat → State} (k : Nat) (hf : ∀ s i, i < k → ObjectChange c base s (f s i)) (s : State) :
    ObjectChange c base s ((List.range k).foldl f s) :=
  List.foldlRecOn (motive := ObjectChange c base s) (List.range k) f (.refl c base s) fun t hst i hi => hst.object (hf t i (List.mem_range.mp hi))

end

/-- Where each channel's part changes its own channel alone, and takes it from `P` to `Q`, the loop takes every channel from `P` to `Q`. -/
theorem eachCh_takes {P Q : Ch → State → Prop} {f : State → Ch → State} (hown : ∀ s c, P c s → Q c (f s c))
    (hothers : ∀ s c d, d ≠ c → P c s → (P d s → P d (f s c)) ∧ (Q d s → Q d (f s c))) {s : State} (hs : ∀ c, P c s) (c : Ch) : Q c (s.eachCh f) := by
  have key : ∀ (l : List Ch), l.Nodup → ∀ s : State, (∀ d ∈ l, P d s) → (∀ d ∉ l, Q d s) → Q c (l.foldl f s) := by
    intro l
    induction l with
    | nil => exact fun _ s _ hdone => hdone c List.not_mem_nil
    | cons a l ih =>
      intro hnodup s hwait hdone
      obtain ⟨hnew, hnodup⟩ := List.nodup_cons.mp hnodup
      have ha : P a s := hwait a List.mem_cons_self
      refine ih hnodup (f s a) (fun d hd => ?_) fun d hd => ?_
      · have hne : d ≠ a := fun h => hnew (h ▸ hd)
        exact (hothers s a d hne ha).1 (hwait d (List.mem_cons_of_mem a hd))
      · by_cases hne : d = a
        · exact hne ▸ hown s a ha
        · exact (hothers s a d hne ha).2 (hdone d fun h => (List.mem_cons.mp h).elim hne hd)
  exact key allCh (List.nodup_finRange 8) s (fun d _ => hs d) fun d hd => absurd (List.mem_finRange d) hd

/-- The RTC stands in no object of the meter. -/
theorem MeterChange.rtc {c : Ch} {m : MfSt} {s t : State} (h : MeterChange c 0x2005 m s t) : rtcNow t = rtcNow s := by
  have hobject : Reg.Rtc.RTC.base + 0 ≠ 0x2005 + cI c := by simp only [Reg.Rtc.RTC, cI]; omega
  exact h.regs Reg.Rtc.RTC 0 0 hobject (by decide)

/-- At a boundary of the RTC that no channel has taken, a loop whose part for a channel changes the metering and the aggregates of that channel, and brings about
`Q` for the RTC and the metering state that it finds, brings it about for every channel. -/
theorem eachCh_boundary {Q : Nat → MfSt → Ch → State → Prop} {taken : MfSt → Option Nat} {part : Ch → State → State}
    (hpart : ∀ c s, (∃ m, MeterChange c 0x2005 m s (part c s)) ∧ Q (rtcNow s) (s.mf c) c (part c s))
    (hkept : ∀ {rtc x c d m s t}, d ≠ c → MeterChange c 0x2005 m s t → Q rtc x d s → Q rtc x d t)
    {s : State} (hnew : ∀ c, taken (s.mf c) ≠ some (rtcNow s)) (c : Ch) :
    Q (rtcNow s) (s.mf c) c (s.eachCh fun s c => if taken (s.mf c) = some (rtcNow s) then s else part c s) := by
  have hstep : ∀ t d, t.mf d = s.mf d ∧ rtcNow t = rtcNow s → (if taken (t.mf d) = some (rtcNow t) then t else part d t) = part d t := by
    rintro t d ⟨hmf, hrtc⟩
    exact if_neg (by rw [hmf, hrtc]; exact hnew d)
  refine eachCh_takes (P := fun d t => t.mf d = s.mf d ∧ rtcNow t = rtcNow s) (Q := fun d t => Q (rtcNow s) (s.mf d) d t)
    (fun t d hp => ?own) (fun t d e hne hp => ?others) (fun d => ⟨rfl, rfl⟩) c
  all_goals
    obtain ⟨⟨m, hchange⟩, hq⟩ := hpart d t
    rw [hstep t d hp]
  case own =>
    obtain ⟨hmf, hrtc⟩ := hp
    rwa [hmf, hrtc] at hq
  case others =>
    rw [hchange.others e hne, hchange.rtc]
    exact ⟨id, hkept hne hchange⟩

/-! ### Aggregates (R216) -/

theorem objectChange_writePf {f : Fld} {base : Nat} (c : Ch) (ep es : List Int) (s : State) (hf : f.base = base ∧ f.pos 4 < 65536 := by decide) :
    ObjectChange c base s (writePf c f ep es s) := by
  refine objectChange_range 4 (fun s i hi => ?_) s
  have hdraws : ∀ p a : Int, ObjectChange c base s (pfOf p a s).2 := by
    intro p a
    unfold pfOf
    split
    · exact objectChange_drew
    · exact .refl c base s
  exact (hdraws _ _).object (objectChange_wr _ hf hi)

/-- The aggregate over 150 or 180 cycles starts again, whether it had members or not. -/
theorem close150_change (c : Ch) (s : State) : ∃ a : AggSum, a.n = 0 ∧ MeterChange c 0x2005 { s.mf c with agg150 := a } s (close150 c s) := by
  by_cases hempty : (s.mf c).agg150.n = 0
  · have hsame : close150 c s = s := if_pos hempty
    exact ⟨(s.mf c).agg150, hempty, hsame.symm ▸ .refl c 0x2005 s⟩
  · refine ⟨AggSum.zero, rfl, ?_⟩
    rw [close150, if_neg hempty]
    refine .setMf (m := s.mf c) ?_ fun m => { m with agg150 := AggSum.zero }
    refine .object ?_ (objectChange_wr (f := Reg.Aggr.FLAG) _)
    exact objectChange_range 3 (fun s i hi => objectChange_wr _ (by decide) (by omega)) s

/-- At a boundary of ten minutes the voltages are written, and then both aggregates in progress end. -/
theorem aggregate10Ch_writes (c : Ch) (s : State) : ∃ u, ObjectChange c 0x2005 s u ∧
    aggregate10Ch c s = close150 c (u.setMf c fun m => { m with agg10 := AggSum.zero, agg10At := some (rtcNow u) }) := by
  refine ⟨_, ?_, rfl⟩
  split
  · refine .object ?_ (objectChange_wr (f := Reg.Aggr.FLAG) _)
    exact objectChange_range 3 (fun s i hi => objectChange_wr _ (by decide) (by omega)) s
  · split
    · refine .object ?_ (objectChange_wr (f := Reg.Aggr.FLAG) _)
      exact objectChange_range 3 (fun s i hi => .object (objectChange_wr _ (by decide) (by omega)) objectChange_drew) s
    · exact .refl c 0x2005 s

/-- Both aggregates of the channel have ended at the boundary `rtc`, and its energy registers are those of `m`. -/
def Closed10Min (rtc : Nat) (m : MfSt) (c : Ch) (t : State) : Prop :=
  (t.mf c).agg10At = some rtc ∧ (t.mf c).agg10 = AggSum.zero ∧ (t.mf c).agg150.n = 0 ∧ (t.mf c).acc = m.acc

theorem aggregate10Ch_closes (c : Ch) (s : State) :
    (∃ m, MeterChange c 0x2005 m s (aggregate10Ch c s)) ∧ Closed10Min (rtcNow s) (s.mf c) c (aggregate10Ch c s) := by
  obtain ⟨u, hwritten, heq⟩ := aggregate10Ch_writes c s
  have hten := hwritten.setMf fun m => { m with agg10 := AggSum.zero, agg10At := some (rtcNow u) }
  obtain ⟨a, ha, hclosed⟩ := close150_change c (u.setMf c fun m => { m with agg10 := AggSum.zero, agg10At := some (rtcNow u) })
  rw [← heq, hten.own] at hclosed
  refine ⟨⟨_, hten.trans hclosed⟩, ?_⟩
  rw [Closed10Min, hclosed.own, hwritten.rtc]
  exact ⟨rfl, rfl, ha, rfl⟩

theorem aggregate10Eff_of_boundary {s : State} (hboundary : s.rd Reg.Rtc.RTC % (600 * 32768) = 0) (hnew : ∀ c, (s.mf c).agg10At ≠ some (s.rd Reg.Rtc.RTC))
    (c : Ch) : Closed10Min (s.rd Reg.Rtc.RTC) (s.mf c) c (aggregate10Eff s) := by
  have hloop : aggregate10Eff s = s.eachCh fun s c => if (s.mf c).agg10At = some (rtcNow s) then s else aggregate10Ch c s := if_pos hboundary
  rw [hloop]
  refine eachCh_boundary (taken := MfSt.agg10At) aggregate10Ch_closes (fun hne hchange => ?_) hnew c
  rw [Closed10Min, Closed10Min, hchange.others _ hne]
  exact id

/-- The channel's sums of whole cycles have ended at the boundary `rtc`, F_10S is their mean where `m` had any, and its energy registers are those of `m`. -/
def Closed10Sec (rtc : Nat) (m : MfSt) (c : Ch) (t : State) : Prop :=
  (t.mf c).f10At = some rtc ∧ (t.mf c).f10Cycles = 0 ∧ (0 < m.f10Cycles → t.rd Reg.Aggr.F_10S_MHZ (cI c) = freqMean m.f10Cycles m.f10Len) ∧ (t.mf c).acc = m.acc

theorem frequency10Ch_writes (c : Ch) (s : State) : ∃ u, ObjectChange c 0x2005 s u ∧
    (0 < (s.mf c).f10Cycles → u.rd Reg.Aggr.F_10S_MHZ (cI c) = freqMean (s.mf c).f10Cycles (s.mf c).f10Len) ∧
    frequency10Ch c s = u.setMf c fun m => { m with f10Cycles := 0, f10Len := 0, f10At := some (rtcNow u) } := by
  refine ⟨_, ?change, ?mean, rfl⟩
  case change =>
    split
    · exact objectChange_wr _
    · split
      · exact .object (objectChange_wr _) objectChange_drew
      · exact .refl c 0x2005 s
  case mean =>
    intro hcycles
    rw [if_pos hcycles, State.rd_wr]
    exact Nat.mod_eq_of_lt (satU_lt 32 _)

theorem frequency10Ch_closes (c : Ch) (s : State) :
    (∃ m, MeterChange c 0x2005 m s (frequency10Ch c s)) ∧ Closed10Sec (rtcNow s) (s.mf c) c (frequency10Ch c s) := by
  obtain ⟨u, hwritten, hmean, heq⟩ := frequency10Ch_writes c s
  have hchange := hwritten.setMf fun m => { m with f10Cycles := 0, f10Len := 0, f10At := some (rtcNow u) }
  rw [← heq] at hchange
  refine ⟨⟨_, hchange⟩, ?_⟩
  rw [Closed10Sec, hchange.own, hwritten.rtc]
  exact ⟨rfl, rfl, fun hcycles => heq ▸ hmean hcycles, rfl⟩

theorem frequency10Eff_of_boundary {s : State} (hboundary : s.rd Reg.Rtc.RTC % (10 * 32768) = 0) (hnew : ∀ c, (s.mf c).f10At ≠ some (s.rd Reg.Rtc.RTC))
    (c : Ch) : Closed10Sec (s.rd Reg.Rtc.RTC) (s.mf c) c (frequency10Eff s) := by
  have hloop : frequency10Eff s = s.eachCh fun s c => if (s.mf c).f10At = some (rtcNow s) then s else frequency10Ch c s := if_pos hboundary
  rw [hloop]
  refine eachCh_boundary (taken := MfSt.f10At) frequency10Ch_closes (fun {rtc x c d m s t} hne hchange => ?_) hnew c
  have hobject : Reg.Aggr.F_10S_MHZ.base + cI d ≠ 0x2005 + cI c := by
    have hval : d.val ≠ c.val := Fin.val_ne_of_ne hne
    simp only [Reg.Aggr.F_10S_MHZ, cI]
    omega
  rw [Closed10Sec, Closed10Sec, hchange.others d hne, hchange.regs _ _ _ hobject (by decide)]
  exact id

/-! ### The end of a cycle (R215) -/

/-- The FIFO of cycles and its count of drops stay. -/
def FifoKept (c : Ch) (s t : State) : Prop :=
  (t.mf c).fifo = (s.mf c).fifo ∧ t.rd Reg.MeterStat.FIFO_DROP_CNT (cI c) = s.rd Reg.MeterStat.FIFO_DROP_CNT (cI c)

theorem FifoKept.trans {c : Ch} {s t u : State} (hst : FifoKept c s t) (htu : FifoKept c t u) : FifoKept c s u :=
  ⟨htu.1.trans hst.1, htu.2.trans hst.2⟩

/-- A change of metering in an object other than that of FIFO_DROP_CNT keeps the FIFO, if the new metering state has the old one. -/
theorem MeterChange.fifoKept {c : Ch} {base : Nat} {m : MfSt} {s t : State} (h : MeterChange c base m s t) (hfifo : m.fifo = (s.mf c).fifo)
    (hbase : 0x2004 ≠ base) : FifoKept c s t := by
  refine ⟨by rw [h.own, hfifo], h.regs _ _ _ ?_ (by decide)⟩
  simpa [Reg.MeterStat.FIFO_DROP_CNT] using hbase

/-- A cycle's entry meets the entries held. -/
def fifoPut (c : Ch) (x : CycleRec) (held : List CycleRec) (s : State) : State :=
  if held.length < 80 then s.setMf c fun m => { m with fifo := m.fifo ++ [x] } else s.count Reg.MeterStat.FIFO_DROP_CNT (cI c)

/-- Cycles of a window (R216). -/
def windowLength (c : Ch) (s : State) : Nat := if s.rdB Reg.MeterCfg.F_NOM (cI c) then 12 else 10

/-- A window with all its cycles ends. -/
def windowChecked (c : Ch) (s : State) : State := if windowLength c s ≤ (s.mf c).winCycles then closeWindow c s else s

theorem writeAngle_change {f : Fld} {base : Nat} {i : Nat} (c : Ch) (p q : Option Nat) (s : State) (hf : f.base = base ∧ f.pos 4 < 65536 := by decide)
    (hi : i < 4 := by decide) : ObjectChange c base s (writeAngle c f i p q s) := by
  unfold writeAngle
  split
  · exact objectChange_wr _ hf hi
  · exact .object (objectChange_wr _ hf hi) objectChange_drew

theorem writeAngles_change (c : Ch) (len : Rat) (f : Nat) (wave : List (List Int)) (s : State) : ObjectChange c 0x2002 s (writeAngles c len f wave s) := by
  unfold writeAngles
  refine .object (.object ?_ (writeAngle_change ..)) (writeAngle_change ..)
  exact objectChange_range 3 (fun s i hi => writeAngle_change _ _ _ _ (by decide) (by omega)) s

/-- A window ends: its voltages and power factors are written, its sums join the aggregates, and the fifteenth closes the longer one. -/
theorem closeWindow_writes (c : Ch) (s : State) : ∃ u g, ObjectChange c 0x2005 s u ∧ (∀ m, (g m).fifo = m.fifo) ∧
    closeWindow c s = if 15 ≤ ((u.setMf c g).mf c).agg150.n then close150 c (u.setMf c g) else u.setMf c g := by
  refine ⟨_, _, ?written, ?kept, rfl⟩
  case kept => exact fun _ => rfl
  case written =>
    refine .object (.object (.object ?_ (objectChange_writePf c _ _ _)) (objectChange_wr _)) (objectChange_wr (f := Reg.Aggr.FLAG) _)
    exact objectChange_range 3 (fun s i hi => objectChange_wr _ (by decide) (by omega)) s

theorem closeWindow_fifoKept (c : Ch) (s : State) : FifoKept c s (closeWindow c s) := by
  obtain ⟨u, g, hwritten, hfifo, heq⟩ := closeWindow_writes c s
  have hsums := hwritten.setMf g
  rw [heq]
  split
  · obtain ⟨a, _, hclosed⟩ := close150_change c (u.setMf c g)
    rw [hsums.own] at hclosed
    exact (hsums.trans hclosed).fifoKept (hfifo _) (by decide)
  · exact hsums.fifoKept (hfifo _) (by decide)

theorem windowChecked_fifoKept (c : Ch) (s : State) : FifoKept c s (windowChecked c s) := by
  unfold windowChecked
  split
  · exact closeWindow_fifoKept c s
  · exact ⟨rfl, rfl⟩

theorem setMf_fifoKept {c : Ch} {g : MfSt → MfSt} (hg : ∀ m, (g m).fifo = m.fifo) (s : State) : FifoKept c s (s.setMf c g) :=
  ⟨by rw [State.mf_setMf_same, hg], rfl⟩

/-- A cycle ends: its quantities are written, its entry meets the FIFO, and what follows takes up its sums. -/
theorem cycleEnd_puts (c : Ch) (len : Rat) (f endTime : Nat) (s : State) :
    ∃ u x g, ObjectChange c 0x2002 s u ∧ x.f = f ∧ x.len = len ∧ (∀ m, (g m).fifo = m.fifo) ∧
      cycleEnd c len f endTime s = windowChecked c ((fifoPut c x (s.mf c).fifo u).setMf c g) := by
  refine ⟨_, ⟨f, len, _, _⟩, _, ?written, rfl, rfl, ?kept, rfl⟩
  case kept => exact fun _ => rfl
  case written =>
    refine .object (.object (.object ?measured (objectChange_wr (f := Reg.Cycle.FLAGGED) _)) (objectChange_wr (f := Reg.Cycle.CYCLE_CNT) _)) (objectChange_wr _)
    refine .object (.object ?_ (objectChange_writePf c _ _ _)) (writeAngles_change ..)
    refine .object ?voltages (objectChange_range 4 (fun s i hi => ?power) _)
    case voltages =>
      refine .object (objectChange_range 3 (fun s i hi => ?_) s) (objectChange_wr (f := Reg.Cycle.F_MHZ) _)
      have hi : i < 4 := by omega
      exact .object (.object (objectChange_wr _ (by decide) hi) (objectChange_wr _ (by decide) hi)) (objectChange_wr _ (by decide) hi)
    case power =>
      exact .object (.object (objectChange_wr (f := Reg.Cycle.P_W) _ (by decide) hi) (objectChange_wr (f := Reg.Cycle.Q_VAR) _ (by decide) hi))
        (objectChange_wr (f := Reg.Cycle.S_VA) _ (by decide) hi)

theorem fifoPut_of_room {held : List CycleRec} (hroom : held.length < 80) (c : Ch) (x : CycleRec) (s : State) :
    fifoPut c x held s = s.setMf c fun m => { m with fifo := m.fifo ++ [x] } := if_pos hroom

theorem fifoPut_of_full {held : List CycleRec} (hfull : 80 ≤ held.length) (c : Ch) (x : CycleRec) (s : State) :
    fifoPut c x held s = s.count Reg.MeterStat.FIFO_DROP_CNT (cI c) := if_neg (Nat.not_lt.mpr hfull)

/-- Counting up and staying at the largest value. -/
theorem satInc_eq_min (w x : Nat) : satInc w x = min (x + 1) (2 ^ w - 1) := by
  unfold satInc
  split <;> omega

/-! ### Commit records (R221) -/

/-- What a record completes leaves the records that wait, the slots and SEQ. -/
def RecordsKept (c : Ch) (s t : State) : Prop :=
  (t.mf c).recQ = (s.mf c).recQ ∧ (t.mf c).slotA = (s.mf c).slotA ∧ (t.mf c).slotB = (s.mf c).slotB ∧
    t.rd Reg.MeterStat.SEQ (cI c) = s.rd Reg.MeterStat.SEQ (cI c)

theorem RecordsKept.trans {c : Ch} {s t u : State} (hst : RecordsKept c s t) (htu : RecordsKept c t u) : RecordsKept c s u := by
  obtain ⟨hq, ha, hb, hseq⟩ := hst
  obtain ⟨hq', ha', hb', hseq'⟩ := htu
  exact ⟨hq'.trans hq, ha'.trans ha, hb'.trans hb, hseq'.trans hseq⟩

/-- A write of another field of the status object. -/
theorem recordsKept_wr {c : Ch} {s : State} {f : Fld} (v : Nat) (hf : f.base = Reg.MeterStat.SEQ.base ∧ f.pos 0 ≠ Reg.MeterStat.SEQ.pos 0 := by decide) :
    RecordsKept c s (s.wr f (cI c) 0 v) := by
  obtain ⟨hbase, hpos⟩ := hf
  exact ⟨rfl, rfl, rfl, State.rd_wr_other s v (Fld.key_ne_of_pos_ne hbase hpos)⟩

/-- The objects with the books of the Crown stand above those of channels and billing. -/
theorem booksFree_of_object {g : Fld} {n i : Nat} (hid : g.base + n < 0x3000) (hpos : g.pos i < 65536) : BooksFree g n i := by
  have hkey : ∀ (f : Fld) (m : Nat), 0x3000 ≤ f.base ∧ f.pos 0 < 65536 → f.key 0 m 0 ≠ g.key 0 n i := by
    rintro f m ⟨hbase, hf⟩
    exact Fld.key_ne_of_object_ne (by omega) hf hpos
  exact ⟨fun p => hkey _ _ (by decide), hkey _ _ (by decide), hkey _ _ (by decide), hkey _ _ (by decide), hkey _ _ (by decide)⟩

theorem recordsKept_completeW (c : Ch) (w : Waiter) (d : Done) (s : State) : RecordsKept c s (completeW w d s) := by
  have hseq : BooksFree Reg.MeterStat.SEQ (cI c) 0 := booksFree_of_object (by simp only [Reg.MeterStat.SEQ, cI]; omega) (by decide)
  rw [RecordsKept, completeW_mf, (completeW_spec w d s).2 _ _ _ hseq]
  exact ⟨rfl, rfl, rfl, rfl⟩

/-- A session moves on and leaves the records. -/
theorem recordsKept_setMf {c : Ch} {s : State} {g : MfSt → MfSt} (hg : ∀ m, (g m).recQ = m.recQ ∧ (g m).slotA = m.slotA ∧ (g m).slotB = m.slotB) :
    RecordsKept c s (s.setMf c g) := by
  obtain ⟨hq, ha, hb⟩ := hg (s.mf c)
  rw [RecordsKept, State.mf_setMf_same]
  exact ⟨hq, ha, hb, rfl⟩

theorem recPurpose_recordsKept (c : Ch) (r : MRec) (s : State) : RecordsKept c s (recPurpose c r s) := by
  unfold recPurpose
  dsimp only
  cases r.purpose with
  | mark => exact ⟨rfl, rfl, rfl, rfl⟩
  | clear w => exact recordsKept_completeW ..
  | sessionStart w id =>
    refine .trans (.trans ?_ (recordsKept_wr _)) (recordsKept_completeW ..)
    exact recordsKept_setMf fun _ => ⟨rfl, rfl, rfl⟩
  | sessionStop w =>
    dsimp only
    split
    · refine .trans ?_ (recordsKept_wr _)
      exact recordsKept_setMf fun _ => ⟨rfl, rfl, rfl⟩
    · exact ⟨rfl, rfl, rfl, rfl⟩

/-- The oldest waiting record `r` stands in the slot it goes to. -/
def slotTaken (c : Ch) (r : MRec) (rest : List MRec) (s : State) : State :=
  s.setMf c fun m => { m with
    recQ := rest, slotA := if (s.mf c).writesB then m.slotA else some r, slotB := if (s.mf c).writesB then some r else m.slotB,
    sess := if r.gap then m.sess.seeGap else m.sess }

/-- The events of a record that is complete (R221). -/
def commitRaised (c : Ch) (r : MRec) (s : State) : State :=
  let s := if s.rdB Reg.MeterCfg.COMMIT_EV (cI c) then s.raise 482 else s
  if r.gap then (s.wr Reg.MeterStat.GAP_SEEN (cI c) 0 1).raise 483 else s

theorem commitRaised_recordsKept (c : Ch) (r : MRec) (s : State) : RecordsKept c s (commitRaised c r s) := by
  unfold commitRaised
  extract_lets raised
  have hraised : RecordsKept c s raised := by
    dsimp only [raised]
    split <;> exact ⟨rfl, rfl, rfl, rfl⟩
  split
  · have hseen : RecordsKept c raised (raised.wr Reg.MeterStat.GAP_SEEN (cI c) 0 1) := recordsKept_wr 1
    exact hraised.trans hseen
  · exact hraised

/-- A record is complete in its slot; then SEQ and the mark's times read it, its events are raised, and what it completes goes on. -/
theorem meterCommitEff_of_waiting {c : Ch} {r : MRec} {rest : List MRec} {s : State} (hwait : (s.mf c).recQ = r :: rest) :
    meterCommitEff c s = recPurpose c r (commitRaised c r ((((slotTaken c r rest s).wr Reg.MeterStat.SEQ (cI c) 0 r.seq).wr
      Reg.MeterStat.LAST_MARK_TIME (cI c) 0 r.tb).wr Reg.MeterStat.LAST_MARK_RTC (cI c) 0 r.rtc)) := by
  unfold meterCommitEff
  rw [hwait]
  rfl

theorem meterCommitEff_recordsKept {c : Ch} {r : MRec} {rest : List MRec} {s : State} (hwait : (s.mf c).recQ = r :: rest) :
    RecordsKept c ((slotTaken c r rest s).wr Reg.MeterStat.SEQ (cI c) 0 r.seq) (meterCommitEff c s) := by
  rw [meterCommitEff_of_waiting hwait]
  refine .trans ?_ (recPurpose_recordsKept ..)
  refine .trans ?_ (commitRaised_recordsKept ..)
  exact (recordsKept_wr _).trans (recordsKept_wr _)

/-- The slot that does not hold the newest record takes `r`, and the other one stays. -/
theorem slotTaken_slots (c : Ch) (r : MRec) (rest : List MRec) (s : State) :
    if (s.mf c).newest.isSome ∧ newestIsB (s.mf c) = false then
      ((slotTaken c r rest s).mf c).slotB = some r ∧ ((slotTaken c r rest s).mf c).slotA = (s.mf c).slotA
    else ((slotTaken c r rest s).mf c).slotA = some r ∧ ((slotTaken c r rest s).mf c).slotB = (s.mf c).slotB := by
  have htoB : (s.mf c).writesB = true ↔ (s.mf c).newest.isSome ∧ newestIsB (s.mf c) = false := by
    simp [MfSt.writesB]
  rw [slotTaken, State.mf_setMf_same]
  split
  case isTrue h => simp [htoB.mpr h]
  case isFalse h => simp [Bool.not_eq_true _ ▸ mt htoB.mp h]

theorem meterCommitEff_commits {c : Ch} {r : MRec} {rest : List MRec} {s : State} (hwait : (s.mf c).recQ = r :: rest) (hseq : r.seq < 2 ^ 32) :
    ((meterCommitEff c s).mf c).recQ = rest ∧ (meterCommitEff c s).rd Reg.MeterStat.SEQ (cI c) = r.seq ∧
      if (s.mf c).newest.isSome ∧ newestIsB (s.mf c) = false then
        ((meterCommitEff c s).mf c).slotB = some r ∧ ((meterCommitEff c s).mf c).slotA = (s.mf c).slotA
      else ((meterCommitEff c s).mf c).slotA = some r ∧ ((meterCommitEff c s).mf c).slotB = (s.mf c).slotB := by
  obtain ⟨hq, ha, hb, hnumber⟩ := meterCommitEff_recordsKept hwait
  rw [hq, ha, hb, hnumber, State.rd_wr]
  exact ⟨by rw [State.mf_wr, slotTaken, State.mf_setMf_same], Nat.mod_eq_of_lt hseq, slotTaken_slots c r rest s⟩

/-! ### Billing records (R226, R303) -/

/-- The record as it is stored: its body and the signature. -/
def billSigned (c : Ch) (i : SessInfo) (r : MRec) (s : State) : List Byte :=
  billBody c (s.rd Reg.Bill.NEXT_RECORD) (s.rd Reg.Bill.UNIT_ID) i r ++ leBytes 64 (s.free 512)

/-- The record under its number, ahead of those stored before, and the session no longer waiting for its signature. -/
def billKept (c : Ch) (rest : List (Waiter × SessInfo × MRec)) (b : List Byte) (s : State) : State :=
  let no := s.rd Reg.Bill.NEXT_RECORD
  let s := s.drew.setMf c fun m => { m with signing := rest }
  { s with bills := ((no, b) :: s.bills).take 4096 }.wr Reg.Bill.NEXT_RECORD 0 0 (no + 1)

theorem billKept_mf (c : Ch) (rest : List (Waiter × SessInfo × MRec)) (b : List Byte) (s : State) :
    (billKept c rest b s).mf c = (s.drew.setMf c fun m => { m with signing := rest }).mf c := rfl

theorem billStoredEff_of_room {c : Ch} {w : Waiter} {i : SessInfo} {r : MRec} {rest : List (Waiter × SessInfo × MRec)} {s : State}
    (hsigning : (s.mf c).signing = (w, i, r) :: rest) (hroom : billsHeld s < 4096) :
    billStoredEff c s = completeW w (.ok 0 (leBytes 4 (s.rd Reg.Bill.NEXT_RECORD) ++ [0, 0, 0, 0] ++ billSigned c i r s)) (billKept c rest (billSigned c i r s) s) := by
  unfold billStoredEff
  rw [hsigning]
  exact if_neg (Nat.not_le.mpr hroom)

theorem billStoredEff_stores {c : Ch} {w : Waiter} {i : SessInfo} {r : MRec} {rest : List (Waiter × SessInfo × MRec)} {s : State}
    (hsigning : (s.mf c).signing = (w, i, r) :: rest) (hroom : billsHeld s < 4096) (hnext : s.rd Reg.Bill.NEXT_RECORD + 1 < 2 ^ 32) :
    (billStoredEff c s).rd Reg.Bill.NEXT_RECORD = s.rd Reg.Bill.NEXT_RECORD + 1 ∧ ((billStoredEff c s).mf c).signing = rest ∧
      (billStoredEff c s).bills.head?.map Prod.fst = some (s.rd Reg.Bill.NEXT_RECORD) ∧ (billStoredEff c s).report.map Report.status = some stDone := by
  have hfree : BooksFree Reg.Bill.NEXT_RECORD 0 0 := booksFree_of_object (by decide) (by decide)
  rw [billStoredEff_of_room hsigning hroom]
  generalize hd : Done.ok 0 _ = d
  refine ⟨?number, ?signing, ?bills, ?report⟩
  case number => exact ((completeW_spec w d _).2 _ _ _ hfree).trans ((State.rd_wr ..).trans (Nat.mod_eq_of_lt hnext))
  case signing => rw [completeW_mf, billKept_mf, State.mf_setMf_same]
  case bills => rw [completeW_bills]; rfl
  case report => rw [← hd, completeW_report]; rfl

end Sys2Proof.Machine

namespace Sys2Proof.Metering

open Sys2Proof.Machine Sys2Proof.Safety

/-- Settles O23: the entry is put in before the sums of the cycle are taken up, which keeps the FIFO, and only where fewer than 80 stand there. -/
theorem cycleFifo : Obligations.CycleFifo := by
  refine ⟨fun c len f e s hroom => ?joins, fun c len f e s hfull _ => ?dropped⟩
  all_goals
    obtain ⟨u, x, g, hwritten, hxf, hxlen, hg, heq⟩ := cycleEnd_puts c len f e s
    obtain ⟨hfifo, hcount⟩ := hwritten.fifoKept rfl (by decide)
    obtain ⟨hfifo', hcount'⟩ := (setMf_fifoKept hg (fifoPut c x (s.mf c).fifo u)).trans (windowChecked_fifoKept c _)
    rw [← heq] at hfifo' hcount'
    rw [hfifo', hcount']
  case joins =>
    rw [fifoPut_of_room hroom, State.mf_setMf_same]
    exact ⟨x, congrArg (· ++ [x]) hfifo, hxf, hxlen, hcount⟩
  case dropped =>
    rw [fifoPut_of_full hfull, State.rd_count, hcount, Nat.mod_eq_of_lt (satInc_lt _ _), satInc_eq_min]
    exact ⟨hfifo, rfl⟩

/-- Settles O22: each row takes the branch for work that waits; a commit moves the oldest record and nothing after it touches the records, a boundary closes each
channel's sums in that channel alone, and a stored record is answered without a change to what was stored. -/
theorem meterRecordsAndAggregates : Obligations.MeterRecordsAndAggregates := by
  refine ⟨fun c r rest s _ => runs_of_fin rfl rfl, fun c r rest s hwait hseq => ?commit, fun s hboundary hnew => ?tenMinutes, fun s hboundary hnew => ?tenSeconds,
    fun c w i r rest s hsigning hroom hnext => ?billing⟩
  case commit => exact next_of_runs (runs_of_fin rfl rfl) (meterCommitEff_commits hwait hseq)
  case tenMinutes => exact next_of_runs (runs_of_fin rfl rfl) (aggregate10Eff_of_boundary hboundary hnew)
  case tenSeconds => exact next_of_runs (runs_of_fin rfl rfl) (frequency10Eff_of_boundary hboundary hnew)
  case billing => exact next_of_runs (runs_of_fin rfl rfl) (billStoredEff_stores hsigning hroom hnext)

end Sys2Proof.Metering

/-! SUPPORT. Every command ends in `fin` of its effect, every effect keeps the canonical form, and the statements of 00_scope.md on the step: O1, O3 and O6. -/

namespace Sys2Proof.Machine

open Sys2Proof.Safety Sys2Proof.Laws

/-- Every command ends in `fin` of a next state, which puts the queue back (log entry 2). -/
theorem exec_fin (i : Instr) (s : State) : ∃ u, exec i s = fin s u := by
  cases i <;> exact ⟨_, rfl⟩

/-- The effect of every command keeps the canonical form: each row cites the law of the operation it calls. -/
theorem exec_canonical {s : State} (h : Canonical s) (i : Instr) : ∃ u, exec i s = fin s u ∧ Canonical u := by
  cases i with
  -- Requests of mailboxes (Table 13.3).
  | objectRead => exact ⟨_, rfl, canon_hostCmd _ _ _ _ _ (canon_objectReadEff _ _) h⟩
  | objectWrite | safetyConfigWrite => exact ⟨_, rfl, canon_objWriteRow _ _ _ _ h⟩
  | objWritePart => exact ⟨_, rfl, canon_writePartEff _ _ _ h⟩
  | lock => exact ⟨_, rfl, canon_runNow _ _ _ _ _ (canon_lockEff _ _) h⟩
  | unlock => exact ⟨_, rfl, canon_runReq _ _ _ _ _ (fun _ _ h => canon_completeW _ _ _ (canon_unlockEff _ _ _ _ h)) h⟩
  | chStart => exact ⟨_, rfl, canon_runReq _ _ _ _ _ (fun _ _ h => canon_startCommand _ _ _ h) h⟩
  | chStop => exact ⟨_, rfl, canon_runReq _ _ _ _ _ (fun _ _ h => canon_stopCommand _ _ _ h) h⟩
  | chIdleEnter | chIdleLeave => exact ⟨_, rfl, canon_idleCommand _ _ _ h⟩
  | storeWrite => exact ⟨_, rfl, canon_runNow _ _ _ _ _ (canon_storeWriteEff _ _) h⟩
  | storeRead => exact ⟨_, rfl, canon_runNow _ _ _ _ _ (canon_storeReadEff _) h⟩
  | bankLoad => exact ⟨_, rfl, canon_runReq _ _ _ _ _ (fun _ _ h => canon_bankLoadEff _ _ _ _ _ h) h⟩
  | bankSwap => exact ⟨_, rfl, canon_runReq _ _ _ _ _ (fun _ _ h => canon_bankSwapEff _ _ _ _ h) h⟩
  | swapCancel => exact ⟨_, rfl, canon_runNow _ _ _ _ _ (canon_swapCancelEff _) h⟩
  | bankErase => exact ⟨_, rfl, canon_runReq _ _ _ _ _ (fun _ _ h => canon_bankEraseEff _ _ _ _ h) h⟩
  | sessionStart => exact ⟨_, rfl, canon_runReq _ _ _ _ _ (fun _ _ h => canon_sessStartEff _ _ _ _ h) h⟩
  | sessionStop => exact ⟨_, rfl, canon_runReq _ _ _ _ _ (fun _ _ h => canon_sessStopEff _ _ _ h) h⟩
  | billRead => exact ⟨_, rfl, canon_runNow _ _ _ _ _ (canon_billReadEff _) h⟩
  | billAck => exact ⟨_, rfl, canon_runNow _ _ _ _ _ (canon_billAckEff _) h⟩
  | meterClear => exact ⟨_, rfl, canon_runReq _ _ _ _ _ (fun _ _ h => canon_meterClearEff _ _ _ _ h) h⟩
  | safetyAck => exact ⟨_, rfl, canon_runNow _ _ _ _ _ (canon_safetyAckEff _) h⟩
  | feide => exact ⟨_, rfl, canon_runNow _ _ _ _ _ (canon_feideCmdEff _) h⟩
  | journalRead => exact ⟨_, rfl, canon_runNow _ _ _ _ _ (canon_journalReadEff _) h⟩
  | changeRead => exact ⟨_, rfl, canon_runNow _ _ _ _ _ (canon_changeReadEff _) h⟩
  | fwWrite => exact ⟨_, rfl, canon_runNow _ _ _ _ _ (canon_fwWriteEff _) h⟩
  | fwVerify => exact ⟨_, rfl, canon_runNow _ _ _ _ _ canon_fwVerifyEff h⟩
  | activate => exact ⟨_, rfl, canon_runReq _ _ _ _ _ (fun _ _ h => canon_activateEff _ _ _ h) h⟩
  | lcRequest => exact ⟨_, rfl, canon_ite (fun _ => canon_lcNonce _ (canon_runNow _ _ _ _ _ (canon_lcRequestEff _ _) h)) (fun _ => h)⟩
  | fuseProgram => exact ⟨_, rfl, canon_runNow _ _ _ _ _ (canon_fuseEff _ _ _ _) h⟩
  | lullEnter => exact ⟨_, rfl, canon_runReq _ _ _ _ _ (fun _ _ h => canon_lullEnterEff _ _ h) h⟩
  -- Frames, the host port and the start of execution.
  | submit | poll | abort | hello | credit => exact ⟨_, rfl, canon_frameEff _ _ _ _ h⟩
  | directRead => exact ⟨_, rfl, canon_directReadEff _ _ h⟩
  | forceSingle => exact ⟨_, rfl, canon_forceSingleEff _ _ _ _ h⟩
  | commandExecStart => exact ⟨_, rfl, canon_execStartEff _ _ h⟩
  | leaseExpire => exact ⟨_, rfl, canon_leaseEff _ _ h⟩
  -- Rows that write a register.
  | relock | referenceChange | clkoutCommit | fwCommit | esDirectCommit | commitReg | commitInj | converterStop | thresholdCommit | commitCoef | commitProg
  | commitHost | clearState | slotDisable | pgCommit | service | gridEnable | gridDisable | reconnect | mpptEnable | meterEnable | meterDisable | recover
  | holdRelease | canModeChange | hatbandRoleWrite | pairEnable | handover | fabricClassWrite | tamperAck | rtcSet | transferStart =>
    exact ⟨_, rfl, canon_regWrite _ _ _ _ _ _ h⟩
  -- Clock, angle and event schedule.
  | referenceLoss => exact ⟨_, rfl, canon_refLossEff _ h⟩
  | referencePresent => exact ⟨_, rfl, canon_refPresentEff _ h⟩
  | pllAcquisitionTimeout => exact ⟨_, rfl, canon_pllTimeoutEff _ h⟩
  | pllLock => exact ⟨_, rfl, canon_pllLockEff _ h⟩
  | pllSettled => exact ⟨_, rfl, canon_pllSettledEff _ h⟩
  | lockLoss => exact ⟨_, rfl, canon_lockLossEff _ h⟩
  | clockMonitorTrip => exact ⟨_, rfl, canon_monitorTripEff _ _ h⟩
  | clkoutSetApply => exact ⟨_, rfl, canon_clkoutApplyEff _ _ h⟩
  | clkoutUnmute => exact ⟨_, rfl, canon_clkoutUnmuteEff _ _ h⟩
  | fwTimeReached => exact ⟨_, rfl, canon_fwTimeEff _ _ h⟩
  | channelStart => exact ⟨_, rfl, canon_channelStartEff _ _ h⟩
  | angleWrap => exact ⟨_, rfl, canon_wrapRowEff _ _ h⟩
  | esFire => exact ⟨_, rfl, canon_esFireEff _ _ _ _ h⟩
  | encEdge => exact ⟨_, rfl, canon_settle _ _ (canon_encEdgeEff _ _ _ _ h)⟩
  | encIndex => exact ⟨_, rfl, canon_settle _ _ (canon_encIndexEff _ _ h)⟩
  | coastEnd => exact ⟨_, rfl, canon_settle _ _ (canon_coastEnd _ _ h)⟩
  -- Tables, sensing, control engine and pulses.
  | bankLoadDone => exact ⟨_, rfl, canon_settle _ _ (canon_loadDone _ _ h)⟩
  | bankSwapPoint => exact ⟨_, rfl, canon_bankSwapPointEff _ _ h⟩
  | bankSramUncorrectable => exact ⟨_, rfl, canon_bankSramEff _ _ h⟩
  | sarConversionEnd => exact ⟨_, rfl, canon_sarEndEff _ _ _ _ h⟩
  | cmpRawChange => exact ⟨_, rfl, canon_cmpRawEff _ _ _ _ h⟩
  | cmpSample => exact ⟨_, rfl, canon_cmpSampleEff _ _ _ _ h⟩
  | cmpFilterChange => exact ⟨_, rfl, canon_cmpFilterChangeEff _ _ _ h⟩
  | ceEvalStart => exact ⟨_, rfl, canon_ceEvalStartEff _ _ h⟩
  | ceEvalEnd => exact ⟨_, rfl, canon_ceEvalEndEff _ _ _ h⟩
  | ceSramUncorrectable => exact ⟨_, rfl, canon_ceSramEff _ _ h⟩
  | periodStart => exact ⟨_, rfl, canon_periodStartEff _ _ h⟩
  | pgReload => exact ⟨_, rfl, canon_reloadEff _ _ h⟩
  | pgEdge => exact ⟨_, rfl, canon_pgEdgeEff _ _ _ _ h⟩
  | patternEdgeFire => exact ⟨_, rfl, canon_patternEdgeEff _ _ _ h⟩
  | interlockRelease => exact ⟨_, rfl, canon_ilkReleaseEff _ _ _ h⟩
  | fltAssert => exact ⟨_, rfl, canon_fltEff _ _ _ _ h⟩
  | debugHalt => exact ⟨_, rfl, canon_debugHaltEff _ _ h⟩
  | haltRelease => exact ⟨_, rfl, canon_haltReleaseEff _ _ h⟩
  -- Gate drive.
  | dfbAssert => exact ⟨_, rfl, canon_dfbEff _ _ _ _ h⟩
  | blankingEnd => exact ⟨_, rfl, canon_settle _ _ (canon_blankEnd _ _ _ h)⟩
  | enableSettleEnd => exact ⟨_, rfl, canon_settleEndEff _ _ h⟩
  | recoveryExpire => exact ⟨_, rfl, canon_settle _ _ (canon_recoveryExpireEff _ _ h)⟩
  | squallDone => exact ⟨_, rfl, canon_squallDoneEff _ _ h⟩
  | hbRefresh => exact ⟨_, rfl, canon_hbRefreshEff _ _ h⟩
  | hbootUv => exact ⟨_, rfl, canon_hbootEff _ _ _ h⟩
  | vdrvUv => exact ⟨_, rfl, canon_vdrvUvEff _ h⟩
  -- Grid functions and metering.
  | gridEvaluation => exact ⟨_, rfl, canon_gridEvalEff _ h⟩
  | gridTrip => exact ⟨_, rfl, canon_gridTripEff _ _ _ h⟩
  | gridReconnect => exact ⟨_, rfl, canon_reconnectGroup _ _ h⟩
  | mpptStep => exact ⟨_, rfl, canon_settle _ _ (canon_mpptStepEff _ _ h)⟩
  | mpptSweep => exact ⟨_, rfl, canon_settle _ _ (canon_mpptSweepEff _ _ h)⟩
  | meterSample => exact ⟨_, rfl, canon_meterSampleEff _ _ h⟩
  | noZc => exact ⟨_, rfl, canon_noZcEff _ _ h⟩
  | meterTimerMark => exact ⟨_, rfl, canon_timerMarkEff _ _ h⟩
  | meterCommit => exact ⟨_, rfl, canon_meterCommitEff _ _ h⟩
  | aggregate10min => exact ⟨_, rfl, canon_aggregate10Eff _ h⟩
  | frequency10s => exact ⟨_, rfl, canon_frequency10Eff _ h⟩
  | billingRecordStored => exact ⟨_, rfl, canon_billStoredEff _ _ h⟩
  -- The safety island.
  | sinChange => exact ⟨_, rfl, canon_onIsland _ _ (canon_sinChangeEff _ _) h⟩
  | sinDemandRecognised => exact ⟨_, rfl, canon_onIsland _ _ (canon_sinDemandEff _) h⟩
  | sinDemandEnd => exact ⟨_, rfl, canon_onIsland _ _ (canon_sinDemandEndEff _) h⟩
  | tpPulseStart => exact ⟨_, rfl, canon_onIsland _ _ (canon_tpStartEff _) h⟩
  | tpPulseEnd => exact ⟨_, rfl, canon_onIsland _ _ (canon_tpEndEff _) h⟩
  | testWindowClose => exact ⟨_, rfl, canon_onIsland _ _ (canon_windowCloseEff _) h⟩
  | tpPulseCheck => exact ⟨_, rfl, canon_onIsland _ _ (canon_tpCheckEff _) h⟩
  | tpLineFault => exact ⟨_, rfl, canon_onIsland _ _ (canon_tpLineEff _) h⟩
  | discrepancyExpire => exact ⟨_, rfl, canon_onIsland _ _ (canon_discrepancyEff _) h⟩
  | spHeartbeat => exact ⟨_, rfl, canon_onIsland _ _ canon_heartbeatEff h⟩
  | guardHeartbeatLoss => exact ⟨_, rfl, canon_onIsland _ _ (canon_hbLossEff _) h⟩
  | enableReadbackFault => exact ⟨_, rfl, canon_onIsland _ _ (canon_lockOut _ _ _) h⟩
  | configCrcCheck => exact ⟨_, rfl, canon_onIsland _ _ canon_crcCheckEff h⟩
  | pathDisagree | safetySelfTestFail => exact ⟨_, rfl, canon_lockOut _ _ _ _ h⟩
  | sackRelease => exact ⟨_, rfl, canon_onIsland _ _ (canon_sackEff _ _) h⟩
  | ackStuck => exact ⟨_, rfl, canon_onIsland _ _ canon_ackStuckEff h⟩
  | checkComplete => exact ⟨_, rfl, canon_onIsland _ _ (canon_checkCompleteEff _ _) h⟩
  | periodicStartTest => exact ⟨_, rfl, canon_onIsland _ _ (canon_periodicTestEff _ _) h⟩
  | safetyStopOrder => exact ⟨_, rfl, canon_stopOrderEff _ _ h⟩
  | feideFrameReceive => exact ⟨_, rfl, canon_feideArriveEff _ _ _ _ _ h⟩
  | feideWatchdogExpire => exact ⟨_, rfl, canon_onIsland _ _ (canon_feideWatchdogEff _) h⟩
  | feideProduce => exact ⟨_, rfl, canon_feideProduceEff _ _ h⟩
  -- The Crown.
  | keepAlive => exact ⟨_, rfl, canon_keepAliveEff _ h⟩
  | crownLossHoldStart => exact ⟨_, rfl, canon_holdStartEff _ _ h⟩
  | crownLossHoldExpire => exact ⟨_, rfl, canon_holdExpireEff _ _ h⟩
  | crownLockstepMismatch => exact ⟨_, rfl, canon_ite (fun _ => canon_lockstepEff _ h) (fun _ => h)⟩
  | crownWatchdogExpire => exact ⟨_, rfl, canon_ite (fun _ => canon_crownRestart _ _ h) (fun _ => h)⟩
  | crownSramUncorrectable => exact ⟨_, rfl, canon_ite (fun _ => canon_lockstepEff _ (canon_State_count _ _ _ _ h)) (fun _ => h)⟩
  | crownRestartDone => exact ⟨_, rfl, canon_restartDoneEff _ h⟩
  -- CAN and Hatband.
  | canFrameReceive => exact ⟨_, rfl, canon_canRxEff _ _ _ h⟩
  | segmentTimeout => exact ⟨_, rfl, canon_segTimeoutEff _ _ h⟩
  | canTxDone => exact ⟨_, rfl, canon_canTxDoneEff _ _ _ h⟩
  | canTxFail => exact ⟨_, rfl, canon_canTxFailEff _ _ _ h⟩
  | busOffRecoveryDone => exact ⟨_, rfl, canon_busOffDoneEff _ _ h⟩
  | statusFramePeriod => exact ⟨_, rfl, canon_statusPeriodEff _ h⟩
  | resetHeldFrame => exact ⟨_, rfl, canon_heldFrameEff _ h⟩
  | hbFrameReceive => exact ⟨_, rfl, canon_hbReceiveEff _ _ _ h⟩
  | hbCreditReturn => exact ⟨_, rfl, canon_xoutPump _ (canon_hbCreditEff _ _ _ _ _ h)⟩
  | crTimeout => exact ⟨_, rfl, canon_crTimeoutEff _ _ h⟩
  | hbHeartbeatSend => exact ⟨_, rfl, canon_hbBeatEff _ _ h⟩
  | hbMiss => exact ⟨_, rfl, canon_hbMissEff _ _ h⟩
  | linkTrainingDone => exact ⟨_, rfl, canon_trainingDoneEff _ _ _ h⟩
  | laneLockLoss => exact ⟨_, rfl, canon_laneLossEff _ _ h⟩
  -- The pair.
  | pairAliveLost => exact ⟨_, rfl, canon_aliveLostEff _ h⟩
  | takeover => exact ⟨_, rfl, canon_takeoverEff _ h⟩
  | waitingAloneTimeout => exact ⟨_, rfl, canon_aloneEff _ h⟩
  | handoverInstant => exact ⟨_, rfl, canon_handoverEff _ h⟩
  | alignSend => exact ⟨_, rfl, canon_alignSendEff _ h⟩
  | alignReceive => exact ⟨_, rfl, canon_alignReceiveEff _ _ h⟩
  | journalMessageReceive => exact ⟨_, rfl, canon_journalMsgEff _ _ h⟩
  | resyncDone => exact ⟨_, rfl, canon_resyncEff _ h⟩
  -- Memory.
  | mramReadComplete => exact ⟨_, rfl, canon_arbitrateAll _ _ _ _ (canon_mramReadEff _ _ _ _ h)⟩
  | mramWriteComplete => exact ⟨_, rfl, canon_arbitrateAll _ _ _ _ (canon_mramWriteEff _ _ _ _ h)⟩
  | mramScrub => exact ⟨_, rfl, canon_mramScrubEff _ _ _ h⟩
  | sramScrub => exact ⟨_, rfl, canon_arbitrateAll _ _ _ _ (canon_sramScrubEff _ _ _ h)⟩
  -- Power, life cycle and images.
  | brownout => exact ⟨_, rfl, canon_brownoutEff _ h⟩
  | brownoutEnd => exact ⟨_, rfl, canon_brownoutEndEff _ h⟩
  | lullSourceLost => exact ⟨_, rfl, canon_lullLostEff _ h⟩
  | thaw => exact ⟨_, rfl, canon_thawEff _ _ _ _ h⟩
  | runOkRise => exact ⟨_, rfl, canon_runOkEff _ h⟩
  | wakeEvent => exact ⟨_, rfl, canon_wakeEff _ _ h⟩
  | lullMeasurement => exact ⟨_, rfl, canon_lullMeasEff _ h⟩
  | lullBurst => exact ⟨_, rfl, canon_lullBurstEff _ h⟩
  | storeMeasure => exact ⟨_, rfl, canon_storeMeasureEff _ _ h⟩
  | batLowCheck => exact ⟨_, rfl, canon_batLowEff _ _ h⟩
  | vbatLoss => exact ⟨_, rfl, canon_vbatLossEff _ h⟩
  | nrstLow => exact ⟨_, rfl, canon_nrstLowEff _ h⟩
  | nrstHigh => exact ⟨_, rfl, canon_nrstHighEff _ h⟩
  | resetHeld => exact ⟨_, rfl, canon_resetHeldEff _ _ h⟩
  | tamper => exact ⟨_, rfl, canon_tamperEff _ h⟩
  | thermalTrip => exact ⟨_, rfl, canon_thermalTripEff _ h⟩
  | thermalRecovery => exact ⟨_, rfl, canon_thermalBackEff _ h⟩
  | temperatureRead => exact ⟨_, rfl, canon_temperatureEff _ _ _ h⟩
  | runHour => exact ⟨_, rfl, canon_runHourEff _ h⟩
  | imageBlockReceive => exact ⟨_, rfl, canon_imageBlockEff _ _ _ _ h⟩
  | activationConfirm => exact ⟨_, rfl, canon_confirmEff _ h⟩
  | activationConfirmTimeout => exact ⟨_, rfl, canon_confirmTimeoutEff _ h⟩
  | debugAuth => exact ⟨_, rfl, canon_debugAuthEff _ _ _ h⟩
  -- Rows that stand last in the table.
  | clockBranchRunsAgain => exact ⟨_, rfl, canon_branchAgainEff _ _ h⟩
  | canBusIntegration => exact ⟨_, rfl, canon_canIntegrateEff _ _ h⟩
  | canReceiveError => exact ⟨_, rfl, canon_canRxErrorEff _ _ _ h⟩
  | heartbeatReceive => exact ⟨_, rfl, canon_hbSeenEff _ _ h⟩
  | pairAliveReturn => exact ⟨_, rfl, canon_aliveBackEff _ h⟩
  | testAgeIncrement => exact ⟨_, rfl, canon_onIsland _ _ (canon_testAgeEff _) h⟩
  | vdrvReturn => exact ⟨_, rfl, canon_vdrvReturnEff _ h⟩
  | sweepDwellEnd => exact ⟨_, rfl, canon_settle _ _ (canon_sweepDwellEff _ _ h)⟩
  | encEdgeTimeout => exact ⟨_, rfl, canon_encTimeoutEff _ _ h⟩
  | esHystDistance => exact ⟨_, rfl, canon_esHystEff _ _ _ _ h⟩
  | imageResend => exact ⟨_, rfl, canon_imageResendEff _ _ _ h⟩
  | imageAbandon => exact ⟨_, rfl, canon_imageAbandonEff _ _ _ h⟩
  | hpNcsRise => exact ⟨_, rfl, canon_ncsRiseEff _ _ h⟩

/-- Another queue leaves every map as it is. -/
theorem canon_withPending {s : State} (h : Canonical s) (p : List Instr) : Canonical { s with pending := p } := canon_upd h rfl rfl

end Sys2Proof.Machine

namespace Sys2Proof.Scope

open Sys2Proof.Machine Sys2Proof.Safety

/-- Settles O1: a step is defined by the front of the queue. -/
theorem stepRunsFrontCommand : Obligations.StepRunsFrontCommand := fun _ _ _ => rfl

/-- Settles O3: every command ends in `fin`, which answers a next state with the queue it was given. -/
theorem everyCommandAnswers : Obligations.EveryCommandAnswers := by
  intro i s
  obtain ⟨u, hexec⟩ := exec_fin i s
  exact ⟨_, hexec, rfl⟩

/-- Settles O6: a step is a tick or the command at the front of the queue, and both keep the canonical form. -/
theorem canonicalKept : Obligations.CanonicalKept := by
  intro s t h hstep
  unfold step at hstep
  split at hstep
  case h_1 =>
    obtain rfl := Host.Outcome.next.inj hstep
    exact Laws.canon_deviceTick s h
  case h_2 i rest _ =>
    obtain ⟨u, hexec, hu⟩ := exec_canonical (canon_withPending h rest) i
    obtain rfl := Host.Outcome.next.inj (hexec.symm.trans hstep)
    exact canon_withPending hu rest

end Sys2Proof.Scope

/-! SUPPORT. What lock-outs, judgements of the disconnect states and Feide frames leave, and the statements of 11_safety.md: O25, O28 and O29. -/

namespace Sys2Proof.Machine

open Sys2Proof.Safety

/-- Two fields of one object at different bits have different keys. -/
theorem Fld.key_ne_of_fields {f g : Fld} (n : Nat) (hbase : f.base = g.base := by rfl) (hpos : f.pos 0 ≠ g.pos 0 := by decide) : f.key 0 n 0 ≠ g.key 0 n 0 :=
  Fld.key_ne_of_pos_ne hbase hpos

/-! ### Registers of the safety island -/

/-- The objects with the books of the Crown stand above those of the safety island. -/
theorem booksFree_of_below {g : Fld} {n i : Nat} (hid : g.base + n < 0x4F11) (hpos : g.pos i < 65536) : BooksFree g n i := by
  have hkey : ∀ (f : Fld) (m : Nat), 0x4F11 ≤ f.base ∧ f.pos 0 < 65536 → f.key 0 m 0 ≠ g.key 0 n i := by
    rintro f m ⟨hbase, hf⟩
    exact Fld.key_ne_of_object_ne (by omega) hf hpos
  exact ⟨fun p => hkey _ _ (by decide), hkey _ _ (by decide), hkey _ _ (by decide), hkey _ _ (by decide), hkey _ _ (by decide)⟩

/-- The key of this register is that of no disconnect state and of no connection state. -/
def StatesFree (f : Fld) (n i : Nat) : Prop :=
  (∀ d : Ch, f.key 0 n i ≠ Reg.Safe.STATE.key 0 0 d.val) ∧ ∀ k : Ix16, f.key 0 n i ≠ Reg.Safe.CONN_STATE.key 0 0 k.val

/-- A register of another object. -/
theorem statesFree_of_object {f : Fld} {n i : Nat} (hid : f.base + n ≠ 0x3F02) (hpos : f.pos i < 65536) : StatesFree f n i :=
  ⟨fun d => Fld.key_ne_of_object_ne hid hpos (by revert d; decide), fun k => Fld.key_ne_of_object_ne hid hpos (by revert k; decide)⟩

/-- A register of the island's status object at another position, for a channel or (CH0) for the device. -/
theorem statesFree_of_channel {f : Fld} (c : Ch) (hbase : f.base = 0x3F02)
    (hpos : ∀ c : Ch, (∀ d : Ch, f.pos c.val ≠ Reg.Safe.STATE.pos d.val) ∧ ∀ k : Ix16, f.pos c.val ≠ Reg.Safe.CONN_STATE.pos k.val := by decide) :
    StatesFree f 0 c.val := by
  obtain ⟨hstate, hconn⟩ := hpos c
  exact ⟨fun d => Fld.key_ne_of_pos_ne hbase (hstate d), fun k => Fld.key_ne_of_pos_ne hbase (hconn k)⟩

/-- The disconnect states and the connection states stand at different bits. -/
theorem state_key_ne_connState (c : Ch) (k : Ix16) : Reg.Safe.STATE.key 0 0 c.val ≠ Reg.Safe.CONN_STATE.key 0 0 k.val :=
  Fld.key_ne_of_pos_ne rfl (by revert c k; decide)

/-- Two channels have their disconnect states at different bits. -/
theorem state_key_ne_state {c d : Ch} (h : c ≠ d) : Reg.Safe.STATE.key 0 0 c.val ≠ Reg.Safe.STATE.key 0 0 d.val :=
  Fld.key_ne_of_pos_ne rfl (by revert c d; decide)

theorem safeState_wr_same (c : Ch) {v : Nat} (hv : v < 8) (s : State) : safeState c (s.wr Reg.Safe.STATE 0 c.val v) = v :=
  (State.rd_wr s Reg.Safe.STATE 0 c.val v).trans (Nat.mod_eq_of_lt hv)

theorem connState_setConnState (k : Ix16) {v : Nat} (hv : v < 4) (s : State) : connState k (setConnState k v s) = v :=
  (State.rd_wr s Reg.Safe.CONN_STATE 0 k.val v).trans (Nat.mod_eq_of_lt hv)

/-! ### What a judgement leaves (Table 11.3) -/

/-- Connections with their states stay, and a LOCKED channel stays LOCKED. -/
def Judged (s t : State) : Prop :=
  t.safe.conns = s.safe.conns ∧ (∀ k : Ix16, connState k t = connState k s) ∧ ∀ d : Ch, safeState d s = sfLocked → safeState d t = sfLocked

theorem Judged.of_eq {s t : State} (hconns : t.safe.conns = s.safe.conns) (hregs : t.regs = s.regs) : Judged s t :=
  ⟨hconns, fun _ => State.rd_congr hregs .., fun _ h => (State.rd_congr hregs ..).trans h⟩

theorem Judged.refl (s : State) : Judged s s := .of_eq rfl rfl

theorem Judged.trans {s t u : State} (hst : Judged s t) (htu : Judged t u) : Judged s u := by
  obtain ⟨hconns, hstate, hlocked⟩ := hst
  obtain ⟨hconns', hstate', hlocked'⟩ := htu
  exact ⟨hconns'.trans hconns, fun k => (hstate' k).trans (hstate k), fun d h => hlocked' d (hlocked d h)⟩

theorem judged_wr {f : Fld} {n i : Nat} (h : StatesFree f n i) (v : Nat) (s : State) : Judged s (s.wr f n i v) :=
  ⟨rfl, fun k => State.rd_wr_other s v (h.2 k), fun d hd => (State.rd_wr_other s v (h.1 d)).trans hd⟩

/-- A channel that is not LOCKED moves. -/
theorem judged_wr_state {c : Ch} {s : State} (h : safeState c s ≠ sfLocked) (v : Nat) : Judged s (s.wr Reg.Safe.STATE 0 c.val v) := by
  refine ⟨rfl, fun k => State.rd_wr_other s v (state_key_ne_connState c k), fun d hd => ?_⟩
  have hother : c ≠ d := by rintro rfl; exact h hd
  exact (State.rd_wr_other s v (state_key_ne_state hother)).trans hd

theorem judged_wr_ePend (c : Ch) (v : Nat) (s : State) : Judged s (s.wr Reg.Safe.E_PEND 0 c.val v) :=
  judged_wr (statesFree_of_channel c rfl) v s

theorem judged_completeW (w : Waiter) (d : Done) (s : State) : Judged s (completeW w d s) := by
  obtain ⟨_, _, hsafe, _⟩ := (completeW_spec w d s).parts
  have hconn : ∀ k : Ix16, BooksFree Reg.Safe.CONN_STATE 0 k.val := fun k => booksFree_of_below (by decide) (by revert k; decide)
  have hstate : ∀ d : Ch, BooksFree Reg.Safe.STATE 0 d.val := fun d => booksFree_of_below (by decide) (by revert d; decide)
  exact ⟨by rw [hsafe], fun k => (completeW_spec w d s).2 _ _ _ (hconn k), fun d h => ((completeW_spec w _ s).2 _ _ _ (hstate d)).trans h⟩

theorem judged_foldl {α : Type} {f : State → α → State} (hf : ∀ s x, Judged s (f s x)) (l : List α) (s : State) : Judged s (l.foldl f s) :=
  foldl_keeps (P := Judged s) (fun t x h => h.trans (hf t x)) l s (.refl s)

theorem judged_testLost (c : Ch) (s : State) : Judged s (testLost c s) := by
  have hend : ∀ d ws, Judged s (List.foldl (fun s w => completeW w d s) ((s.setSc c fun x => { x with afterTest := false }).setCh c fun x => { x with testWait := [] }) ws) :=
    fun d ws => .trans (.of_eq rfl rfl) (judged_foldl (fun s w => judged_completeW w d s) ws _)
  unfold testLost
  split
  · dsimp only
    split
    · exact hend _ _
    · exact .of_eq rfl rfl
  · exact .refl s

theorem judged_enablesUpdate (c : Ch) (s : State) : Judged s (enablesUpdate c s) := by
  have hfree : ∀ f : Fld, f.base = 0x10B1 ∧ f.pos 0 < 65536 → StatesFree f (cI c) 0 := by
    rintro f ⟨hbase, hpos⟩
    exact statesFree_of_object (by unfold cI; omega) hpos
  have hlines : ∀ a b, Judged s ((s.wrB Reg.GdiStat.GEN_A_RB (cI c) 0 a).wrB Reg.GdiStat.GEN_B_RB (cI c) 0 b) :=
    fun a b => (judged_wr (hfree _ (by decide)) _ s).trans (judged_wr (hfree _ (by decide)) _ _)
  unfold enablesUpdate
  dsimp only
  split
  · exact hlines _ _
  · exact (hlines _ _).trans (.of_eq rfl rfl)

/-- A channel in PERMIT with a demand or a connection that opens: HOLD_E, and a stop that is owed. -/
def permitLost (c : Ch) (s : State) : State :=
  let t := (s.wr Reg.Safe.STATE 0 c.val sfHoldE).setSc c fun x => { x with stopDue := true }
  if demandOn c s then ((t.wr Reg.Safe.E_PEND 0 c.val 1).count Reg.Safe.DEMAND_CNT 0 c.val).raise 489 else t

theorem judged_permitLost {c : Ch} {s : State} (h : safeState c s = sfPermit) : Judged s (permitLost c s) := by
  have hmove : Judged s ((s.wr Reg.Safe.STATE 0 c.val sfHoldE).setSc c fun x => { x with stopDue := true }) :=
    (judged_wr_state (by rw [h]; decide) _).trans (.of_eq rfl rfl)
  unfold permitLost
  dsimp only
  split
  · exact hmove.trans ((judged_wr_ePend c 1 _).trans ((judged_wr (statesFree_of_channel c rfl) _ _).trans (.of_eq rfl rfl)))
  · exact hmove

/-- A demand that stands is pending. -/
def demandNoted (c : Ch) (s : State) : State := if demandOn c s then s.wr Reg.Safe.E_PEND 0 c.val 1 else s

theorem judged_demandNoted (c : Ch) (s : State) : Judged s (demandNoted c s) := by
  unfold demandNoted
  split
  · exact judged_wr_ePend c 1 s
  · exact .refl s

/-- A channel in HOLD_E with nothing pending or demanded, its PG stopped, enters PERMIT. -/
def holdLeft (c : Ch) (s t : State) : State :=
  if safeState c s = sfHoldE ∧ demandOn c s = false ∧ holdOn c s = false ∧ t.rd Reg.Safe.E_PEND 0 c.val = 0 ∧ t.rd Reg.PgStat.STATE (cI c) = 0 then
    (t.wr Reg.Safe.STATE 0 c.val sfPermit).setSc c fun x => { x with stopDue := false }
  else t

theorem judged_holdLeft {c : Ch} {s t : State} (h : safeState c t = safeState c s) : Judged t (holdLeft c s t) := by
  unfold holdLeft
  split
  case isTrue hleave =>
    have hhold : safeState c t = sfHoldE := h.trans hleave.1
    exact (judged_wr_state (by rw [hhold]; decide) _).trans (.of_eq rfl rfl)
  case isFalse => exact .refl t

/-- The move of a channel of a powered island (Table 11.3). -/
def disconnectMove (c : Ch) (s : State) : State :=
  if safeState c s = sfPermit ∧ (demandOn c s = true ∨ holdOn c s = true) then permitLost c s else holdLeft c s (demandNoted c s)

/-- Every move starts from PERMIT or HOLD_E. -/
theorem judged_disconnectMove (c : Ch) (s : State) : Judged s (disconnectMove c s) := by
  have hstate : safeState c (demandNoted c s) = safeState c s := by
    unfold demandNoted
    split
    · exact State.rd_wr_other s 1 ((statesFree_of_channel (f := Reg.Safe.E_PEND) c rfl).1 c)
    · rfl
  unfold disconnectMove
  split
  case isTrue h => exact judged_permitLost h.1
  case isFalse => exact (judged_demandNoted c s).trans (judged_holdLeft hstate)

theorem safeEval_eq_move (c : Ch) (s : State) :
    safeEval c s = testLost c (enablesUpdate c (if s.safe.on then disconnectMove c s else s)) := by
  unfold safeEval
  cases s.safe.on <;> rfl

theorem judged_safeEval (c : Ch) (s : State) : Judged s (safeEval c s) := by
  rw [safeEval_eq_move]
  refine .trans ?_ ((judged_enablesUpdate c _).trans (judged_testLost c _))
  split
  · exact judged_disconnectMove c s
  · exact .refl s

theorem judged_safeEvalAll (s : State) : Judged s (safeEvalAll s) := by
  have hfree : StatesFree Reg.Safe.SSTAT 0 0 := statesFree_of_channel 0 rfl
  exact (judged_foldl (fun s c => judged_safeEval c s) allCh s).trans (judged_wr hfree _ _)

/-! ### Lock-outs (R248) -/

/-- A loop that visits `d` brings about what its step does for `d`, when no other step undoes it. -/
theorem foldl_reaches {α : Type} {P : State → Prop} {f : State → α → State} {d : α} (hown : ∀ s, P (f s d)) (hkeep : ∀ s x, P s → P (f s x))
    {l : List α} (hd : d ∈ l) (s : State) : P (l.foldl f s) := by
  obtain ⟨before, after, rfl⟩ := List.append_of_mem hd
  rw [List.foldl_append]
  exact foldl_keeps hkeep after _ (hown _)

/-- A channel locks: its state, the token, the cause and the detail; a channel that was in PERMIT owes its stop. -/
def lockChannel (cause detail tok : Nat) (s : State) (c : Ch) : State :=
  let t := (((s.wr Reg.Safe.STATE 0 c.val sfLocked).wr Reg.Safe.TOKEN 0 c.val tok).wr Reg.Safe.L_CAUSE 0 c.val cause).wr Reg.Safe.L_DETAIL 0 c.val detail
  if safeState c s == sfPermit then t.setSc c fun x => { x with stopDue := true } else t

theorem judged_lockChannel_marks (cause detail tok : Nat) (c : Ch) (s : State) :
    Judged (s.wr Reg.Safe.STATE 0 c.val sfLocked) (lockChannel cause detail tok s c) := by
  have hmarks : Judged (s.wr Reg.Safe.STATE 0 c.val sfLocked)
      ((((s.wr Reg.Safe.STATE 0 c.val sfLocked).wr Reg.Safe.TOKEN 0 c.val tok).wr Reg.Safe.L_CAUSE 0 c.val cause).wr Reg.Safe.L_DETAIL 0 c.val detail) :=
    (judged_wr (statesFree_of_channel c rfl) _ _).trans ((judged_wr (statesFree_of_channel c rfl) _ _).trans (judged_wr (statesFree_of_channel c rfl) _ _))
  unfold lockChannel
  dsimp only
  split
  · exact hmarks.trans (.of_eq rfl rfl)
  · exact hmarks

theorem lockChannel_locks (cause detail tok : Nat) (c : Ch) (s : State) : safeState c (lockChannel cause detail tok s c) = sfLocked :=
  (judged_lockChannel_marks cause detail tok c s).2.2 c (safeState_wr_same c (by decide) s)

theorem lockChannel_keeps_locked (cause detail tok : Nat) (c : Ch) {d : Ch} {s : State} (h : safeState d s = sfLocked) :
    safeState d (lockChannel cause detail tok s c) = sfLocked := by
  by_cases hcd : c = d
  · subst hcd
    exact lockChannel_locks ..
  · exact (judged_lockChannel_marks cause detail tok c s).2.2 d ((State.rd_wr_other s _ (state_key_ne_state hcd)).trans h)

/-- The channels of a scope that are not LOCKED yet. -/
def lockFresh (mask : Nat) (s : State) : List Ch := allCh.filter fun c => bit mask c.val && safeState c s != sfLocked

/-- Every channel of a scope counts the lock-out. -/
def lockCounted (mask : Nat) (s : State) : State := allCh.foldl (fun s c => if bit mask c.val then s.count Reg.Safe.LOCK_CNT 0 c.val else s) s

theorem judged_lockCounted (mask : Nat) (s : State) : Judged s (lockCounted mask s) := by
  refine judged_foldl (fun s c => ?_) allCh s
  split
  · exact judged_wr (statesFree_of_channel c rfl) _ s
  · exact .refl s

/-- A lock-out counts, and locks the channels of its scope that are not LOCKED yet with the next serial and one token. -/
theorem lockOut_of_on {s : State} (hon : s.safe.on = true) (mask cause detail : Nat) :
    ∃ serial tok, lockOut mask cause detail s = if lockFresh mask s = [] then lockCounted mask s
      else safeEvalAll (((lockFresh mask s).foldl (lockChannel cause detail tok) ((lockCounted mask s).wr Reg.Safe.LOCK_SERIAL 0 0 serial)).raise 488) := by
  unfold lockOut
  rw [if_neg (by simp [hon])]
  exact ⟨_, _, rfl⟩

theorem lockOut_locks {s : State} (hon : s.safe.on = true) {mask : Nat} (cause detail : Nat) {d : Ch} (hd : bit mask d.val = true) :
    safeState d (lockOut mask cause detail s) = sfLocked := by
  have hlocked : d ∉ lockFresh mask s → safeState d (lockCounted mask s) = sfLocked := fun hfresh =>
    (judged_lockCounted mask s).2.2 d (by simpa [lockFresh, hd, allCh] using hfresh)
  have hserial : StatesFree Reg.Safe.LOCK_SERIAL 0 0 := statesFree_of_channel 0 rfl
  obtain ⟨serial, tok, heq⟩ := lockOut_of_on hon mask cause detail
  rw [heq]
  split
  case isTrue hnone => exact hlocked (by simp [hnone])
  case isFalse =>
    refine ((Judged.of_eq rfl rfl : Judged _ (State.raise _ 488)).trans (judged_safeEvalAll _)).2.2 d ?_
    by_cases hfresh : d ∈ lockFresh mask s
    · exact foldl_reaches (P := fun s => safeState d s = sfLocked) (lockChannel_locks cause detail tok d) (fun _ c => lockChannel_keeps_locked cause detail tok c) hfresh _
    · exact foldl_keeps (P := fun s => safeState d s = sfLocked) (fun _ c => lockChannel_keeps_locked cause detail tok c) _ _
        ((judged_wr hserial serial _).2.2 d (hlocked hfresh))

/-- The Guard that lost the heartbeat is noted first, and the channels are judged last. -/
theorem hbLossEff_locks {s : State} (hon : s.safe.on = true) (c : Ch) {d : Ch} (hd : bit 0xFF d.val = true) : safeState d (hbLossEff c s) = sfLocked :=
  (judged_safeEvalAll _).2.2 d (lockOut_locks (s := s.setSc c fun x => { x with hb := false }) hon 4 c.val hd)

/-! ### Frames of Feide (R252 to R255) -/

/-- What a frame that is taken brings to its connection. -/
def frameTaken (k : Ix16) (bs : List Byte) (s : State) : State :=
  (setConnState k 2 s).setConn k fun x => { x with seq := leAt bs 2 2, permit := leAt bs 12 1 == 1, failed := false }

theorem frameTaken_connState (k : Ix16) (bs : List Byte) (s : State) : connState k (frameTaken k bs s) = 2 := connState_setConnState k (by decide) s

theorem frameTaken_conn (k : Ix16) (bs : List Byte) (s : State) :
    (frameTaken k bs s).conn k = { s.conn k with seq := leAt bs 2 2, permit := leAt bs 12 1 == 1, failed := false } :=
  State.conn_setConn_same ..

/-- A connection is read from `conns` alone. -/
theorem State.conn_congr {s t : State} (h : t.safe.conns = s.safe.conns) (k : Ix16) : t.conn k = s.conn k := by
  rw [State.conn, State.conn, h]

section
variable {t : Transport} {ident : BitVec 29} {ide : Bool} {bs : List Byte} {k : Ix16} {s : State}
  (hon : s.safe.on = true) (hconn : feideConn t ident ide bs s = some k)
include hon hconn

/-- A frame of a connection in OPENING or RUN meets the checks. -/
theorem feideReceive_of_heeded (hstate : connState k s = 1 ∨ connState k s = 2) :
    feideReceive t ident ide bs s =
      if feideValid k bs s = false then feideBad k s
      else if connState k s = 2 ∧ leAt bs 2 2 = (s.conn k).seq then (s.count Reg.Safe.FEIDE_DUP_CNT).setConn k fun x => { x with failed := false }
      else if connState k s = 2 ∧ leAt bs 2 2 ≠ ((s.conn k).seq + 1) % 65536 then feideBad k s
      else safeEvalAll (frameTaken k bs s) := by
  have hheeded : ¬ (connState k s ≠ 1 ∧ connState k s ≠ 2) := by omega
  simp only [feideReceive, hon, hconn, Bool.not_true, Bool.false_eq_true, if_false, if_neg hheeded, Bool.not_eq_true']
  rfl

theorem feideReceive_of_next (hvalid : feideValid k bs s = true)
    (hnext : (connState k s = 2 ∧ leAt bs 2 2 = ((s.conn k).seq + 1) % 65536) ∨ connState k s = 1) :
    feideReceive t ident ide bs s = safeEvalAll (frameTaken k bs s) := by
  have hnew : ¬ (connState k s = 2 ∧ leAt bs 2 2 = (s.conn k).seq) := by omega
  have hinOrder : ¬ (connState k s = 2 ∧ leAt bs 2 2 ≠ ((s.conn k).seq + 1) % 65536) := by omega
  rw [feideReceive_of_heeded hon hconn (by omega), if_neg (by simp [hvalid]), if_neg hnew, if_neg hinOrder]

theorem feideReceive_of_repeated (hvalid : feideValid k bs s = true) (hrun : connState k s = 2) (hsame : leAt bs 2 2 = (s.conn k).seq) :
    feideReceive t ident ide bs s = (s.count Reg.Safe.FEIDE_DUP_CNT).setConn k fun x => { x with failed := false } := by
  rw [feideReceive_of_heeded hon hconn (.inr hrun), if_neg (by simp [hvalid]), if_pos ⟨hrun, hsame⟩]

theorem feideReceive_of_invalid (hinvalid : feideValid k bs s = false) (hrun : connState k s = 2) :
    feideReceive t ident ide bs s = feideBad k s := by
  rw [feideReceive_of_heeded hon hconn (.inr hrun), if_pos hinvalid]

/-- The judgement of the channels leaves the connection that was taken. -/
theorem feideReceive_takes (hvalid : feideValid k bs s = true)
    (hnext : (connState k s = 2 ∧ leAt bs 2 2 = ((s.conn k).seq + 1) % 65536) ∨ connState k s = 1) :
    ((feideReceive t ident ide bs s).conn k).seq = leAt bs 2 2 ∧ ((feideReceive t ident ide bs s).conn k).permit = decide (leAt bs 12 1 = 1) ∧
      connState k (feideReceive t ident ide bs s) = 2 := by
  obtain ⟨hconns, hstates, _⟩ := judged_safeEvalAll (frameTaken k bs s)
  rw [feideReceive_of_next hon hconn hvalid hnext, hstates, State.conn_congr hconns, frameTaken_conn]
  exact ⟨rfl, rfl, frameTaken_connState k bs s⟩

end

theorem feideBad_of_run {k : Ix16} {s : State} (hrun : connState k s = 2) :
    feideBad k s = if (s.conn k).failed = true then feideFail k s else (s.count Reg.Safe.FEIDE_TRANSIENT_CNT).setConn k fun x => { x with failed := true } := by
  simp [feideBad, hrun]

/-- `t` differs from `s` in the queues of CAN controllers and in what they offer. -/
def QueuesOnly (s t : State) : Prop :=
  t = { s with cans := t.cans } ∧ ∀ k : CanIx, (t.can k).recovering = (s.can k).recovering ∧ (t.can k).retained = (s.can k).retained

theorem QueuesOnly.refl (s : State) : QueuesOnly s s := ⟨rfl, fun _ => ⟨rfl, rfl⟩⟩

theorem QueuesOnly.trans {s t u : State} (hst : QueuesOnly s t) (htu : QueuesOnly t u) : QueuesOnly s u := by
  obtain ⟨ht, hkept⟩ := hst
  obtain ⟨hu, hkept'⟩ := htu
  rw [ht] at hu
  exact ⟨hu, fun k => ⟨(hkept' k).1.trans (hkept k).1, (hkept' k).2.trans (hkept k).2⟩⟩

/-- What a change of queues leaves. -/
theorem QueuesOnly.parts {s t : State} (h : QueuesOnly s t) : t.regs = s.regs ∧ t.hbs = s.hbs ∧ t.chans = s.chans ∧ t.safe = s.safe := by
  rw [h.1]
  exact ⟨rfl, rfl, rfl, rfl⟩

theorem queuesOnly_setCan (s : State) (c : CanIx) (f : CanSt → CanSt)
    (hf : ∀ x, (f x).recovering = x.recovering ∧ (f x).retained = x.retained := by exact fun _ => ⟨rfl, rfl⟩) : QueuesOnly s (s.setCan c f) := by
  refine ⟨rfl, fun k => ?_⟩
  by_cases hk : c = k
  · subst hk
    rw [State.can_setCan_same]
    exact hf _
  · rw [State.can_setCan_other _ _ hk]
    exact ⟨rfl, rfl⟩

theorem queuesOnly_foldl {α : Type} {f : State → α → State} (hf : ∀ s x, QueuesOnly s (f s x)) (l : List α) (s : State) : QueuesOnly s (l.foldl f s) :=
  foldl_keeps (P := QueuesOnly s) (fun t x h => h.trans (hf t x)) l s (.refl s)

theorem queuesOnly_canIdle (c : CanIx) (s : State) : QueuesOnly s (canIdle c s) := by
  unfold canIdle
  exact queuesOnly_setCan s c _

theorem queuesOnly_canKick (s : State) : QueuesOnly s (canKick s) := by
  refine queuesOnly_foldl (fun s c => ?_) allCan s
  split
  · exact .refl s
  · exact queuesOnly_canIdle c s

theorem queuesOnly_mirrorBuf (c : CanIx) (b : BufIx) (k : CanIx) : ∀ (fuel : Nat) (s : State), QueuesOnly s (mirrorBuf c b k fuel s)
  | 0, s => .refl s
  | fuel + 1, s => by
    unfold mirrorBuf
    split
    · exact .refl s
    · split
      · exact .refl s
      · exact ((queuesOnly_setCan s c _).trans (queuesOnly_setCan _ k _)).trans (queuesOnly_mirrorBuf c b k fuel _)

theorem queuesOnly_mirrorFill (c : CanIx) (s : State) : QueuesOnly s (mirrorFill c s) := by
  unfold mirrorFill
  split
  · exact .refl s
  · refine queuesOnly_foldl (fun s b => ?_) _ s
    dsimp only
    split
    · split
      · exact .refl s
      · exact queuesOnly_mirrorBuf ..
    · exact .refl s

/-- An entry offered joins its queue, or is counted as dropped. -/
theorem canOffer_spec (c : CanIx) (b : BufIx) (x : CanTx) (s : State) :
    QueuesOnly s (canOffer c b x s).2 ∨ (canOffer c b x s).2 = s.count Reg.CanStat.DROP_CNT c.val := by
  unfold canOffer
  split
  · exact .inl (((queuesOnly_setCan s c _).trans (queuesOnly_mirrorFill c _)).trans (queuesOnly_canKick _))
  · exact .inr rfl

theorem canOffer_safe (c : CanIx) (b : BufIx) (x : CanTx) (s : State) : (canOffer c b x s).2.safe = s.safe := by
  rcases canOffer_spec c b x s with h | h
  · exact h.parts.2.2.2
  · rw [h]
    rfl

/-- A frame formed stands in its connection with the next SEQ; sending it leaves the connections. -/
theorem feideProduceEff_forms {k : Ix16} {s : State} (hon : s.safe.on = true) (hdir : s.rd Reg.Feide.DIR 0 k.val = 2) :
    (feideProduceEff k s).safe = (s.setConn k fun x => { x with txSeq := (x.txSeq + 1) % 65536, frame := some (feideFrame k s) }).safe := by
  have hproduced : ¬ ((!s.safe.on || s.rd Reg.Feide.DIR 0 k.val != 2) = true) := by simp [hon, hdir]
  have hsent : ∀ p f u, (hbSend p 1 f u).safe = u.safe := fun p f u => (hbSend_spec p 1 f u).parts.2.2.2.1
  unfold feideProduceEff
  rw [if_neg hproduced]
  dsimp only
  split
  · rfl
  · split
    · rw [canOffer_safe]
    · split
      · exact hsent _ _ _
      · split
        · exact hsent _ _ _
        · rfl

theorem feideProduceEff_conn {k : Ix16} {s : State} (hon : s.safe.on = true) (hdir : s.rd Reg.Feide.DIR 0 k.val = 2) :
    (feideProduceEff k s).conn k = { s.conn k with txSeq := ((s.conn k).txSeq + 1) % 65536, frame := some (feideFrame k s) } := by
  rw [State.conn, feideProduceEff_forms hon hdir]
  exact State.conn_setConn_same ..

/-! ### The safety configuration in force (R257) -/

/-- The image of fields is read from their registers. -/
theorem imageOf_congr {s t : State} {fs : List Fld} {n : Nat} (h : ∀ f ∈ fs, ∀ i < f.cnt, t.rd f n i = s.rd f n i) (len : Nat) :
    imageOf len n fs t = imageOf len n fs s := by
  unfold imageOf
  congr 1
  refine List.foldl_ext _ _ _ fun v f hf => List.foldl_ext _ _ _ fun v i hi => ?_
  rw [h f hf i (List.mem_range.mp hi)]

/-- Registers of the two objects of the safety configuration read alike. -/
def ConfigKept (s t : State) : Prop := ∀ (f : Fld) (i : Nat), f.base = 0x3F00 ∨ f.base = 0x3F01 → f.pos i < 65536 → t.rd f 0 i = s.rd f 0 i

theorem ConfigKept.trans {s t u : State} (hst : ConfigKept s t) (htu : ConfigKept t u) : ConfigKept s u :=
  fun f i hbase hpos => (htu f i hbase hpos).trans (hst f i hbase hpos)

theorem configKept_wr {g : Fld} {i : Nat} (h : g.base = 0x3F02 ∧ g.pos i < 65536) (v : Nat) (s : State) : ConfigKept s (s.wr g 0 i v) :=
  fun _ _ hbase hpos => State.rd_wr_other s v (Fld.key_ne_of_object_ne (by omega) h.2 hpos)

theorem configKept_foldl {α : Type} {f : State → α → State} (hf : ∀ s x, ConfigKept s (f s x)) (l : List α) (s : State) : ConfigKept s (l.foldl f s) :=
  foldl_keeps (P := ConfigKept s) (fun t x h => h.trans (hf t x)) l s fun _ _ _ _ => rfl

theorem safetyCrc_congr {s t : State} (h : ConfigKept s t) : safetyCrc t = safetyCrc s := by
  have hin : ∀ f ∈ Reg.SafeIn.fields, f.base = 0x3F00 ∧ ∀ i < f.cnt, f.pos i < 65536 := by decide
  have hfeide : ∀ f ∈ Reg.Feide.fields, f.base = 0x3F01 ∧ ∀ i < f.cnt, f.pos i < 65536 := by decide
  unfold safetyCrc
  rw [imageOf_congr (fun f hf i hi => h f i (.inl (hin f hf).1) ((hin f hf).2 i hi)),
    imageOf_congr (fun f hf i hi => h f i (.inr (hfeide f hf).1) ((hfeide f hf).2 i hi))]

/-- A Guard takes the new CRC as its copy. -/
def guardTakes (crc : Nat) (s : State) (c : Ch) : State := s.setSc c fun x => { x with guardCrc := crc }

/-- A connection opens when it consumes, and is off otherwise. -/
def connOpens (s : State) (k : Ix16) : State := (setConnState k (if connConsumes k s then 1 else 0) s).setConn k fun x => { x with failed := false }

/-- Where the CRC is written, taken by the Guards, and the connections are set. -/
theorem safetyTake_eq (s : State) :
    safetyTake s = allIx.foldl connOpens (allCh.foldl (guardTakes (safetyCrc s)) (s.wr Reg.Safe.CFG_CRC 0 0 (safetyCrc s))) := rfl

theorem guardTakes_guardCrc (crc : Nat) (s : State) (c : Ch) : ((allCh.foldl (guardTakes crc) s).sc c).guardCrc = crc := by
  refine foldl_reaches (P := fun s => (s.sc c).guardCrc = crc) (f := guardTakes crc) (d := c) (fun s => ?_) (fun s x h => ?_) (List.mem_finRange c) s
  · rw [guardTakes, State.sc_setSc_same]
  · by_cases hx : x = c
    · rw [guardTakes, hx, State.sc_setSc_same]
    · rwa [guardTakes, State.sc_setSc_other _ _ hx]

theorem connState_pos_lt (k : Ix16) : Reg.Safe.CONN_STATE.pos k.val < 65536 := by
  revert k
  decide

theorem safetyTake_configKept (s : State) : ConfigKept s (safetyTake s) := by
  have hcrc : ConfigKept s (s.wr Reg.Safe.CFG_CRC 0 0 (safetyCrc s)) := configKept_wr (by decide) _ s
  have hguards : ∀ t, ConfigKept t (allCh.foldl (guardTakes (safetyCrc s)) t) :=
    fun t => configKept_foldl (f := guardTakes (safetyCrc s)) (fun _ _ _ _ _ _ => rfl) allCh t
  have hconns : ∀ t, ConfigKept t (allIx.foldl connOpens t) :=
    fun t => configKept_foldl (f := connOpens) (fun t k => configKept_wr ⟨rfl, connState_pos_lt k⟩ (if connConsumes k t then 1 else 0) t) allIx t
  exact hcrc.trans ((hguards _).trans (hconns _))

theorem safetyTake_cfgCrc (s : State) : (safetyTake s).rd Reg.Safe.CFG_CRC = safetyCrc s % 2 ^ 32 := by
  have hkey : ∀ k : Ix16, Reg.Safe.CONN_STATE.key 0 0 k.val ≠ Reg.Safe.CFG_CRC.key 0 0 0 := fun k => Fld.key_ne_of_pos_ne rfl (by revert k; decide)
  rw [safetyTake_eq]
  refine foldl_keeps (P := fun t => t.rd Reg.Safe.CFG_CRC = safetyCrc s % 2 ^ 32) (f := connOpens) (fun t k h => (State.rd_wr_other t _ (hkey k)).trans h) allIx _ ?_
  refine foldl_keeps (P := fun t => t.rd Reg.Safe.CFG_CRC = safetyCrc s % 2 ^ 32) (f := guardTakes (safetyCrc s)) (fun _ _ h => h) allCh _ ?_
  exact State.rd_wr s Reg.Safe.CFG_CRC 0 0 _

theorem safetyTake_guardCrc (s : State) (c : Ch) : ((safetyTake s).sc c).guardCrc = safetyCrc s := by
  rw [safetyTake_eq]
  exact foldl_keeps (P := fun t => (t.sc c).guardCrc = safetyCrc s) (f := connOpens) (fun _ _ h => h) allIx _ (guardTakes_guardCrc _ _ c)

end Sys2Proof.Machine

namespace Sys2Proof.SafetyIsland

open Sys2Proof.Machine Sys2Proof.Safety

/-- A command on a powered island runs its effect. -/
theorem runs_of_onIsland {i : Instr} {s t : State} {f : State → State} (hexec : exec i s = fin s (onIsland f s)) (hon : s.safe.on = true) (heff : f s = t) :
    Runs i s t :=
  runs_of_fin hexec ((if_pos hon).trans heff)

/-- A frame that reaches a running Crown over the host port goes to the safety processor. -/
theorem feideFrameReceive_host_runs (ident : BitVec 29) (ide : Bool) (bs : List Byte) {s : State} (hup : crownUp s = true) :
    Runs (.feideFrameReceive .host ident ide bs) s (feideReceive .host ident ide bs s) :=
  runs_of_fin rfl (if_neg (by simp [hup]))

/-- Settles O25: each row locks out its scope, and a lock-out leaves every channel of the scope LOCKED. -/
theorem lockOutCauses : Obligations.LockOutCauses := by
  refine ⟨fun k s hon => ?line, fun p s => ?discrepancy, fun c s hon => ?heartbeat, fun c b s hon => ?readback, fun c i s hon => ?paths,
    fun x s hon => ?selfTest, fun s hon => ?config, fun k s hon hrun => ?watchdog, fun k c b i x s hon f hf => ?locked⟩
  case line => exact runs_of_onIsland rfl hon rfl
  case discrepancy =>
    intro a b hon htype hdiff
    exact runs_of_onIsland rfl hon (if_pos ⟨htype, hdiff⟩)
  case heartbeat => exact runs_of_onIsland rfl hon rfl
  case readback => exact runs_of_onIsland rfl hon rfl
  case paths => exact runs_of_fin rfl rfl
  case selfTest => exact runs_of_fin rfl rfl
  case config => exact runs_of_onIsland rfl hon rfl
  case watchdog => exact runs_of_onIsland rfl hon (if_pos hrun)
  case locked =>
    have hscope : ∀ {i : Instr} {mask cause detail : Nat}, Runs i s (lockOut mask cause detail s) →
        ∃ t, exec i s = .next t ∧ ∀ d : Ch, bit mask d.val = true → safeState d t = sfLocked :=
      fun h => next_of_runs h fun d hd => lockOut_locks hon _ _ hd
    simp only [List.mem_cons, List.not_mem_nil, or_false] at hf
    obtain rfl | rfl | rfl | rfl | rfl := hf
    · exact hscope (runs_of_onIsland rfl hon rfl)
    · have hrun : Runs (.guardHeartbeatLoss c) s (hbLossEff c s) := runs_of_onIsland rfl hon rfl
      exact next_of_runs hrun fun d hd => hbLossEff_locks hon c hd
    · exact hscope (runs_of_onIsland rfl hon rfl)
    · exact hscope (runs_of_fin rfl rfl)
    · exact hscope (runs_of_fin rfl rfl)

/-- Settles O28: a frame taken stands in its connection through the judgement of the channels, and one formed through its sending. -/
theorem feideFrames : Obligations.FeideFrames := by
  refine ⟨fun ident ide bs s hup => ?host, fun p ident ide bs s hup => ?hatband, fun c ident ide bs s hup => ?can, fun ident ide bs k s hup hon hconn hvalid hrun hnext => ?taken,
    fun t ident ide bs k s hon hconn hvalid hnext => ?next, fun t ident ide bs k s hon hconn hvalid hrun hsame => ?repeated,
    fun t ident ide bs k s hon hconn hinvalid hrun => ?invalid, fun k s hon hdir => ?produced⟩
  case host => exact feideFrameReceive_host_runs ident ide bs hup
  case hatband => exact runs_of_fin rfl (if_neg (by simp [hup]))
  case can => exact runs_of_fin rfl (if_neg (by simp [hup]))
  case taken => exact next_of_runs (feideFrameReceive_host_runs ident ide bs hup) (feideReceive_takes hon hconn hvalid (.inl ⟨hrun, hnext⟩))
  case next => exact feideReceive_takes hon hconn hvalid hnext
  case repeated => exact feideReceive_of_repeated hon hconn hvalid hrun hsame
  case invalid => exact (feideReceive_of_invalid hon hconn hinvalid hrun).trans (feideBad_of_run hrun)
  case produced =>
    have hformed : ((feideProduceEff k s).conn k).txSeq = ((s.conn k).txSeq + 1) % 65536 ∧
        ((feideProduceEff k s).conn k).frame = some (feideFrame k s) ∧ ((feideProduceEff k s).conn k).seq = (s.conn k).seq := by
      rw [feideProduceEff_conn hon hdir]
      exact ⟨rfl, rfl, rfl⟩
    have hrun : Runs (.feideProduce k) s (feideProduceEff k s) := runs_of_fin rfl rfl
    exact next_of_runs hrun hformed

/-- Settles O29: the CRC is formed from registers that taking the configuration does not write. -/
theorem safetyConfigurationCrc : Obligations.SafetyConfigurationCrc := fun s =>
  ⟨safetyTake_cfgCrc s, safetyCrc_congr (safetyTake_configKept s), safetyTake_guardCrc s, rfl, fun _ => rfl⟩

end Sys2Proof.SafetyIsland

/-! # Objects: reads, whole and partial writes, rows that write a register, and staging (R283, R291 to R294) -/

namespace Sys2Proof.ObjectWrites

open Sys2Proof.Machine Sys2Proof.Safety

/-! ### What objWriteAt answers -/

section
variable {m : Mbx} {wt : Waiter} {a : Author} {oid : Nat} {o : Obj} {n lo : Nat} {data : List Byte} {s : State}

/-- An accepted write that asks for a HANDOVER: it completes later. -/
def asksHandover (m : Mbx) (oid : Nat) (o : Obj) (n lo : Nat) (data : List Byte) (s : State) : Bool :=
  (mkObjW o n (mergeBase m oid o n s) lo data).hit Reg.PairCfg.HANDOVER && o.base == 0x4F40

theorem asksHandover_false (h : o.base ≠ 0x4F40 ∨ (mkObjW o n (mergeBase m oid o n s) lo data).hit Reg.PairCfg.HANDOVER = false) :
    asksHandover m oid o n lo data s = false := by
  unfold asksHandover
  rcases h with h | h <;> simp [h]

theorem objWriteAt_accepted (h : WriteAccepted m wt oid o n lo data s) :
    objWriteAt m wt a oid o n lo data (layoutOf o n s) none s =
      (if asksHandover m oid o n lo data s then none else some (.ok 0), recordApply a 1 true oid wt (mkObjW o n (mergeBase m oid o n s) lo data) s) := by
  obtain ⟨-, -, -, hlife, hother, hheld, h6, hscope, h7⟩ := h
  simp [objWriteAt, hlife, hother, hheld, h6, hscope, h7, asksHandover]

theorem objWriteAt_lockedByOther {layout : Nat} {bad : Option Nat} (hlife : s.rd Reg.Life.LIFECYCLE ≠ 3) (hother : lockedByOther m (groupOf oid) s = true) :
    objWriteAt m wt a oid o n lo data layout bad s = (some (.fail stLockedByOther (groupOf oid)), s) := by
  simp [objWriteAt, hlife, hother]

theorem objWriteAt_layoutMismatch {layout : Nat} {bad : Option Nat} (hlife : s.rd Reg.Life.LIFECYCLE ≠ 3) (hother : lockedByOther m (groupOf oid) s = false)
    (hlayout : layout ≠ layoutOf o n s) :
    objWriteAt m wt a oid o n lo data layout bad s = (some (.fail stLayoutMismatch (layoutOf o n s)), s) := by
  simp [objWriteAt, hlife, hother, hlayout]

/-- Under the mailbox's own lock a write that passes the checks goes to the staged writes. -/
theorem objWriteAt_held {l : Lock} (hlife : s.rd Reg.Life.LIFECYCLE ≠ 3) (hother : lockedByOther m (groupOf oid) s = false) (hlock : (s.mb m).lock = some l)
    (hmem : groupOf oid ∈ l.groups) (h6 : check6 (mkObjW o n (mergeBase m oid o n s) lo data) s = none) (hscope : scopeOk m (localObj oid) s = true) :
    objWriteAt m wt a oid o n lo data (layoutOf o n s) none s = (some (stageWrite m a oid lo data s).1, (stageWrite m a oid lo data s).2) := by
  have hheld : holdsGroup m (groupOf oid) s = true := by simp [holdsGroup, hlock, hmem]
  simp [objWriteAt, hlife, hother, hheld, h6, hscope]

theorem stageWrite_of_lt {l : Lock} (hlock : (s.mb m).lock = some l) (hlt : l.staged.length < 64) :
    stageWrite m a oid lo data s =
      (.ok 1, s.setMb m fun b => { b with lock := b.lock.map fun l => { l with staged := l.staged ++ [⟨oid, lo, data, a.epoch, a.seq⟩] } }) := by
  have : ¬ 64 ≤ l.staged.length := by omega
  simp [stageWrite, stagedMax, hlock, this]

theorem stageWrite_of_full {l : Lock} (hlock : (s.mb m).lock = some l) (hfull : 64 ≤ l.staged.length) :
    stageWrite m a oid lo data s = (.fail stLockFull 64, s) := by
  simp [stageWrite, stagedMax, hlock, hfull]

/-! ### Whole and partial writes -/

/-- The end of an accepted write that asks for no HANDOVER. -/
theorem processed_endOf_accepted (h : WriteAccepted m wt oid o n lo data s) (hno : asksHandover m oid o n lo data s = false) :
    processed m (endOf wt (objWriteAt m wt a oid o n lo data (layoutOf o n s) none s)) = writeDone m wt a oid o n lo data s := by
  rw [objWriteAt_accepted h, hno]
  rfl

theorem objWriteWhole_of_length (hobj : objAt oid = some (o, n)) (hlen : data.length = o.len) :
    objWriteWhole m wt a oid data s = objWriteAt m wt a oid o n 0 data (data.headD 0).toNat none s := by
  simp [objWriteWhole, hobj, hlen]

theorem objWriteWhole_badLength (hobj : objAt oid = some (o, n)) (hlen : data.length ≠ o.len) :
    objWriteWhole m wt a oid data s = (some (.fail stBadLength o.len), s) := by
  simp [objWriteWhole, hobj, hlen]

/-- A partial write inside the object, past its LAYOUT byte. -/
theorem objWritePart_inside {layout : Nat} (hobj : objAt oid = some (o, n)) (hlo : lo ≠ 0) (hin : lo + data.length ≤ o.len) :
    objWritePart m wt a oid lo layout data none s = objWriteAt m wt a oid o n lo data layout none s := by
  have : ¬ o.len < lo + data.length := by omega
  simp [objWritePart, hobj, hlo, this]

theorem objWriteRow_run {image : List Byte} (hup : crownUp s = true) (hmay : rowMay m oid image s = true) :
    objWriteRow m oid image s = processed m (endOf (waiterOf m oid s) (objWriteWhole m (waiterOf m oid s) (authorOf m oid s) oid image s)) := by
  simp [objWriteRow, hup, hmay]

/-- A whole write that passes every check ends DONE. -/
theorem objWriteRow_accepted {image : List Byte} (h : WriteAccepted m (waiterOf m oid s) oid o n 0 image s) (hmay : rowMay m oid image s = true)
    (hlen : image.length = o.len) (hlayout : (image.headD 0).toNat = layoutOf o n s) (hno : asksHandover m oid o n 0 image s = false) :
    objWriteRow m oid image s = writeDone m (waiterOf m oid s) (authorOf m oid s) oid o n 0 image s := by
  rw [objWriteRow_run h.1 hmay, objWriteWhole_of_length h.2.1 hlen, hlayout, processed_endOf_accepted h hno]

theorem writePartEff_accepted {p : List Byte} (h : WriteAccepted m (waiterOf m codePart s) (leAt p 0 2) o n (leAt p 2 2) (p.drop 8) s)
    (hlen : 9 ≤ p.length) (h5 : p.getD 5 0 = 0) (h6 : p.getD 6 0 = 0) (h7 : p.getD 7 0 = 0) (hmay : rowMay m codePart p s = true)
    (hlayout : leAt p 4 1 = layoutOf o n s) (hlo : leAt p 2 2 ≠ 0) (hno : asksHandover m (leAt p 0 2) o n (leAt p 2 2) (p.drop 8) s = false) :
    writePartEff m p s = writeDone m (waiterOf m codePart s) (authorOf m codePart s) (leAt p 0 2) o n (leAt p 2 2) (p.drop 8) s := by
  obtain ⟨hup, hobj, hin, -⟩ := id h
  have hshort : ¬ p.length < 9 := by omega
  have hrsv : ([5, 6, 7].find? fun k => p.getD k 0 != 0) = none := by
    simp only [List.find?_cons, h5, h6, h7]
    rfl
  simp only [writePartEff, hup, hmay, hrsv, hshort, decide_false, Bool.and_false, Bool.not_true, Bool.or_self, Bool.false_eq_true, if_false]
  rw [objWritePart_inside hobj hlo hin, hlayout, processed_endOf_accepted h hno]

end

/-- A safety object is not the pair's. -/
theorem base_of_safetyObject {f : Bool} {o : Obj} {n : Nat} (h : objAt (if f then 0x3F01 else 0x3F00) = some (o, n)) : o.base ≠ 0x4F40 := by
  have hall : ∀ g : Bool, (objAt (if g then 0x3F01 else 0x3F00)).all (fun x => x.1.base != 0x4F40) = true := by decide
  have := hall f
  rw [h] at this
  simpa using this

/-! ### Rows -/

theorem length_leBytes : ∀ (k v : Nat), (leBytes k v).length = k
  | 0, _ => rfl
  | k + 1, v => congrArg (· + 1) (length_leBytes k (v / 256))

/-- The effect of a command with a row is the write of that row. -/
theorem exec_row {i : Instr} {s : State} {r : Row} (h : rowOf s i = some r) : exec i s = fin s (regWrite r.m r.oid r.lo r.len r.edits s) := by
  cases i <;> cases h <;> rfl

/-- No row writes the LAYOUT byte. -/
theorem lo_ne_zero_of_row {i : Instr} {s : State} {r : Row} (h : rowOf s i = some r) : r.lo ≠ 0 := by
  cases i <;> cases h <;> simp

/-- The write that a row makes, when it passes every check. -/
theorem regWrite_accepted {m : Mbx} {oid lo len n : Nat} {o : Obj} {edits : List (Fld × Nat × Nat)} {s : State}
    (h : WriteAccepted m (waiterOf m (rowCode m oid s) s) oid o n lo (rowBytes m oid o n lo len edits s) s) (hlo : lo ≠ 0)
    (hmay : regMay m oid lo len o n edits s = true) :
    regWrite m oid lo len edits s =
      processed m (endOf (waiterOf m (rowCode m oid s) s) (objWriteAt m (waiterOf m (rowCode m oid s) s) (authorOf m (rowCode m oid s) s) oid o n lo
        (rowBytes m oid o n lo len edits s) (layoutOf o n s) none s)) := by
  obtain ⟨hup, hobj, hin, -⟩ := h
  simp only [regWrite, hup, hobj, hmay, Bool.not_true, Bool.false_eq_true, if_false, if_true]
  rw [objWritePart_inside hobj hlo hin]

/-- A row whose write passes the checks ends in the state of that write. -/
theorem runs_of_row {i : Instr} {r : Row} {o : Obj} {n : Nat} {s : State} (hrow : rowOf s i = some r)
    (h : WriteAccepted r.m (r.wt s) r.oid o n r.lo (r.data o n s) s) (hmay : regMay r.m r.oid r.lo r.len o n r.edits s = true)
    (hno : o.base ≠ 0x4F40 ∨ (mkObjW o n (mergeBase r.m r.oid o n s) r.lo (r.data o n s)).hit Reg.PairCfg.HANDOVER = false) : Runs i s (r.done o n s) :=
  runs_of_fin (exec_row hrow) ((regWrite_accepted h (lo_ne_zero_of_row hrow) hmay).trans (processed_endOf_accepted h (asksHandover_false hno)))

theorem rowWrites_of_ready {i : Instr} {s : State} (h : RowReady i s) : RowWrites i s := by
  obtain ⟨r, o, n, hrow, hacc, hmay, hno⟩ := h
  exact ⟨r, o, n, hrow, hacc.2.1, runs_of_row hrow hacc hmay hno, by simp [Row.done, writeDone, Row.wt, waiterOf, Done.ok]⟩

/-- Settles O40: every row is one write of its bytes, and an accepted write ends DONE or waits for its HANDOVER. -/
theorem registerRowsWrite : Obligations.RegisterRowsWrite := by
  refine ⟨fun i r o n s => runs_of_row, fun _ _ => rowWrites_of_ready, fun _ _ _ _ => rowWrites_of_ready, fun _ _ _ => rowWrites_of_ready,
    fun _ _ _ _ _ => rowWrites_of_ready, fun _ _ _ _ _ _ => rowWrites_of_ready, fun _ _ _ _ _ _ => rowWrites_of_ready, fun _ _ _ _ => rowWrites_of_ready,
    fun _ _ _ _ _ => rowWrites_of_ready, fun _ _ _ => rowWrites_of_ready, fun _ _ _ _ => rowWrites_of_ready, fun _ _ _ _ => rowWrites_of_ready,
    fun _ _ _ _ _ _ => rowWrites_of_ready, fun _ _ _ => rowWrites_of_ready, fun _ _ _ _ => rowWrites_of_ready, fun _ _ _ => rowWrites_of_ready,
    fun _ _ _ => rowWrites_of_ready, fun _ _ _ _ => rowWrites_of_ready, fun m o s => ?handover⟩
  case handover =>
    intro wt d hacc hmay hhit hbase
    have hasks : asksHandover m 0x4F40 o 0 1 d s = true := by simp [asksHandover, hhit, hbase]
    have hrow := regWrite_accepted hacc (by decide) hmay
    rw [objWriteAt_accepted hacc, hasks] at hrow
    exact runs_of_fin rfl hrow

/-! ### Reads -/

theorem objectReadEff_unknown {m : Mbx} {oid : Nat} {s : State} (h : objAt oid = none) : objectReadEff m oid s = (.fail stUnknownObject 0, s) := by
  simp [objectReadEff, h]

theorem hostCmd_run {m : Mbx} {code : Nat} {p : List Byte} {f : State → Done × State} {s : State} (hup : crownUp s = true) (hmay : rowMay m code p s = true) :
    hostCmd m code p f s = complete m code (f s).1 (f s).2 := by
  simp [hostCmd, hup, hmay]

theorem runs_objectRead {m : Mbx} {oid : W16} {s : State} (hup : crownUp s = true) (hmay : rowMay m oid.toNat [] s = true) :
    Runs (.objectRead m oid) s (complete m oid.toNat (objectReadEff m oid.toNat s).1 (objectReadEff m oid.toNat s).2) :=
  runs_of_fin rfl (hostCmd_run hup hmay)

/-- Settles O41: the checks of R293 in order, for a whole write, a partial write and a read. -/
theorem objectReadsAndWrites : Obligations.ObjectReadsAndWrites := by
  refine ⟨fun m oid s => runs_objectRead, fun m oid o n s hup hmay hobj => ?done, fun m oid s => objectReadEff_unknown, fun m oid o n s hobj hheld => ?image,
    fun m oid o n image s hacc hmay hlen hlayout hno => ?whole, fun m f o n image s hacc hmay hlen hlayout => ?safety,
    fun m p o n s hlen h5 h6 h7 hmay hlayout hlo hacc hno => ?part, fun m oid o n image s hup hmay hobj hlen => ?length,
    fun m oid o n image s hup hmay hobj hlen hlayout hlife hother => ?layout⟩
  case done =>
    obtain ⟨t, ht, hrep⟩ := next_of_runs (P := fun t => ∃ r, t.report = some ⟨m.val, stDone, o.len, r⟩) (runs_objectRead hup hmay)
      (by simp [objectReadEff, hobj, complete, waiterOf, Done.ok])
    exact ⟨t, hrep.choose, ht, hrep.choose_spec⟩
  case image => simp [objectReadEff, hobj, hheld]
  case whole => exact runs_of_fin rfl (objWriteRow_accepted hacc hmay hlen hlayout (asksHandover_false hno))
  case safety => exact runs_of_fin rfl (objWriteRow_accepted hacc hmay hlen hlayout (asksHandover_false (.inl (base_of_safetyObject hacc.2.1))))
  case part => exact runs_of_fin rfl (writePartEff_accepted hacc hlen h5 h6 h7 hmay hlayout hlo (asksHandover_false hno))
  case length =>
    have hrow := objWriteRow_run hup hmay
    rw [objWriteWhole_badLength hobj hlen] at hrow
    exact runs_of_fin rfl hrow
  case layout =>
    have hrow := objWriteRow_run hup hmay
    rw [objWriteWhole_of_length hobj hlen, objWriteAt_layoutMismatch hlife hother hlayout] at hrow
    exact runs_of_fin rfl hrow

/-- Settles O43: an accepted write under its own lock is staged, and only the lock of its mailbox changes. -/
theorem stagedWrites : Obligations.StagedWrites := by
  refine ⟨fun m wt a oid o n lo data l s hlife hother hlock hmem h6 hscope hlt => ?staged, fun m wt a oid o n lo data l s hlife hother hlock hmem h6 hscope hfull => ?full,
    fun m wt a oid o n lo data layout bad s => objWriteAt_lockedByOther⟩
  case staged =>
    rw [objWriteAt_held hlife hother hlock hmem h6 hscope, stageWrite_of_lt hlock hlt]
    exact ⟨rfl, by simp [hlock], rfl, rfl, rfl, fun x hx => State.mb_setMb_other _ _ hx.symm⟩
  case full => rw [objWriteAt_held hlife hother hlock hmem h6 hscope, stageWrite_of_full hlock hfull]

/-! ### A row and the read-only bits beside its field -/

/-- CAN 0 is bus-off. -/
def busOff : State := State.reset.wr Reg.CanStat.ESTATE 0 0 2
/-- The object of CAN 0 that holds RECOVER, and ESTATE in the same byte. -/
def canStatObj : Obj := ((objAt 0x4F28).map Prod.fst).getD ⟨0, false, 0, 0, []⟩
/-- What the row RECOVER writes to it. -/
def recoverWrite : ObjW := mkObjW canStatObj 0 (mergeBase 0 0x4F28 canStatObj 0 busOff) 1 (rowBytes 0 0x4F28 canStatObj 0 1 1 [(Reg.CanStat.RECOVER, 0, 1)] busOff)

theorem estate_mergeBase : Reg.CanStat.ESTATE.from 0 (mergeBase 0 0x4F28 canStatObj 0 busOff) = 2 := by decide +kernel
theorem estate_recoverWrite : recoverWrite.g Reg.CanStat.ESTATE = 0 := by decide +kernel

/-- Refutes O42: the bytes of a row are formed from the stored part alone, so read-only bits beside the edited field stand 0 in the image that the write leaves, while the
content it is merged with holds them. The row RECOVER of a controller in bus-off writes ESTATE 0 where that content holds 2. -/
theorem not_rowWriteCarriesItsField : ¬ Obligations.RowWriteCarriesItsField := by
  unfold Obligations.RowWriteCarriesItsField
  intro h
  have hkept := (h 0 0x4F28 canStatObj 0 1 1 Reg.CanStat.RECOVER 0 1 busOff (by decide) (by decide)).2 Reg.CanStat.ESTATE 0 (by decide)
  have h02 : (0 : Nat) = 2 := estate_recoverWrite.symm.trans (hkept.trans estate_mergeBase)
  exact absurd h02 (by decide)

end Sys2Proof.ObjectWrites

/-! # The host port: frames of every transport, mailbox operations, and the direct window (12_crown_mailboxes.md) -/

namespace Sys2Proof.HostFrames

open Sys2Proof.Machine Sys2Proof.Safety

/-! ### A frame arrives -/

theorem frameEff_brings {t : Transport} {f g : HostFrame} {s u : State} (row : Nat) (h : Brings t f s g u) :
    frameEff row t f s = frameAnswer (fun op f s => frameServe op t f s) row t g u := by
  obtain ⟨hserve, htake⟩ := h
  simp [frameEff, hserve, htake]

theorem frameAnswer_served {serve : Nat → HostFrame → State → State} {row : Nat} {t : Transport} {g : HostFrame} {u : State}
    (h : frameBad (hfOp g row) t g u = none) : frameAnswer serve row t g u = serve (hfOp g row) g u := by
  simp [frameAnswer, h]

theorem frameAnswer_refused {serve : Nat → HostFrame → State → State} {row d : Nat} {t : Transport} {g : HostFrame} {u : State}
    (h : frameBad (hfOp g row) t g u = some d) : frameAnswer serve row t g u = frameRefuse (hfOp g row) t g d u := by
  simp [frameAnswer, h]

/-- A row whose effect is that of a frame serves the frame that it brings. -/
theorem runs_served {i : Instr} {row : Nat} {t : Transport} {f g : HostFrame} {s u : State} (hi : exec i s = fin s (frameEff row t f s)) (h : Brings t f s g u)
    (hgood : frameBad (hfOp g row) t g u = none) : Runs i s (frameServe (hfOp g row) t g u) :=
  runs_of_fin hi ((frameEff_brings row h).trans (frameAnswer_served hgood))

theorem runs_refused {i : Instr} {row d : Nat} {t : Transport} {f g : HostFrame} {s u : State} (hi : exec i s = fin s (frameEff row t f s)) (h : Brings t f s g u)
    (hbad : frameBad (hfOp g row) t g u = some d) : Runs i s (frameRefuse (hfOp g row) t g d u) :=
  runs_of_fin hi ((frameEff_brings row h).trans (frameAnswer_refused hbad))

theorem brings_host {f : HostFrame} {s : State} (hserve : canServe s = true) (hheld : (s.crown.held.any fun h => h.t == .host) = false) :
    Brings .host f s f (replySent s) :=
  ⟨hserve, by simp [takeFrame, hheld]⟩

/-! ### The end of a transaction -/

theorem replySent_deliver {s : State} {m : Mbx} {ep sq : Nat} (h : s.crown.reply.bind Reply.delivers = some (m, ep, sq)) :
    replySent s = { deliver m ep sq s with crown := { (deliver m ep sq s).crown with reply := none } } := by
  simp [replySent, h]

theorem replySent_plain {s : State} (h : s.crown.reply.bind Reply.delivers = none) : replySent s = { s with crown := { s.crown with reply := none } } := by
  simp [replySent, h]

theorem deliver_cmds (m : Mbx) (ep sq : Nat) (s : State) :
    ((deliver m ep sq s).mb m).cmds = (s.mb m).cmds.filter fun x => !(x.epoch == ep && x.seq == sq && !x.live) := by
  simp [deliver]

/-- A reply sent changes no register and no channel. -/
theorem replySent_regs (s : State) : (replySent s).regs = s.regs ∧ (replySent s).chans = s.chans := by
  unfold replySent
  cases s.crown.reply.bind Reply.delivers <;> exact ⟨rfl, rfl⟩

/-- Settles O30: the row's frame is judged by R267 and served or refused, and HP_NCS_RISE sends the reply that was clocked to its end. -/
theorem framesServedOrRefused : Obligations.FramesServedOrRefused := by
  refine ⟨fun t f g s u h => ⟨runs_served rfl h, runs_served rfl h, runs_served rfl h, runs_served rfl h, runs_served rfl h⟩, fun t f g s u h => ?refused,
    fun f s => brings_host, fun op f d s hcut => ?reply, fun s => rfl, fun r m ep sq s hreply hdelivers => ?delivered, fun s hplain => ?plain⟩
  case refused =>
    simp only [List.forall_mem_cons]
    exact ⟨fun d => runs_refused rfl h, fun d => runs_refused rfl h, fun d => runs_refused rfl h, fun d => runs_refused rfl h, fun d => runs_refused rfl h, by simp⟩
  case reply => simp [frameRefuse, hcut, headReply, sendReply, Reply.plain, replyOut]
  case delivered =>
    have hsent := replySent_deliver (s := s) (m := m) (ep := ep) (sq := sq) (by simp [hreply, hdelivers])
    have hrun : Runs (.hpNcsRise true) s (ncsRiseEff true s) := rfl
    refine next_of_runs hrun ⟨rfl, rfl, ?_⟩
    have hmb : (ncsRiseEff true s).mb m = (deliver m ep sq s).mb m := by
      simp only [ncsRiseEff, if_true, hsent]
      rfl
    exact (congrArg Mailbox.cmds hmb).trans (deliver_cmds m ep sq s)
  case plain =>
    refine runs_of_fin rfl ?_
    simp [ncsRiseEff, replySent_plain hplain]

/-! ### Replies of the host port -/

theorem sendReply_plain {r : Reply} (h : r.delivers = none) (s : State) : sendReply .host r s = { s with crown := { s.crown with reply := some r } } := by
  simp [sendReply, h, replyOut]

/-- Outside a pair a reply stands at once. -/
theorem sendReply_alone {s : State} (h : booksFlow s = false) (r : Reply) : sendReply .host r s = { s with crown := { s.crown with reply := some r } } := by
  unfold sendReply
  cases r.delivers <;> simp [h, replyOut]

/-- A reply, sent or held back, leaves report and channels. -/
theorem sendReply_keeps (r : Reply) (s : State) : (sendReply .host r s).report = s.report ∧ (sendReply .host r s).chans = s.chans := by
  unfold sendReply
  split
  next m _ sq _ =>
    split
    · rw [holdReply, (hbSend_spec (pairPort s) 3 (markBytes m sq) s).1]
      exact ⟨rfl, rfl⟩
    · exact ⟨rfl, rfl⟩
  · exact ⟨rfl, rfl⟩

/-! ### Operations on a mailbox that is served here -/

theorem frameEff_ready {op : Nat} {f : HostFrame} {s : State} (h : HostReady op f s) : frameEff op .host f s = frameServe op .host f (replySent s) := by
  obtain ⟨hserve, hheld, hop, hgood, -⟩ := h
  have hrow : hfOp f op = op := by simp [hfOp, hop]
  rw [frameEff_brings op (brings_host hserve hheld), frameAnswer_served (by rw [hrow]; exact hgood), hrow]

theorem frameServe_here {op : Nat} {f : HostFrame} {s : State} (h : forwards op f s = false) : frameServe op .host f s =
    if op = opSubmit then submitServe .host f (renewLease (hfMbx f) s)
    else if op = opPoll then pollServe .host f (renewLease (hfMbx f) s)
    else if op = opAbort then abortServe .host f s
    else if op = opHello then helloServe true .host f s
    else creditServe .host f (renewLease (hfMbx f) s) := by
  simp [frameServe, h]

section
variable {f : HostFrame} {s : State}

/-- The effect of a row whose frame is served here. -/
theorem runs_ready {i : Instr} {op : Nat} {t : State} (h : HostReady op f s) (hi : exec i s = fin s (frameEff op .host f s))
    (ht : frameServe op .host f (replySent s) = t) : Runs i s t :=
  runs_of_fin hi ((frameEff_ready h).trans ht)

theorem runs_submit (h : HostReady opSubmit f s) : Runs (.submit .host f) s (submitServe .host f (renewLease (hfMbx f) (replySent s))) :=
  runs_ready h rfl (by rw [frameServe_here h.2.2.2.2]; simp [opSubmit])

theorem runs_poll (h : HostReady opPoll f s) : Runs (.poll .host f) s (pollServe .host f (renewLease (hfMbx f) (replySent s))) :=
  runs_ready h rfl (by rw [frameServe_here h.2.2.2.2]; simp [opSubmit, opPoll])

theorem runs_abort (h : HostReady opAbort f s) : Runs (.abort .host f) s (abortServe .host f (replySent s)) :=
  runs_ready h rfl (by rw [frameServe_here h.2.2.2.2]; simp [opSubmit, opPoll, opAbort])

theorem runs_hello (h : HostReady opHello f s) : Runs (.hello .host f) s (helloServe true .host f (replySent s)) :=
  runs_ready h rfl (by rw [frameServe_here h.2.2.2.2]; simp [opSubmit, opPoll, opAbort, opHello])

theorem runs_credit (h : HostReady opCredit f s) : Runs (.credit .host f) s (creditServe .host f (renewLease (hfMbx f) (replySent s))) :=
  runs_ready h rfl (by rw [frameServe_here h.2.2.2.2]; simp [opSubmit, opPoll, opAbort, opHello, opCredit])

end

theorem renewLease_regs (m : Mbx) (s : State) : (renewLease m s).regs = s.regs := rfl

theorem seqDiff_congr {s t : State} (h : t.regs = s.regs) (f : HostFrame) : seqDiff f t = seqDiff f s := by
  unfold seqDiff
  rw [State.rd_congr h]

theorem renewLease_cmds (m : Mbx) (s : State) : ((renewLease m s).mb m).cmds = (s.mb m).cmds := by simp [renewLease]

/-! ### SUBMIT -/

/-- A command accepted stands last in its mailbox, as the frame carries it. -/
theorem acceptCmd_cmds (t : Transport) (f : HostFrame) (s : State) :
    ∃ k, ((acceptCmd t f s).mb (hfMbx f)).cmds = (s.mb (hfMbx f)).cmds ++ [k] ∧ k.seq = f.seq.toNat ∧ k.epoch = s.epoch ∧ k.code = f.code.toNat ∧
      k.payload = hfBody f ∧ k.st = .accepted ∧ k.broken = (s.mb (hfMbx f)).lockBroken := by
  have hmbxs := (jAccept_spec (hfMbx f) (submitted t f s) s).mbxs
  refine ⟨{ submitted t f s with acceptJ := ((jAccept (hfMbx f) (submitted t f s) s).rd Reg.HostStat.JSEQ_NEXT + 2 ^ 32 - acceptParts (submitted t f s)) % 2 ^ 32 },
    ?_, rfl, rfl, rfl, rfl, rfl, rfl⟩
  simp [acceptCmd, State.mb, State.setMb, hmbxs]

theorem acceptCmd_next (t : Transport) (f : HostFrame) (s : State) : (acceptCmd t f s).rd Reg.HostStat.NEXT 0 (hfMbx f).val = (f.seq.toNat + 1) % 2 ^ 32 :=
  State.rd_wr _ Reg.HostStat.NEXT 0 (hfMbx f).val _

/-- A SUBMIT that is accepted leaves the state with its command, and a reply that stands or waits. -/
theorem submitServe_accepted {f : HostFrame} {s : State} (hnext : seqDiff f s = 0) (hfree : (s.mb (hfMbx f)).queued < 8) (hbooks : standbyBooks s = false) :
    (submitServe .host f s).regs = (acceptCmd .host f s).regs ∧ (submitServe .host f s).crown.mbxs = (acceptCmd .host f s).crown.mbxs := by
  have hcredit : ¬ 8 ≤ (s.mb (hfMbx f)).queued := by omega
  simp only [submitServe, hnext, hcredit, hbooks, if_true, if_false, Bool.false_eq_true]
  split <;> exact ⟨rfl, rfl⟩

theorem submitServe_takes {f : HostFrame} {s : State} (hnext : seqDiff f s = 0) (hfree : (s.mb (hfMbx f)).queued < 8) (hbooks : standbyBooks s = false) :
    (submitServe .host f s).rd Reg.HostStat.NEXT 0 (hfMbx f).val = (f.seq.toNat + 1) % 2 ^ 32 ∧
    ∃ k, ((submitServe .host f s).mb (hfMbx f)).cmds = (s.mb (hfMbx f)).cmds ++ [k] ∧ k.seq = f.seq.toNat ∧ k.epoch = s.epoch ∧ k.code = f.code.toNat ∧
      k.payload = hfBody f ∧ k.st = .accepted ∧ k.broken = (s.mb (hfMbx f)).lockBroken := by
  obtain ⟨hregs, hmbxs⟩ := submitServe_accepted hnext hfree hbooks
  have hmb : (submitServe .host f s).mb (hfMbx f) = (acceptCmd .host f s).mb (hfMbx f) := by rw [State.mb, hmbxs]; rfl
  rw [State.rd_congr hregs, hmb]
  exact ⟨acceptCmd_next .host f s, acceptCmd_cmds .host f s⟩

/-- A SUBMIT without a credit, or ahead of NEXT, leaves nothing but its reply. -/
theorem submitServe_noCredit {f : HostFrame} {s : State} (hnext : seqDiff f s = 0) (hfull : 8 ≤ (s.mb (hfMbx f)).queued) :
    submitServe .host f s = { s with crown := { s.crown with reply := some (headReply opSubmit f (baseFlags (hfMbx f) 0 s) stNoCredit 0 []) } } := by
  simp only [submitServe, hnext, hfull, if_true]
  rfl

theorem submitServe_gap {f : HostFrame} {s : State} (hahead : 0 < seqDiff f s) :
    submitServe .host f s = { s with crown := { s.crown with reply := some (headReply opSubmit f (baseFlags (hfMbx f) 0 s) stSeqGap 0 []) } } := by
  have hne : seqDiff f s ≠ 0 := by omega
  simp only [submitServe, hne, hahead, if_true, if_false]
  rfl

/-- A SUBMIT behind NEXT reports on the command that carries its number. -/
theorem submitServe_behind {f : HostFrame} {s : State} (hbehind : seqDiff f s < 0) (hbooks : booksFlow s = false) :
    ∃ r, submitServe .host f s = { s with crown := { s.crown with reply := some r } } := by
  have hne : seqDiff f s ≠ 0 := by omega
  have hgt : ¬ 0 < seqDiff f s := by omega
  simp only [submitServe, hne, hgt, if_false]
  exact ⟨_, sendReply_alone hbooks _⟩

/-! ### POLL, CREDIT and ABORT -/

/-- With no response pending every command of the mailbox lives. -/
theorem find_pending_none {b : Mailbox} (h : b.pendingResp = 0) : (b.cmds.find? fun c => !c.live) = none := by
  have hnil := List.length_eq_zero_iff.mp h
  simpa [List.filter_eq_nil_iff] using hnil

/-- The answer to a POLL with no response pending. -/
def emptyPoll (f : HostFrame) (s : State) : Reply := .plain (replyFrame opPoll (hfMbx f).val 0 f.code.toNat (baseFlags (hfMbx f) 0 s) 0 [])

theorem pollServe_empty {f : HostFrame} {s : State} (hseq : f.seq = 0) (hnone : (s.mb (hfMbx f)).pendingResp = 0) :
    pollServe .host f s = { s with crown := { s.crown with reply := some (emptyPoll f s) } } := by
  simp only [pollServe, hseq, if_true, find_pending_none hnone]
  rfl

/-- The answer to a POLL with a response pending carries that response. -/
theorem pollServe_pending {f : HostFrame} {k : Cmd} {s : State} (hseq : f.seq = 0) (hfind : ((s.mb (hfMbx f)).cmds.find? fun c => !c.live) = some k)
    (hbooks : booksFlow s = false) :
    ∃ r, r.delivers = some (hfMbx f, k.epoch, k.seq) ∧ pollServe .host f s = { s with crown := { s.crown with reply := some r } } := by
  have hfinal : k.live = false := by simpa using List.find?_some hfind
  refine ⟨reportCmd opPoll (hfMbx f) 0 f.code.toNat id (.queued k) s, by simp [reportCmd, hfinal], ?_⟩
  simp only [pollServe, hseq, if_true, hfind]
  exact sendReply_alone hbooks _

/-- The answer to a CREDIT. -/
def creditReply (f : HostFrame) (s : State) : Reply :=
  headReply opCredit f (baseFlags (hfMbx f) 0 s) stDone 0 (leBytes 1 (s.mb (hfMbx f)).queued ++ [0, 0, 0])

theorem creditServe_eq (f : HostFrame) (s : State) : creditServe .host f s = { s with crown := { s.crown with reply := some (creditReply f s) } } := rfl

/-- An ABORT of a command that is still ACCEPTED ends it ABORTED, once the request stands in the journal. -/
theorem abortServe_accepted {f : HostFrame} {k : Cmd} {s : State} (hbehind : seqDiff f s < 0)
    (hfind : ((s.mb (hfMbx f)).cmds.find? fun c => c.epoch == s.epoch && c.seq == f.seq.toNat) = some k) (hlive : k.live = true) (hst : k.st = .accepted) :
    ∃ r, abortServe .host f s =
      sendReply .host r (completeW ⟨hfMbx f, some (k.epoch, k.seq)⟩ ⟨stAborted, 0, []⟩ (jMark 5 (hfMbx f) s.epoch f.seq.toNat s)) := by
  have hspec := jMark_spec 5 (hfMbx f) s.epoch f.seq.toNat s
  have hepoch : (jMark 5 (hfMbx f) s.epoch f.seq.toNat s).epoch = s.epoch := hspec.2 _ _ _ (by unfold BooksFree; decide)
  have hmb : (jMark 5 (hfMbx f) s.epoch f.seq.toNat s).mb (hfMbx f) = s.mb (hfMbx f) := by rw [State.mb, hspec.mbxs]; rfl
  have hfound : findCmd (hfMbx f) f.seq.toNat (jMark 5 (hfMbx f) s.epoch f.seq.toNat s) = .queued k := by
    simp [findCmd, hepoch, hmb, hfind]
  have hnot : ¬ 0 ≤ seqDiff f s := by omega
  simp only [abortServe, hnot, if_false, hfound, hlive, hst, Bool.not_true, Bool.false_eq_true, if_true]
  exact ⟨_, rfl⟩

/-! ### Locks broken -/

theorem mb_congr {s t : State} (h : t.crown.mbxs = s.crown.mbxs) (m : Mbx) : t.mb m = s.mb m := by rw [State.mb, h]; rfl

theorem breakLock_none {m : Mbx} {s : State} (h : (s.mb m).lock = none) : breakLock m s = s := by simp [breakLock, h]

theorem breakLock_some {m : Mbx} {l : Lock} {s : State} (h : (s.mb m).lock = some l) :
    breakLock m s = (jLock 9 m l.epoch 0 l.groups s).setMb m fun b => { b with lock := none, lockBroken := true } := by simp [breakLock, h]

theorem breakLock_lock (m : Mbx) (s : State) : ((breakLock m s).mb m).lock = none := by
  cases h : (s.mb m).lock with
  | none => rw [breakLock_none h, h]
  | some l => simp [breakLock_some h]

theorem breakLock_mb_other {m x : Mbx} (hx : m ≠ x) (s : State) : (breakLock m s).mb x = s.mb x := by
  cases h : (s.mb m).lock with
  | none => rw [breakLock_none h]
  | some l => rw [breakLock_some h, State.mb_setMb_other _ _ hx, mb_congr (jLock_spec 9 m l.epoch 0 l.groups s).mbxs]

/-! ### HELLO -/

theorem mem_allMbx (m : Mbx) : m ∈ allMbx := List.mem_finRange m

/-- NEXT of one mailbox at START_SEQ. -/
def setNext (start : Nat) (s : State) (m : Mbx) : State := s.wr Reg.HostStat.NEXT 0 m.val start

/-- The next epoch, with NEXT of every mailbox at START_SEQ. -/
def helloNumbers (start : Nat) (s : State) : State := allMbx.foldl (fun s m => setNext start s m) (s.countMod Reg.HostStat.EPOCH)

/-- Every lock is broken. -/
def breakLocks (s : State) : State := allMbx.foldl (fun s m => breakLock m s) s

/-- The host that said HELLO. -/
def noteHost (f : HostFrame) (s : State) : State := { s with crown := { s.crown with hostId := leAt (hfBody f) 0 4 } }

theorem noteHost_regs (f : HostFrame) (s : State) : (noteHost f s).regs = s.regs ∧ (noteHost f s).crown.mbxs = s.crown.mbxs := ⟨rfl, rfl⟩

/-- The state of a HELLO before its record: numbers set, locks broken, host noted. -/
def helloBroken (f : HostFrame) (s : State) : State := noteHost f (breakLocks (helloNumbers (leAt (hfBody f) 4 4) s))

/-- Body of the record of a HELLO. -/
def helloRecord (f : HostFrame) (s : State) : List Byte :=
  leBytes 4 s.epoch ++ leBytes 4 s.crown.hostId ++ leBytes 4 (leAt (hfBody f) 4 4) ++ leBytes 8 s.time

/-- The state of a HELLO before its reply. -/
def helloBooks (f : HostFrame) (s : State) : State := jAdd 6 0xFF 0 (helloRecord f (helloBroken f s)) (helloBroken f s)

theorem helloServe_eq (f : HostFrame) (s : State) :
    ∃ r, helloServe true .host f s =
      { (helloBooks f s).wr Reg.HostStat.LANES 0 0 (pb (hfBody f) 8) with crown := { (helloBooks f s).crown with reply := some r } } := by
  refine ⟨headReply opHello f 0 stDone 0 (helloResult (helloBooks f s)), ?_⟩
  have hsent : helloServe true .host f s = sendReply .host (headReply opHello f 0 stDone 0 (helloResult (helloBooks f s))) (setLanes .host f (helloBooks f s)) := by
    simp only [helloServe, helloBooks, helloBroken, noteHost, breakLocks, helloRecord, helloNumbers, setNext, if_true]
  rw [hsent, sendReply_plain rfl, setLanes, if_pos rfl]
  rfl

theorem next_key_ne_next {m x : Mbx} (h : m ≠ x) : Reg.HostStat.NEXT.key 0 0 m.val ≠ Reg.HostStat.NEXT.key 0 0 x.val :=
  Fld.key_ne_of_pos_ne rfl (by revert m x; decide)

theorem next_key_ne_epoch (m : Mbx) : Reg.HostStat.NEXT.key 0 0 m.val ≠ Reg.HostStat.EPOCH.key 0 0 0 := Fld.key_ne_of_pos_ne rfl (by revert m; decide)

theorem lanes_key_ne_next (m : Mbx) : Reg.HostStat.LANES.key 0 0 0 ≠ Reg.HostStat.NEXT.key 0 0 m.val := Fld.key_ne_of_pos_ne rfl (by revert m; decide)

theorem lanes_key_ne_epoch : Reg.HostStat.LANES.key 0 0 0 ≠ Reg.HostStat.EPOCH.key 0 0 0 := by decide

theorem setNext_epoch (start : Nat) (s : State) (m : Mbx) : (setNext start s m).rd Reg.HostStat.EPOCH 0 0 = s.rd Reg.HostStat.EPOCH 0 0 :=
  State.rd_wr_other s start (next_key_ne_epoch m)

theorem setNext_same {start : Nat} (hstart : start < 2 ^ 32) (s : State) (m : Mbx) : (setNext start s m).rd Reg.HostStat.NEXT 0 m.val = start := by
  rw [setNext, State.rd_wr]
  exact Nat.mod_eq_of_lt hstart

theorem setNext_other (start : Nat) (s : State) {m x : Mbx} (h : m ≠ x) : (setNext start s m).rd Reg.HostStat.NEXT 0 x.val = s.rd Reg.HostStat.NEXT 0 x.val :=
  State.rd_wr_other s start (next_key_ne_next h)

theorem helloNumbers_epoch (start : Nat) (s : State) : (helloNumbers start s).rd Reg.HostStat.EPOCH 0 0 = (s.rd Reg.HostStat.EPOCH 0 0 + 1) % 2 ^ 32 :=
  foldl_keeps (P := fun t => t.rd Reg.HostStat.EPOCH 0 0 = (s.rd Reg.HostStat.EPOCH 0 0 + 1) % 2 ^ 32) (f := setNext start)
    (fun t m h => (setNext_epoch start t m).trans h) allMbx _ (State.rd_countMod s Reg.HostStat.EPOCH 0 0)

theorem helloNumbers_next {start : Nat} (hstart : start < 2 ^ 32) (s : State) (m : Mbx) : (helloNumbers start s).rd Reg.HostStat.NEXT 0 m.val = start := by
  refine foldl_reaches (P := fun t => t.rd Reg.HostStat.NEXT 0 m.val = start) (f := setNext start) (fun t => setNext_same hstart t m) (fun t x h => ?_) (mem_allMbx m) _
  by_cases hx : x = m
  · subst hx; exact setNext_same hstart t x
  · exact (setNext_other start t hx).trans h

theorem breakLocks_lock (s : State) (m : Mbx) : ((breakLocks s).mb m).lock = none := by
  unfold breakLocks
  refine foldl_reaches (P := fun t => (t.mb m).lock = none) (f := fun s m => breakLock m s) (fun t => breakLock_lock m t) (fun t x h => ?_) (mem_allMbx m) s
  by_cases hx : x = m
  · subst hx; exact breakLock_lock x t
  · rw [breakLock_mb_other hx]; exact h

theorem breakLocks_spec (s : State) : BooksOnly s (breakLocks s) := BooksOnly.foldl (fun s m => breakLock m s) (fun t m => breakLock_spec m t) allMbx s

/-- HELLO leaves the numbers that it has set. -/
theorem helloBooks_rd (f : HostFrame) (s : State) {g : Fld} {n i : Nat} (h : BooksFree g n i) :
    (helloBooks f s).rd g n i = (helloNumbers (leAt (hfBody f) 4 4) s).rd g n i := by
  rw [helloBooks, (jAdd_spec _ _ _ _ _).2 g n i h, helloBroken, State.rd_congr (noteHost_regs f _).1, (breakLocks_spec _).2 g n i h]

theorem helloBooks_lock (f : HostFrame) (s : State) (m : Mbx) : ((helloBooks f s).mb m).lock = none := by
  rw [helloBooks, mb_congr (jAdd_spec _ _ _ _ _).mbxs, helloBroken, mb_congr (noteHost_regs f _).2, breakLocks_lock]

theorem leAt_lt (bs : List Byte) (k n : Nat) : leAt bs k n < 2 ^ (8 * n) := by
  have hval : ∀ l : List Byte, leVal l < 2 ^ (8 * l.length) := by
    intro l
    induction l with
    | nil => simp [leVal]
    | cons b l ih =>
      have hb := b.isLt
      have hpow : 2 ^ (8 * (b :: l).length) = 256 * 2 ^ (8 * l.length) := by rw [List.length_cons, Nat.mul_succ, Nat.pow_add, Nat.mul_comm]
      rw [hpow, leVal]
      omega
  simpa [leAt, slice] using hval (slice bs k n)

/-- A HELLO that is served. -/
theorem helloServe_spec (f : HostFrame) (s : State) (m : Mbx) : (helloServe true .host f s).rd Reg.HostStat.EPOCH 0 0 = (s.rd Reg.HostStat.EPOCH 0 0 + 1) % 2 ^ 32 ∧
    (helloServe true .host f s).rd Reg.HostStat.NEXT 0 m.val = leAt (hfBody f) 4 4 ∧ ((helloServe true .host f s).mb m).lock = none := by
  obtain ⟨r, hr⟩ := helloServe_eq f s
  have hregs : (helloServe true .host f s).regs = ((helloBooks f s).wr Reg.HostStat.LANES 0 0 (pb (hfBody f) 8)).regs := by rw [hr]
  have hmbxs : (helloServe true .host f s).crown.mbxs = (helloBooks f s).crown.mbxs := by rw [hr]
  have hepoch : BooksFree Reg.HostStat.EPOCH 0 0 := by unfold BooksFree; decide
  have hnext : BooksFree Reg.HostStat.NEXT 0 m.val := by unfold BooksFree; revert m; decide
  rw [State.rd_congr hregs, State.rd_congr hregs, mb_congr hmbxs, State.rd_wr_other _ _ lanes_key_ne_epoch, State.rd_wr_other _ _ (lanes_key_ne_next m),
    helloBooks_rd f s hepoch, helloBooks_rd f s hnext]
  exact ⟨helloNumbers_epoch _ s, helloNumbers_next (leAt_lt _ 4 4) s m, helloBooks_lock f s m⟩

/-- Settles O31: what each operation of R271 to R278 leaves of numbers, mailboxes and reply. -/
theorem submitsAndPolls : Obligations.SubmitsAndPolls := by
  refine ⟨fun f s h => ?submit, fun f s h => ?empty, fun f k s h => ?pending, fun f k s h => ?abort, fun f s h => ?hello, fun f s h => ?credit,
    fun f s => submitServe_takes, fun f s hnext hfull => ?noCredit, fun f s hahead => ?gap, fun f s hbehind hbooks => ?behind,
    fun f s hseq hnone => ⟨_, pollServe_empty hseq hnone⟩, fun f s => ⟨_, creditServe_eq f s⟩, fun f s m => helloServe_spec f s m⟩
  case submit =>
    intro u hnext hfree hbooks
    have hqueued : ((renewLease (hfMbx f) u).mb (hfMbx f)).queued < 8 := by rw [Mailbox.queued, renewLease_cmds]; exact hfree
    obtain ⟨hrd, k, hcmds, hk, -, hcode, hbody, hst, -⟩ := submitServe_takes (s := renewLease (hfMbx f) u) ((seqDiff_congr (renewLease_regs _ _) f).trans hnext) hqueued hbooks
    refine next_of_runs (runs_submit h) ?_
    simp only [State.withPending_reads]
    exact ⟨hrd, k, hcmds.trans (by rw [renewLease_cmds]), hk, hcode, hbody, hst⟩
  case empty =>
    intro u hseq hnone
    have hpend : ((renewLease (hfMbx f) u).mb (hfMbx f)).pendingResp = 0 := by rw [Mailbox.pendingResp, renewLease_cmds]; exact hnone
    have hrun := runs_poll h
    rw [pollServe_empty hseq hpend] at hrun
    exact ⟨_, _, hrun, rfl, rfl, rfl, renewLease_cmds (hfMbx f) u⟩
  case pending =>
    intro u hseq hfind hbooks
    obtain ⟨r, hdelivers, hpoll⟩ := pollServe_pending (s := renewLease (hfMbx f) u) hseq (by rw [renewLease_cmds]; exact hfind) hbooks
    have hrun := runs_poll h
    rw [hpoll] at hrun
    exact ⟨_, r, hrun, rfl, hdelivers, rfl⟩
  case abort =>
    intro u hbehind hfind hlive hst
    obtain ⟨r, habort⟩ := abortServe_accepted hbehind hfind hlive hst
    have hrun := runs_abort h
    rw [habort] at hrun
    obtain ⟨hreport, hchans⟩ := sendReply_keeps r (completeW ⟨hfMbx f, some (k.epoch, k.seq)⟩ ⟨stAborted, 0, []⟩ (jMark 5 (hfMbx f) u.epoch f.seq.toNat u))
    exact next_of_runs hrun ⟨hreport.trans (completeW_report ..), hchans.trans
      ((completeW_spec _ _ _).parts.1.trans ((jMark_spec _ _ _ _ u).books.parts.1.trans (replySent_regs s).2))⟩
  case hello =>
    have hrun := runs_hello h
    have hepoch : (replySent s).rd Reg.HostStat.EPOCH 0 0 = s.rd Reg.HostStat.EPOCH 0 0 := State.rd_congr (replySent_regs s).1 ..
    refine next_of_runs hrun ?_
    simp only [State.epoch, State.withPending_reads]
    exact ⟨(helloServe_spec f (replySent s) 0).1.trans (by rw [hepoch]), fun m => (helloServe_spec f (replySent s) m).2⟩
  case credit => exact runs_credit h
  case noCredit => rw [submitServe_noCredit hnext hfull]; exact ⟨rfl, rfl⟩
  case gap => rw [submitServe_gap hahead]; exact ⟨rfl, rfl⟩
  case behind =>
    obtain ⟨r, hr⟩ := submitServe_behind hbehind hbooks
    rw [hr]
    exact ⟨rfl, fun m => Nat.le_refl _⟩

/-! ### Execution and leases -/

/-- The Crown is free for the command of a mailbox, and no other mailbox has an earlier one. -/
def TurnOf (m : Mbx) (k : Cmd) (s : State) : Prop :=
  crownUp s = true ∧ crownBusy s = false ∧ actsFor m s = true ∧ turnOf m s = some k ∧ othersFirst m k s = false

theorem execStartEff_turn {m : Mbx} {k : Cmd} {s : State} (h : TurnOf m k s) :
    execStartEff m s = if k.broken then completeW ⟨m, some (k.epoch, k.seq)⟩ (.fail stLockBroken 0) s
      else if standbyBooks (jMark 3 m k.epoch k.seq s) then jMark 3 m k.epoch k.seq s else enterExec m k (jMark 3 m k.epoch k.seq s) := by
  obtain ⟨hup, hbusy, hacts, hturn, hothers⟩ := h
  simp [execStartEff, hup, hbusy, hacts, hturn, hothers]

theorem enterExec_known {m : Mbx} {k : Cmd} (h : k.code < 0x8000 ∨ knownCodes.contains k.code = true) (s : State) : enterExec m k s = setExecuting m k s := by
  have hnot : ¬ (0x8000 ≤ k.code ∧ knownCodes.contains k.code = false) := by
    rintro ⟨hcode, hunknown⟩
    rcases h with h | h
    · omega
    · simp_all
  simp only [enterExec, hnot, if_false]

theorem enterExec_unknown {m : Mbx} {k : Cmd} (hcode : 0x8000 ≤ k.code) (hunknown : knownCodes.contains k.code = false) (s : State) :
    enterExec m k s = completeW ⟨m, some (k.epoch, k.seq)⟩ (.fail stUnknownCommand 0) (setExecuting m k s) := by
  simp only [enterExec, hcode, hunknown, and_self, if_true]

/-- Settles O32: COMMAND_EXEC_START by the branches of R273, R285 and R290, LEASE_EXPIRE by R285. -/
theorem executionStarts : Obligations.ExecutionStarts := by
  refine ⟨fun m k s hup hbusy hacts hturn hothers hbroken hbooks hcode => ?known, fun m k s hup hbusy hacts hturn hothers hbroken => ?broken,
    fun m k s hup hbusy hacts hturn hothers hbroken hbooks hcode hunknown => ?unknown, fun m l s hup hacts hlock hlease => ?lease, fun m s => breakLock_lock m s,
    fun m l s hlock => by simp [breakLock_some hlock]⟩
  case known =>
    refine runs_of_fin rfl ((execStartEff_turn ⟨hup, hbusy, hacts, hturn, hothers⟩).trans ?_)
    simp only [hbroken, hbooks, Bool.false_eq_true, if_false, enterExec_known hcode]
  case broken =>
    refine runs_of_fin rfl ((execStartEff_turn ⟨hup, hbusy, hacts, hturn, hothers⟩).trans ?_)
    simp only [hbroken, if_true]
  case unknown =>
    refine runs_of_fin rfl ((execStartEff_turn ⟨hup, hbusy, hacts, hturn, hothers⟩).trans ?_)
    simp only [hbroken, hbooks, Bool.false_eq_true, if_false, enterExec_unknown hcode hunknown]
  case lease => exact runs_of_fin rfl (by simp [leaseEff, hup, hacts, hlock, hlease])

/-! ### The direct window -/

theorem directReg_above {addr : Nat} (h : 0x0F < addr) (s : State) : directReg addr s = 0 := by
  unfold directReg
  split <;> simp at h ⊢

theorem forceSingleEff_off {addr : Byte} {data crc : Nat} (h : addr ≠ 0x0F ∨ crc ≠ crc32c (addr :: leBytes 4 data)) (s : State) : forceSingleEff addr data crc s = s := by
  refine if_neg fun ⟨_, haddr, hcrc, _⟩ => ?_
  rcases h with h | h
  · exact h haddr
  · exact h hcrc

/-- Settles O33: the registers of Table 12.10, and the one write that acts. -/
theorem directWindow : Obligations.DirectWindow := by
  refine ⟨fun a s hon => ?read, fun a s ha => directReg_above ha s, fun s => ⟨rfl, rfl, rfl, rfl⟩, fun d k s hon hcrc hbit => ?force,
    fun a d k s h => runs_of_fin rfl (forceSingleEff_off h s)⟩
  case read => exact runs_of_fin rfl (by simp [directReadEff, hon])
  case force => exact runs_of_fin rfl (if_pos ⟨hon, rfl, hcrc, hbit⟩)

end Sys2Proof.HostFrames

/-! # CH_START, CH_STOP, CH_IDLE and the start tick (R300, R301, R380) -/

namespace Sys2Proof.ChannelCommands

open Sys2Proof.Machine Sys2Proof.Safety

section
variable {c : Ch} {w : Waiter} {s : State}

/-- A condition of Table 13.4 that fails refuses a start with its code. -/
theorem startDenied_of_check {own : Bool} (h : startCheck c own s ≠ 0) : startDenied c own s = some (.fail stStartRefused (startCheck c own s)) := by
  simp [startDenied, h]

/-- The channel has started, and in a pair a start that no command waits for is passed on. -/
def goneAt (c : Ch) (w : Waiter) (s : State) : State :=
  let g := channelGo c (decide (s.rd Reg.AtCtl.START_TIME (cI c) < s.time)) (s.setCh c fun x => { x with startWait := none })
  if w.key = none then sendOrder c true g else g

/-- The result of a start: time, START_LATE and three zero bytes. -/
def startResult (c : Ch) (t : State) : List Byte := leBytes 8 t.time ++ leBytes 1 (t.rd Reg.AtStat.START_LATE (cI c)) ++ [0, 0, 0]

theorem channelStartEff_goes (hwait : (s.ch c).startWait = some w) (htime : s.rd Reg.AtCtl.START_TIME (cI c) ≤ s.time) (hok : startDenied c true s = none) :
    channelStartEff c s = completeW w (.ok 0 (startResult c (goneAt c w s))) (settle c (goneAt c w s)) := by
  have hreached : ¬ s.time < s.rd Reg.AtCtl.START_TIME (cI c) := by omega
  simp only [channelStartEff, hwait, hreached, if_false, hok]
  rfl

theorem channelStartEff_denied {d : Done} (hwait : (s.ch c).startWait = some w) (htime : s.rd Reg.AtCtl.START_TIME (cI c) ≤ s.time)
    (hdenied : startDenied c true s = some d) : channelStartEff c s = completeW w d (s.setCh c fun x => { x with startWait := none }) := by
  have hreached : ¬ s.time < s.rd Reg.AtCtl.START_TIME (cI c) := by omega
  simp only [channelStartEff, hwait, hreached, if_false, hdenied]

theorem startCommand_waits (h : (s.sc c).afterTest = true) : startCommand c w s = s.setCh c fun x => { x with testWait := x.testWait ++ [w] } := by
  simp [startCommand, h]

/-- With START_TIME 0 a start that is accepted goes at once. -/
theorem startCommand_goes (htest : (s.sc c).afterTest = false) (hok : startDenied c false s = none) (htime : s.rd Reg.AtCtl.START_TIME (cI c) = 0) :
    let u := channelGo c false (s.setCh c fun x => { x with startWait := none })
    startCommand c w s = completeW w (.ok 0 (startResult c u)) (settle c u) := by
  simp only [startCommand, htest, startTry, hok, startAccepted, htime]
  rfl

theorem stopCommand_stopped (h : s.rd Reg.PgStat.STATE (cI c) = pgStopped) : stopCommand c w s = completeW w (.ok 1) s := by
  simp [stopCommand, h]

theorem stopCommand_running (h : s.rd Reg.PgStat.STATE (cI c) ≠ pgStopped) :
    stopCommand c w s = settle c (squallRequest c 1 (s.setCh c fun x => { x with stopWait := x.stopWait ++ [w] })) := by
  simp [stopCommand, h]

theorem pgBusy_iff : pgBusy c s = true ↔ s.rd Reg.PgStat.STATE (cI c) ≠ pgStopped := by
  simp [pgBusy]

end

/-- What CH_IDLE does (R380). -/
def idleBody (p : List Byte) (s : State) : Done × State :=
  if pb p 1 = 0 then (.ok, idleLeave (chOf p) s)
  else if pgBusy (chOf p) s then (.fail stStateRefused 0, s)
  else (.ok, idleEnter (chOf p) s)

theorem idleBody_busy {p : List Byte} {s : State} (henter : pb p 1 = 1) (h : s.rd Reg.PgStat.STATE (cI (chOf p)) ≠ pgStopped) :
    idleBody p s = (.fail stStateRefused 0, s) := by
  simp [idleBody, henter, pgBusy_iff.mpr h]

theorem idleBody_enter {p : List Byte} {s : State} (henter : pb p 1 = 1) (h : s.rd Reg.PgStat.STATE (cI (chOf p)) = pgStopped) :
    idleBody p s = (.ok, idleEnter (chOf p) s) := by
  have hfree : pgBusy (chOf p) s = false := Bool.eq_false_iff.mpr fun hbusy => pgBusy_iff.mp hbusy h
  simp [idleBody, henter, hfree]

theorem idleBody_leave {p : List Byte} {s : State} (hleave : pb p 1 = 0) : idleBody p s = (.ok, idleLeave (chOf p) s) := by
  simp [idleBody, hleave]

section
variable {m : Mbx} {p : List Byte} {s : State}

theorem runs_chStart (h : Takes (.chStart m p) s) : Runs (.chStart m p) s (processed m (startCommand (chOf p) (waiterOf m codeStart s) s)) :=
  runs_of_request (r := chReq codeStart [3] false 0x10 1 p []) (b := startCommand (chOf p)) rfl rfl h

theorem runs_chStop (h : Takes (.chStop m p) s) : Runs (.chStop m p) s (processed m (stopCommand (chOf p) (waiterOf m codeStop s) s)) :=
  runs_of_request (r := chReq codeStop [3] false 0x10 1 p []) (b := stopCommand (chOf p)) rfl rfl h

theorem ends_chIdleEnter (h : Takes (.chIdleEnter m p) s) : Ends (.chIdleEnter m p) s (idleBody p s) :=
  ends_of_now (r := chReq codeIdle [3] false 0x10 2 p [aboveAt p 1 1]) (b := idleBody p) rfl rfl h

theorem ends_chIdleLeave (h : Takes (.chIdleLeave m p) s) : Ends (.chIdleLeave m p) s (idleBody p s) :=
  ends_of_now (r := chReq codeIdle [3] false 0x10 2 p [aboveAt p 1 1]) (b := idleBody p) rfl rfl h

end

/-- Settles O12: the branches of R300, R301 and R380. -/
theorem channelStartAndStop : Obligations.ChannelStartAndStop := by
  refine ⟨fun c w s hwait htime hok => ?goes, fun c w s hwait htime hcheck => ?denied, fun m p s => runs_chStart, fun c w s => startCommand_waits,
    fun m p s htakes htest hok htime => ?starts, fun m p s htakes hstopped => ?stopped, fun m p s htakes hrunning => ?stops,
    fun m p s htakes henter hbusy => idleBody_busy henter hbusy ▸ ends_chIdleEnter htakes, fun m p s htakes henter hfree => idleBody_enter henter hfree ▸ ends_chIdleEnter htakes,
    fun m p s htakes hleave => idleBody_leave hleave ▸ ends_chIdleLeave htakes, fun c s hidle => by simp [idleEnter, hidle], fun c s hidle => by simp [idleLeave, hidle]⟩
  case goes =>
    intro g t
    have hrun : Runs (.channelStart c) s (completeW w (.ok 0 (startResult c t)) (settle c t)) := runs_of_fin rfl (channelStartEff_goes hwait htime hok)
    exact ⟨next_of_runs hrun rfl, hrun⟩
  case denied =>
    have hrun := runs_of_fin (i := .channelStart c) rfl (channelStartEff_denied hwait htime (startDenied_of_check hcheck))
    exact next_of_runs hrun ⟨rfl, rfl⟩
  case starts =>
    intro u
    have hrun := runs_chStart htakes
    rw [startCommand_goes htest hok htime] at hrun
    exact hrun
  case stopped =>
    have hrun := runs_chStop htakes
    rw [stopCommand_stopped hstopped] at hrun
    exact hrun
  case stops =>
    have hrun := runs_chStop htakes
    rw [stopCommand_running hrunning] at hrun
    exact hrun

end Sys2Proof.ChannelCommands

/-! # CAN: attempts that end, error counters and recovery (14_can_and_hatband.md R309 to R313) -/

namespace Sys2Proof.CanBus

open Sys2Proof.Machine Sys2Proof.Safety

section
variable {c : CanIx} {src : CanSrc} {x : CanTx} {s : State}

theorem canIdle_can (c : CanIx) (s : State) :
    (canIdle c s).can c = { s.can c with sending := if canMayOffer c s then (canPick c s).map Prod.fst else none, busy := false } := by
  unfold canIdle
  exact State.can_setCan_same s c _

theorem canSent_of_sending (hsending : (s.can c).sending = some src) (hhead : canHead c src s = some x) : canSent c s = some (src, x) := by
  simp [canSent, hsending, hhead]

theorem queuesOnly_mirrorAll (s : State) : QueuesOnly s (mirrorAll s) := (queuesOnly_foldl (fun s c => queuesOnly_mirrorFill c s) allCan s).trans (queuesOnly_canKick _)

/-! ### Error counters -/

/-- ESTATE that the counters stand for. -/
def errorState (tec rec : Nat) : Nat := if 256 ≤ tec then 2 else if 127 < tec ∨ 127 < rec then 1 else 0

/-- Counters, warning and state written. -/
def countersWritten (c : CanIx) (tec rec : Nat) (s : State) : State :=
  (((s.wr Reg.CanStat.TEC c.val 0 (min tec 255)).wr Reg.CanStat.REC c.val 0 (min rec 255)).wrB Reg.CanStat.WARN c.val 0
    (decide (96 ≤ tec) || decide (96 ≤ rec))).wr Reg.CanStat.ESTATE c.val 0 (errorState tec rec)

theorem canErrors_eq (c : CanIx) (tec rec : Nat) (s : State) : canErrors c tec rec s =
    if canEstate c s = errorState tec rec then countersWritten c tec rec s else (countersWritten c tec rec s).raise (464 + c.val) := rfl

/-- An event raised leaves what the counters' writes leave. -/
theorem canErrors_frame (c : CanIx) (tec rec : Nat) (s : State) : (canErrors c tec rec s).regs = (countersWritten c tec rec s).regs ∧
    (canErrors c tec rec s).chans = s.chans ∧ (canErrors c tec rec s).cans = s.cans := by
  rw [canErrors_eq]
  split <;> exact ⟨rfl, rfl, rfl⟩

theorem canErrors_tec (c : CanIx) (tec rec : Nat) (s : State) : (canErrors c tec rec s).rd Reg.CanStat.TEC c.val = min tec 255 := by
  rw [State.rd_congr (canErrors_frame c tec rec s).1, countersWritten, State.rd_wr_other _ _ (Fld.key_ne_of_fields _), State.wrB, State.rd_wr_other _ _ (Fld.key_ne_of_fields _),
    State.rd_wr_other _ _ (Fld.key_ne_of_fields _), State.rd_wr]
  exact Nat.mod_eq_of_lt (show min tec 255 < 256 by omega)

theorem canErrors_rec (c : CanIx) (tec rec : Nat) (s : State) : (canErrors c tec rec s).rd Reg.CanStat.REC c.val = min rec 255 := by
  rw [State.rd_congr (canErrors_frame c tec rec s).1, countersWritten, State.rd_wr_other _ _ (Fld.key_ne_of_fields _), State.wrB, State.rd_wr_other _ _ (Fld.key_ne_of_fields _), State.rd_wr]
  exact Nat.mod_eq_of_lt (show min rec 255 < 256 by omega)

theorem canErrors_estate (c : CanIx) (tec rec : Nat) (s : State) : canEstate c (canErrors c tec rec s) = errorState tec rec := by
  rw [canEstate, State.rd_congr (canErrors_frame c tec rec s).1, countersWritten, State.rd_wr]
  refine Nat.mod_eq_of_lt (show errorState tec rec < 4 from ?_)
  unfold errorState
  split
  · omega
  · split <;> omega

/-! ### Attempts that end -/

/-- The counters after an attempt that completed. -/
def doneErrors (c : CanIx) (sof : Nat) (s : State) : State :=
  canErrors c (s.rd Reg.CanStat.TEC c.val - 1) (s.rd Reg.CanStat.REC c.val) (s.wr Reg.CanStat.LAST_TX_SOF c.val 0 sof)

/-- The entry is off its queue, and the original of a copy off its own. -/
def donePopped (c : CanIx) (src : CanSrc) (a : State) : State :=
  if src = .mirror then (match mirrorHead c a with
    | some m => popOriginal c m (canPop c src a)
    | none => canPop c src a) else canPop c src a

theorem canTxDoneEff_sent (sof : Nat) (hsends : canSends c s = true) (hsent : canSent c s = some (src, x)) :
    let u := canIdle c (replyDone x (donePopped c src (doneErrors c sof s)))
    canTxDoneEff c sof s = mirrorAll (if canMode c s == 3 && !canBurst c s then canHear c (loopFrame c x sof u) u else u) := by
  simp only [canTxDoneEff, hsends, hsent, doneErrors, State.rd_wr_other s sof (Fld.key_ne_of_fields (f := Reg.CanStat.LAST_TX_SOF) (g := Reg.CanStat.TEC) c.val),
    State.rd_wr_other s sof (Fld.key_ne_of_fields (f := Reg.CanStat.LAST_TX_SOF) (g := Reg.CanStat.REC) c.val)]
  rfl

theorem canTxFailEff_lost (hsends : canSends c s = true) (hsent : canSent c s = some (src, x)) :
    canTxFailEff c .arbitrationLost s = mirrorAll ((retry c src s).setCan c fun x => { x with sending := none, busy := true }) := by
  simp [canTxFailEff, hsends, hsent]

/-- The counters after an attempt that failed. -/
def failErrors (c : CanIx) (why : TxFail) (s : State) : State := canErrors c (s.rd Reg.CanStat.TEC c.val + txErrorWeight why c s) (s.rd Reg.CanStat.REC c.val) s

theorem canTxFailEff_error {why : TxFail} (hwhy : why ≠ .arbitrationLost) (hsends : canSends c s = true) (hsent : canSent c s = some (src, x)) :
    let a := if why = .collision then collision c src (failErrors c why s) else failErrors c why s
    canTxFailEff c why s = if canEstate c a = 2 then goBusOff c src a else mirrorAll (canIdle c (retry c src a)) := by
  simp only [canTxFailEff, hsends, hsent, hwhy, Bool.not_true, Bool.false_eq_true, if_false]
  rfl

/-! ### Recovery and integration -/

/-- The queues of a controller that has recovered: the originals of discarded copies can be sent again. -/
def recovered (x : CanSt) : CanSt :=
  { x with recovering := false, bufs := x.bufs.map fun q => q.map fun t => if t.copy = .discarded then { t with copy := .none } else t }

theorem busOffDoneEff_done (hoff : canEstate c s = 2) (hrec : (s.can c).recovering = true) :
    busOffDoneEff c s = mirrorAll ((canErrors c 0 0 s).setCan c recovered) := if_pos ⟨hoff, hrec⟩

theorem recovered_spec (c : CanIx) (s : State) : let t := mirrorAll ((canErrors c 0 0 s).setCan c recovered)
    t.regs = (canErrors c 0 0 s).regs ∧ (t.can c).recovering = false ∧ (t.can c).retained = (s.can c).retained := by
  intro t
  have hqueues := queuesOnly_mirrorAll ((canErrors c 0 0 s).setCan c recovered)
  obtain ⟨hrecovering, hretained⟩ := hqueues.2 c
  have hcan : (canErrors c 0 0 s).can c = s.can c := by rw [State.can, (canErrors_frame c 0 0 s).2.2]; rfl
  refine ⟨hqueues.parts.1, ?_, ?_⟩
  · rw [hrecovering, State.can_setCan_same]; rfl
  · rw [hretained, State.can_setCan_same, hcan]; rfl

end

/-- Settles O45: the branches of R311 to R313, with the counters written by one function. -/
theorem canTransmission : Obligations.CanTransmission := by
  refine ⟨fun c src x s hmay hpick => ?offers, fun c src x s => canSent_of_sending, fun c sof src x s hsends hsent hmode => ?done, fun c sof b x s hsends hsent hmode hburst => ?loop,
    fun c src x s hsends hsent => runs_of_fin rfl (canTxFailEff_lost hsends hsent), fun c why src x s hwhy hsends hsent => runs_of_fin rfl (canTxFailEff_error hwhy hsends hsent),
    fun c s => ⟨rfl, rfl, rfl, rfl⟩, fun c tec rec s => ⟨canErrors_tec c tec rec s, canErrors_rec c tec rec s, canErrors_estate c tec rec s, (canErrors_frame c tec rec s).2⟩,
    fun c s hoff hrec => ?recovery, fun c s hlocked => ?integration, fun c w s hbus => ?receive⟩
  case offers =>
    rw [canIdle_can]
    exact ⟨by simp [hmay, hpick], rfl⟩
  case done =>
    refine runs_of_fin rfl ((canTxDoneEff_sent sof.toNat hsends hsent).trans ?_)
    have hloop : (canMode c s == 3 && !canBurst c s) = false := by simp [hmode]
    simp only [hloop, Bool.false_eq_true, if_false]
    rfl
  case loop =>
    refine runs_of_fin rfl ((canTxDoneEff_sent sof.toNat hsends hsent).trans ?_)
    have hloop : (canMode c s == 3 && !canBurst c s) = true := by simp [hmode, hburst]
    simp only [hloop, if_true]
    rfl
  case recovery =>
    obtain ⟨hregs, hrecovering, hretained⟩ := recovered_spec c s
    refine next_of_runs (runs_of_fin rfl (busOffDoneEff_done hoff hrec)) ?_
    simp only [canEstate, State.withPending_reads]
    rw [State.rd_congr hregs, State.rd_congr hregs, State.rd_congr hregs]
    exact ⟨canErrors_estate c 0 0 s, canErrors_tec c 0 0 s, canErrors_rec c 0 0 s, hrecovering, hretained⟩
  case integration =>
    have heff : canIntegrateEff c s = canIdle c (s.setCan c fun x => { x with integrating := false }) := if_pos hlocked
    refine next_of_runs (runs_of_fin rfl heff) ?_
    simp only [State.withPending_reads]
    rw [canIdle_can, State.can_setCan_same]
    exact ⟨rfl, rfl, rfl⟩
  case receive => exact runs_of_fin rfl (by simp [canRxErrorEff, hbus])

end Sys2Proof.CanBus

/-! # Hatband: what a port that has left UP keeps, failed attempts, training and heartbeats (14_can_and_hatband.md R325 to R331) -/

namespace Sys2Proof.Machine

/-! ### What traffic and transfers leave of a port that is not UP -/

/-- A port with its state and its status object is as it was. -/
def PortKept (p : HbIx) (s t : State) : Prop := t.hb p = s.hb p ∧ ∀ g : Fld, g.base = 0x4F31 → g.pos 0 < 65536 → t.rd g p.val = s.rd g p.val

theorem PortKept.of_eq {p : HbIx} {s t : State} (hhbs : t.hbs = s.hbs) (hregs : t.regs = s.regs) : PortKept p s t :=
  ⟨by rw [State.hb, hhbs]; rfl, fun g _ _ => State.rd_congr hregs g _ _⟩

theorem PortKept.refl (p : HbIx) (s : State) : PortKept p s s := .of_eq rfl rfl

theorem PortKept.trans {p : HbIx} {s t u : State} (hst : PortKept p s t) (htu : PortKept p t u) : PortKept p s u :=
  ⟨htu.1.trans hst.1, fun g hbase hpos => (htu.2 g hbase hpos).trans (hst.2 g hbase hpos)⟩

theorem PortKept.link {p : HbIx} {s t : State} (h : PortKept p s t) : hbLink p t = hbLink p s := h.2 Reg.HbStat.LINK rfl (by decide)

theorem PortKept.down {p : HbIx} {s t : State} (h : PortKept p s t) (hdown : hbUp p s = false) : hbUp p t = false := by
  rw [hbUp, h.link]
  exact hdown

/-- A write to another object. -/
theorem portKept_wr {p : HbIx} {f : Fld} {n i : Nat} (hid : f.base + n ≠ 0x4F31 + p.val) (hpos : f.pos i < 65536) (v : Nat) (s : State) : PortKept p s (s.wr f n i v) :=
  ⟨rfl, fun g hbase hg => State.rd_wr_other s v (Fld.key_ne_of_object_ne (by omega) hpos hg)⟩

/-- A write to an object that is no port's. -/
theorem portKept_wr_elsewhere {p : HbIx} {f : Fld} {n i : Nat} (hid : f.base + n < 0x4F31 ∨ 0x4F32 < f.base + n) (hpos : f.pos i < 65536) (v : Nat) (s : State) :
    PortKept p s (s.wr f n i v) := portKept_wr (by omega) hpos v s

theorem portKept_setHb {p q : HbIx} (hq : q ≠ p) (f : HbSt → HbSt) (s : State) : PortKept p s (s.setHb q f) :=
  ⟨State.hb_setHb_other s f hq, fun _ _ _ => rfl⟩

theorem portKept_foldl {α : Type} {p : HbIx} {f : State → α → State} (hf : ∀ s x, hbUp p s = false → PortKept p s (f s x)) (l : List α) (s : State) (hdown : hbUp p s = false) :
    PortKept p s (l.foldl f s) :=
  foldl_keeps (P := PortKept p s) (fun t x h => h.trans (hf t x (h.down hdown))) l s (.refl p s)

theorem portKept_ite {p : HbIx} {b : Prop} [Decidable b] {s t u : State} (ht : PortKept p s t) (hu : PortKept p s u) : PortKept p s (if b then t else u) := by
  split
  · exact ht
  · exact hu

/-- Another port's queue goes out with its own credits. -/
theorem portKept_hbPump {p q : HbIx} (hq : q ≠ p) : ∀ (fuel : Nat) (s : State), PortKept p s (hbPump q fuel s)
  | 0, s => .refl p s
  | fuel + 1, s => by
    have hobject : Reg.HbStat.CREDITS.base + q.val ≠ 0x4F31 + p.val := fun h => hq (Fin.ext (Nat.add_left_cancel h))
    unfold hbPump
    dsimp only
    split
    · exact .refl p s
    · split
      · exact .refl p s
      · exact ((portKept_wr hobject (by decide) _ s).trans (portKept_setHb hq _ _)).trans (portKept_hbPump hq fuel _)

theorem hbSend_of_down {p : HbIx} {s : State} (hdown : hbUp p s = false) (typ : Fin 8) (bytes : List Byte) : hbSend p typ bytes s = s := by
  simp [hbSend, hdown]

/-- A message sent over any port leaves one that is not UP. -/
theorem portKept_hbSend {p : HbIx} (q : HbIx) (typ : Fin 8) (bytes : List Byte) {s : State} (hdown : hbUp p s = false) : PortKept p s (hbSend q typ bytes s) := by
  by_cases hq : q = p
  · subst hq
    rw [hbSend_of_down hdown]
    exact .refl q s
  · unfold hbSend
    split
    · exact (portKept_setHb hq _ s).trans (portKept_hbPump hq _ _)
    · exact .refl p s

theorem portKept_canOffer {p : HbIx} (c : CanIx) (b : BufIx) (x : CanTx) (s : State) : PortKept p s (canOffer c b x s).2 := by
  rcases canOffer_spec c b x s with h | h
  · exact .of_eq h.parts.2.1 h.parts.1
  · rw [h]
    exact portKept_wr_elsewhere (.inl (show 0x4F28 + c.val < 0x4F31 by omega)) (by decide) _ s

/-- A reply put on any transport leaves a port that is not UP. -/
theorem portKept_replyOut {p : HbIx} (t : Transport) (r : Reply) {s : State} (hdown : hbUp p s = false) : PortKept p s (replyOut t r s) := by
  cases t with
  | host => exact .of_eq rfl rfl
  | can c =>
    unfold replyOut canReply
    have hnext : PortKept p s (s.setCan c fun x => { x with nextReply := x.nextReply + 1 }) := .of_eq rfl rfl
    exact hnext.trans (portKept_foldl (fun s _ _ => portKept_canOffer ..) _ _ (hnext.down hdown))
  | hb q =>
    unfold replyOut
    have hdelivered : PortKept p s (match r.delivers with
        | some (m, ep, sq) => deliver m ep sq s
        | none => s) := by
      split <;> exact .of_eq rfl rfl
    exact hdelivered.trans (portKept_hbSend q 4 _ (hdelivered.down hdown))

theorem portKept_releaseHeld {p : HbIx} {s : State} (hdown : hbUp p s = false) : PortKept p s (releaseHeld s) := by
  unfold releaseHeld
  have hrest : PortKept p s { s with crown := { s.crown with held := s.crown.held.filter fun h => !heldReady h s && (h.upTo.isSome || booksFlow s) } } := .of_eq rfl rfl
  exact hrest.trans (portKept_foldl (fun s h hs => portKept_replyOut h.t _ hs) _ _ (hrest.down hdown))

theorem portKept_setSync {p : HbIx} (v : Nat) {s : State} (hdown : hbUp p s = false) : PortKept p s (setSync v s) := by
  have hsync : PortKept p s (s.wr Reg.PairStat.SYNC 0 0 v) := portKept_wr_elsewhere (.inr (by decide)) (by decide) v s
  unfold setSync
  dsimp only
  split
  · exact hsync
  · have hoffers : PortKept p s { s.wr Reg.PairStat.SYNC 0 0 v with pair := { (s.wr Reg.PairStat.SYNC 0 0 v).pair with offers := [] } } := hsync.trans (.of_eq rfl rfl)
    exact hoffers.trans (portKept_releaseHeld (hoffers.down hdown))

theorem portKept_xferAbandon {p : HbIx} (x : XferIn) {s : State} (hdown : hbUp p s = false) : PortKept p s (xferAbandon x s) := by
  have helse : ∀ (f : Fld) (v : Nat) (t : State), 0x4F32 < f.base → f.pos 0 < 65536 → PortKept p t (t.wr f 0 0 v) :=
    fun f v t hbase hpos => portKept_wr_elsewhere (.inr (by omega)) hpos v t
  have hcount : PortKept p s (s.count Reg.Dist.XFER_ABANDON_CNT) := helse _ _ s (by decide) (by decide)
  unfold xferAbandon
  dsimp only
  have hsent : PortKept p s (hbSend (otherPort x.port) 6 (imgHead 3 x.kind x.slot 0 x.id x.next x.nBlocks 0 0 0)
      { s.count Reg.Dist.XFER_ABANDON_CNT with life := { (s.count Reg.Dist.XFER_ABANDON_CNT).life with
        xin := (s.count Reg.Dist.XFER_ABANDON_CNT).life.xin.filter fun y => y.id != x.id } }) := by
    have hlife := hcount.trans (PortKept.of_eq (p := p) (t := { s.count Reg.Dist.XFER_ABANDON_CNT with life := { (s.count Reg.Dist.XFER_ABANDON_CNT).life with
      xin := (s.count Reg.Dist.XFER_ABANDON_CNT).life.xin.filter fun y => y.id != x.id } }) rfl rfl)
    exact hlife.trans (portKept_hbSend _ 6 _ (hlife.down hdown))
  split
  · have hstate := hsent.trans (helse Reg.Dist.XFER_STATE 4 _ (by decide) (by decide))
    split
    · exact (hstate.trans (helse Reg.Fw.INACT_STATE 4 _ (by decide) (by decide))).trans (helse Reg.Fw.LAST_REJECT 4 _ (by decide) (by decide))
    · exact hstate
  · exact hsent

theorem portKept_xoutPortDown {p : HbIx} (q : HbIx) (s : State) : PortKept p s (xoutPortDown q s) := by
  unfold xoutPortDown
  split
  · exact .refl p s
  next o =>
    have hended : PortKept p s { s with life := { s.life with xout := none } } := .of_eq rfl rfl
    exact portKept_ite (.of_eq rfl rfl) (hended.trans (portKept_wr_elsewhere (f := Reg.Dist.XFER_STATE) (.inr (by decide)) (by decide) 4 _))

theorem portKept_xferPortDown {p : HbIx} (q : HbIx) {s : State} (hdown : hbUp p s = false) : PortKept p s (xferPortDown q s) := by
  unfold xferPortDown
  exact (portKept_foldl (fun s x hs => portKept_xferAbandon x hs) _ s hdown).trans (portKept_xoutPortDown q _)

/-! ### A port leaves UP -/

/-- The partial messages of a port that leaves UP are counted. -/
def discarded (p : HbIx) (s : State) : State :=
  if hbUp p s then (List.range (s.hb p).parts.length).foldl (fun s _ => s.count Reg.HbStat.MSG_DISCARD_CNT p.val) s else s

/-- The state of a port once it has left its state: nothing queued or in flight, no peer, and 16 credits. -/
def portCleared (p : HbIx) (to_ : Nat) (s : State) : State :=
  (((discarded p s).setHb p fun x => { x with out := [], flight := [], nextF := 0, expF := 0, parts := [], held := [], peer := none }).wr Reg.HbStat.LINK p.val 0 to_).wr
    Reg.HbStat.CREDITS p.val 0 16

theorem hbDown_eq (p : HbIx) (to_ : Nat) (s : State) : hbDown p to_ s =
    let t := if hbUp p s then xferPortDown p ((portCleared p to_ s).raise (468 + p.val)) else portCleared p to_ s
    if pairUp s && !pairUp t then pairLinkLost t else t := rfl

theorem portCleared_link {to_ : Nat} (hto : to_ < 4) (p : HbIx) (s : State) : hbLink p (portCleared p to_ s) = to_ := by
  rw [hbLink, portCleared, State.rd_wr_other _ _ (Fld.key_ne_of_fields _), State.rd_wr]
  exact Nat.mod_eq_of_lt hto

theorem portCleared_hb (p : HbIx) (to_ : Nat) (s : State) : ((portCleared p to_ s).hb p).out = [] ∧ ((portCleared p to_ s).hb p).flight = [] := by
  have hcleared : (portCleared p to_ s).hb p =
      ((discarded p s).setHb p fun x => { x with out := [], flight := [], nextF := 0, expF := 0, parts := [], held := [], peer := none }).hb p := rfl
  rw [hcleared, State.hb_setHb_same]
  exact ⟨rfl, rfl⟩

theorem portCleared_credits (p : HbIx) (to_ : Nat) (s : State) : (portCleared p to_ s).rd Reg.HbStat.CREDITS p.val = 16 := State.rd_wr _ Reg.HbStat.CREDITS p.val 0 16

theorem portCleared_lasting (p : HbIx) (to_ : Nat) (s : State) : (portCleared p to_ s).rd Reg.HbStat.LASTING_CNT p.val = s.rd Reg.HbStat.LASTING_CNT p.val := by
  have hkeep : ∀ (t : State) (_ : Nat), t.rd Reg.HbStat.LASTING_CNT p.val = s.rd Reg.HbStat.LASTING_CNT p.val →
      (t.count Reg.HbStat.MSG_DISCARD_CNT p.val).rd Reg.HbStat.LASTING_CNT p.val = s.rd Reg.HbStat.LASTING_CNT p.val :=
    fun t _ h => (State.rd_wr_other t _ (Fld.key_ne_of_fields _)).trans h
  have hdiscarded : (discarded p s).rd Reg.HbStat.LASTING_CNT p.val = s.rd Reg.HbStat.LASTING_CNT p.val := by
    unfold discarded
    split
    · exact foldl_keeps (P := fun t => t.rd Reg.HbStat.LASTING_CNT p.val = s.rd Reg.HbStat.LASTING_CNT p.val) hkeep _ s rfl
    · rfl
  rw [portCleared, State.rd_wr_other _ _ (Fld.key_ne_of_fields _), State.rd_wr_other _ _ (Fld.key_ne_of_fields _)]
  exact hdiscarded

theorem portCleared_down {to_ : Nat} (hto : to_ < 3) (p : HbIx) (s : State) : hbUp p (portCleared p to_ s) = false := by
  rw [hbUp, portCleared_link (by omega)]
  simp; omega

/-- What a port's departure brings elsewhere leaves the port as it was cleared. -/
theorem hbDown_kept {to_ : Nat} (hto : to_ < 3) (p : HbIx) (s : State) : PortKept p (portCleared p to_ s) (hbDown p to_ s) := by
  have hdown := portCleared_down hto p s
  have htransfers : PortKept p (portCleared p to_ s) (if hbUp p s then xferPortDown p ((portCleared p to_ s).raise (468 + p.val)) else portCleared p to_ s) := by
    split
    · have hraised : PortKept p (portCleared p to_ s) ((portCleared p to_ s).raise (468 + p.val)) := .of_eq rfl rfl
      exact hraised.trans (portKept_xferPortDown p (hraised.down hdown))
    · exact .refl p _
  rw [hbDown_eq]
  exact portKept_ite (htransfers.trans (portKept_setSync 0 (htransfers.down hdown))) htransfers

end Sys2Proof.Machine

namespace Sys2Proof.HatbandPorts

open Sys2Proof.Machine Sys2Proof.Safety

section
variable {p : HbIx} {n : Nat} {o : HbOut} {s : State}

theorem hbAttempt_lasting (hfind : ((s.hb p).flight.find? fun x => x.fseq == n) = some o) (htries : 1 ≤ o.tries) :
    hbAttempt p n s = hbDown p 1 (s.count Reg.HbStat.LASTING_CNT p.val) := by
  simp [hbAttempt, hfind, htries]

theorem hbAttempt_first (hfind : ((s.hb p).flight.find? fun x => x.fseq == n) = some o) (htries : o.tries = 0) :
    hbAttempt p n s = s.setHb p fun x => { x with flight := x.flight.map fun q => if q.fseq = n then { q with tries := q.tries + 1 } else q } := by
  simp [hbAttempt, hfind, htries]

end

/-- Settles O48: the port is cleared, and what follows elsewhere leaves it. -/
theorem secondAttemptIsLasting : Obligations.SecondAttemptIsLasting := by
  refine ⟨fun p n o s _ hfind htries => ?lasting, fun p n o s => hbAttempt_first⟩
  case lasting =>
    have hkept := hbDown_kept (to_ := 1) (by decide) p (s.count Reg.HbStat.LASTING_CNT p.val)
    have hlasting := hkept.2 Reg.HbStat.LASTING_CNT rfl (by decide)
    have hcredits := hkept.2 Reg.HbStat.CREDITS rfl (by decide)
    obtain ⟨hout, hflight⟩ := portCleared_hb p 1 (s.count Reg.HbStat.LASTING_CNT p.val)
    rw [hbAttempt_lasting hfind htries, hlasting, portCleared_lasting, State.rd_count, hkept.link, portCleared_link (by decide), hkept.down (portCleared_down (by decide) p _),
      hkept.1, hout, hflight, hcredits, portCleared_credits]
    exact ⟨Nat.mod_eq_of_lt (satInc_lt ..), rfl, rfl, rfl, rfl, rfl⟩

/-! ### Training, lanes and heartbeats -/

section
variable {p : HbIx} {i : LinkInfo} {s : State}

/-- Training ends on a port that is not UP. -/
theorem trainingDoneEff_trained (hon : unitsOn s = true) (href : s.rdB Reg.ClkStat.REF_OK = true) (hlanes : i.deskewed = true) (hlink : hbLink p s = 1 ∨ hbLink p s = 2) :
    trainingDoneEff p i s = if i.hwType = 0x4860 ∧ rolesFit (hbRole p (notePeer p i s)) i.role.toNat = true then
      pairEval ((((((notePeer p i s).wr Reg.HbStat.LINK p.val 0 3).count Reg.HbStat.LINK_UP_CNT p.val).wr Reg.HbStat.CREDITS p.val 0 16).wr
        Reg.HbStat.HB_MISS p.val 0 0).raise (468 + p.val))
      else (notePeer p i s).wr Reg.HbStat.LINK p.val 0 2 := by
  rcases hlink with hlink | hlink <;> simp [trainingDoneEff, hon, href, hlanes, hlink]

/-- A heartbeat over the pair port. -/
theorem onPairPort (hup : hbUp p s = true) (hrole : hbRole p s = 1) : (hbUp p s && hbRole p s == 1) = true := by simp [hup, hrole]

theorem hbBeatEff_sends (hup : hbUp p s = true) (hrole : hbRole p s = 1) (hheld : s.pair.released = false) (hreset : s.pow.nrst = true) :
    hbBeatEff p s = s.setHb p fun x => { x with hbCount := (x.hbCount + 1) % 256 } := by
  simp [hbBeatEff, hup, hrole, hheld, hreset]

/-- One miss more, the first with event 471. -/
def missNoted (p : HbIx) (s : State) : State :=
  if s.rd Reg.HbStat.HB_MISS p.val = 0 then (s.count Reg.HbStat.HB_MISS p.val).raise 471 else s.count Reg.HbStat.HB_MISS p.val

theorem missNoted_frame (p : HbIx) (s : State) : (missNoted p s).regs = (s.count Reg.HbStat.HB_MISS p.val).regs ∧ (missNoted p s).chans = s.chans ∧ (missNoted p s).hbs = s.hbs := by
  unfold missNoted
  split <;> exact ⟨rfl, rfl, rfl⟩

theorem missNoted_miss (p : HbIx) (s : State) : (missNoted p s).rd Reg.HbStat.HB_MISS p.val = satInc Reg.HbStat.HB_MISS.w (s.rd Reg.HbStat.HB_MISS p.val) := by
  rw [State.rd_congr (missNoted_frame p s).1, State.rd_count]
  exact Nat.mod_eq_of_lt (satInc_lt ..)

/-- No register of a port is one of the pair's. -/
theorem pairStat_key_ne_hbStat {f g : Fld} (p : HbIx) (hf : f.base = 0x4F41 ∧ f.pos 0 < 65536 := by decide) (hg : g.base = 0x4F31 ∧ g.pos 0 < 65536 := by decide) :
    f.key 0 0 0 ≠ g.key 0 p.val 0 := Fld.key_ne_of_object_ne (by omega) hf.2 hg.2

theorem hbMissEff_counts (hup : hbUp p s = true) (hrole : hbRole p s = 1) :
    (hbMissEff p s).rd Reg.HbStat.HB_MISS p.val = satInc Reg.HbStat.HB_MISS.w (s.rd Reg.HbStat.HB_MISS p.val) ∧ (hbMissEff p s).chans = s.chans ∧ (hbMissEff p s).hbs = s.hbs := by
  have heff : hbMissEff p s = if s.rd Reg.HbStat.HB_MISS p.val = 4 ∧ isStandby (missNoted p s) = true ∧ (missNoted p s).rdB Reg.PairStat.PA_IN = true
      then (missNoted p s).count Reg.PairStat.HB_ONLY_CNT else missNoted p s := if_pos (onPairPort hup hrole)
  obtain ⟨-, hchans, hhbs⟩ := missNoted_frame p s
  rw [heff]
  split
  · refine ⟨?_, hchans, hhbs⟩
    rw [State.count, State.rd_wr_other _ _ (pairStat_key_ne_hbStat p)]
    exact missNoted_miss p s
  · exact ⟨missNoted_miss p s, hchans, hhbs⟩

theorem hbSeenEff_clears (hup : hbUp p s = true) (hrole : hbRole p s = 1) :
    (hbSeenEff p s).rd Reg.HbStat.HB_MISS p.val = 0 ∧ (hbSeenEff p s).chans = s.chans ∧ (hbSeenEff p s).hbs = s.hbs := by
  have hclear : (s.wr Reg.HbStat.HB_MISS p.val 0 0).rd Reg.HbStat.HB_MISS p.val = 0 := State.rd_wr s Reg.HbStat.HB_MISS p.val 0 0
  have heff : hbSeenEff p s = if isStandby (s.wr Reg.HbStat.HB_MISS p.val 0 0) then
      ((s.wr Reg.HbStat.HB_MISS p.val 0 0).wr Reg.PairStat.TB_OFFSET 0 0 ((s.wr Reg.HbStat.HB_MISS p.val 0 0).free 32)).drew
      else s.wr Reg.HbStat.HB_MISS p.val 0 0 := if_pos (onPairPort hup hrole)
  rw [heff]
  split
  · have hdrawn : ∀ t : State, t.drew.rd Reg.HbStat.HB_MISS p.val = t.rd Reg.HbStat.HB_MISS p.val := fun _ => rfl
    refine ⟨?_, rfl, rfl⟩
    rw [hdrawn, State.rd_wr_other _ _ (pairStat_key_ne_hbStat p)]
    exact hclear
  · exact ⟨hclear, rfl, rfl⟩

end

/-- Settles O49: Table 14.6 for a trained port, and R330 for the heartbeats. -/
theorem hatbandLinks : Obligations.HatbandLinks := by
  refine ⟨fun p i s hon href hlanes hlink htype hfit => ?up, fun p i s hon href hlanes hlink hbad => ?mismatch, fun p s hup => runs_of_fin rfl (if_pos hup),
    fun p s hup hrole hheld hreset => ?beat, fun p s hup hrole => ?miss, fun p n s hup hrole => ?seen⟩
  case up => exact runs_of_fin rfl ((trainingDoneEff_trained hon href hlanes hlink).trans (if_pos ⟨htype, hfit⟩))
  case mismatch =>
    have hnot : ¬ (i.hwType = 0x4860 ∧ rolesFit (hbRole p (notePeer p i s)) i.role.toNat = true) := by
      rintro ⟨htype, hfit⟩
      rcases hbad with hbad | hbad
      · exact hbad htype
      · rw [hbad] at hfit
        cases hfit
    refine next_of_runs (runs_of_fin rfl ((trainingDoneEff_trained hon href hlanes hlink).trans (if_neg hnot))) ?_
    simp only [hbLink, State.withPending_reads]
    exact ⟨State.rd_wr _ Reg.HbStat.LINK p.val 0 2, rfl⟩
  case beat =>
    refine next_of_runs (runs_of_fin rfl (hbBeatEff_sends hup hrole hheld hreset)) ?_
    simp only [State.withPending_reads, State.hb_setHb_same]
    exact ⟨trivial, trivial, rfl, rfl⟩
  case miss => exact next_of_runs (runs_of_fin rfl rfl) (hbMissEff_counts hup hrole)
  case seen => exact next_of_runs (runs_of_fin rfl rfl) (hbSeenEff_clears hup hrole)

end Sys2Proof.HatbandPorts

/-! # The redundant pair: PAIR_ALIVE, takeover, handover and change of role (15_redundant_pair.md R335 to R344) -/

namespace Sys2Proof.PairRole

open Sys2Proof.Machine Sys2Proof.Safety

section
variable {s : State}

/-- PA_IN is low. -/
def aliveLow (s : State) : State := s.wr Reg.PairStat.PA_IN 0 0 0

/-- The role, the pair port's misses and the count of PA_ONLY stand beside PA_IN. -/
theorem aliveLow_reads (s : State) : isStandby (aliveLow s) = isStandby s ∧ pairPort (aliveLow s) = pairPort s ∧
    (∀ p : HbIx, (aliveLow s).rd Reg.HbStat.HB_MISS p.val = s.rd Reg.HbStat.HB_MISS p.val) ∧ (aliveLow s).rd Reg.PairStat.PA_ONLY_CNT = s.rd Reg.PairStat.PA_ONLY_CNT := by
  have hrole : (aliveLow s).rd Reg.PairStat.ROLE = s.rd Reg.PairStat.ROLE := State.rd_wr_other s 0 (Fld.key_ne_of_fields 0)
  have hport : (aliveLow s).rd Reg.PairCfg.PAIR_PORT = s.rd Reg.PairCfg.PAIR_PORT := State.rd_wr_other s 0 (by decide)
  refine ⟨by rw [isStandby, pairRole, hrole]; rfl, by rw [pairPort, hport]; rfl, fun p => ?_, State.rd_wr_other s 0 (Fld.key_ne_of_fields 0)⟩
  exact State.rd_wr_other s 0 (Fld.key_ne_of_object_ne (show 0x4F41 + 0 ≠ 0x4F31 + p.val by omega) (by decide) (by decide))

theorem aliveLow_paIn (s : State) : (aliveLow s).rd Reg.PairStat.PA_IN = 0 := State.rd_wr s Reg.PairStat.PA_IN 0 0 0

theorem aliveLostEff_lost (hon : unitsOn s = true) (hin : s.rd Reg.PairStat.PA_IN = 1) :
    aliveLostEff s = if isStandby s = true ∧ s.rd Reg.HbStat.HB_MISS (pairPort s).val < 5 then (aliveLow s).count Reg.PairStat.PA_ONLY_CNT else aliveLow s := by
  obtain ⟨hstandby, hport, hmiss, -⟩ := aliveLow_reads s
  have heff : aliveLostEff s = if isStandby (aliveLow s) && decide ((aliveLow s).rd Reg.HbStat.HB_MISS (pairPort (aliveLow s)).val < 5)
      then (aliveLow s).count Reg.PairStat.PA_ONLY_CNT else aliveLow s := if_neg (by simp [hon, State.rdB, hin])
  rw [heff, hstandby, hport, hmiss]
  simp

theorem takeoverEff_takes (hon : unitsOn s = true) (hstandby : isStandby s = true) (hmiss : 5 ≤ s.rd Reg.HbStat.HB_MISS (pairPort s).val) (hin : s.rd Reg.PairStat.PA_IN = 0) :
    takeoverEff s = becomeOwner (setSync 0 (s.count Reg.PairStat.TAKEOVER_CNT)) := if_pos (by simp [hon, hstandby, hmiss, State.rdB, hin])

/-- While PA_IN is high nothing is taken over. -/
theorem takeoverEff_alive (hin : s.rd Reg.PairStat.PA_IN = 1) : takeoverEff s = s := if_neg (by simp [State.rdB, hin])

theorem aloneEff_owner (hon : unitsOn s = true) (hrole : pairRole s = 1) (hlink : pairUp s = false) (hin : s.rd Reg.PairStat.PA_IN = 0) :
    aloneEff s = setSync 0 (setRole 2 s) := if_pos (by simp [hon, hrole, hlink, State.rdB, hin])

/-- The handover that was agreed is no longer outstanding. -/
def handed (s : State) : State := s.setPair fun p => { p with handover := none }

theorem handoverEff_owner {at_ : Nat} {w : Option Waiter} (h : s.pair.handover = some (at_, w)) (hrole : pairRole s = 2) :
    handoverEff s = completeO w (.ok) (syncStart (peerTakes 2 (setSync 0 (setRole 3 ((handed s).count Reg.PairStat.HANDOVER_CNT))))) := by
  simp only [handoverEff, h]
  exact if_pos hrole

theorem handoverEff_standby {at_ : Nat} {w : Option Waiter} (h : s.pair.handover = some (at_, w)) (hrole : pairRole s = 3) :
    handoverEff s = completeO w (.ok) (syncStart (peerTakes 3 (becomeOwner (setSync 0 ((handed s).count Reg.PairStat.HANDOVER_CNT))))) := by
  have hnot : ¬ pairRole (handed s) = 2 := fun h2 => absurd (hrole.symm.trans h2) (by decide)
  simp only [handoverEff, h]
  exact (if_neg hnot).trans (if_pos hrole)

end

/-- Settles O50: Table 15.3 for the loss of the owner, a device alone and a handover. -/
theorem pairRoles : Obligations.PairRoles := by
  refine ⟨fun s hon hin => ?lost, fun s hon => runs_of_fin rfl (if_pos hon), fun s hon hstandby hmiss hin => runs_of_fin rfl (takeoverEff_takes hon hstandby hmiss hin),
    fun s _ _ hin => runs_of_fin rfl (takeoverEff_alive hin), fun s hon hrole hlink hin => runs_of_fin rfl (aloneEff_owner hon hrole hlink hin),
    fun at_ w s h hrole => runs_of_fin rfl (handoverEff_owner h hrole), fun at_ w s h hrole => runs_of_fin rfl (handoverEff_standby h hrole), fun r s hrole => if_neg hrole⟩
  case lost =>
    obtain ⟨-, -, -, hcount⟩ := aliveLow_reads s
    refine next_of_runs (runs_of_fin rfl (aliveLostEff_lost hon hin)) ?_
    simp only [State.withPending_reads]
    split
    · refine ⟨(State.rd_wr_other _ _ (Fld.key_ne_of_fields 0)).trans (aliveLow_paIn s), rfl, rfl, ?_⟩
      rw [State.rd_count, hcount]
      exact Nat.mod_eq_of_lt (satInc_lt ..)
    · exact ⟨aliveLow_paIn s, rfl, rfl, hcount⟩

end Sys2Proof.PairRole

/-! # Supply states, reset and Thaw (17_power_and_holdup.md R376 to R385) -/

namespace Sys2Proof.SupplyStates

open Sys2Proof.Machine Sys2Proof.Safety

section
variable {s : State}

theorem setRunOk_spec (b : Bool) (s : State) : (setRunOk b s).pow.runOk = b ∧ (setRunOk b s).rdB Reg.PowStat.RUN_OK = b ∧ (setRunOk b s).pow.st = s.pow.st ∧
    (setRunOk b s).chans = s.chans := by
  have hrd : (setRunOk b s).rd Reg.PowStat.RUN_OK = b.toNat := by
    have hwritten : (setRunOk b s).rd Reg.PowStat.RUN_OK = (s.wrB Reg.PowStat.RUN_OK 0 0 b).rd Reg.PowStat.RUN_OK := State.rd_congr rfl ..
    rw [hwritten, State.rd_wrB]
    cases b <;> rfl
  refine ⟨rfl, ?_, rfl, rfl⟩
  rw [State.rdB, hrd]
  cases b <;> rfl

/-! ### Brown-out -/

theorem brownoutEff_run (h : s.pow.st = .run) : brownoutEff s = brownStart (((setRunOk false s).raise 484).setPow fun p => { p with st := .brownout }) := if_pos h

theorem brownoutEff_elsewhere (h : s.pow.st ≠ .run) : brownoutEff s = setRunOk false s := if_neg h

/-- The channels have stopped and the closing records are written. -/
theorem brownoutEndEff_ends (h : s.pow.st = .brownout) :
    let a := brownRecords (brownStopped s)
    brownoutEndEff s = if a.pow.runOk = true then (a.setPow fun p => { p with st := .run }).eachCh fun s c => mfReopen c s
      else if (lullSource a).1 = true then enterLull 2 (lullSource a).2 else enterFrost (lullSource a).2 := if_neg (by simp [h])

/-! ### Lull and Frost -/

theorem lullLostEff_frost (h : s.pow.st = .lull) (hlow : s.pow.runOk = false) : lullLostEff s = enterFrost (lullMeasClose s) := if_pos ⟨.inl h, hlow⟩

theorem wakeEff_enabled {src : WakeSrc} (h : s.pow.st = .lull) (hen : (wakeOf src s).2 = true) : wakeEff src s =
    if s.pow.runOk then ((lullMeasClose s).wr Reg.PowStat.WAKE_SRC 0 0 (wakeOf src s).1).setPow fun p => { p with st := .thaw, fromLull := true, burst := false }
    else s.count Reg.PowStat.WAKE_DENY_CNT := if_neg (by simp [h, hen])

theorem runs_lullEnter {m : Mbx} {p : List Byte} (h : Takes (.lullEnter m p) s) : Runs (.lullEnter m p) s (processed m (lullEnterEff (waiterOf m 0x8701 s) s)) :=
  runs_of_request (r := ⟨0x8701, .exactly 4, [], true, some 0x5F, firstNonZero p 0 4⟩) (b := lullEnterEff) rfl rfl h

theorem lullEnterEff_busy {w : Waiter} (h : anyPgBusy s = true) : lullEnterEff w s = completeW w (.fail stStateRefused 0) s := if_pos h

theorem lullEnterEff_free {w : Waiter} (h : anyPgBusy s = false) : lullEnterEff w s = enterLull 1 s := if_neg (by simp [h])

end

/-- Settles O53: the branches of Table 17.4. -/
theorem supplyStates : Obligations.SupplyStates := by
  refine ⟨fun s h => runs_of_fin rfl (brownoutEff_run h), fun s h => runs_of_fin rfl (brownoutEff_elsewhere h), setRunOk_spec, fun s h => runs_of_fin rfl (brownoutEndEff_ends h),
    fun cause s => ⟨rfl, rfl, rfl, rfl⟩, fun s => runs_of_fin rfl rfl, fun s h hlow => ?frost, fun src s h hen hok => ?wakes, fun src s h hen hlow => ?denied,
    fun s h => runs_of_fin rfl (if_pos h), fun m p s htakes hbusy => ?refused, fun m p s htakes hfree => ?lull⟩
  case frost => exact next_of_runs (runs_of_fin rfl (lullLostEff_frost h hlow)) ⟨rfl, rfl⟩
  case wakes => exact runs_of_fin rfl ((wakeEff_enabled h hen).trans (if_pos hok))
  case denied => exact runs_of_fin rfl ((wakeEff_enabled h hen).trans (if_neg (by simp [hlow])))
  case refused =>
    have hrun := runs_lullEnter htakes
    rw [lullEnterEff_busy hbusy] at hrun
    exact hrun
  case lull =>
    have hrun := runs_lullEnter htakes
    rw [lullEnterEff_free hfree] at hrun
    exact hrun

/-! ### Reset -/

section
variable {s : State}

/-- `t` is `s` after some free values have been drawn. -/
def Drawn (s t : State) : Prop := t = { s with freeCtr := t.freeCtr }

theorem Drawn.trans {s t u : State} (hst : Drawn s t) (htu : Drawn t u) : Drawn s u := by
  unfold Drawn at *
  rw [hst] at htu
  exact htu

theorem Drawn.parts {s t : State} (h : Drawn s t) : t.chans = s.chans ∧ t.regs = s.regs ∧ t.pow = s.pow := by
  rw [h]
  exact ⟨rfl, rfl, rfl⟩

theorem drawn_auxOk (s : State) : Drawn s (auxOk s).2 := by
  unfold auxOk
  split <;> rfl

/-- Finding out whether a Frost source stands draws free values at most. -/
theorem drawn_frostSource (s : State) : Drawn s (frostSource s).2 := by
  have haux := drawn_auxOk s
  have hharv : Drawn (auxOk s).2 (harvOk (auxOk s).2).2 := rfl
  unfold frostSource
  dsimp only
  split
  · exact haux
  · split
    · exact haux.trans hharv
    · exact haux

theorem leaveReset_spec (s : State) : ((leaveReset s).pow.st = .thaw ∨ (leaveReset s).pow.st = .frost) ∧ (leaveReset s).pow.nrst = s.pow.nrst ∧
    (leaveReset s).chans = s.chans ∧ (leaveReset s).regs = s.regs := by
  obtain ⟨hchans, hregs, hpow⟩ := (drawn_frostSource s).parts
  have hst : (leaveReset s).pow.st = if (frostSource s).1 = true then .thaw else .frost := rfl
  have hnrst : (leaveReset s).pow.nrst = (frostSource s).2.pow.nrst := rfl
  refine ⟨?_, hnrst.trans (congrArg PowSt.nrst hpow), hchans, hregs⟩
  rw [hst]
  cases (frostSource s).1
  · exact .inr rfl
  · exact .inl rfl

/-- nRST reads high, with the low period measured. -/
def nrstRead (s : State) : State :=
  s.setPow fun p => { p with nrst := true, heldS := if p.nrst then p.heldS else max p.heldS ((rtcNow s - p.lowAt) / 32768) }

theorem nrstHighEff_leaves (h : s.pow.st = .reset) (hcool : s.pow.thermal = false) : nrstHighEff s = leaveReset (nrstRead s) := if_pos ⟨h, hcool⟩

theorem thermalTripEff_trips (h : unitsOn s = true) :
    let a := if s.pow.st = .run then brownStart s else s
    thermalTripEff s = (enterReset ((brownRecords (brownStopped a)).count Reg.Package.THERM_CNT)).setPow fun p => { p with thermal := true, sinceSupply := true } :=
  if_neg (by simp [h])

/-! ### Thaw -/

theorem thawEff_held {tm nid : Nat} {pid : Bool} (h : canThaw s = true) (hheld : testHeld tm s = true) : thawEff tm nid pid s = enterReset s := by
  simp [thawEff, h, hheld]

theorem thawEff_runs {tm nid : Nat} {pid : Bool} (h : canThaw s = true) (hfree : testHeld tm s = false) :
    let a := latchPins nid pid s
    let r := romStart (!s.pow.fromLull) (thawBase a)
    thawEff tm nid pid s = if r.1 then thawUp s.pow.sinceNrst (replayPlan (a.setLife fun l => { l with activating := none })) r.2 else r.2 := by
  simp only [thawEff, h, hfree, Bool.not_true, Bool.false_eq_true, if_false]
  rfl

/-- A device whose ROM starts no firmware is in recovery. -/
theorem romStart_recovery {full : Bool} (h : (romStart full s).1 = false) : ∃ t, (romStart full s).2 = enterRecovery t := by
  unfold romStart at h ⊢
  dsimp only at h ⊢
  split at h
  · cases h
  · split at h
    · cases h
    · next hcode hother =>
      rw [if_neg hcode, if_neg hother]
      exact ⟨_, rfl⟩

theorem testHeld_maker_oem {tm : BitVec 3} (htm : tm.toNat ≠ 0) (hlife : lifeState s = lcMaker ∨ lifeState s = lcOem) : testHeld tm.toNat s = true := by
  rcases hlife with hlife | hlife <;> simp [testHeld, htm, hlife]

theorem testHeld_field_return {tm : Nat} (hlife : lifeState s = lcField ∨ lifeState s = lcReturn) : testHeld tm s = false := by
  rcases hlife with hlife | hlife <;> simp [testHeld, hlife, lcField, lcReturn, lcMaker, lcOem]

theorem latchPins_spec (nid : BitVec 4) (pid : Bool) (s : State) : let a := latchPins nid.toNat pid s
    a.rd Reg.Package.NID = nid.toNat ∧ a.rdB Reg.Package.PAIR_ID = pid ∧ a.rdB Reg.PairStat.PAIR_ID = pid ∧ a.chans = s.chans ∧ a.pow = s.pow := by
  have hflag : ∀ b : Bool, (b.toNat % 2 ^ 1 == 1) = b := by decide
  refine ⟨?_, ?_, ?_, rfl, rfl⟩
  · rw [latchPins, State.wrB, State.wrB, State.rd_wr_other _ _ (by decide), State.rd_wr_other _ _ (by decide), State.rd_wr]
    exact Nat.mod_eq_of_lt nid.isLt
  · rw [State.rdB, latchPins, State.wrB, State.wrB, State.rd_wr_other _ _ (by decide), State.rd_wr]
    exact hflag pid
  · rw [State.rdB, latchPins, State.wrB, State.rd_wr]
    exact hflag pid

end

/-- Settles O55: RESET with its sources, and the branches of the Thaw sequence. -/
theorem resetAndThaw : Obligations.ResetAndThaw := by
  refine ⟨fun s => next_of_runs (runs_of_fin rfl rfl) ⟨rfl, rfl, rfl, rfl⟩, fun s h hcool => ?high, fun n s hlow => runs_of_fin rfl (if_neg (by simp [hlow])), fun s h => ?trip,
    fun s h => runs_of_fin rfl (if_pos h), fun tm nid pid s => ?thaws, fun tm nid pid s h htm hlife => ?held, fun tm s => testHeld_field_return,
    fun tm nid pid s h hfree hrom => ?recovery, fun tm nid pid s h => runs_of_fin rfl (if_pos (by simp [h])), latchPins_spec⟩
  case high =>
    obtain ⟨hst, hnrst, hchans, hregs⟩ := leaveReset_spec (nrstRead s)
    exact next_of_runs (runs_of_fin rfl (nrstHighEff_leaves h hcool)) ⟨hnrst, hst, hchans, hregs⟩
  case trip => exact next_of_runs (runs_of_fin rfl (thermalTripEff_trips h)) ⟨rfl, rfl, rfl⟩
  case thaws =>
    intro a h hfree hrom
    exact runs_of_fin rfl ((thawEff_runs h hfree).trans (if_pos hrom))
  case held => exact next_of_runs (runs_of_fin rfl (thawEff_held h (testHeld_maker_oem htm hlife))) ⟨rfl, rfl⟩
  case recovery =>
    obtain ⟨t, ht⟩ := romStart_recovery hrom
    have heff : thawEff tm.toNat nid.toNat pid s = enterRecovery t := ((thawEff_runs h hfree).trans (if_neg (by simp [hrom]))).trans ht
    exact next_of_runs (runs_of_fin rfl heff) ⟨rfl, rfl⟩

end Sys2Proof.SupplyStates

/-! # Security floor and image transfers (18_lifecycle_and_update.md R395 to R406) -/

namespace Sys2Proof.FirmwareImages

open Sys2Proof.Machine

/-! ### The security floor (R406, Table 18.7) -/

/-- The version of a bank stands in its bytes, which no register write changes. -/
theorem bankVersion_wrB (f : Fld) (n i : Nat) (b isB : Bool) (s : State) : bankVersion isB (s.wrB f n i b) = bankVersion isB s := rfl

theorem inactOpen_rd_floor (v : Nat) (s : State) : (inactOpen v s).rd Reg.Life.SEC_FLOOR = s.rd Reg.Life.SEC_FLOOR := by
  unfold inactOpen
  rw [State.rd_wr_other _ _ (by decide), State.rd_wr_other _ _ (by decide), State.rd_wr_other _ _ (by decide)]

theorem inactReject_rd_floor (code : Nat) (s : State) : (inactReject code s).rd Reg.Life.SEC_FLOOR = s.rd Reg.Life.SEC_FLOOR :=
  (State.rd_wr_other _ _ (by decide)).trans (inactOpen_rd_floor _ s)

theorem inactVerified_rd_floor (isB : Bool) (s : State) : (inactVerified isB s).rd Reg.Life.SEC_FLOOR = s.rd Reg.Life.SEC_FLOOR := by
  unfold inactVerified
  rw [State.rd_wr_other _ _ (by decide), State.rd_wr_other _ _ (by decide), State.rd_wr_other _ _ (by decide)]

/-- The firmware of a bank runs: the bank is noted, its firmware starts, and the activation is counted. -/
def newFirmware (isB : Bool) (s : State) : State := (firmwareStart isB (s.wrB Reg.Fw.RUN_BANK 0 0 isB)).count Reg.Fw.ACTIVATE_CNT

theorem newFirmware_floor (isB : Bool) (s : State) : (newFirmware isB s).rd Reg.Life.SEC_FLOOR = s.rd Reg.Life.SEC_FLOOR :=
  calc (newFirmware isB s).rd Reg.Life.SEC_FLOOR
    _ = (firmwareStart isB (s.wrB Reg.Fw.RUN_BANK 0 0 isB)).rd Reg.Life.SEC_FLOOR := State.rd_wr_other _ _ (by decide)
    _ = (s.wrB Reg.Fw.RUN_BANK 0 0 isB).rd Reg.Life.SEC_FLOOR := (firmwareStart_sec isB _).1
    _ = s.rd Reg.Life.SEC_FLOOR := State.rd_wr_other _ _ (by decide)

theorem newFirmware_runSec (isB : Bool) (s : State) : (newFirmware isB s).rd Reg.Fw.RUN_SEC = (bankVersion isB s).2 % 2 ^ Reg.Fw.RUN_SEC.w :=
  calc (newFirmware isB s).rd Reg.Fw.RUN_SEC
    _ = (firmwareStart isB (s.wrB Reg.Fw.RUN_BANK 0 0 isB)).rd Reg.Fw.RUN_SEC := State.rd_wr_other _ _ (by decide)
    _ = (bankVersion isB (s.wrB Reg.Fw.RUN_BANK 0 0 isB)).2 % 2 ^ Reg.Fw.RUN_SEC.w := (firmwareStart_sec isB _).2
    _ = (bankVersion isB s).2 % 2 ^ Reg.Fw.RUN_SEC.w := by rw [bankVersion_wrB]

/-- The floor that a firmware leaves once it has confirmed. -/
theorem swapFirmware_floor (s : State) : (swapFirmware s).rd Reg.Life.SEC_FLOOR =
    max ((newFirmware (inactIsB s) s).rd Reg.Life.SEC_FLOOR) ((newFirmware (inactIsB s) s).rd Reg.Fw.RUN_SEC) % 2 ^ Reg.Life.SEC_FLOOR.w := by
  unfold swapFirmware
  extract_lets new u t
  have hraised : t.rd Reg.Life.SEC_FLOOR = max (u.rd Reg.Life.SEC_FLOOR) (u.rd Reg.Fw.RUN_SEC) % 2 ^ Reg.Life.SEC_FLOOR.w := State.rd_wr ..
  split
  · exact (inactReject_rd_floor 9 t).trans hraised
  · exact (inactVerified_rd_floor _ t).trans hraised

/-- An image that fails check 9 fails the checks: at that one, or at one before it. -/
theorem fwCheck_of_fwChk9 {isB : Bool} {s : State} (h : fwChk9 isB s = false) : fwCheck isB s ≠ 0 := by
  unfold fwCheck
  split_ifs <;> simp_all

/-- Settles O57: the firmware that starts leaves SEC_FLOOR and shows its own SEC_VERSION, and the swap writes the larger of the two. -/
theorem securityFloorRises : Obligations.SecurityFloorRises := by
  refine ⟨fun s hfloor hver => ?rises, fun b s hbelow => ?fails⟩
  case rises =>
    have hsec : (bankVersion (inactIsB s) s).2 % 2 ^ Reg.Fw.RUN_SEC.w = (bankVersion (inactIsB s) s).2 := Nat.mod_eq_of_lt hver
    rw [swapFirmware_floor, newFirmware_floor, newFirmware_runSec, hsec, Nat.mod_eq_of_lt (max_lt hfloor hver)]
  case fails =>
    have h9 : fwChk9 b s = false := decide_eq_false (Nat.not_le_of_lt hbelow)
    refine ⟨h9, fun hown => ?_⟩
    rw [bankCode, hown]
    exact fwCheck_of_fwChk9 h9

/-! ### Blocks of a transfer (R398 to R401) -/

section
variable {p : Fin 2} {d : ImgDesc} {data : List Byte} {x : XferIn} {s : State}

/-- The transfer that a message names, as it comes in over a port. -/
def xinOf (p : Fin 2) (d : ImgDesc) (s : State) : Option XferIn := s.life.xin.find? fun x => x.id == d.xferId.toNat && x.port == p

/-- A block that the Crown looks at: its port is UP, its kind is one of the two, and the transfer has blocks. -/
def BlockHeard (p : Fin 2) (d : ImgDesc) (s : State) : Prop := hbUp p s = true ∧ crownUp s = true ∧ d.kind.toNat ≤ 1 ∧ d.nBlocks ≠ 0

theorem BlockHeard.passes (h : BlockHeard p d s) : (!(hbUp p s && crownUp s) || decide (1 < d.kind.toNat) || d.nBlocks == 0) = false := by
  obtain ⟨hup, hcrown, hkind, hblocks⟩ := h
  rw [hup, hcrown, beq_false_of_ne hblocks, decide_eq_false (Nat.not_lt.mpr hkind)]
  rfl

theorem imageBlockEff_new (h : BlockHeard p d s) (hblock : d.blockNo = 0) (hlen : data.length = 1024) (hcrc : crc32c data = d.blockCrc.toNat)
    (hnew : xinOf p d s = none) (hunseen : s.life.seen.contains d.xferId.toNat = false) :
    imageBlockEff p d data s = startXfer p d data false (hbConsume p tyImage s) := by
  have hfind : ((hbConsume p tyImage s).life.xin.find? fun x => x.id == d.xferId.toNat && x.port == p) = none := hnew
  have hseen : (hbConsume p tyImage s).life.seen.contains d.xferId.toNat = false := hunseen
  simp only [imageBlockEff, hfind, hseen, h.passes]
  simp [hblock, hlen, hcrc]

/-- The expected block of a transfer that is coming in: taken when it passes, asked for once more, and then abandoned. -/
theorem imageBlockEff_expected (h : BlockHeard p d s) (hfind : xinOf p d s = some x) (hblock : d.blockNo.toNat = x.next) :
    imageBlockEff p d data s =
      if !(data.length == 1024 && crc32c data == d.blockCrc.toNat) then
        (if x.resent then xferAbandon x (hbConsume p tyImage s) else askResend p d (setXin { x with resent := true } (hbConsume p tyImage s)))
      else if x.next = 0 then startXfer p d data true (hbConsume p tyImage s) else takeBlock x d data (hbConsume p tyImage s) := by
  have hfind' : ((hbConsume p tyImage s).life.xin.find? fun x => x.id == d.xferId.toNat && x.port == p) = some x := hfind
  have hnotPast : ¬(x.next ≠ 0 ∧ d.blockNo = 0) := fun ⟨hnext, hzero⟩ => hnext (by rw [← hblock, hzero]; rfl)
  simp only [imageBlockEff, h.passes, hfind', if_neg hnotPast, hblock, ne_eq, not_true_eq_false, if_false, Bool.false_eq_true]

theorem imageResendEff_origin {o : XferOut} (hup : hbUp p s = true) (hcrown : crownUp s = true) (hout : s.life.xout = some o) (hid : o.id = d.xferId.toNat)
    (hsent : d.blockNo.toNat < o.at_ p) :
    let a := hbConsume p tyImage s
    imageResendEff p d s = sendBlock p (xferDesc o.kind o.slot 0 o.id d.blockNo.toNat o.nBlocks a) (xferBlock o.kind o.slot d.blockNo.toNat a) a := by
  intro a
  have hout' : ((hbConsume p tyImage s).life.xout.filter fun o => o.id == d.xferId.toNat) = some o := by
    have hkept : (hbConsume p tyImage s).life.xout = some o := hout
    rw [hkept]
    simp [hid]
  simp only [imageResendEff, hout', hup, hcrown, Bool.and_self, Bool.not_true, Bool.false_eq_true, if_false, if_pos hsent]
  rfl

theorem imageAbandonEff_known (hup : hbUp p s = true) (hcrown : crownUp s = true) (hfind : xinOf p d s = some x) :
    imageAbandonEff p d s = xferAbandon x (hbConsume p tyImage s) := by
  have hfind' : ((hbConsume p tyImage s).life.xin.find? fun x => x.id == d.xferId.toNat && x.port == p) = some x := hfind
  simp only [imageAbandonEff, hfind', hup, hcrown, Bool.and_self, Bool.not_true, Bool.false_eq_true, if_false]

end

/-- Settles O59: what the three messages of a transfer do. -/
theorem imageTransfers : Obligations.ImageTransfers := by
  refine ⟨fun p d data s hup hcrown hkind hblocks hblock hlen hcrc hnew hunseen => ?starts, fun p d data x s hup hcrown hkind hblocks hlen hcrc hfind hblock hnext => ?taken,
    fun p d data x s hup hcrown hkind hblocks hcrc hfind hblock => ?spoiled, fun p d o s hup hcrown hout hid hsent => ?resent, fun p d x s hup hcrown hfind => ?abandoned⟩
  case starts => exact runs_of_fin rfl (imageBlockEff_new ⟨hup, hcrown, hkind, hblocks⟩ hblock hlen hcrc hnew hunseen)
  case taken =>
    refine runs_of_fin rfl ((imageBlockEff_expected ⟨hup, hcrown, hkind, hblocks⟩ hfind hblock).trans ?_)
    simp [hlen, hcrc, hnext]
  case spoiled =>
    refine runs_of_fin rfl ((imageBlockEff_expected ⟨hup, hcrown, hkind, hblocks⟩ hfind hblock).trans ?_)
    simp [hcrc]
  case resent => exact runs_of_fin rfl (imageResendEff_origin hup hcrown hout hid hsent)
  case abandoned => exact runs_of_fin rfl (imageAbandonEff_known hup hcrown hfind)

end Sys2Proof.FirmwareImages

/-! # Life-cycle requests, fuses and the debug port (18_lifecycle_and_update.md R388 to R393, 07_pulse_generation.md R159) -/

namespace Sys2Proof.LifeCycle

open Sys2Proof.Machine Sys2Proof.Safety

section
variable {m : Mbx} {p : List Byte} {s : State}

/-! ### Life-cycle requests (R388 to R390) -/

theorem exec_lcRequest (m : Mbx) (p : List Byte) (s : State) : exec (.lcRequest m p) s =
    fin s (if crownUp s && rowMay m codeLcRequest p s then lcNonce (runNow m (lcReq p) p (lcRequestEff m p) s) else s) := rfl

theorem lcReq_code (p : List Byte) : (lcReq p).code = codeLcRequest := rfl

theorem runs_lcRequest (hup : crownUp s = true) (hmay : rowMay m codeLcRequest p s = true) (hcheck : (lcReq p).check m p s = none) :
    Runs (.lcRequest m p) s (lcNonce (processed m (completeW (waiterOf m codeLcRequest s) (lcRequestEff m p s).1 (lcRequestEff m p s).2))) :=
  runs_of_fin (exec_lcRequest m p s) (by simp [runNow, runReq, lcReq_code, hup, hmay, hcheck])

theorem lifeState_withPending (t : State) (q : List Instr) : lifeState { t with pending := q } = lifeState t := rfl

theorem lifeState_lcNonce (s : State) : lifeState (lcNonce s) = lifeState s := State.rd_wr_other _ _ (by decide)

theorem lifeState_of_books {s t : State} (h : BooksOnly s t) : lifeState t = lifeState s := h.2 _ _ _ (by unfold BooksFree; decide)

theorem lifeState_enterField (s : State) : lifeState (enterField s) = lcField := (State.rd_wr_other _ _ (by decide)).trans (State.rd_wr ..)
theorem lifeState_enterReturn (s : State) : lifeState (enterReturn s) = lcReturn := State.rd_wr ..
theorem lifeState_enterMaker (s : State) : lifeState (enterMaker s) = lcMaker := State.rd_wr ..

/-- The targets of Table 18.2. -/
theorem target_of_lcExists {target : Nat} (h : lcExists target s = true) : target = lcField ∨ target = lcReturn ∨ target = lcMaker := by
  simp only [lcExists, Bool.or_eq_true, Bool.and_eq_true, beq_iff_eq] at h
  omega

theorem lifeState_lcMove {a : Author} {target : Nat} (h : lcExists target s = true) : lifeState (lcMove a target s) = target := by
  have hraise : ∀ t : State, lifeState (t.raise 498) = lifeState t := fun t => State.rd_congr rfl ..
  unfold lcMove
  rw [hraise]
  obtain rfl | rfl | rfl := target_of_lcExists h
  · exact lifeState_enterField _
  · exact lifeState_enterReturn _
  · exact lifeState_enterMaker _

theorem lcRefused_absent {target : Nat} (h : lcExists target s = false) : lcRefused target p s = some (.fail stLifecycleDenied (lifeState s)) :=
  if_pos (by simp [h])

theorem lcExists_of_granted {target : Nat} (h : lcRefused target p s = none) : lcExists target s = true := by
  by_contra habsent
  simp [lcRefused_absent (Bool.eq_false_of_not_eq_true habsent)] at h

theorem lcRequestEff_granted (hlen : p.length = (if pb p 0 = lcField then 4 else 220)) (hgrant : lcRefused (pb p 0) p s = none) :
    lcRequestEff m p s = (.ok 0 (leBytes 1 (pb p 0)), lcMove (authorOf m codeLcRequest s) (pb p 0) s) := by
  simp only [lcRequestEff, hlen, hgrant, ne_eq, not_true_eq_false, if_false, lifeState_lcMove (lcExists_of_granted hgrant)]

/-! ### Fuses (R392) -/

theorem setLife_life (f : LifeSt → LifeSt) (s : State) : (s.setLife f).life = f s.life := rfl

theorem fuseBurned_of_books {t : State} (h : BooksOnly s t) (item : Nat) : fuseBurned item t = fuseBurned item s := by
  obtain ⟨-, -, -, -, -, -, hlife, -⟩ := h.parts
  have hstore : t.rd Reg.Life.STORE = s.rd Reg.Life.STORE := h.2 _ _ _ (by unfold BooksFree; decide)
  have hbind : t.rd Reg.Life.BIND_REQUIRED = s.rd Reg.Life.BIND_REQUIRED := h.2 _ _ _ (by unfold BooksFree; decide)
  simp only [fuseBurned, State.rdB, hlife, hstore, hbind]

theorem fuseBurned_withPending (item : Nat) (t : State) (q : List Instr) : fuseBurned item { t with pending := q } = fuseBurned item t := rfl

theorem fuseBurned_fuseBurn (item : Nat) (p : List Byte) (s : State) : fuseBurned item (fuseBurn item p s) = true := by
  match item with
  | 0 | _ + 5 => simp [fuseBurned, fuseBurn, State.rdB, Reg.Life.BIND_REQUIRED]
  | 3 => simp [fuseBurned, fuseBurn, State.rdB, Reg.Life.STORE]
  | 1 | 2 | 4 => simp [fuseBurned, fuseBurn, setLife_life]

theorem fuseBurn_keeps (item : Nat) (p : List Byte) (s : State) :
    (fuseBurn item p s).chans = s.chans ∧ (fuseBurn item p s).life.fuseTransient = s.life.fuseTransient := by
  unfold fuseBurn
  split <;> simp [setLife_life]

/-- The payload names an item of Table 18.3 with a value in its range. -/
def FuseNamed (p : List Byte) : Prop := p.length = 4 + fuseLen (pb p 0) ∧ fuseBad (pb p 0) p = none

theorem fuseEff_refused {b1 b2 : Bool} (h : FuseNamed p) (hburned : fuseBurned (pb p 0) s = true) : fuseEff m p b1 b2 s = (.fail stStateRefused (pb p 0), s) := by
  obtain ⟨hlen, hbad⟩ := h
  simp [fuseEff, hlen, hbad, hburned]

/-- What stands before a burn: its change-record entry, and the count of a first attempt that failed. -/
def fuseNoted (m : Mbx) (bad : Bool) (s : State) : State :=
  let t := cAddFree (authorOf m codeFuse s) 6 s
  if bad then t.setLife fun l => { l with fuseTransient := l.fuseTransient + 1 } else t

theorem fuseEff_burns {b1 b2 : Bool} (h : FuseNamed p) (hfresh : fuseBurned (pb p 0) s = false) (hgood : b1 = false ∨ b2 = false) :
    fuseEff m p b1 b2 s = (.ok, fuseBurn (pb p 0) p (fuseNoted m b1 s)) := by
  obtain ⟨hlen, hbad⟩ := h
  have hnot : (b1 && b2) = false := Bool.and_eq_false_iff.mpr hgood
  simp [fuseEff, fuseNoted, hlen, hbad, hfresh, hnot]

theorem fuseEff_fails (h : FuseNamed p) (hfresh : fuseBurned (pb p 0) s = false) : fuseEff m p true true s =
    (.fail stInternal (pb p 0), (cAddFree (authorOf m codeFuse s) 6 s).setLife fun l => { l with fuseFailed := pb p 0 :: l.fuseFailed }) := by
  obtain ⟨hlen, hbad⟩ := h
  simp [fuseEff, hlen, hbad, hfresh]

theorem fuseNoted_keeps (m : Mbx) (bad : Bool) (s : State) : (fuseNoted m bad s).chans = s.chans := by
  unfold fuseNoted
  split <;> rfl

theorem runs_fuseProgram {b1 b2 : Bool} (h : Takes (.fuseProgram m p b1 b2) s) : Ends (.fuseProgram m p b1 b2) s (fuseEff m p b1 b2 s) :=
  ends_of_now (r := ⟨codeFuse, .least 5, [0, 2, 3], true, some 0x6F, firstBad [if pb p 0 = 0 ∨ 5 < pb p 0 then some 0 else none, firstNonZero p 1 4]⟩)
    (b := fuseEff m p b1 b2) rfl rfl h

/-- The state in which FUSE_PROGRAM ends shows the item as its effect leaves it. -/
theorem answered_fuse (w : Waiter) (d : Done) (t : State) (item : Nat) (q : List Instr) :
    let u := { processed m (completeW w d t) with pending := q }
    u.report = some ⟨w.mbx.val, d.status, d.detail, d.result⟩ ∧ fuseBurned item u = fuseBurned item t ∧ u.chans = t.chans := by
  have hbooks : BooksOnly t (processed m (completeW w d t)) := (completeW_spec w d t).trans (processed_spec m _)
  refine ⟨processed_report m _, ?_, hbooks.parts.1⟩
  rw [fuseBurned_withPending]
  exact fuseBurned_of_books hbooks item

/-! ### The debug port (R393, R159) -/

theorem debugAuthEff_oem {pub sig : List Byte} (hlife : lifeState s = lcOem) (hfuse : s.life.debugFused = false) (hkey : s.life.debugHash = some (sha384 pub)) :
    debugAuthEff pub sig s = if Config.ecdsaP384 pub sig (sha384 (leBytes 48 (s.free 384))) = true then s.drew.wr Reg.Life.DEBUG_OPEN 0 0 1 else s.drew := by
  have hlife' : lifeState s.drew = lcOem := hlife
  simp [debugAuthEff, hlife', hfuse, hkey]

theorem debugAuthEff_field {pub sig : List Byte} (hlife : lifeState s = lcField) : debugAuthEff pub sig s = s.drew := by
  have hlife' : lifeState s.drew = lcField := hlife
  simp [debugAuthEff, hlife', lcField, lcOem, lcReturn]

theorem debugHaltEff_open {t : HaltTarget} (hopen : debugOpen s = true) (hon : unitsOn s = true) : debugHaltEff t s =
    match t with
    | .channel c => channelDebugHalt c s
    | .crown => if crownUp s then crownTo .halted (s.eachCh fun s c => channelDebugHalt c s) else s := if_neg (by simp [hopen, hon])

end

/-- Settles O58: the requests by their checks, a fuse by how its burn goes, and the debug port by its state. -/
theorem lifeCycleAndDebug : Obligations.LifeCycleAndDebug := by
  refine ⟨fun m p s => runs_lcRequest, fun m p s hup hmay hcheck hlen hgrant => ?moves, fun t p s h => lcRefused_absent h, fun m p b1 b2 s => runs_fuseProgram,
    fun m p b1 b2 s htakes hlen hbad hfresh hgood => ?burns, fun m p b1 b2 s hlen hbad hburned => fuseEff_refused ⟨hlen, hbad⟩ hburned,
    fun m p s hlen hbad hfresh => ?transient, fun m p s hitem hlen hfresh => ?oemKey, fun m p s hlen hbad hfresh => ?lasting,
    fun pub sig s hlife hfuse hkey => runs_of_fin rfl (debugAuthEff_oem hlife hfuse hkey), fun pub sig s hlife => runs_of_fin rfl (debugAuthEff_field hlife),
    fun c s hopen hon => runs_of_fin rfl (debugHaltEff_open hopen hon), fun s hopen hon hup => runs_of_fin rfl ((debugHaltEff_open hopen hon).trans (if_pos hup)),
    fun t s hclosed => runs_of_fin rfl (if_pos (by simp [hclosed])), fun c s hhalt => runs_of_fin rfl (if_pos hhalt), fun s hhalt => runs_of_fin rfl (if_pos hhalt)⟩
  case moves =>
    have hrun := runs_lcRequest hup hmay hcheck
    rw [lcRequestEff_granted hlen hgrant] at hrun
    refine next_of_runs hrun ⟨?_, ?_⟩
    · exact processed_report m _
    · have hbooks := (completeW_spec (waiterOf m codeLcRequest s) (.ok 0 (leBytes 1 (pb p 0))) (lcMove (authorOf m codeLcRequest s) (pb p 0) s)).trans (processed_spec m _)
      rw [lifeState_withPending, lifeState_lcNonce, lifeState_of_books hbooks, lifeState_lcMove (lcExists_of_granted hgrant)]
  case burns =>
    have hend := runs_fuseProgram htakes
    rw [fuseEff_burns ⟨hlen, hbad⟩ hfresh hgood] at hend
    obtain ⟨hreport, hburned, hchans⟩ := answered_fuse (m := m) (waiterOf m codeFuse s) .ok (fuseBurn (pb p 0) p (fuseNoted m b1 s)) (pb p 0) s.pending
    exact next_of_runs hend ⟨hreport, hburned.trans (fuseBurned_fuseBurn ..), hchans.trans ((fuseBurn_keeps ..).1.trans (fuseNoted_keeps ..))⟩
  case transient =>
    rw [fuseEff_burns ⟨hlen, hbad⟩ hfresh (.inr rfl)]
    exact (fuseBurn_keeps ..).2
  case oemKey =>
    have hnamed : FuseNamed p := by simp [FuseNamed, hitem, hlen, fuseLen, fuseBad]
    rw [fuseEff_burns hnamed (hitem ▸ hfresh) (.inl rfl), hitem]
    exact ⟨rfl, rfl, State.rd_wr .., (fuseBurn_keeps ..).1.trans (fuseNoted_keeps ..)⟩
  case lasting =>
    rw [fuseEff_fails ⟨hlen, hbad⟩ hfresh]
    exact ⟨rfl, by simp [fuseBurned, setLife_life], rfl, rfl⟩

end Sys2Proof.LifeCycle
